-- ==== Sys2Proof/Word.lean ====
section
/-! DEFINITION. The word types of the module: R7 (little-endian), R9 (32-bit registers). -/

namespace Sys2Proof

/-- A byte. -/
abbrev Byte := BitVec 8

/-- A 32-bit word: register, memory word, image word (R9, R43, R116). -/
abbrev Word := BitVec 32

/-- A 64-bit word: time base, twin of two registers (R639). -/
abbrev Word64 := BitVec 64

/-- The low `n` bytes of a value, lowest byte first (R7). -/
def leBytes : Nat → Nat → List Byte
  | 0, _ => []
  | n + 1, v => BitVec.ofNat 8 v :: leBytes n (v / 256)

/-- The number spelled by bytes, lowest byte first (R7). -/
def leNat : List Byte → Nat
  | [] => 0
  | b :: bs => b.toNat + 256 * leNat bs

end Sys2Proof
end

