-- ==== Sys2Proof/Syntax.lean ====
section
/-! DEFINITION. The commands of the block and the types of their operands. -/

namespace Sys2Proof

/-- Global context: core × 8 + context (R56, R105). -/
abbrev Gctx := Fin 64
/-- Application core C0–C7 (R25). -/
abbrev CoreId := Fin 8
/-- Core pair (R237). -/
abbrev PairId := Fin 4
/-- Bank: 0–7 CB0–CB7, 8 IB, 9 SB, 10 GB (R323). -/
abbrev BankId := Fin 11
/-- Field channel CH0–CH31 (R3). -/
abbrev Ch := Fin 32
/-- Field group G0–G3 (R378). -/
abbrev Grp := Fin 4
/-- General register number g0–g15 (R197). -/
abbrev Reg := Fin 16

/-- What one port of a bank does in one bank cycle (R313); `event` is what the hardware of a register block does to the W1C and W1S
bits of the addressed register in the cycle of the access (R13, R14). -/
inductive PortAccess where
  | none
  | read (addr : Word)
  | write (addr : Word) (size : BitVec 2) (data : Word)
  | aadd (addr : Word) (data : Word)
  | aswp (addr : Word) (data : Word)
  | event (bits : Word)
  deriving DecidableEq, Repr

/-- Whose fabric transaction ends: that of a context of an application core, or the access of another master at its ring position
(R36, R311). -/
inductive Requester where
  | core (g : Gctx)
  | other (pos : Fin 16) (acc : PortAccess)
  deriving DecidableEq, Repr

/-- A fabric master (R40). Engine positions are those of R311. -/
inductive Master where
  | core (g : Gctx)
  | gaffer
  | engine (pos : Fin 16)
  deriving DecidableEq, Repr

/-- One item on the compare lanes of a pair unit (R246); a lane it does not use is `none`. -/
structure LaneItem where
  addr  : Option Word
  wdata : Option Word
  ctrl  : Option (BitVec 8)
  iaddr : Option (BitVec 20)
  smask : Option Word
  sval  : Option Word
  sys   : Option (BitVec 16)
  deriving DecidableEq, Repr

/-- What a march finds (R324–R331). -/
inductive MarchOutcome where
  | pass
  | failAt (word element : Nat)
  | failSignature (element : Nat)
  deriving DecidableEq, Repr

/-- What the field pins show at a scan sample: per channel the input current in µA (inputs) and the
output current in mA (outputs), means of 100 µs (R415), the pin level, and the VF of each group in mV
with its mean over 100 µs. -/
structure ScanPins where
  inUa  : List Nat
  outMa : List Nat
  pinHi : BitVec 32
  vfMv  : List Nat
  deriving DecidableEq, Repr

/-- One sample instant of the energy engine: AN0–AN7 in nV at the input (R424); for an SV source the
values in the units of R433. `gap` is the number of missing samples before it (R434). -/
structure Sample where
  an  : List Int
  gap : Nat
  deriving DecidableEq, Repr

/-- A received Ethernet frame, as the engine sees it before its checks (R465, R469, R474). -/
structure EthFrame where
  dst     : List Byte
  src     : List Byte
  tags    : Nat
  vid     : BitVec 12
  etype   : BitVec 16
  payload : List Byte
  length  : Nat
  fcsOk   : Bool
  seqnr   : Option (BitVec 16)
  deriving DecidableEq, Repr

/-- A received PTP message reduced to what R482–R486 use; `offset` and `mean` follow from the timestamps at the pins, before the corrections of
R484. `delayReq` is a peer-delay request. -/
inductive PtpMsg where
  | announce (pt : Fin 4) (gm : List Byte) (steps : Nat) (utc : Option Nat)
  | sync (pt : Fin 4) (offset : Int) (seconds : Nat)
  | delay (pt : Fin 4) (mean : Int)
  | delayReq (pt : Fin 4)
  deriving DecidableEq, Repr

/-- The value of one GOOSE member (R492). -/
inductive GooseVal where
  | bool (b : Bool)
  | bits (n : Nat) (v : Nat)
  | int (v : Int)
  | unsigned (v : Nat)
  | float (v : Word)
  | int64 (v : Int)
  | utc (sec : Word) (frac : BitVec 24) (q : Byte)
  | octets (bs : List Byte)
  deriving DecidableEq, Repr

/-- A received GOOSE message (R487, R488). -/
structure GooseMsg where
  iface   : Fin 4
  dst     : List Byte
  appid   : Nat
  vid     : Option Nat
  gocb    : List Byte
  dataset : List Byte
  confRev : Word
  nEntries : Nat
  stNum   : Word
  sqNum   : Word
  tal     : Nat
  test    : Bool
  sim     : Bool
  members : List GooseVal
  deriving DecidableEq, Repr

/-- One ASDU of an SV frame: smpCnt, smpSynch and the values with their qualities (R499). -/
structure Asdu where
  smpCnt   : BitVec 16
  smpSynch : Byte
  vals     : List (Word × Word)
  deriving DecidableEq, Repr

/-- A received SV frame (R498). -/
structure SvMsg where
  iface   : Fin 4
  dst     : List Byte
  appid   : Nat
  vid     : Option Nat
  svid    : List Byte
  confRev : Word
  asdus   : List Asdu
  deriving DecidableEq, Repr

/-- A received CAN frame (R515). -/
structure CanFrame where
  id     : BitVec 29
  ide    : Bool
  fdf    : Bool
  brs    : Bool
  esi    : Bool
  remote : Bool
  dlc    : BitVec 4
  data   : List Byte
  deriving DecidableEq, Repr

/-- How a CAN transmission ended (R523). -/
inductive TxOutcome where
  | ok
  | arbLost
  | error (lec : BitVec 3)
  deriving DecidableEq, Repr

/-- A bus wake event (R530). -/
inductive WakeEvent where
  | dominant
  | frame (f : CanFrame)
  | frameErrors
  deriving DecidableEq, Repr

/-- Where an MDP request comes from (R572). -/
inductive Origin where
  | udp (iface : Fin 4) (ip : Word) (port : BitVec 16)
  | can (c : Fin 2)
  | usb
  deriving DecidableEq, Repr

/-- The frame of an MDP request: origin, header fields, the 16-byte tag of a protected message (R575), what the checks of R556 found
(`form`), and for a USB frame its LENGTH and whether its CRC-32C over LENGTH and the message matches (R584, R585). -/
structure Req where
  origin  : Origin
  session : Word
  seq     : Word
  enc     : Bool
  tag     : List Byte
  form    : Bool
  usbLen  : Nat
  usbCrc  : Bool
  deriving DecidableEq, Repr

/-- A received punty frame (R595); `form` is false when VER, LEN or reserved fields break R596; `tag` is the 16-byte tag of a
protected link, `payload` what it protects (R598). -/
structure PuntyFrame where
  flags   : Byte
  src     : Byte
  dst     : Byte
  cycle   : Word
  seq     : Word
  payload : List Byte
  form    : Bool
  tag     : List Byte
  deriving DecidableEq, Repr

/-- A received tandem frame (R630); `check` is its tag or CRC, `payload` what it protects. -/
structure TdmFrame where
  tcycle  : Word
  seq     : Word
  payload : List Byte
  check   : List Byte
  deriving DecidableEq, Repr

/-- What LEAD shows in join step 2: firmware version, configuration digest, program hash, and whether
its certificate verifies (R629). -/
structure PartnerId where
  certOk  : Bool
  version : Word
  digest  : List Byte
  program : List Byte
  deriving DecidableEq, Repr


/-- The commands of the block: one constructor per row of spec/opcode_table.json. -/
inductive Instr where
  /-- ADD (R210): ALU instruction that adds two registers and sets ZNCV. -/
  | add (g : Gctx) (rd ra rb : Reg)
  /-- ADDC (R210): ALU instruction that adds two registers and the carry flag and sets ZNCV. -/
  | addc (g : Gctx) (rd ra rb : Reg)
  /-- SUB (R210): ALU instruction that subtracts rb from ra and sets ZNCV. -/
  | sub (g : Gctx) (rd ra rb : Reg)
  /-- SUBC (R210): ALU instruction that subtracts with carry-in C and sets ZNCV. -/
  | subc (g : Gctx) (rd ra rb : Reg)
  /-- AND (R210): ALU bitwise AND of two registers, setting Z and N. -/
  | and_ (g : Gctx) (rd ra rb : Reg)
  /-- OR (R210): ALU bitwise OR of two registers, setting Z and N. -/
  | or_ (g : Gctx) (rd ra rb : Reg)
  /-- XOR (R210): ALU bitwise XOR of two registers, setting Z and N. -/
  | xor (g : Gctx) (rd ra rb : Reg)
  /-- ANDN (R210): ALU AND of ra with the complement of rb. -/
  | andn (g : Gctx) (rd ra rb : Reg)
  /-- SLL (R210): ALU logical shift left by rb[4:0]. -/
  | sll (g : Gctx) (rd ra rb : Reg)
  /-- SRL (R210): ALU logical shift right by rb[4:0]. -/
  | srl (g : Gctx) (rd ra rb : Reg)
  /-- SRA (R210): ALU arithmetic shift right by rb[4:0]. -/
  | sra (g : Gctx) (rd ra rb : Reg)
  /-- SLT (R210): ALU signed set-less-than. -/
  | slt (g : Gctx) (rd ra rb : Reg)
  /-- SLTU (R210): ALU unsigned set-less-than. -/
  | sltu (g : Gctx) (rd ra rb : Reg)
  /-- MUL (R210): ALU multiply returning the low 32 bits. -/
  | mul (g : Gctx) (rd ra rb : Reg)
  /-- MULHU (R210): ALU unsigned multiply returning the high 32 bits. -/
  | mulhu (g : Gctx) (rd ra rb : Reg)
  /-- MULHS (R210): ALU signed multiply returning the high 32 bits. -/
  | mulhs (g : Gctx) (rd ra rb : Reg)
  /-- NOR (R210): ALU bitwise NOR of two registers. -/
  | nor (g : Gctx) (rd ra rb : Reg)
  /-- BFXU (R211): Bit-field extract with zero extension. `wm1` is the width minus 1. -/
  | bfxu (g : Gctx) (rd ra : Reg) (wm1 pos : BitVec 5)
  /-- BFXS (R211): Bit-field extract with sign extension. `wm1` is the width minus 1. -/
  | bfxs (g : Gctx) (rd ra : Reg) (wm1 pos : BitVec 5)
  /-- BFI (R211): Bit-field insert into rd. `wm1` is the width minus 1. -/
  | bfi (g : Gctx) (rd ra : Reg) (wm1 pos : BitVec 5)
  /-- ADDI (R212): Add a sign-extended 16-bit immediate. -/
  | addi (g : Gctx) (rd ra : Reg) (imm : BitVec 16)
  /-- CMPI (R212): Compare a register with a sign-extended immediate, setting flags only. -/
  | cmpi (g : Gctx) (ra : Reg) (imm : BitVec 16)
  /-- SLTI (R212): Signed set-less-than against an immediate. -/
  | slti (g : Gctx) (rd ra : Reg) (imm : BitVec 16)
  /-- SLTIU (R212): Unsigned set-less-than against a sign-extended immediate. -/
  | sltiu (g : Gctx) (rd ra : Reg) (imm : BitVec 16)
  /-- ANDI (R212): AND with a zero-extended immediate. -/
  | andi (g : Gctx) (rd ra : Reg) (imm : BitVec 16)
  /-- ORI (R212): OR with a zero-extended immediate. -/
  | ori (g : Gctx) (rd ra : Reg) (imm : BitVec 16)
  /-- XORI (R212): XOR with a zero-extended immediate. -/
  | xori (g : Gctx) (rd ra : Reg) (imm : BitVec 16)
  /-- ORHI (R212): OR with an immediate shifted into the upper half. -/
  | orhi (g : Gctx) (rd ra : Reg) (imm : BitVec 16)
  /-- LUI (R212): Load an immediate into the upper half of rd. -/
  | lui (g : Gctx) (rd : Reg) (imm : BitVec 16)
  /-- SLLI (R212): Shift left logical by an immediate amount. -/
  | slli (g : Gctx) (rd ra : Reg) (sh : BitVec 5)
  /-- SRLI (R212): Shift right logical by an immediate amount. -/
  | srli (g : Gctx) (rd ra : Reg) (sh : BitVec 5)
  /-- SRAI (R212): Shift right arithmetic by an immediate amount. -/
  | srai (g : Gctx) (rd ra : Reg) (sh : BitVec 5)
  /-- LD (R213): Load with zero extension from memory, stalling until the fabric response under R215. -/
  | ld (g : Gctx) (rd ra : Reg) (size : BitVec 2) (off : BitVec 16)
  /-- LDS (R213): Load with sign extension from memory. -/
  | lds (g : Gctx) (rd ra : Reg) (size : BitVec 2) (off : BitVec 16)
  /-- ST (R213): Store the low bytes of rd to memory, retiring on its fabric response. -/
  | st (g : Gctx) (rd ra : Reg) (size : BitVec 2) (off : BitVec 16)
  /-- AADD (R216): Atomic add as one exclusive read-modify-write at the bank. -/
  | aadd (g : Gctx) (rd ra : Reg) (size : BitVec 2) (off : BitVec 16)
  /-- ASWP (R216): Atomic swap as one exclusive read-modify-write at the bank. -/
  | aswp (g : Gctx) (rd ra : Reg) (size : BitVec 2) (off : BitVec 16)
  /-- RSST (R228): Store the bottom return-stack entry to memory and remove it on status OK. -/
  | rsst (g : Gctx) (ra : Reg) (size : BitVec 2) (off : BitVec 16)
  /-- RSLD (R228): Load a word from memory and insert it below the bottom return-stack entry. -/
  | rsld (g : Gctx) (ra : Reg) (size : BitVec 2) (off : BitVec 16)
  /-- LDL (R218): Load an image bit into L at the gather epoch. -/
  | ldl (g : Gctx) (word : BitVec 15) (bit : BitVec 5)
  /-- LDLN (R218): Load the complement of an image bit into L. -/
  | ldln (g : Gctx) (word : BitVec 15) (bit : BitVec 5)
  /-- IRD (R218): Read a whole image word into a register. -/
  | ird (g : Gctx) (rd : Reg) (word : BitVec 15)
  /-- ANDL (R218): AND an image bit into L. -/
  | andl (g : Gctx) (word : BitVec 15) (bit : BitVec 5)
  /-- ANDLN (R218): AND the complement of an image bit into L. -/
  | andln (g : Gctx) (word : BitVec 15) (bit : BitVec 5)
  /-- ORL (R218): OR an image bit into L. -/
  | orl (g : Gctx) (word : BitVec 15) (bit : BitVec 5)
  /-- ORLN (R218): OR the complement of an image bit into L. -/
  | orln (g : Gctx) (word : BitVec 15) (bit : BitVec 5)
  /-- XORL (R218): XOR an image bit into L. -/
  | xorl (g : Gctx) (word : BitVec 15) (bit : BitVec 5)
  /-- LDLP (R218): Push L and load an image bit into L. -/
  | ldlp (g : Gctx) (word : BitVec 15) (bit : BitVec 5)
  /-- LDLPN (R218): Push L and load the complement of an image bit into L. -/
  | ldlpn (g : Gctx) (word : BitVec 15) (bit : BitVec 5)
  /-- STL (R218): Stage L into an output bit. -/
  | stl (g : Gctx) (word : BitVec 15) (bit : BitVec 5)
  /-- STLN (R218): Stage the complement of L into an output bit. -/
  | stln (g : Gctx) (word : BitVec 15) (bit : BitVec 5)
  /-- SETB (R219): Stage a 1 into an output bit when L is 1. -/
  | setb (g : Gctx) (word : BitVec 15) (bit : BitVec 5)
  /-- RSTB (R219): Stage a 0 into an output bit when L is 1. -/
  | rstb (g : Gctx) (word : BitVec 15) (bit : BitVec 5)
  /-- IWR (R218): Stage a whole output word from a register. -/
  | iwr (g : Gctx) (rd : Reg) (word : BitVec 15)
  /-- IWRB (R218): Stage bit 0 of a register into an output bit. -/
  | iwrb (g : Gctx) (rd : Reg) (word : BitVec 15) (bit : BitVec 5)
  /-- LDLX (R220): Load an image bit into L at a register-held bit address. -/
  | ldlx (g : Gctx) (ra : Reg)
  /-- IRDX (R220): Read an image word at a register-held word index. -/
  | irdx (g : Gctx) (rd ra : Reg)
  /-- STLX (R220): Stage L at a register-held bit address. -/
  | stlx (g : Gctx) (ra : Reg)
  /-- IWRX (R223): Stage a masked word at a register-held word index; a zero mask stages nothing. -/
  | iwrx (g : Gctx) (rd ra rb : Reg)
  /-- NOTL (R224): Invert L. -/
  | notl (g : Gctx)
  /-- LPUSH (R224): Push L onto the logic stack. -/
  | lpush (g : Gctx)
  /-- LPOP (R224): Pop the logic stack into L. -/
  | lpop (g : Gctx)
  /-- ANDLP (R224): AND L with a popped logic-stack entry. -/
  | andlp (g : Gctx)
  /-- ORLP (R224): OR L with a popped logic-stack entry. -/
  | orlp (g : Gctx)
  /-- SETL (R224): Set L to 1. -/
  | setl (g : Gctx)
  /-- CLRL (R224): Clear L to 0. -/
  | clrl (g : Gctx)
  /-- MOVLR (R224): Copy L into a register. -/
  | movlr (g : Gctx) (rd : Reg)
  /-- MOVRL (R224): Set L from whether a register is non-zero. -/
  | movrl (g : Gctx) (ra : Reg)
  /-- LCOND (R224): Set L from a condition code of R199. -/
  | lcond (g : Gctx) (cond : BitVec 4)
  /-- BR (R226): Conditional relative branch. -/
  | br (g : Gctx) (cond : BitVec 4) (off : BitVec 22)
  /-- CALL (R227): Conditional call that pushes the return address on the return stack. -/
  | call (g : Gctx) (cond : BitVec 4) (off : BitVec 22)
  /-- JR (R226): Jump to a register-held address. -/
  | jr (g : Gctx) (ra : Reg)
  /-- CALLR (R227): Call a register-held address, pushing the return address. -/
  | callr (g : Gctx) (ra : Reg)
  /-- RET (R227): Return to the address popped from the return stack. -/
  | ret (g : Gctx)
  /-- NOP (R229): No operation. -/
  | nop (g : Gctx)
  /-- END (R229): Commit remaining staged entries and retained words and end the activation. -/
  | end_ (g : Gctx)
  /-- COMMIT (R68): Commit entries staged since release or the previous COMMIT, stalling until it completes. -/
  | commit (g : Gctx)
  /-- WFE (R182): Wait until a pending unmasked event bit is set. -/
  | wfe (g : Gctx)
  /-- SEV (R181): Assert a soft event line on every core in the next cycle. -/
  | sev (g : Gctx) (line : BitVec 6)
  /-- WAITT (R183): Wait until the time base reaches a 64-bit register-pair value. -/
  | waitt (g : Gctx) (r : Reg)
  /-- TRAP (R229): Raise the TRAP cause with an immediate for the handler. -/
  | trap (g : Gctx) (imm : BitVec 16)
  /-- MFCR (R232): Read a control register at S. -/
  | mfcr (g : Gctx) (r : Reg) (cr : BitVec 6)
  /-- MTCR (R232): Write a control register at S under its access code. -/
  | mtcr (g : Gctx) (cr : BitVec 6) (r : Reg)
  /-- RETT (R231): Return from trap, restoring pc and privilege and clearing TRAPACT. -/
  | rett (g : Gctx)
  /-- UNDEF (R236): Execution of an undefined or badly encoded instruction word, raising UNDEF. `insn` is the whole instruction word. -/
  | undef (g : Gctx) (insn : Word)
  /-- FABRIC_RESPONSE (R215): Arrival of the response to a fabric transaction, retiring the waiting instruction or being discarded after expiry. `own` is what the owner port of the addressed bank, or the hardware of the addressed register, does in the same cycle (R13, R313); on a core bank the owner's access is an instruction. -/
  | fabricResponse (m : Requester) (own : PortAccess)
  /-- FABRIC_TIMEOUT (R35): Expiry of the 2 µs bound ends a transaction with status TIMEOUT. -/
  | fabricTimeout (m : Requester)
  /-- CYCLIC_RELEASE (R58): A cyclic task's release time arrives and it is released, or skipped if unfinished. -/
  | cyclicRelease (g : Gctx)
  /-- HELD_RELEASE (R63): A held event release takes place after the minimum inter-arrival time or previous completion. -/
  | heldRelease (g : Gctx)
  /-- BACKGROUND_RELEASE (R66): The background task is first released 1 ms after entry to RUN. -/
  | backgroundRelease (g : Gctx)
  /-- EVENT_LINES_ARMED (R87): Event lines bound to tasks are armed 1 ms after entry to RUN. -/
  | eventLinesArmed
  /-- BUDGET_OVERRUN (R77): Budget counter reaches the budget before END and the overrun action applies. -/
  | budgetOverrun (g : Gctx)
  /-- DEADLINE_MISS (R78): An activation passes its deadline before completion. -/
  | deadlineMiss (g : Gctx)
  /-- KEY_INPUT_CHANGE (R83): KEYA or KEYB changes and debouncing starts. `true` is closed. -/
  | keyInputChange (keya keyb : Bool)
  /-- KEY_CHANGE (R85): A key position takes effect after 20 ms unchanged and the operating state follows. -/
  | keyChange
  /-- STOP_LIMIT (R88): 1 ms after leaving RUN, remaining activations are abandoned and safe values applied. -/
  | stopLimit
  /-- START (R85): Run command 1 in REM enters RUN if the start conditions hold. -/
  | start (r : Req)
  /-- STOP (R85): Run command 2 in REM enters STOP. -/
  | stop (r : Req)
  /-- RESTART_TASK (R114): Write of 1 to 2100h+g:15 restarts a STOPPED task. -/
  | restartTask (r : Req) (g : Gctx)
  /-- CTX_RELTIME_LO_READ (R106): Read of CTX_RELTIME_LO latches CTX_RELTIME_HI for the context. Context `g` reads the register of context `h`. -/
  | ctxReltimeLoRead (g : Gctx) (h : Gctx)
  /-- COMMIT_COMPLETE (R137): The image engine completes a commit atomically and consumers sample the output words. -/
  | commitComplete
  /-- JOURNAL_ROOM (R364): A commit waiting for journal room proceeds once the queue has room. -/
  | journalRoom
  /-- HELD_PUBLICATION (R123): Held source data is published when its minimum interval has passed. `src` is a source code of R153. -/
  | heldPublication (src : Nat)
  /-- SWEEP_COMPLETE (R129): An aging sweep completes within 2 ms. -/
  | sweepComplete
  /-- SYSTEM_UPDATE (R646): The 1 ms system update publishes time, status and tandem words. -/
  | systemUpdate
  /-- FORCE_SET (R145): Force command 1 forces the bit in 2210h:01. -/
  | forceSet (r : Req)
  /-- FORCE_CLEAR (R156): Force command 2 clears one force. -/
  | forceClear (r : Req)
  /-- FORCE_CLEAR_ALL (R156): Force command 3 clears every force. -/
  | forceClearAll (r : Req)
  /-- WAITT_WAKE (R183): The time base reaches a waiting WAITT value and the context becomes ready. -/
  | waittWake (g : Gctx)
  /-- SETPOINT_APPLY (R175): A gap with no ready context and no near release is found and the switch starts. `tgt` is core n, or 8 + p for pair p (R196). -/
  | setpointApply (tgt : Fin 12)
  /-- SETPOINT_CHANGED (R176): A set-point switch completes and pending releases dispatch. `tgt` is core n, or 8 + p for pair p (R196). -/
  | setpointChanged (tgt : Fin 12)
  /-- SETPOINT_REFUSED (R175): No gap within 100 ms, so the set-point write is refused. `tgt` is core n, or 8 + p for pair p (R196). -/
  | setpointRefused (tgt : Fin 12)
  /-- SUPPLY_BELOW_BAND (R27): An island supply falls below its band and cycles lengthen. -/
  | supplyBelowBand (n : CoreId)
  /-- ISLAND_SUPPLY_LOW (R669): A supply-low interval ends and is counted and recorded. Its length is the time since the SUPPLY_BELOW_BAND that began it. -/
  | islandSupplyLow (n : CoreId)
  /-- CHECKER_COMPARE (R246): The checker presents its copy two cycles later and the pair unit compares the lanes. `item` is the checker's copy; `none` when it presents none (R269). -/
  | checkerCompare (p : PairId) (item : Option LaneItem)
  /-- COMPARATOR_STEP (R261): One background comparator step runs in an idle pair cycle. `found` is the lane and bit on which the step reports a difference. -/
  | comparatorStep (p : PairId) (found : Option (Nat × Nat))
  /-- REPEAT_COMPARATOR_TEST (R263): Write of 1 to D120h+p:07 repeats the start-up comparator test. -/
  | repeatComparatorTest (r : Req) (p : PairId)
  /-- DEBUG_HALT (R264): A debugger halts a paired context, breaking the pairing. -/
  | debugHalt (g : Gctx)
  /-- DEBUG_RESUME (R265): A debugger resumes a broken context on the leader alone. -/
  | debugResume (g : Gctx)
  /-- LOAD_SLOT (R282): Write of a slot number to 2300h:02 checks and loads the program. `fail` is the number of blocks after which the image store gives one that does not match its hash, if it does (R278, R284). -/
  | loadSlot (r : Req) (slot : Byte) (fail : Option Nat)
  /-- APPLY (R286): Edit command 1 starts checking and staging an online edit. -/
  | apply (r : Req)
  /-- ACCEPT (R298): Edit command 2 appends the edit and makes it the version in force. -/
  | accept (r : Req)
  /-- REVERT (R300): Edit command 3 starts switching back to the old version. -/
  | revert (r : Req)
  /-- CANCEL (R296): Edit command 4 cancels a PREPARING or ARMED edit. -/
  | cancel (r : Req)
  /-- READY_TIME (R289): All edit checks pass and the switch instant is chosen; the edit becomes ARMED. -/
  | readyTime
  /-- SWITCH_INSTANT (R291): At Ts releases switch to the new version. -/
  | switchInstant
  /-- MIGRATION (R293): After the last old activation completes, retained words are migrated and journalled. -/
  | migration (g : Gctx)
  /-- REVERT_SWITCH (R300): The revert switch instant returns to the old version. -/
  | revertSwitch
  /-- AUTOMATIC_ACCEPT (R299): PENDING ends in ACCEPT 10 minutes after Ts. -/
  | automaticAccept
  /-- TRAIL_READY_TIMEOUT (R304): TRAIL not ready within 2 s, so both units cancel the edit. -/
  | trailReadyTimeout
  /-- SCRUB_READ (R322): The scrubber reads one word every 1 µs and corrects or reports errors. -/
  | scrubRead (b : BankId)
  /-- CORRECTED_WRITE_BACK (R320): A corrected word is written back in the next bank cycle free of writes to it. -/
  | correctedWriteBack (b : BankId)
  /-- HELD_WRITE (R317): An owner write held behind a shared atomic is applied in the next bank cycle. -/
  | heldWrite (b : BankId)
  /-- MARCH_START (R336): Write of MEM_MARCHb.START requests a march or is refused. Context `g` writes `v` to MEM_MARCHb. -/
  | marchStart (g : Gctx) (b : BankId) (v : Word)
  /-- TRANSPARENT_MARCH (R338): March request 1 through C100h+b:08. -/
  | transparentMarch (r : Req) (b : BankId)
  /-- DESTRUCTIVE_MARCH (R338): March request 2 through C100h+b:08. -/
  | destructiveMarch (r : Req) (b : BankId)
  /-- MARCH_END (R331): A march ends and reports pass, repair or failure. `o` is what the cells of the bank made the march find. -/
  | marchEnd (b : BankId) (o : MarchOutcome)
  /-- CLEAR_REPAIRS (R332): Write of 1 to C100h+b:09 clears the bank's repairs. -/
  | clearRepairs (r : Req) (b : BankId)
  /-- NV_GRANT (R344): The record-store controller grants the next access under its 2-to-1 arbitration. -/
  | nvGrant
  /-- JOURNAL_DRAIN (R363): One journal entry is written into the active retained half per grant. -/
  | journalDrain
  /-- PAGE_PROGRAM (R346): Write of NVC_PBCTRLn.GO starts an atomic page program or is refused. Context `g` writes `v` to NVC_PBCTRL of its core. -/
  | pageProgram (g : Gctx) (v : Word)
  /-- PAGE_PROGRAM_DONE (R347): A page program completes 120 ns after its grant and sets DONE. -/
  | pageProgramDone (n : CoreId)
  /-- COUNTER_FOLD (R361): Each second the gaffer folds volatile counters and operating time into spread counters. -/
  | counterFold
  /-- POWER_FAIL (R367): VIN below 4.2 V for 2 µs starts the lehr at step 1. `mv` is VIN in mV. -/
  | powerFail (mv : Nat)
  /-- LEHR_STEP_3 (R367): At the end of step 2 remaining activations are abandoned and the journal drains exclusively. -/
  | lehrStep3
  /-- LEHR_STEP_5 (R367): Once the journal is empty the recorder is closed, counters folded and the marker written clean. -/
  | lehrStep5
  /-- HOLDUP_EXHAUSTED (R763): The hold-up store is exhausted and the module is off. -/
  | holdupExhausted
  /-- DEVICE_RESET (R370): A device reset takes effect after lehr steps 3 to 6 and restarts at step 2. -/
  | deviceReset
  /-- FIELD_SCAN (R389): At each scan instant the field scan is published and field event lines asserted. `p` holds what the pins show at the scan sample. -/
  | fieldScan (p : ScanPins)
  /-- FILTERED_STATE_CHANGE (R387): The filter accumulator reaches N or 0 and the filtered state changes, counting edges. `samples` are the input currents in µA of the 1 µs samples, the last one completing the change. -/
  | filteredStateChange (ch : Ch) (samples : List Nat)
  /-- NO_SIGNAL (R407): No counted edge for the larger of 12 s and twice the gate time sets NOSIG. -/
  | noSignal (ch : Ch)
  /-- MODE_CHANGED (R386): An accepted mode change takes effect at the next sample and resets the channel. -/
  | modeChanged (ch : Ch)
  /-- WIRE_BREAK (R393): BROKEN readings for the wire-break time make the channel enter BROKEN. `n` further samples read `ua` µA. -/
  | wireBreak (ch : Ch) (ua n : Nat)
  /-- WIRE_RESTORED (R393): OFF or ON readings for the wire-break time make the channel leave BROKEN. `n` further samples read `ua` µA. -/
  | wireRestored (ch : Ch) (ua n : Nat)
  /-- OVERLOAD (R398): Current limit active for the overload time sets OVL and applies the overload action. `n` further samples show the limit active at `ma` mA. -/
  | overload (ch : Ch) (ma n : Nat)
  /-- OVERLOAD_CLEAR (R398): Under LIMIT, the limit inactive for the overload time clears OVL. `n` further samples show it inactive. -/
  | overloadClear (ch : Ch) (n : Nat)
  /-- OPEN_WIRE (R400): Open-wire condition for 10 ms sets OPENW. `n` further samples show the condition. -/
  | openWire (ch : Ch) (n : Nat)
  /-- OPEN_WIRE_CLEAR (R400): 10 ms without the open-wire condition clears OPENW. `n` further samples do not show the condition. -/
  | openWireClear (ch : Ch) (n : Nat)
  /-- READBACK_MISMATCH (R401): Pin reading and switch state differ for 100 µs and RBMM is set. `pin` is the pin reading of `n` further samples. -/
  | readbackMismatch (ch : Ch) (pin : Bool) (n : Nat)
  /-- READBACK_AGREE (R401): 100 µs of agreement clears RBMM. `n` further samples agree. -/
  | readbackAgree (ch : Ch) (n : Nat)
  /-- GROUP_OVERCURRENT (R383): Group current above threshold for 1 ms turns the group's outputs off for 100 ms. `n` further samples show the group at `ma` mA. -/
  | groupOvercurrent (gr : Grp) (ma n : Nat)
  /-- GROUP_OC_END (R383): After 100 ms the group's outputs return to their driven state. -/
  | groupOcEnd (gr : Grp)
  /-- THERMAL_SHUTDOWN (R399): Junction reaches the shutdown threshold and the channel turns off. -/
  | thermalShutdown (ch : Ch)
  /-- THERMAL_RESTART (R399): After 10 ms off and cooling the channel turns on again and counts a restart. -/
  | thermalRestart (ch : Ch)
  /-- LINK_FAULT (R381): No valid coupler frame for 20 µs sets LINK or turns the channel output off. `down` says that the frames
  missing for `us` µs are the controller's, which the channel misses, and not the channel's. -/
  | linkFault (ch : Ch) (down : Bool) (us : Nat)
  /-- LINK_RESTORED (R381): A valid coupler frame after a link fault resumes the channel. `down` as for LINK_FAULT. -/
  | linkRestored (ch : Ch) (down : Bool)
  /-- VF_LOW (R382): A group's VF falls below its threshold and the group enters VF_LOW. `mv` is VF in mV. -/
  | vfLow (gr : Grp) (mv : Nat)
  /-- VF_RESTORED (R382): VF rises above its restore threshold and the group leaves VF_LOW. `mv` is VF in mV. -/
  | vfRestored (gr : Grp) (mv : Nat)
  /-- LINE_CYCLE (R436): A positive zero crossing ends a line cycle and per-cycle quantities and registers are updated. `samples` are the samples of the cycle, oldest first. -/
  | lineCycle (i : Fin 2) (samples : List Sample)
  /-- GAIN_SWITCH (R429): A x16 modulator input beyond 50 mV switches the channel to the x1 path. ANch + 4. -/
  | gainSwitch (ch : Fin 4)
  /-- ENERGY_UPDATE (R439): At each update instant the instance publishes its 128-word set. -/
  | energyUpdate (i : Fin 2)
  /-- PULSE_START (R446): A pending pulse starts at a sample when the spacing allows. -/
  | pulseStart (ps : Fin 16)
  /-- PULSE_END (R446): A pulse ends when its width has elapsed or is cut short. -/
  | pulseEnd (ps : Fin 16)
  /-- ENERGY_RECORD_WRITE (R443): Once per second registers and pulse accumulators are written as a twin record. -/
  | energyRecordWrite
  /-- RESET_REGISTERS (R444): Write of 1 to 4010h+i:0B zeroes the instance's registers. -/
  | resetRegisters (r : Req) (i : Fin 2)
  /-- CAL_BEGIN (R451): Calibration command 1 opens a session and starts substitution. -/
  | calBegin (r : Req) (ch : Fin 8)
  /-- CAL_COMMIT (R451): Calibration command 2 commits the trial coefficients at the next line-cycle boundary. -/
  | calCommit (r : Req) (ch : Fin 8)
  /-- CAL_ABORT (R451): Calibration command 3 ends the session keeping the committed coefficients. -/
  | calAbort (r : Req) (ch : Fin 8)
  /-- CAL_TIMEOUT (R453): 60 s without command or trial write ends the session as ABORT. -/
  | calTimeout
  /-- LINK_CHANGE (R464): An Ethernet link goes up or down. -/
  | linkChange (pt : Fin 4) (up : Bool) (speed : Nat)
  /-- FRAME_RECEIVED (R465): An Ethernet frame is received, checked, de-duplicated, forwarded or delivered to the receive ring. -/
  | frameReceived (pt : Fin 4) (f : EthFrame)
  /-- LAN_FAULT (R472): No frame on one LAN for 2 x LifeCheckInterval sets LANFAULT. -/
  | lanFault (x : Fin 2) (lan : Fin 2)
  /-- LIFECHECK (R468): A supervision frame is sent each LifeCheckInterval. -/
  | lifecheck (x : Fin 2)
  /-- ARP_REQUEST (R473): An ARP request for the interface address is answered. IPv4 addresses. -/
  | arpRequest (f : Fin 4) (target sender : Word)
  /-- ICMP_ECHO (R473): An ICMP echo request for the interface address is answered. -/
  | icmpEcho (f : Fin 4) (target sender : Word) (data : List Byte)
  /-- TRANSMIT_RING (R478): The engine takes a frame from an application transmit ring and advances GET. -/
  | transmitRing (f : Fin 4)
  /-- PTP_MESSAGE (R480): A PTP message is received and feeds offset, state and time-base discipline. -/
  | ptpMessage (m : PtpMsg)
  /-- ANNOUNCE_TIMEOUT (R485): No Announce from the parent within the receipt timeout moves PTP to HOLDOVER. -/
  | announceTimeout
  /-- GOOSE_FRAME (R488): A GOOSE frame matching a subscription is judged and may publish its set. -/
  | gooseFrame (f : GooseMsg)
  /-- GOOSE_TAL_EXPIRED (R490): No accepted frame within TAL sets TALEXP and clears VALID. -/
  | gooseTalExpired (k : Fin 256)
  /-- GOOSE_REPETITION (R496): The next ladder interval elapses and a repetition frame is sent. -/
  | gooseRepetition (p : Fin 64)
  /-- SV_FRAME (R498): An SV frame matching a subscription is published. -/
  | svFrame (f : SvMsg)
  /-- SV_LOST (R500): No valid SV frame for 4 frame intervals sets LOST. -/
  | svLost (k : Fin 16)
  /-- CAN_FRAME_RECEIVED (R515): A received CAN frame is stored in its RX object. -/
  | canFrameReceived (c : Fin 2) (f : CanFrame)
  /-- TXREQ (R521): Write of TXREQ makes a TX object pending. Context `g` writes `v` to CANc_MOCTRLm; `done` says that the controller completes the object's previous request in the same cycle, with a command still to come (R14). -/
  | txreq (g : Gctx) (c : Fin 2) (m : Fin 128) (v : Word) (done : Bool)
  /-- CAN_ABORT (R524): Write of ABORT withdraws a pending request not in transmission. -/
  | canAbort (g : Gctx) (c : Fin 2) (m : Fin 128)
  /-- TRANSMISSION_COMPLETE (R523): A CAN transmission succeeds, loses arbitration or meets an error. `m` is the object, none where an MDP frame was in transmission; `delay` is the measured loop delay in CAN clocks. -/
  | transmissionComplete (c : Fin 2) (m : Option (Fin 128)) (o : TxOutcome) (delay : Nat)
  /-- BUS_OFF_RECOVERY (R510): The bus-off recovery sequence completes. -/
  | busOffRecovery (c : Fin 2)
  /-- BUS_INTEGRATION (R509): Bus integration completes and the controller becomes ERROR_ACTIVE. -/
  | busIntegration (c : Fin 2)
  /-- SLEEP (R529): CAN command 1 withdraws requests and enters SLEEP. -/
  | sleep (r : Req) (c : Fin 2)
  /-- WAKE (R530): CAN command 2 is a local wake. -/
  | wake (r : Req) (c : Fin 2)
  /-- RECOVER (R510): CAN command 3 starts bus-off recovery. -/
  | recover (r : Req) (c : Fin 2)
  /-- CAN_WAKE (R530): A bus wake event of the configured mode leaves SLEEP. -/
  | canWake (c : Fin 2) (w : WakeEvent)
  /-- SESSION_OPEN (R571): MDP request that opens a session, in one or two phases. -/
  | sessionOpen (r : Req) (mode role phase : Byte) (payload : List Byte)
  /-- SESSION_CLOSE (R579): MDP request that closes the session. -/
  | sessionClose (r : Req)
  /-- READ (R558): MDP request that reads one entry. -/
  | read (r : Req) (idx : BitVec 16) (sub : Byte)
  /-- WRITE (R559): MDP request that writes one entry after the checks of R569. -/
  | write (r : Req) (idx : BitVec 16) (sub ty : Byte) (data : List Byte)
  /-- READ_BLOCK (R561): MDP request that reads a block of an entry by offset. -/
  | readBlock (r : Req) (idx : BitVec 16) (sub : Byte) (off : Word) (dlen : BitVec 16)
  /-- WRITE_BLOCK (R562): MDP request that writes a block of a new value, applying it when complete. -/
  | writeBlock (r : Req) (idx : BitVec 16) (sub : Byte) (off total : Word) (data : List Byte)
  /-- ENUM (R560): MDP request that lists entries from an index:sub. -/
  | enum (r : Req) (idx : BitVec 16) (sub count : Byte)
  /-- ABORT (R565): MDP request that discards the session's open transfer. -/
  | abort (r : Req) (idx : BitVec 16) (sub : Byte)
  /-- HALF_OPEN_TIMEOUT (R577): A half-open session without phase 2 within 2 s is discarded. -/
  | halfOpenTimeout (sid : Word)
  /-- SESSION_IDLE (R579): 10 s without an executed request closes a session. -/
  | sessionIdle (sid : Word)
  /-- BLOCK_TIMEOUT (R565): A block transfer with no block for 2 s is discarded. -/
  | blockTimeout (sid : Word)
  /-- AUTH_LOCKOUT_END (R578): The 60 s refusal of authenticated opens on a transport ends. `tr` is a transport of R587. -/
  | authLockoutEnd (tr : Fin 4)
  /-- MDP_CAN_FRAME (R582): An MDP CAN FD frame is received and assembled into a message. -/
  | mdpCanFrame (c : Fin 2) (ctl : Byte) (data : List Byte)
  /-- ASSEMBLY_TIMEOUT (R583): No MDP CAN frame for 100 ms discards the message under assembly. -/
  | assemblyTimeout (c : Fin 2)
  /-- USB_BYTE_TIMEOUT (R585): 100 ms between USB bytes discards the frame. `bytes` came since
  the last whole frame, and none came for `ms` ms after them. -/
  | usbByteTimeout (bytes : List Byte) (ms : Nat)
  /-- RESTORE_DEFAULTS (R550): Write of 1 to 1010h:01 marks a restore of defaults. -/
  | restoreDefaults (r : Req)
  /-- CANCEL_RESTORE (R550): Write of 2 to 1010h:01 cancels a marked restore. -/
  | cancelRestore (r : Req)
  /-- HIERARCHY_CYCLE (R590): A hierarchy cycle begins and line 187 is asserted on the manager. -/
  | hierarchyCycle
  /-- SLOT_START (R591): At a worker's slot start the manager samples and sends DOWN. -/
  | slotStart (w : Byte)
  /-- EXCHANGE_CLOSE (R591): At the close an exchange without UP is declared lost. -/
  | exchangeClose (w : Byte)
  /-- DOWN (R593): A worker accepts a DOWN, publishes its slice and sends UP. -/
  | down (f : PuntyFrame)
  /-- UP (R591): The manager receives an UP and publishes the worker's slice. -/
  | up (f : PuntyFrame)
  /-- HEARTBEAT (R602): The manager receives a heartbeat and updates the worker state. -/
  | heartbeat (f : PuntyFrame)
  /-- HEARTBEAT_TIMER (R596): Every 100 ms a worker sends HEARTBEAT. -/
  | heartbeatTimer
  /-- NO_MANAGER (R593): No accepted DOWN for 3 x Tc puts the worker in NO_MANAGER. -/
  | noManager
  /-- SILENT (R602): 300 ms without a heartbeat makes the worker SILENT. -/
  | silent (w : Byte)
  /-- LINK1 (R597): Link handshake phase frame from the worker. -/
  | link1 (f : PuntyFrame)
  /-- LINK2 (R597): Link handshake phase frame from the manager. -/
  | link2 (f : PuntyFrame)
  /-- LINK3 (R597): Link handshake phase-2 frame from the worker. -/
  | link3 (f : PuntyFrame)
  /-- LINK4 (R597): Link handshake status frame from the manager. -/
  | link4 (f : PuntyFrame)
  /-- QUOTE_REQ (R599): A worker receives a quote request and answers with a quote. -/
  | quoteReq (f : PuntyFrame)
  /-- QUOTE (R599): The manager checks a received attestation quote. -/
  | quote (f : PuntyFrame)
  /-- QUOTE_REPEAT (R599): Every 60 s the manager repeats a failed attestation check. -/
  | quoteRepeat (w : Byte)
  /-- LINK_RENEWAL (R598): A side opens a new link before SEQ limit or after 24 h. `w` is the node of the link; 0 on a worker. -/
  | linkRenewal (w : Byte)
  /-- KEY_OVERLAP_END (R598): 1 s after a new link the old keys stop being accepted. -/
  | keyOverlapEnd (w : Byte)
  /-- REQUEST_QUOTE (R599): Write of 1 to 7010h+w:0A requests a quote from an ACTIVE worker. -/
  | requestQuote (r : Req) (w : Byte)
  /-- ARM (R606): Command 1 of 7002h:03 checks and arms the staged configuration. -/
  | arm (r : Req)
  /-- STAGED_CANCEL (R606): Command 2 of 7002h:03 ends an ARMED set. -/
  | stagedCancel (r : Req)
  /-- ACTIVATION_BOUNDARY (R604): At the activation boundary the staged set, digests or scheduled activation apply or are cancelled. -/
  | activationBoundary
  /-- TANDEM_CYCLE (R613): LEAD starts a tandem cycle, asserts line 186, sends CYCLE and CHECK and applies due commands. -/
  | tandemCycle
  /-- TRAIL_CYCLE_START (R625): TRAIL computes and sends CHECK 40 µs after LEAD's cycle start. -/
  | trailCycleStart
  /-- LAGGED_RELEASE (R615): TRAIL releases a forwarded task 40 µs after LEAD's release time. -/
  | laggedRelease (g : Gctx)
  /-- CYCLE (R613): TRAIL receives CYCLE and disciplines its time base. -/
  | cycle (f : TdmFrame)
  /-- PUBLISH (R614): TRAIL receives and publishes a PUBLISH set under LEAD's epoch. -/
  | publish (f : TdmFrame)
  /-- SCAN (R619): LEAD receives TRAIL's field words and agrees input bits. -/
  | scan (f : TdmFrame)
  /-- TANDEM_RELEASE (R615): TRAIL receives a RELEASE frame for a release or line assertion. -/
  | tandemRelease (f : TdmFrame)
  /-- NETSEQ (R621): TRAIL receives sequence numbers and sends its copy of a network frame. -/
  | netseq (f : TdmFrame)
  /-- CHECK (R625): A unit receives the partner's output CRC and compares it. -/
  | check (f : TdmFrame)
  /-- HEALTH (R626): A unit receives the partner's health bits. -/
  | health (f : TdmFrame)
  /-- HEALTH_TIMER (R626): Every 10 ms each unit sends HEALTH. `bits` are the own health bits of R638 as the monitors show them. -/
  | healthTimer (bits : Word)
  /-- PARTNER_HEALTH_LOST (R626): The partner's last HEALTH becomes 30 ms old. -/
  | partnerHealthLost
  /-- COMMAND (R618): TRAIL receives a COMMAND frame to apply at a named cycle. -/
  | command (f : TdmFrame)
  /-- COPY (R629): A joining TRAIL receives copied state from LEAD. -/
  | copy (f : TdmFrame)
  /-- AUTH (R629): A unit receives a TL authentication phase. -/
  | auth (f : TdmFrame)
  /-- SCAN_TIMEOUT (R619): TRAIL's SCAN missing 20 µs after the scan instant; LEAD uses its own values. -/
  | scanTimeout
  /-- OUTPUT_DISAGREE (R623): Driven states or node reading differ for 100 µs. The partner's driven state and the node reading. -/
  | outputDisagree (ch : Ch) (partner node : Bool) (n : Nat)
  /-- CYCLE_TIMEOUT (R625): No CYCLE frame for 3 x Tt makes TRAIL OUT_OF_STEP. -/
  | cycleTimeout
  /-- JOIN (R629): A unit joining as TRAIL runs the join steps. `partner` is what LEAD shows in join step 2. -/
  | join (partner : PartnerId)
  /-- JOIN_TIMEOUT (R629): Join steps not complete within 2 s fail the join. -/
  | joinTimeout
  /-- REJOIN_TIMER (R625): 10 s after OUT_OF_STEP or a failed join the unit rejoins. -/
  | rejoinTimer
  /-- SWITCHOVER (R612): Tandem command 1 in REM makes LEAD release INTLK. -/
  | switchover (r : Req)
  /-- REJOIN (R625): Tandem command 2 rejoins at once. -/
  | rejoin (r : Req)
  /-- INTLK_RELEASED (R627): INTLK becomes free; an IN_STEP TRAIL takes it and becomes LEAD. -/
  | intlkReleased
  /-- INTLK_CLAIM (R611): INTLK free for the unit's waiting time, so the unit claims it. -/
  | intlkClaim
  /-- PRES_IN_CHANGE (R610): PRES_IN changes, entering or leaving SOLO. -/
  | presInChange (high : Bool)
  /-- PPS_EDGE (R640): A rising PPS_IN edge corrects the time base to a whole second. -/
  | ppsEdge
  /-- PPS_TIMEOUT (R642): No PPS_IN edge for 1.5 s puts the time base in holdover. -/
  | ppsTimeout
  /-- HOLDOVER_LIMIT (R643): Holdover longer than the limit clears TBVALID. -/
  | holdoverLimit
  /-- LISTENING_LIMIT (R643): PTP in LISTENING longer than the holdover limit clears TBVALID. -/
  | listeningLimit
  /-- PPS_OUT (R645): At each whole second with TBVALID, PPS_OUT rises for 100 ms. -/
  | ppsOut
  /-- TIME_MATCH (R647): The time base reaches a match value and the match line is asserted. -/
  | timeMatch (k : Fin 8)
  /-- TM_HI_WRITE (R647): Write of TM_HIk arms the match unit. -/
  | tmHiWrite (g : Gctx) (k : Fin 8) (v : Word)
  /-- SET_TIME (R643): Write of 8000h:07 steps the time base and writes the RTC. -/
  | setTime (r : Req) (tai : Word64)
  /-- SET_RTC (R657): Write of 8010h:08 sets the RTC calendar. -/
  | setRtc (r : Req) (utc : Word64)
  /-- CLEAR_STAMP (R649): Write of 1 to 8010h:04 clears the switch stamp. -/
  | clearStamp (r : Req)
  /-- RTC_SWITCH (R648): The RTC domain switches to VBAK. The two supplies in mV. -/
  | rtcSwitch (mainMv vbakMv : Nat)
  /-- RTC_SWITCH_BACK (R648): The RTC domain switches back to the main rail. The two supplies in mV. -/
  | rtcSwitchBack (mainMv vbakMv : Nat)
  /-- RTC_SUPPLY_LOSS (R650): The domain supply falls below 1.6 V and TIMEVALID clears. -/
  | rtcSupplyLoss
  /-- CALENDAR_ADVANCE (R652): A prescaler wrap advances the calendar by one second. -/
  | calendarAdvance
  /-- RTC_SETSEC_WRITE (R654): Write of RTC_SETSEC stages seconds and sets LOADPEND. -/
  | rtcSetsecWrite (m : Master) (v : Word)
  /-- CALENDAR_LOAD (R654): At the load edge the staged calendar is loaded and TIMEVALID set. -/
  | calendarLoad
  /-- RTC_CAL0_READ (R653): Read of RTC_CAL0 takes a calendar snapshot for the context. -/
  | rtcCal0Read (g : Gctx)
  /-- RTC_TBLO_READ (R653): Read of RTC_TBLO latches RTC_TBHI for the context. -/
  | rtcTbloRead (g : Gctx)
  /-- RESYNC (R657): Every 600 s the gaffer rewrites a drifting RTC from the time base. -/
  | resync
  /-- ENGINE_TIMEOUT (R662): An engine command exceeds its limit and is retried or the engine restarted. 0 image engine, 1 record-store controller, 2 crypto engine (R698); `bad` says that the restart fails. -/
  | engineTimeout (e : Fin 3) (bad : Bool)
  /-- CONTEXT_STALLED (R664): The running context retires nothing for 1 ms and is abandoned. -/
  | contextStalled (g : Gctx)
  /-- CORE_WATCHDOG (R665): A core with a ready context retires nothing for 5 ms, is reset and reload starts. -/
  | coreWatchdog (n : CoreId)
  /-- CORE_RELOADED (R666): A reload ends once loaded and the journal is clear; tasks resume as on entry to RUN. `ok` is false when the reload fails (R667). -/
  | coreReloaded (n : CoreId) (ok : Bool)
  /-- WDG_EXPIRED (R671): The device watchdog reaches To without a service, captures evidence and resets. -/
  | wdgExpired
  /-- WDG_SERVICE (R673): Write of WDG_A is judged against the window and answer. With no answer given it is the one the gaffer computes (R687). -/
  | wdgService (m : Master) (answer : Option Word)
  /-- WDG_Q_READ (R675): Read of WDG_Q latches the tally for the answer. -/
  | wdgQRead (m : Master)
  /-- WDG_CFG_WRITE (R676): Write of WDG_CFG sets or turns on the watchdog window. Tc and To in ms. -/
  | wdgCfgWrite (m : Master) (tc tmo : Nat)
  /-- GAFFER_SELF_WDG (R678): The gaffer self-watchdog expires, restarting the gaffer or resetting the device. The gaffer's pc. -/
  | gafferSelfWdg (pc : Word)
  /-- WDG_CHKIN (R682): Write of WDG_CHKIN adds a key to its interval's tally. -/
  | wdgChkin (g : Gctx) (key : Word)
  /-- INTERVAL_START (R681): A new check-in interval starts and the previous enters its grace. -/
  | intervalStart
  /-- INTERVAL_CLOSE (R683): An interval closes, latches tally and counts and flags faults. -/
  | intervalClose
  /-- CHECKIN_FAULT_ACTION (R688): Within 1 ms of a faulty close the gaffer applies the check-in fault action. -/
  | checkinFaultAction
  /-- CLEAR_EVIDENCE (R696): Write of 1 to 9010h:03 clears the evidence block. -/
  | clearEvidence (r : Req)
  /-- RECORD_WRITE (R705): The writer reserves an index and programs the next queued record. -/
  | recordWrite
  /-- TOKEN_REFILL (R709): A rate-limit bucket gains a token each refill period. -/
  | tokenRefill (code : BitVec 16)
  /-- REC_DONELO_READ (R712): Read of REC_DONELO latches REC_DONEHI for the context. -/
  | recDoneloRead (g : Gctx)
  /-- REC_OLDLO_READ (R712): Read of REC_OLDLO latches REC_OLDHI for the context. -/
  | recOldloRead (g : Gctx)
  /-- ONCE (R715): Injection command 1 makes a detector report at its next evaluation. -/
  | once (r : Req) (det : Fin 128)
  /-- HOLD (R715): Injection command 2 presents a condition until RELEASE. -/
  | hold (r : Req) (det : Fin 128)
  /-- RELEASE (R715): Injection command 3 withdraws a held condition. -/
  | release (r : Req) (det : Fin 128)
  /-- PROVISION_OWNER_KEY (R726): Write of B005h:01 fills an owner slot with a key hash. -/
  | provisionOwnerKey (r : Req) (key : List Byte)
  /-- REVOKE_OWNER_SLOT (R727): Write of B005h:02 revokes an owner slot. -/
  | revokeOwnerSlot (r : Req) (k : Byte)
  /-- IMMEDIATE (R746): Activation command 1 activates firmware with a reset or loads a program. `t` is the parison entry of R734. -/
  | immediate (r : Req) (t : Fin 3)
  /-- AT_RESET (R746): Activation command 2 makes firmware active as TRIAL at the next reset. `t` is the parison entry of R734. -/
  | atReset (r : Req) (t : Fin 3)
  /-- SCHEDULED (R747): Activation command 3 arms the parison for T_act. `t` is the parison entry of R734. -/
  | scheduled (r : Req) (t : Fin 3)
  /-- HOT (R748): Activation command 4 starts a gaffer restart into new firmware. `t` is the parison entry of R734. -/
  | hot (r : Req) (t : Fin 3)
  /-- DISCARD (R737): Activation command 5 discards the parison. `t` is the parison entry of R734. -/
  | discard (r : Req) (t : Fin 3)
  /-- GAFFER_RESTART (R748): After the due service, sessions close and ROM verifies and starts the new gaffer. -/
  | gafferRestart
  /-- CONFIRM_FIRMWARE (R741): Write of 1 to B018h:03 confirms TRIAL firmware. -/
  | confirmFirmware (r : Req)
  /-- AUTO_CONFIRM (R741): 10 minutes of serving without reset confirms TRIAL firmware. -/
  | autoConfirm
  /-- QUOTE_NONCE (R754): Write of a nonce to B050h:01 builds and signs a quote. -/
  | quoteNonce (r : Req) (nonce : List Byte)
  /-- RESET_DEVICE (R773): Write of 1 to 1003h:01 causes a device reset. -/
  | resetDevice (r : Req)
  /-- POWER_ON_RESET (R768): VIN rises above the start threshold and start-up step 1 charges the hold-up store. `mv` is VIN in mV. -/
  | powerOnReset (mv : Nat)
  /-- START_STEP_2 (R768): Once the store is charged or a reset ends, start-up steps 2 to 9 run. RECOVER as sampled; what the start-up marches find in banks that do not simply pass; the first failing comparator step of pairs that fail (lane and bit). -/
  | startStep2 (recover : Bool) (marches : List (BankId × MarchOutcome)) (comp : List (PairId × Nat × Nat))
  /-- START_STEP_10 (R771): No earlier than 20 ms after step 2 the key is read and RUN or STOP entered. -/
  | startStep10
  /-- RESET_N_LOW (R776): RESET_N low for 8 consecutive watchdog ticks causes a device reset. How many consecutive watchdog ticks sampled it low. -/
  | resetNLow (ticks : Nat)
  /-- VIN_HIGH (R759): VIN above 18 V for 1 ms is recorded. -/
  | vinHigh (mv ms : Nat)
  /-- REGISTER_WRITE (R11): A write to a register without a row of its own, under its access code. `ev` holds the bits that the hardware sets (W1C) or clears (W1S) in the same cycle (R13, R14). -/
  | registerWrite (m : Master) (addr : Word) (size : BitVec 2) (v : Word) (ev : Word)
  /-- CAN_RECEIVE_ERROR (R509): A stuff, form, CRC or bit error is detected on the bus while the controller is not transmitting, raising REC, setting LEC and possibly moving the controller to ERROR_PASSIVE with code 6001h. `lec` is an error code of R533. -/
  | canReceiveError (c : Fin 2) (lec : BitVec 3)
  /-- INTLK_HELD (R177): INTLK is pulled low by the partner or the carrier, asserting event line 184 and ending this unit's wait to claim it. -/
  | intlkHeld
  /-- PTP_TRANSMIT_INTERVAL (R480): The message interval of the selected profile elapses, and the module sends its periodic Sync, Announce or peer-delay request messages as master or peer-to-peer port. -/
  | ptpTransmitInterval (pt : Fin 4)
  deriving DecidableEq, Repr

end Sys2Proof
end

