-- ==== Sys2Proof/Decode.lean ====
section
/-! DEFINITION. Commands that a word spells. -/

namespace Sys2Proof

/-- The command that a word spells by the bits of spec/opcode_table.json. No row of the table gives any bits: the commands
of this block are sent by name, so no word spells one. -/
def decodeTableWord (_nbits _w : Nat) : Option Instr := none

end Sys2Proof
end

