-- ==== Sys2Proof/Config.lean ====
section
/-! DEFINITION. What one unit fixes and the spec leaves open: uninterpreted constants without a body. -/

namespace Sys2Proof

/-- What the payload of a twin record says (R353): the directory record (active half, shutdown marker, the records listed, R345,
R788), the boot record (active firmware slot, failed boots, R744), the repair slots of the banks (R332), calibration coefficients
(R451), the registers and accumulators of an energy instance (R443), the persistent entries of an index (R548). -/
inductive RecData where
  | dir (half clean : Bool) (listed : List Nat)
  | boot (active boots : Nat)
  | repair (rows : List (Option Nat × Option Nat))
  | cal (vals : List (Nat × List Byte))
  | energy (saved : List (BitVec 64 × Nat))
  | entry (vals : List (Nat × List Byte))
  deriving DecidableEq, Repr, Inhabited

/-- The keys of a protected connection at one of its ends (R575): key and salt for what it sends and for what it receives. -/
structure Keys where
  mine   : List Byte
  salt   : List Byte
  theirs : List Byte
  saltIn : List Byte
  deriving DecidableEq, Repr, Inhabited

/-- What a tandem COMMAND frame says (R618, R631): its data layout is not given, only what it is for. A request that LEAD
accepted; LEAD's key position with its operating state and halt cause (R91); an edit passed over TL, TRAIL's readiness for
it, the tandem cycle of its switch instant, its cancelling, its refusal (R304); link keys and sequence numbers of the punty link (R621); a firmware restart
(R750); REJOIN for the partner (R625); the tandem cycle at which a joining TRAIL is IN_STEP (R629). -/
inductive TlCmd where
  | request (i : Instr)
  | key (pos : BitVec 2) (st cause : Nat)
  | ready
  | armed (cycle : Word)
  | cancel
  | drop
  | edit (c : List Byte)
  | punty (tx rx : Word) (keys : Option Keys)
  | restart
  | rejoin
  | join (cycle : Word)
  deriving DecidableEq, Repr, Inhabited

end Sys2Proof

namespace Sys2Proof.Config

/-- The data bytes of a COMMAND frame. -/
opaque tlEncode : TlCmd → List Byte
/-- What the data bytes of a COMMAND frame say. -/
opaque tlDecode : List Byte → TlCmd

/-- The payload bytes of a twin record, whose layout is not given (R353). -/
opaque recPayload : RecData → List Byte
/-- Where copy A of a twin record stands in its region, in words (R353). -/
opaque recPlace : Nat → Nat
/-- How far copy B of a twin record stands above the end of copy A's header, in words (R353). -/
opaque recGap : Nat → Nat
/-- The check word of a copy whose CRC does not match (R353). -/
opaque brokenCrc : List Byte → Word
/-- A 32-bit value the spec does not give, the `n`th one drawn (R790, R4, R166 after a failed fetch). -/
opaque freeWord : Nat → Word
/-- A choice between two outcomes that the spec leaves open, the `n`th one drawn (R38, R371, R641). -/
opaque freeBool : Nat → Bool
/-- Random bytes of the TRNG, the `n`th draw (R675, R730, R571). -/
opaque freeBytes : Nat → List Byte
/-- The ECDH P-384 shared secret of two ephemeral key pairs, by their public keys (R575). -/
opaque ecdh : List Byte → List Byte → List Byte
/-- AES-256-GCM: key, nonce, additional data and plaintext give the ciphertext with the 16-byte tag after it (R575). -/
opaque gcm : List Byte → List Byte → List Byte → List Byte → List Byte
/-- SHA-384 (R40). -/
opaque sha384 : List Byte → List Byte
/-- ECDSA P-384 verification over SHA-384 of a message: public key, message, signature. -/
opaque ecdsaVerify : List Byte → List Byte → List Byte → Bool
/-- ECDSA P-384 signing of SHA-384 of a message with the device identity key (R730, R754). -/
opaque deviceSign : List Byte → List Byte
/-- Whether a certificate chain verifies against a root key hash, at a time when the time is valid (R576). -/
opaque certChainOk : List Byte → List Byte → Option Nat → Bool
/-- The public key of a certificate. -/
opaque certKey : List Byte → List Byte
/-- The serial number of a certificate. -/
opaque certSerial : List Byte → List Byte
/-- The OTP bits that manufacture writes (R724): root key hash, wrapped key, unit serial, MAC base, trims. -/
opaque otp : BitVec 8192
/-- The firmware container that manufacture puts into firmware slot 1; empty when it puts none there. -/
opaque factoryFw : List Byte
/-- The identity certificate of the unit. -/
opaque identityCert : List Byte
/-- The issuing certificate of the unit. -/
opaque issuingCert : List Byte
/-- How far the watchdog oscillator runs above 950 kHz, in Hz (R671): within 5 % of 1 MHz. -/
opaque wdgHz : Fin 100001
/-- Whether the unit is ordered as SQFJ848-AF (R1). -/
opaque isAF : Bool
/-- The hardware revision of the unit (R786). -/
opaque hwRevision : BitVec 16

/-! ## Numbers of the energy engine: the spec gives the quantity, not how it is rounded (R438–R440, R455) -/

/-- The binary32 word the engine publishes for a quantity. -/
opaque f32 : Rat → Word
/-- What a binary32 word with exponent 255 counts as, where a finite number is due (R425, R450). -/
opaque f32Special : Word → Rat
/-- The square root as the engine computes it. -/
opaque sqrt : Rat → Rat
/-- The fundamental phasor (RMS scale) of a channel's samples over a cycle of the given duration in ns (R438). -/
opaque phasor : List Rat → Rat → Rat × Rat
/-- The duration in ns between positive zero crossings, from the reference channel's samples and the sample interval
in ns (R436). -/
opaque crossing : List Rat → Rat → Rat
/-- A channel's samples delayed by a phase coefficient in ns at a sample interval (R450). -/
opaque delay : Int → Rat → List Rat → List Rat
/-- A cycle's samples resampled to the given number of samples (R452). -/
opaque resample : Nat → List Rat → List Rat
/-- The angle in degrees, as binary32, of one phasor to another (4100h+ch:10). -/
opaque angle : Rat × Rat → Rat × Rat → Word

end Sys2Proof.Config
end

