-- ==== Sys2Proof/Machine/StateCan.lean ====
section
/-! DEFINITION. State of the CAN FD controllers (R504–R537). -/

namespace Sys2Proof.Machine

/-- A message object (R511–R526). `intx` says it is in transmission, `noRetry` that ABORT came meanwhile, `fromWin`
that its request came from its window, `next` a window request to follow the one in transmission, `seqLast` the window's
SEQ last sent, `lostN` entry :0D. -/
structure Mo where
  dlc     : BitVec 4
  txreq   : Bool
  intx    : Bool
  noRetry : Bool
  fromWin : Bool
  next    : Option (BitVec 4 × List Byte)
  newdat  : Bool
  lost    : Bool
  txok    : Bool
  arblost : Bool
  txerr   : Bool
  aborted : Bool
  rxdlc   : BitVec 4
  rxfdf   : Bool
  rxbrs   : Bool
  rxesi   : Bool
  time    : Word
  cnt     : Nat
  lostN   : Nat
  data    : Vector Word 16
  seqLast : Byte
  late    : Option (Nat × Word)
  deriving DecidableEq, Repr

/-- A controller (R504–R510, R529–R533). `recovering` says that the recovery sequence runs; `mdp` holds the data of the MDP frames that wait,
oldest first, and `mdpTx` says that the first of them is in transmission (R513, R582). -/
structure Can where
  st      : Nat
  tec     : Nat
  rxec    : Nat
  lec     : BitVec 3
  woken   : Bool
  tdcerr  : Bool
  busoff  : Bool
  delay   : Nat
  ssp     : Nat
  disc    : Nat
  offN    : Nat
  recovering : Bool
  mdp     : List (List Byte)
  mdpTx   : Bool
  mo      : Vector Mo 128
  deriving DecidableEq, Repr

end Sys2Proof.Machine
end

