-- ==== Sys2Proof/Machine/StateDict.lean ====
section
/-! DEFINITION. State of the dictionary server: entry values, sessions, block transfers (R540–R587). -/

namespace Sys2Proof.Machine

/-- A response of the module (R555, R558): status, and the bytes that follow it. -/
structure MdpResp where
  origin  : Origin
  op      : Byte
  session : Word
  seq     : Word
  enc     : Bool
  status  : Word
  body    : List Byte
  deriving DecidableEq, Repr

/-- An open WRITE_BLOCK transfer (R562–R565): its 16-byte units received so far, by unit number. -/
structure Xfer where
  idx   : Nat
  sub   : Nat
  total : Nat
  units : List (Nat × Option (List Byte))
  at_   : Nat
  deriving DecidableEq, Repr

/-- A session (R571–R579): `keys` are those of an authenticated one (R575); `last` is its last executed request with its sequence number and response;
`dead` names the transfer whose next block is refused with ABORT_TIMEOUT (R565). -/
structure Session where
  id     : Word
  origin : Origin
  auth   : Bool
  role   : Nat
  seq    : Word
  last   : Option Instr
  resp   : Option MdpResp
  at_    : Nat
  xfer   : Option Xfer
  dead   : Option (Nat × Nat)
  keys   : Option Keys
  deriving DecidableEq, Repr

/-- A half-open session (R574, R577): both phase-1 payloads, when phase 1 came, and the keys (R575). -/
structure HalfOpen where
  id     : Word
  origin : Origin
  role   : Nat
  req1   : List Byte
  resp1  : List Byte
  at_    : Nat
  keys   : Keys
  deriving DecidableEq, Repr

/-- Dictionary and MDP server. `vals` holds the entries whose value differs from an unwritten one, by
index × 256 + sub; `gens` their change counts (R561), `seen` the values of live entries when they were last counted; `fails` the instants of authentication failures by transport (R578); `lock` the instant a lock-out
began by transport; `asm_` the CAN assemblies, `usbRx` the bytes of a USB frame that has not ended (R583, R585), and `wire` the units in which
the last response left (R581, R582, R584). -/
structure Dict where
  vals     : List (Nat × Option (List Byte))
  gens     : List (Nat × Nat)
  seen     : List (Nat × List Byte)
  sessions : List Session
  half     : List HalfOpen
  nextId   : Word
  opened   : Nat
  malformed : Nat
  badAuth  : Nat
  fails    : List (Nat × List Nat)
  lock     : List (Nat × Option Nat)
  sent     : Option MdpResp
  asm_     : Vector (Option (Nat × List Byte × Nat)) 2
  usbRx    : List Byte
  wire     : List (List Byte)
  restoreMarked : Bool
  deriving DecidableEq, Repr

end Sys2Proof.Machine
end

