-- ==== Sys2Proof/Machine/StateExec.lean ====
section
/-! DEFINITION. State of the cores: contexts, scheduler, process image, event lines, pair units. -/

namespace Sys2Proof.Machine

/-- Registers of one context (R162, R190). `g` holds g1–g15; g0 has no storage (R197). The control
registers are kept field by field (R192–R194). Stacks hold their newest entry first. -/
structure Regs where
  pc        : Word
  g         : Vector Word 15
  z         : Bool
  n         : Bool
  c         : Bool
  v         : Bool
  l         : Bool
  lstack    : List Bool
  rstack    : List Word
  priv      : Bool
  trapact   : Bool
  coltrap   : Bool
  rstrap    : Bool
  collided  : Bool
  cause     : BitVec 8
  status    : BitVec 8
  prevpriv  : Bool
  trapPaired : Bool
  trapInj   : Bool
  trappc    : Word
  trapinsn  : Word
  trapaddr  : Word
  trapvec   : Word
  trapsave  : Word
  coladdr   : Word
  colcnt    : Nat
  evmask    : BitVec 256
  evpend    : BitVec 256
  staleP    : Bool
  collP     : Bool
  staleM    : Bool
  collM     : Bool
  deriving DecidableEq, Repr

/-- Task kind (R110). -/
inductive Kind where
  | none
  | cyclic
  | event
  | background
  deriving DecidableEq, Repr

/-- Attributes of the task of a context (R54, R110), its pairing action (R256), its entry address and
stack top (R162), and the bound the last admission computed for it (R99). Times in µs, `rt` in ns. -/
structure Task where
  kind     : Kind
  prio     : Nat
  paired   : Bool
  action   : Nat
  evline   : Nat
  period   : Nat
  offset   : Nat
  deadline : Nat
  budget   : Nat
  staging  : Nat
  retained : Nat
  mmaction : Nat
  entry    : Word
  stack    : Word
  rt       : Nat
  deriving DecidableEq, Repr

/-- What a context does (R111); `committing` is a commit in progress at the image engine (R74), by END
when its flag is true; waiting states are those of R182 and R183. -/
inductive Status where
  | idle
  | ready
  | waitEvent
  | waitTime (until_ : Word64)
  | committing (byEnd : Bool)
  | stopped
  deriving DecidableEq, Repr

/-- Scheduling state of one context (R58–R79, R105–R111). `rel` is the release time on the time base and
`relClk` the crystal's count at the gather. `last` is the release time of its last release, `seen` the latest release time of a cyclic task that
was released or skipped (R61). `after` is the state to take once a commit in progress has completed, when the activation
was abandoned or its task stopped meanwhile (R80). `newVer` marks an activation of the new version of an edit, `leaving` one of the version that an ACCEPT or a
revert switch has left (R291, R365). `reloadSkip` counts releases skipped during a reload (R666). `lastPc` is the pc of the instruction retired last; `armFrom` the instant
before which a task of a reloaded core is not released (R666). `stall` holds thousandths of a core cycle of stall that make no whole cycle yet (R69). `restarts` holds the instants of pair restarts (R258); `owed` a mismatch action due at the next dispatch or release (R262). -/
structure Act where
  status    : Status
  demoted   : Bool
  held      : Bool
  everRel   : Bool
  rel       : Word64
  last      : Option Word64
  seen      : Option Word64
  relClk    : Nat
  overran   : Bool
  missed    : Bool
  skipNext  : Bool
  paired    : Bool
  broken    : Bool
  dbgHalt   : Bool
  dbgAt     : Nat
  owed      : Bool
  after     : Option Status
  newVer    : Bool
  leaving   : Bool
  reloadSkip : Nat
  used      : Nat
  stall     : Nat
  maxUsed   : Nat
  actCnt    : Nat
  ovrCnt    : Nat
  missCnt   : Nat
  skipCnt   : Nat
  coalCnt   : Nat
  deferCnt  : Nat
  lastResp  : Nat
  maxResp   : Nat
  fOverrun  : Bool
  fMiss     : Bool
  fSkipped  : Bool
  fDeferred : Bool
  fCoal     : Bool
  restarts  : List Nat
  retiredAt : Nat
  lastPc    : Word
  armFrom   : Nat
  deriving DecidableEq, Repr

/-- A staging entry: output word, mask, value (R133). -/
structure StageEnt where
  word : Nat
  mask : Word
  val  : Word
  deriving DecidableEq, Repr

/-- Image state of one context (R133–R136, R151–R154). `dirty` holds the record-store offsets of the
retained words changed since the last commit (R68). -/
structure ImgCtx where
  gather  : Word
  gaged   : Bool
  staged  : List StageEnt
  used    : Nat
  dirty   : List Nat
  stale   : Bool
  ovf     : Bool
  addrflt : Bool
  owndrop : Bool
  staleW  : Nat
  staleN  : Nat
  deriving DecidableEq, Repr

/-- What a fabric transaction of a context does when its response arrives (R213, R228). -/
inductive TxnOp where
  | load (rd : Reg) (signed : Bool)
  | store
  | aadd (rd : Reg)
  | aswp (rd : Reg)
  | rsst
  | rsld
  deriving DecidableEq, Repr

/-- A fabric transaction in flight (R36). `issued` is the instant of its issue, `ord` its number among the issues of its core
(R312); `sent` is false while a pair unit still holds it (R247). -/
structure Txn where
  op     : TxnOp
  addr   : Word
  size   : BitVec 2
  data   : Word
  priv   : Bool
  insn   : Word
  issued : Nat
  ord    : Nat
  sent   : Bool
  deriving DecidableEq, Repr

/-- The response of a transaction: status (R170) and data. -/
structure Resp where
  status : Nat
  data   : Word
  deriving DecidableEq, Repr

/-- A snapshot of the calendar (R653). -/
structure CalSnap where
  cal0  : Word
  cal1  : Word
  presc : BitVec 15
  deriving DecidableEq, Repr

/-- Fabric port and read latches of one context (R36, R106, R161, R653, R712, R714). `held` is a response
kept for a preempted context, `heldInj` that an injection made it (R718); `lastRead` is the value of the last read of a latching register. -/
structure Port where
  txn      : Option Txn
  held     : Option Resp
  heldInj  : Bool
  injTrap  : Option (BitVec 8)
  injFab   : Option Nat
  relLatch : List (Nat × Option Word)
  tbLatch  : Option Word
  cal      : CalSnap
  doneLatch : Option Word
  oldLatch : Option Word
  lastRead : Word
  deriving DecidableEq, Repr

/-- One of the 64 contexts. `next` is the task that replaces its task at its next release (R291). -/
structure Ctx where
  regs : Regs
  task : Task
  next : Option Task
  act  : Act
  img  : ImgCtx
  port : Port
  deriving DecidableEq, Repr

/-- A set-point change that waits for its instant (R175): requested MHz, whether it was written through the
pair entry, when the write came, and the request that
is still to be answered. -/
structure SpPend where
  mhz   : Nat
  pairw : Bool
  since : Nat
  req   : Req
  deriving DecidableEq, Repr

/-- One application core (R25–R31, R173–R176, R195, R665–R669). `sw` is a switch in progress with its new
set point; `reload` is a reload in progress with its cause (9003h), `reloadAt` when
reloads began, newest first. `powered` is the supply of the island (R31); `issues` numbers its fabric transactions. -/
structure Core where
  clockOn   : Bool
  sw        : Option Nat
  spPend    : Option SpPend
  retired   : Nat
  restarts  : Nat
  dtraps    : Nat
  collided  : Nat
  lowSince  : Option Nat
  lowCnt    : Nat
  lowMax    : Nat
  reload    : Option Nat
  failed    : Bool
  reloads   : Nat
  reloadAt  : List Nat
  wdExpiries : Nat
  lastRetire : Nat
  powered   : Bool
  issues    : Nat
  deriving DecidableEq, Repr

/-- Operating state (R84). -/
inductive OpState where
  | stop
  | run
  | halt
  deriving DecidableEq, Repr

/-- Key and operating state (R83–R91, R108). `debounce` is the crystal count at the last change of a raw key
that is still being debounced; `stopping` the instant RUN was left while activations continue (R88);
`safe` says that field outputs take their safe values; `enter` is the time base at entry to RUN;
`failover` that a mismatch action FAILOVER is to release INTLK (R256). -/
structure Op where
  key       : BitVec 2
  rawA      : Bool
  rawB      : Bool
  debounce  : Option Nat
  st        : OpState
  haltCause : BitVec 8
  stopping  : Option Nat
  safe      : Bool
  enter     : Word64
  enterClk  : Nat
  armed     : Bool
  failover  : Bool
  deriving DecidableEq, Repr

/-- One version of an input word (R125, R126). -/
structure Version where
  epoch : Word
  val   : Word
  aged  : Bool
  deriving DecidableEq, Repr

/-- A split-table entry (Ownership, R143, R144). -/
structure SplitEnt where
  word : Nat
  ctx  : Nat
  mask : Word
  deriving DecidableEq, Repr

/-- A commit at the image engine (R137, R141). `waiting` is the instant since which it waits for journal room (R364). -/
structure Commit where
  ctx     : Gctx
  entries : List StageEnt
  dirty   : List Nat
  newVer  : Bool
  leaving : Bool
  byEnd   : Bool
  waiting : Option Nat
  deriving DecidableEq, Repr

/-- A publication set: its source code (R153), the words and values, and the lines it asserts (R178). -/
structure PubSet where
  src   : Nat
  words : List (Nat × Word)
  lines : List Nat
  deriving DecidableEq, Repr

/-- The process image (R116–R154). `ver` lists the versions of an input word, newest first; `out` the
committed output words; `ownNew`, `splitNew` the ownership of the new version of an edit (R291); `own` the owner of an output word plus 1, 0 for none; `forces` the forced bits by
bit address; `lastPub` the instant of a source's last publication; `heldPub` held data by source. -/
structure Img where
  epoch    : Word
  ver      : List (Nat × List Version)
  out      : List (Nat × Word)
  own      : List (Nat × Nat)
  split    : List SplitEnt
  ownNew   : List (Nat × Nat)
  splitNew : List SplitEnt
  forces   : List (Nat × Option Bool)
  heldPub  : List (Nat × Option PubSet)
  lastPub  : List (Nat × Option Nat)
  commits  : List Commit
  sweep    : Bool
  sweepCnt : Nat
  coalCnt  : Nat
  ownviol  : Bool
  lastSrc  : Nat
  lastSize : Nat
  staleCnt : Nat
  dropCnt  : Nat
  deriving DecidableEq, Repr

/-- What leaves a pair once an item has been compared (R247): `own` is an atomic on the leader's core bank, `trap` the entry of a trap that
both copies raise, ahead of which a mismatch is taken (R254). `badFetch` is no item of the leader: it stands where the checker's copy raises
FETCH on an uncorrectable word of its own bank (R240, R246). -/
inductive Release where
  | none
  | store (addr : Word) (size : BitVec 2) (data : Word)
  | send
  | own
  | trap (insn : Word) (cause status : Nat) (addr : Word)
  | badFetch
  | commit (byEnd : Bool)
  | sev (line : Nat)
  | waitEvent
  | waitTime (until_ : Word64)
  deriving DecidableEq, Repr

/-- An item of the leader that waits for the checker's copy (R246). -/
structure PairItem where
  item : LaneItem
  pc   : Word
  ctx  : Gctx
  rel  : Release
  deriving DecidableEq, Repr

/-- One pair unit (R237–R270). `test` is the result of the last full test; `step` the next background step. -/
structure Pair where
  usable   : Bool
  test     : Nat
  items    : List PairItem
  step     : Nat
  mismatch : Bool
  brokenF  : Bool
  testfail : Bool
  injected : Bool
  mmLane   : Nat
  mmBit    : Nat
  mmCtx    : Nat
  mmPc     : Word
  mmCnt    : Nat
  brkCnt   : Nat
  sweeps   : Nat
  actCnt   : Nat
  deriving DecidableEq, Repr

end Sys2Proof.Machine
end

