-- ==== Sys2Proof/Machine/StateField.lean ====
section
/-! DEFINITION. State of the field channels and of the energy engine (R378–R460). -/

namespace Sys2Proof.Machine

/-- The samples of a condition (R793): whether the latest one shows it, how many consecutive samples have read so, and the first
microsecond of the time base not yet sampled (R380). -/
structure Run where
  shows : Bool
  n     : Nat
  next  : Nat
  deriving DecidableEq, Repr

/-- A running frequency measurement: the time base at its first counted edge, and counted edges since (R407). -/
structure Meas where
  start : Nat
  edges : Nat
  deriving DecidableEq, Repr

/-- A quadrature pair before its last step: the microsecond of that step, the count, CMP, DIR and the measurement (R408). -/
structure QuadPrev where
  at_ : Nat
  cnt : Word
  cmp : Bool
  dir : Bool
  meas : Option Meas
  deriving DecidableEq, Repr

/-- One field channel (R385–R416). `mode` is the mode in effect; `lim` the filter limit in effect; `rd` the
comparator reading, 0 BROKEN, 1 OFF, 2 ON; `changed` the filtered-state changes since the last scan (bit 0
rising, bit 1 falling); `cmp`, `preset`, `entered` what happened since the last scan; `offAt` the crystal count
when thermal shutdown turned the channel off; `brokenAt` when BROKEN was entered; `volSw` are switching operations not
yet folded (R361). `brk`, `lim_`, `opn` and `mis` are the samples of the conditions of R393, R398, R400 and R401; those of `brk` are
also the samples of the filter. `deaf` says that the channel has had no valid frame from the controller for 20 µs (R381). -/
structure FChan where
  mode    : Nat
  lim     : Nat
  acc     : Nat
  flt     : Bool
  rd      : Nat
  broken  : Bool
  ovl     : Bool
  latched : Bool
  openw   : Bool
  ot      : Bool
  rbmm    : Bool
  link    : Bool
  pin     : Bool
  cnt     : Word
  freq    : Word
  freqNew : Word
  nosig   : Bool
  dir     : Bool
  cmp     : Bool
  preset  : Bool
  entered : Bool
  changed : BitVec 2
  edgeT   : Word
  lastEdge : Nat
  meas    : Option Meas
  quad    : Option QuadPrev
  driven  : Bool
  offAt   : Nat
  brokenAt : Nat
  volSw   : Nat
  deaf    : Bool
  brk     : Run
  lim_    : Run
  opn     : Run
  mis     : Run
  dis     : Run
  deriving DecidableEq, Repr

/-- One field group (R382, R383, R415). `vfMean` is VF over the 100 µs before the last scan, in mV; `ocAt` the
instant its off-time began; `oc` the samples of the overcurrent (R793). -/
structure FGroup where
  low    : Bool
  lowAt  : Nat
  lowN   : Nat
  ocAt   : Option Nat
  ocN    : Nat
  vfMean : Nat
  outMa  : Nat
  oc     : Run
  deriving DecidableEq, Repr

/-- The field-channel controller. `scanK` is the index of the last scan instant; `presets` the preset word as last
sampled (R405). -/
structure Field where
  ch      : Vector FChan 32
  grp     : Vector FGroup 4
  scans   : Nat
  scanK   : Option Nat
  presets : Word
  deriving DecidableEq, Repr

/-- An energy register: its reading, and the remainder below 1 LSB (R442). -/
structure EReg where
  val : Word64
  rem : Rat
  deriving DecidableEq, Repr

/-- One pulse source (R446). `start` is the time base at the start of its last pulse; `w` its width in ns; `cut` the
last sampled CLEAR bit (R448). -/
structure Pulse where
  acc     : Nat
  pend    : Nat
  ovf     : Bool
  on      : Bool
  start   : Option Nat
  w       : Nat
  emitted : Nat
  cut     : Bool
  deriving DecidableEq, Repr

/-- What one line cycle gave (R438): its duration in ns, that of the clamped frequency (R437), per channel the mean square and the fundamental phasor,
per element the mean of v × i. -/
structure Cycle where
  len : Rat
  dur : Rat
  ms  : List Rat
  re  : List Rat
  im  : List Rat
  p   : List Rat
  deriving DecidableEq, Repr

/-- One energy instance (R432–R456). `updK` is the index of its last update instant; `foorNow` and `refLost` say
whether the last cycle was clamped or had no reference; `lost` is the instant SRCLOST was set, `wasLost` whether it stood at the end of
the last cycle; `good` complete cycles of valid samples since; `miss` consecutive missing samples; `small` per current channel
the complete cycles, at most 2, within ±50 mV; `added` per register what the last complete cycle added;
`lastCyc` the samples of that cycle; `saved` what the twin record holds: registers and pulse accumulators. -/
structure Inst where
  reg     : Vector EReg 8
  saved   : Vector (Word64 × Nat) 8
  cycles  : List Cycle
  updates : Nat
  updK    : Option Nat
  foor    : Bool
  foorNow : Bool
  noref   : Bool
  refLost : Bool
  subst   : Bool
  svhold  : Bool
  lost    : Option Nat
  wasLost : Bool
  good    : Nat
  miss    : Nat
  lastCnt : Nat
  lastAn  : List Int
  small   : Vector Nat 4
  added   : Vector Rat 8
  ovr     : BitVec 8
  accLost : Bool
  accSusp : Bool
  lastCyc : List Sample
  status  : Word
  chStat  : Vector Word 8
  deriving DecidableEq, Repr

/-- A calibration session (R451): channel, trial path, gain, offset and phase as entered, the instant of the last
command or trial write, whether COMMIT waits for the line-cycle boundary, and the trial quantities. -/
structure CalSess where
  ch     : Fin 8
  path   : Nat
  gain   : Word
  off    : Word
  phase  : Word
  at_    : Nat
  commit : Bool
  rms    : Word
  angle  : Word
  replay : Vector (List Sample) 2
  deriving DecidableEq, Repr

/-- The energy engine. `range16` and `switches` belong to AN4–AN7; `was16` is the path at the end of the last line
cycle; `calValid` that committed coefficients are loaded (R454); `recAt` the last record write (R443). -/
structure Energy where
  inst     : Vector Inst 2
  pulse    : Vector Pulse 16
  range16  : Vector Bool 4
  was16    : Vector Bool 4
  switches : Vector Word 4
  calValid : Bool
  sess     : Option CalSess
  recAt    : Nat
  deriving DecidableEq, Repr

end Sys2Proof.Machine
end

