-- ==== Sys2Proof/Machine/StateNet.lean ====
section
/-! DEFINITION. State of the network engine (R461–R503). -/

namespace Sys2Proof.Machine

/-- What a frame that the module sends carries; `tag` protects a punty frame (R598), `at_` is when a forwarded frame arrived (R483). -/
inductive TxBody where
  | goose (p : Nat) (stNum sqNum : Word) (tal : Nat) (test : Bool) (words : List Word)
  | supervision (pair : Nat)
  | arpReply (ip peer : Word)
  | icmpReply (ip peer : Word) (data : List Byte)
  | app (iface : Nat) (bytes : List Byte)
  | forwarded (f : EthFrame) (at_ : Nat)
  | ptpPdelayReq
  | ptpPdelayResp (twoStep : Bool)
  | ptpPdelayFollowUp
  | ptpSync (twoStep : Bool)
  | ptpFollowUp
  | ptpAnnounce
  | mdp (r : MdpResp)
  | punty (kind flags src dst : Byte) (cycle seq : Word) (payload tag : List Byte) (ip : Option Word)
  deriving DecidableEq, Repr

/-- A frame in a transmit queue (R466, R467): queue Q0–Q3, VID (none: untagged), sequence number of a pair, body. -/
structure TxFrame where
  q    : Nat
  vid  : Option Nat
  seqnr : Option (BitVec 16)
  body : TxBody
  deriving DecidableEq, Repr

/-- A port (R462–R467). `queue` holds the frames waiting in the order of their arrival; `last` is the frame sent last. -/
structure NetPort where
  up     : Bool
  speed  : Nat
  rx     : Nat
  tx     : Nat
  rxDisc : Nat
  txDisc : Nat
  queue  : List TxFrame
  last   : Option TxFrame
  deriving DecidableEq, Repr

/-- A frame remembered for duplicate discard or for forwarding (R469, R470): source, sequence number, instant. -/
structure Seen where
  src : List Byte
  seq : BitVec 16
  at_ : Nat
  deriving DecidableEq, Repr

/-- A node of the node table (R468): its address and the instant of its last frame. -/
structure NetNode where
  src : List Byte
  at_ : Nat
  deriving DecidableEq, Repr

/-- A pair (R468–R472). `seen` and `fwd` are newest first; `lanAt` the instants of the last frame on LAN A and B; `nodes` the node table,
newest first. -/
structure NetPair where
  seq    : BitVec 16
  dup    : Nat
  fault  : BitVec 2
  fwdN   : Nat
  seen   : List Seen
  fwd    : List Seen
  lanAt  : Vector Nat 2
  lifeAt : Nat
  nodes  : List NetNode
  deriving DecidableEq, Repr

/-- Rings of an interface (R475–R479): dropped receive frames and discarded transmit frames. -/
structure Ring where
  drop : Nat
  disc : Nat
  deriving DecidableEq, Repr

/-- PTP (R480–R486). `good` counts consecutive Sync messages below 100 ns; `annAt` the last Announce of the parent;
`listenAt` the last entry to LISTENING; `passive` the port of a doubly attached clock that is PASSIVE_SLAVE (R482). -/
structure Ptp where
  st     : Nat
  offset : Int
  delay  : Int
  gm     : List Byte
  steps  : Nat
  parent : Option (Fin 4)
  passive : Option (Fin 4)
  good   : Nat
  annAt  : Nat
  listenAt : Nat
  deriving DecidableEq, Repr

/-- A GOOSE subscription (R487–R491). `acc` says that it has a last accepted frame; `until_` its TAL end; `words` its
data window; `pub` what was published last: status and words. -/
structure GooseSub where
  acc      : Bool
  stNum    : Word
  sqNum    : Word
  valid    : Bool
  talexp   : Bool
  needcomm : Bool
  maperr   : Bool
  test     : Bool
  sim      : Bool
  until_   : Nat
  expAt    : Nat
  disc     : Nat
  words    : List Word
  pub      : Option (Word × List Word)
  deriving DecidableEq, Repr

/-- A GOOSE publication (R494–R497). `sent` holds the words last sent; `step` the ladder interval that runs now;
`nextAt` when the next frame is due; `ran` that the state has been RUN since power-on reset or program load. -/
structure GoosePub where
  stNum  : Word
  sqNum  : Word
  sent   : Option (List Word)
  step   : Nat
  nextAt : Option Nat
  ran    : Bool
  deriving DecidableEq, Repr

/-- An SV subscription (R498–R500). -/
structure SvSub where
  valid    : Bool
  lost     : Bool
  needcomm : Bool
  missing  : Bool
  seen     : Bool
  cnt      : Nat
  lastAt   : Nat
  lostAt   : Nat
  acc      : Nat
  miss     : Nat
  words    : List Word
  deriving DecidableEq, Repr

/-- The network engine. -/
structure Net where
  port : Vector NetPort 4
  pair : Vector NetPair 2
  ring : Vector Ring 4
  ptp  : Ptp
  gsub : Vector GooseSub 256
  gpub : Vector GoosePub 64
  sv   : Vector SvSub 16
  deriving DecidableEq, Repr

end Sys2Proof.Machine
end

