-- ==== Sys2Proof/Machine/StatePower.lean ====
section
/-! DEFINITION. State of supply and start-up (R757–R787). -/

namespace Sys2Proof.Machine

/-- Where the module stands between power and operation (R762–R776). -/
inductive Phase where
  | off
  | step1
  | steps
  | step10
  | running
  | recovery
  deriving DecidableEq, Repr

/-- Supply and start-up. `resetPend` is the cause of a device reset that waits for the end of its lehr steps (R370, R777);
`cause` that of the last start and `reached` the start-up step reached before it (R777, R787); `onAt` the instant step 1 or
the device reset began, `startAt` that of step 2; `rose` says that VIN rose above the start threshold during the lehr (R369). -/
structure Pwr where
  phase    : Phase
  pfwLow   : Bool
  cause    : Nat
  reached  : Nat
  resetPend : Option Nat
  rose     : Bool
  onAt     : Nat
  startAt  : Nat
  durUs    : Nat
  stepUs   : List Nat
  deriving DecidableEq, Repr

end Sys2Proof.Machine
end

