-- ==== Sys2Proof/Machine/StateProg.lean ====
section
/-! DEFINITION. State of programs: what is loaded, the edit in work, admission, the program slots. -/

namespace Sys2Proof.Machine

/-- An entry of the RETAINED block (R275): context, CB offset, words. -/
structure RetEnt where
  ctx   : Nat
  off   : Nat
  count : Nat
  deriving DecidableEq, Repr

/-- A read, write, owner, split or resource entry of an IMAGEMAP block (R794). -/
structure ImapRead where
  ctx   : Nat
  first : Nat
  count : Nat
  deriving DecidableEq, Repr

/-- A write or split entry: word, context, mask. -/
structure ImapMask where
  ctx  : Nat
  word : Nat
  mask : Word
  deriving DecidableEq, Repr

/-- An owner or resource entry: word or code, and context. -/
structure ImapOwn where
  word : Nat
  ctx  : Nat
  deriving DecidableEq, Repr

/-- The image map of a program version (R794). -/
structure Imap where
  reads  : List ImapRead
  writes : List ImapMask
  owners : List ImapOwn
  splits : List ImapMask
  res    : List ImapOwn
  deriving DecidableEq, Repr

/-- An application object (R551). -/
structure AppObj where
  idx     : Nat
  sub     : Nat
  ty      : Nat
  access  : Nat
  role    : Nat
  persist : Bool
  inOut   : Bool
  size    : Nat
  loc     : Nat
  dflt    : List Byte
  deriving DecidableEq, Repr

/-- A MIGRATION entry (R293, R294). -/
structure MigEnt where
  newOff : Nat
  oldOff : Nat
  count  : Nat
  op     : Nat
  deriving DecidableEq, Repr

/-- The edit in work (R296): its state code, its container, what its version holds, the ready time, the switch
instant Ts, the instant of the automatic ACCEPT (R299), the affected contexts (`tasks` gives their new attributes, `old` what they had before the switch), and whether the retained layout changes. `migrate` lists the
contexts whose retained words are still to be migrated; `trail` that TRAIL's readiness is awaited since (R304). -/
structure Edit where
  st       : Nat
  image    : List Byte
  tasks    : List (Nat × Option Task)
  old      : List (Nat × Option Task)
  ret      : List RetEnt
  imap     : Imap
  objs     : List AppObj
  mig      : List MigEnt
  hash     : List Byte
  progid   : Word
  progver  : Word
  ts       : Word64
  acceptAt : Nat
  affected : List Nat
  layout   : Bool
  migrate  : List Nat
  migWords : Nat
  trail    : Option Nat
  req      : Option Req
  deriving DecidableEq, Repr

/-- A program slot of the image store: the base container and the accepted edits, oldest first (R280). -/
structure Slot where
  base  : Option (List Byte)
  edits : List (List Byte)
  deriving DecidableEq, Repr

/-- The last admission (R113, 2002h): result, context, condition, bound, limit. -/
structure Admission where
  result : Nat
  ctx    : Nat
  cond   : Nat
  bound  : Nat
  limit  : Nat
  deriving DecidableEq, Repr

/-- The version that an ACCEPT or a revert switch has left while activations of it may still run (R291, R298, R300): its retained layout and
half, its ownership, the edit, whether COPY entries apply in reverse (`back`), and the contexts whose retained words are still to be
migrated. -/
structure Leave where
  ret     : List RetEnt
  half    : Bool
  own     : List (Nat × Nat)
  split   : List SplitEnt
  edit    : Edit
  back    : Bool
  migrate : List Nat
  deriving DecidableEq, Repr

/-- Programs (R273–R307). `leave` is the version left last by an edit. `upper` says that the upper half of the core banks holds the version in force; `waitLoad` is a
load that waits for the end of a march (R329); `storeFault` what the image store does at the load asked for (R278, R284): the number of
blocks after which it gives a wrong one; `lostEdit` state code and layout change of an edit that a restart cut off
(R302). -/
structure Prog where
  loaded   : Bool
  active   : Nat
  hash     : List Byte
  progid   : Word
  progver  : Word
  refStep  : Nat
  editable : Bool
  upper    : Bool
  ret      : List RetEnt
  imap     : Imap
  objs     : List AppObj
  edit     : Edit
  leave    : Option Leave
  adm      : Admission
  slots    : Vector Slot 2
  waitLoad : Option (Req × Nat × Option Nat)
  storeFault : Option Nat
  lostEdit : Option (Nat × Bool)
  deriving DecidableEq, Repr

end Sys2Proof.Machine
end

