-- ==== Sys2Proof/Machine/StateSec.lean ====
section
/-! DEFINITION. State of trust, update and attestation (R724–R756). -/

namespace Sys2Proof.Machine

/-- A firmware slot (R741): state code of B010h+s:01, header values, and the container it holds. -/
structure FwSlot where
  st       : Nat
  version  : Word
  rollback : Nat
  hash     : List Byte
  dictfmt  : Nat
  image    : Option (List Byte)
  deriving DecidableEq, Repr

/-- A parison (R734–R738): state code of B030h+t:02, the 16-byte units received by unit number (the header is units
0 to 31), whether the header has passed, and for an ARMED one its activation boundary. -/
structure Parison where
  st       : Nat
  units    : List (Nat × Option (List Byte))
  passed   : Bool
  boundary : Nat
  deriving DecidableEq, Repr

/-- Trust and update. `active` is the firmware slot in force (1 or 2), `boots` the consecutive failed boots, `atReset` a
firmware parison that becomes active at the next reset, `hot` the step of a gaffer restart in progress with its mode
(R748) and the instant it began, `serving` when the firmware in force began serving (R741), `recovery` the last recovery
cause. -/
structure Sec where
  fw       : Vector FwSlot 2
  active   : Nat
  boots    : Nat
  dictFmt  : Nat
  par      : Vector Parison 3
  atReset  : Bool
  hot      : Option (Nat × Nat)
  serving  : Option Nat
  quote    : List Byte
  recovery : Nat
  deriving DecidableEq, Repr

end Sys2Proof.Machine
end

