-- ==== Sys2Proof/Machine/StateStore.lean ====
section
/-! DEFINITION. State of the memory banks and of the record-store controller. -/

namespace Sys2Proof.Machine

/-- A march in progress (R327, R331): algorithm (`true` destructive), whether it is the start-up march, and whether it was
begun again after a repair. -/
structure March where
  destructive : Bool
  startup     : Bool
  repaired    : Bool
  deriving DecidableEq, Repr

/-- An owner write that the bank holds for one cycle (R317). -/
structure OwnerWrite where
  addr : Word
  size : BitVec 2
  data : Word
  deriving DecidableEq, Repr

/-- The shared-port access that a core bank served in the bank cycle of instant `clk` (R313): who made it, and the word and its error
mark as they were before that cycle. An instruction of the owner at the same instant meets it. -/
structure SharedAccess where
  clk    : Nat
  pos    : Nat
  acc    : PortAccess
  addr   : Word
  old    : Word
  oldErr : Nat
  deriving DecidableEq, Repr

/-- What a master other than an application core keeps of its fabric accesses (R37, R315): its error register, which holds the last
error status, and the word it read last. -/
structure BusPort where
  err  : Nat
  data : Word
  deriving DecidableEq, Repr

/-- One bank (R308–R336). `rep0`, `rep1` are its repair slots; `scrub` the word its scrubber reads next;
`wb` the words whose corrected write-back is due (R320); `last` the ring position granted last (R311); `sh` the shared-port access
of the present bank cycle on a core bank (R313). -/
structure Bank where
  coll    : Bool
  ce      : Bool
  ue      : Bool
  mfail   : Bool
  failed  : Bool
  march   : Option March
  rep0    : Option Nat
  rep1    : Option Nat
  lastPos : Nat
  colAddr : Word
  colCnt  : Nat
  ceCnt   : Nat
  ueCnt   : Nat
  eccAddr : Word
  atomCnt : Nat
  alg     : Nat
  result  : Nat
  cause   : Nat
  mfailW  : Word
  scrub   : Nat
  passes  : Nat
  wb      : List Nat
  heldW   : Option OwnerWrite
  last    : Nat
  sh      : Option SharedAccess
  deriving DecidableEq, Repr

/-- A page buffer (R346–R349, R372–R375); `prog` holds START and LEN of a program that waits or runs. -/
structure PageBuf where
  page    : Word
  start   : Nat
  len     : Nat
  data    : Vector Word 16
  prog    : Option (Nat × Nat)
  done    : Bool
  refused : Bool
  cause   : Nat
  deriving DecidableEq, Repr

/-- One copy of a twin record (R353): its header's ID, LEN and SEQ, what its payload says, whether its CRC matches and whether its LEN
fits its slot. -/
structure Copy where
  id    : Nat
  len   : Nat
  seq   : Word
  data  : RecData
  crcOk : Bool
  fits  : Bool
  deriving DecidableEq, Repr

/-- A twin record (R353): copies A and B, where something has been written. -/
structure Twin where
  a : Option Copy
  b : Option Copy
  deriving DecidableEq, Repr

/-- Where the lehr stands (R367): none, steps 1 and 2, step 4, ended. -/
inductive Lehr where
  | none
  | step2
  | step4
  | done
  deriving DecidableEq, Repr

/-- Record-store controller and lehr (R340–R377). `queue` is the journal, record-store offset and value,
oldest first (R363); `run` the journal grants in a row and `ring` the position last granted to the others
(R344); `twins` the copies of the twin records by region × 65,536 + record ID, `listed` the records that the directory lists, `clean` its
shutdown marker (R788); `secVol` the
sector writes not yet folded; `opAt` the crystal count at the last fold of the operating time (R361);
`granted` the master that holds the controller: 0–7 a core, 8 the gaffer, 9 the journal; `lehrInj` that an injection began
the lehr. -/
structure Nv where
  inRecall : Bool
  lehr     : Lehr
  t0       : Nat
  qAtT0    : Nat
  abandoned : Nat
  powerFail : Bool
  suspect  : Bool
  half     : Bool
  ue       : Bool
  qwait    : Bool
  qhigh    : Nat
  ceCnt    : Nat
  ueCnt    : Nat
  eccAddr  : Word
  drained  : Nat
  waitCnt  : Nat
  queue    : List (Nat × Word)
  run      : Nat
  ring     : Nat
  granted  : Option Nat
  lehrInj  : Bool
  pb       : Vector PageBuf 8
  twins    : List (Nat × Twin)
  listed   : List Nat
  clean    : Bool
  lastClean : Bool
  recallUs : Nat
  conflicts : Nat
  lostTwins : Nat
  secVol   : List (Nat × Nat)
  opAt     : Nat
  deriving DecidableEq, Repr

end Sys2Proof.Machine
end

