-- ==== Sys2Proof/Machine/StateSup.lean ====
section
/-! DEFINITION. State of supervision: device watchdog, check-in unit, engine recovery (R662–R698). -/

namespace Sys2Proof.Machine

/-- A check-in interval (R681–R685): number, expected mask, tally, counts by context. -/
structure Interval where
  num     : Nat
  exp     : BitVec 64
  tally   : Word
  counts  : List (Nat × Nat)
  excused : Bool
  deriving DecidableEq, Repr

/-- Recovery state of an engine (R662, R663): the ladder step of the command in trouble (0 none), and the
instants of its restarts; `at_` is the instant of its last timeout. -/
structure EngineSup where
  step     : Nat
  restarts : List Nat
  at_      : Nat
  deriving DecidableEq, Repr

/-- Supervision. `tc`, `to_` are the window in force in ms and `next` new values that wait for the next accepted
service (R676); `once` is the single window of R678; `winAt` the crystal count at its start; `qTally` the tally
a read of WDG_Q latched, `lexp` the tally that the gaffer expects of the interval closed last and `qExp` that of the question (R687); `expCfg` the mask the gaffer wrote last (R684); `closedExc` the intervals that closed
EXCUSED; `due` the contexts whose check-in fault action is due (R688); `selfAt` the last expiry of the gaffer
self-watchdog; `restarting` that the gaffer restarts; `evidence` what the watchdog captured (R690);
`selfRec` that its next start owes code 9024h (R678); `gpc` the gaffer's pc as last shown. -/
structure Sup where
  on       : Bool
  tc       : Nat
  to_      : Nat
  next     : Option (Nat × Nat)
  once     : Bool
  winAt    : Nat
  errcnt   : Nat
  question : Word
  qTally   : Word
  lexp     : Word
  qExp     : Word
  servedAt : Word64
  selfAt   : Option Nat
  selfRec  : Bool
  restarting : Bool
  cur      : Interval
  closing  : Option Interval
  ltally   : Word
  lcounts  : List (Nat × Nat)
  lexcused : Bool
  lfault   : Bool
  injected : Bool
  expCfg   : BitVec 64
  closedExc : List Nat
  miss     : BitVec 64
  extra    : BitVec 64
  late     : BitVec 64
  missN    : List (Nat × Nat)
  extraN   : List (Nat × Nat)
  lateN    : List (Nat × Nat)
  progN    : List (Nat × Nat)
  due      : List Gctx
  evidence : Option (List Byte)
  gpc      : Word
  engine   : Vector EngineSup 3
  deriving DecidableEq, Repr

end Sys2Proof.Machine
end

