-- ==== Sys2Proof/Machine/StateTdm.lean ====
section
/-! DEFINITION. State of the hierarchy and of the tandem (R588–R638). -/

namespace Sys2Proof.Machine

/-- A protected link of a LARGE configuration (R597, R598): `phase` is the handshake phase reached, 0 with none in work;
`tx` and `rx` the sequence numbers last used and last accepted, `old` the end of the key overlap and the last number
accepted under the old keys, `at_` when the link opened, `cert` the certificate of the other side, `keys` and `oldKeys` the keys
(R597). -/
structure PLink where
  open_ : Bool
  phase : Nat
  tx    : Word
  rx    : Word
  old   : Option (Nat × Word)
  at_   : Nat
  req1  : List Byte
  resp1 : List Byte
  cert  : List Byte
  keys  : Option Keys
  oldKeys : Option Keys
  deriving DecidableEq, Repr

/-- A worker as the manager sees it (R591, R599, R602). `slotK` is the cycle of its last slot; `due` is the cycle of an exchange not yet decided; `lostUpd`
the exchanges lost since the last system update; `iso` that the last DOWN carried ISOLATED; `nonce` the nonce of an
outstanding quote request; `attested` that R599 was passed on the present link; `bound` the boundary cycle of the last
replacement of its expected digest (R603). -/
structure Worker where
  st        : Nat
  hbAt      : Nat
  digest    : List Byte
  delivered : Nat
  lost      : Nat
  lostUpd   : Nat
  slotK     : Option Nat
  due       : Option Word
  iso       : Bool
  nonce     : Option (List Byte)
  quote     : List Byte
  quoteAt   : Nat
  attested  : Bool
  bound     : Option Word
  link      : PLink
  deriving DecidableEq, Repr

/-- The hierarchy agent. `cycle` is the index of the current cycle; `own` the worker's link state (R593): 0 NO_MANAGER,
1 JOINING, 2 ACTIVE, 3 ISOLATED; `staged` the state of 7002h:04; `armed` the entries of an ARMED set: index, subindex,
type, value; `boundary` its activation boundary. -/
structure Hier where
  cycle     : Option Nat
  workers   : List (Nat × Worker)
  own       : Nat
  lastDown  : Option Word
  downAt    : Nat
  delivered : Nat
  hbAt      : Nat
  malformed : Nat
  badProt   : Nat
  seqOut    : List (Nat × Nat)
  link      : PLink
  staged    : Nat
  armed     : List (Nat × Nat × Nat × List Byte)
  boundary  : Nat
  deriving DecidableEq, Repr

/-- A tandem frame that the module sends (R630, R631). -/
structure TlFrame where
  type    : Nat
  tcycle  : Nat
  seq     : Word
  payload : List Byte
  deriving DecidableEq, Repr

/-- A release that LEAD forwarded (R615): context, gather epoch, LEAD's release time. -/
structure Fwd where
  ctx   : Nat
  epoch : Word
  time  : Word64
  deriving DecidableEq, Repr

/-- The numbers of a NETSEQ frame (R621, R631). -/
structure NetSeq where
  iface   : Nat
  service : Nat
  seq     : Word
  stNum   : Word
  sqNum   : Word
  crc     : Word
  deriving DecidableEq, Repr

/-- What a COPY frame carries (R629 step 3, R631): its region codes and layouts are not given, only what is copied. `cells` are bytes that changed after `memory` was copied. `edit` carries the programs'
state with the active slot and an edit in work, how long it is until the edit's automatic ACCEPT, and the versions in force (R305). -/
inductive TlCopy where
  | input (epoch : Word) (ver : List (Nat × List Version))
  | output (out : List (Nat × Word))
  | forces (f : List (Nat × Option Bool))
  | memory (cells : List Host.Cell)
  | cells (cells : List Host.Cell)
  | energy (inst : Vector Inst 2) (pulse : Vector Pulse 16)
  | counters (seq : Vector (BitVec 16) 2) (goose : List (Word × Word))
  | edit (p : Prog) (left : Nat) (tasks : List (Task × Option Task)) (own ownNew : List (Nat × Nat)) (split splitNew : List SplitEnt)
  | network (vals : List (Nat × List Byte))
  | punty (link : PLink) (workers : List (Nat × PLink))
  deriving DecidableEq, Repr, Inhabited

/-- The tandem agent (R608–R632). `st` is 7200h:05. `holds` says that this unit holds INTLK, `busy` that another pulls
it low, `freeAt` since when it is free. `ownCrc` and `peerCrc` are the CRCs of CHECK by cycle, `crcRun` consecutive
mismatches, `lastCheck` the cycle that TRAIL checked last. `cmds` are commands with the cycle at which they apply (R618). `dis` are the channels that disagree now,
`inBits` and `outBits` those of words 02F1h and 02F2h. `pend` is a field scan of LEAD that waits for SCAN. `joinStep`
is the join step in work with the instant the join began. `waiting` marks contexts whose read waits (R616). `leadKey` and `leadSt` are the key position and operating state of LEAD as last told with the cause of a HALT, `ready` that the partner is ready
for the edit in work (R304). `healthAt` is when HEALTH was last sent; `aReq` and `aResp` are the payloads of AUTH phase 1, `keys` the
keys of TL after step 1 of joining (R629), `wire` the bytes of the frame sent last (R630). `copied` is what LEAD has copied to the joining unit: what
differs from it is marked; `joinCyc` the tandem cycle that LEAD named for the end of the join (R629). -/
structure Tdm where
  st        : Nat
  holds     : Bool
  busy      : Bool
  freeAt    : Nat
  presIn    : Bool
  health    : Word
  pHealth   : Word
  pHealthAt : Option Nat
  cycle     : Nat
  cycleAt   : Nat
  switches  : Nat
  swAt      : Option Nat
  inDis     : Nat
  disc      : Nat
  readWaits : Nat
  differ    : Nat
  ownCrc    : List (Nat × Word)
  peerCrc   : List (Nat × Word)
  crcRun    : Nat
  lastEpoch : Word
  lastCheck : Option Nat
  cmds      : List (Nat × Instr)
  dis       : Word
  inBits    : Word
  outBits   : Word
  pend      : Option PubSet
  joinStep  : Nat
  joinAt    : Nat
  outAt     : Nat
  authed    : Nat
  tx        : List TlFrame
  txSeq     : Word
  rxSeq     : Option Word
  rel       : List Fwd
  lines     : List (Nat × Word64)
  netseq    : List NetSeq
  waitTx    : List (Nat × TxFrame)
  waiting   : BitVec 64
  leadKey   : BitVec 2
  leadSt    : Nat
  leadHc    : Nat
  ready     : Bool
  healthAt  : Nat
  aReq      : List Byte
  aResp     : List Byte
  keys      : Option Keys
  wire      : List Byte
  copied    : Option (List TlCopy)
  joinCyc   : Option Word
  deriving DecidableEq, Repr

end Sys2Proof.Machine
end

