-- ==== Sys2Proof/Machine/StateTime.lean ====
section
/-! DEFINITION. State of the time base, the RTC domain, the recorder and the injection logic. -/

namespace Sys2Proof.Machine

/-- A time-base match unit (R647, R658, R659). -/
structure TmUnit where
  value : Word64
  per   : Word
  armed : Bool
  hit   : Bool
  skip  : Nat
  deriving DecidableEq, Repr

/-- The calendar (R651). -/
structure Cal where
  sec   : Nat
  min   : Nat
  hour  : Nat
  wday  : Nat
  day   : Nat
  month : Nat
  year  : Nat
  deriving DecidableEq, Repr

/-- The RTC domain (R648–R655). `base` is the crystal count at which the prescaler last was 0; `load` is the
pending SEC of a calendar load with the instant of its write; `mainMv` and `vbakMv` are the two supplies. -/
structure Rtc where
  cal     : Cal
  base    : Nat
  stg0    : Word
  stg1    : Word
  load    : Option (Nat × Nat)
  valid   : Bool
  onBak   : Bool
  mode    : Bool
  stampV  : Bool
  swcnt   : Nat
  stamp   : Word
  mainMv  : Nat
  vbakMv  : Nat
  deriving DecidableEq, Repr

/-- The time base (R639–R647, R789). `holdover` is the instant holdover began, `srcAt` the last change of
source, `ppsAt` the last PPS_IN edge, `slew` the correction still to be slewed in ns, `rate` the corrected rate
against the crystal in 10^-9 and `frac` what it has gathered in 10^-9 ns, `ppsHigh` the instant
PPS_OUT rose while it is high, `resyncAt` the last resync. -/
structure Time where
  tb       : Word64
  valid    : Bool
  holdover : Option Nat
  srcAt    : Nat
  ppsAt    : Nat
  slew     : Int
  rate     : Int
  frac     : Int
  steps    : Nat
  ppsHigh  : Option Nat
  resyncAt : Nat
  tm       : Vector TmUnit 8
  rtc      : Rtc
  deriving DecidableEq, Repr

/-- A queued record (R700). -/
structure Rec where
  code : BitVec 16
  src  : Byte
  inj  : Bool
  p1   : Word
  p2   : Word
  p3   : Word
  time : Word64
  op   : Nat
  supp : Nat
  deriving DecidableEq, Repr

/-- A rate-limit bucket (R709, R710): tokens missing to its burst, since when, and suppressed occurrences not
yet carried. -/
structure Bucket where
  missing : Nat
  since   : Nat
  pend    : Nat
  deriving DecidableEq, Repr

/-- The recorder (R699–R713); the record index is spread-counter slot 2. `lostNew` counts the events lost since the last A004h. -/
structure Rcd where
  busy    : Bool
  queue   : List Rec
  torn    : Nat
  supp    : Nat
  lost    : Nat
  lostNew : Nat
  buckets : List (Nat × Bucket)
  deriving DecidableEq, Repr

/-- An injection detector (R714, R715): state 0 idle, 1 pending, 2 held, the target and value taken at the
command, and the number of injections. -/
structure Det where
  st  : Nat
  a   : Word
  b   : Word
  cnt : Nat
  deriving DecidableEq, Repr

end Sys2Proof.Machine
end

