-- ==== Sys2Proof/Machine/Blank.lean ====
section
/-! DEFINITION. Reset values of the parts of the state: those of the register tables, 0 or empty where a rule gives
none (log entries 1, 3, 4, 5, 6). -/

namespace Sys2Proof.Machine

/-- Registers of a context of core `n` at power-on reset (R190, R192): CSTAT 0000_000Ch, TRAPVEC the base of the own
core bank. -/
def Regs.blank (n : Nat) : Regs :=
  { pc := 0, g := Vector.replicate 15 0, z := false, n := false, c := false, v := false, l := false
    lstack := [], rstack := [], priv := false, trapact := false, coltrap := true, rstrap := true, collided := false
    cause := 0, status := 0, prevpriv := false, trapPaired := false, trapInj := false
    trappc := 0, trapinsn := 0, trapaddr := 0, trapvec := BitVec.ofNat 32 (n * 0x80000), trapsave := 0
    coladdr := 0, colcnt := 0, evmask := 0, evpend := 0, staleP := false, collP := false, staleM := false, collM := false }

/-- No task (R110). -/
def Task.blank : Task :=
  { kind := .none, prio := 0, paired := false, action := 0, evline := 0, period := 0, offset := 0, deadline := 0
    budget := 0, staging := 0, retained := 0, mmaction := 0, entry := 0, stack := 0, rt := 0 }

/-- An idle context with every count 0 (R105). -/
def Act.blank : Act :=
  { status := .idle, demoted := false, held := false, everRel := false, rel := 0, last := none, seen := none, relClk := 0, overran := false
    missed := false, skipNext := false, paired := false, broken := false, dbgHalt := false, dbgAt := 0, owed := false, after := none
    newVer := false, leaving := false, reloadSkip := 0, used := 0, stall := 0, maxUsed := 0, actCnt := 0, ovrCnt := 0, missCnt := 0, skipCnt := 0
    coalCnt := 0, deferCnt := 0, lastResp := 0, maxResp := 0, fOverrun := false, fMiss := false, fSkipped := false
    fDeferred := false, fCoal := false, restarts := [], retiredAt := 0, lastPc := 0, armFrom := 0 }

/-- Nothing staged. -/
def ImgCtx.blank : ImgCtx :=
  { gather := 0, gaged := false, staged := [], used := 0, dirty := [], stale := false, ovf := false, addrflt := false
    owndrop := false, staleW := 0, staleN := 0 }

/-- No transaction in flight. -/
def Port.blank : Port :=
  { txn := none, held := none, heldInj := false, injTrap := none, injFab := none, relLatch := [], tbLatch := none, cal := ⟨0, 0, 0⟩
    doneLatch := none, oldLatch := none, lastRead := 0 }

/-- A context of core `n` at power-on reset. -/
def Ctx.blank (n : Nat) : Ctx :=
  { regs := .blank n, task := .blank, next := none, act := .blank, img := .blank, port := .blank }

/-- A core at power-on reset. -/
def Core.blank : Core :=
  { clockOn := false, sw := none, spPend := none, retired := 0, restarts := 0, dtraps := 0, collided := 0, lowSince := none
    lowCnt := 0, lowMax := 0, reload := none, failed := false, reloads := 0, reloadAt := [], wdExpiries := 0, lastRetire := 0
    powered := false, issues := 0 }

/-- STOP with both key contacts open (R83, R90). -/
def Op.blank : Op :=
  { key := 0, rawA := false, rawB := false, debounce := none, st := .stop, haltCause := 0, stopping := none, safe := true
    enter := 0, enterClk := 0, armed := false, failover := false }

/-- The image at power-on reset (R120, R125). -/
def Img.blank : Img :=
  { epoch := 0, ver := [], out := [], own := [], split := [], ownNew := [], splitNew := [], forces := [], heldPub := []
    lastPub := [], commits := [], sweep := false, sweepCnt := 0, coalCnt := 0, ownviol := false, lastSrc := 0, lastSize := 0
    staleCnt := 0, dropCnt := 0 }

/-- A pair unit at power-on reset: its test has not run. -/
def Pair.blank : Pair :=
  { usable := false, test := 2, items := [], step := 0, mismatch := false, brokenF := false, testfail := false
    injected := false, mmLane := 0, mmBit := 0, mmCtx := 0, mmPc := 0, mmCnt := 0, brkCnt := 0, sweeps := 0, actCnt := 0 }

/-- A bank at power-on reset. -/
def Bank.blank : Bank :=
  { coll := false, ce := false, ue := false, mfail := false, failed := false, march := none, rep0 := none, rep1 := none
    lastPos := 0, colAddr := 0, colCnt := 0, ceCnt := 0, ueCnt := 0, eccAddr := 0, atomCnt := 0, alg := 0, result := 0
    cause := 0, mfailW := 0, scrub := 0, passes := 0, wb := [], heldW := none, sh := none, last := 15 }

/-- A page buffer at power-on reset. -/
def PageBuf.blank : PageBuf :=
  { page := 0, start := 0, len := 0, data := Vector.replicate 16 0, prog := none, done := false, refused := false, cause := 0 }

/-- The directory record as manufacture leaves it (R788): the first write of a twin record goes to copy A with SEQ 1 (R356), half A is
active, the marker is not clean (log entry 6), nothing is listed. -/
def Twin.made : Twin := ⟨some ⟨0, (Config.recPayload (.dir false false [])).length, 1, .dir false false [], true, true⟩, none⟩

/-- The record-store controller at power-on reset: recall has not completed (NVC_STATUS 0000_0001h, R372). -/
def Nv.blank : Nv :=
  { inRecall := true, lehr := .none, t0 := 0, qAtT0 := 0, abandoned := 0, powerFail := false, suspect := false, half := false
    ue := false, qwait := false, qhigh := 0, ceCnt := 0, ueCnt := 0, eccAddr := 0, drained := 0, waitCnt := 0, queue := []
    run := 0, ring := 0, granted := none, lehrInj := false, pb := Vector.replicate 8 .blank, twins := [(0, .made)], listed := [], clean := false, lastClean := false, recallUs := 0
    conflicts := 0, lostTwins := 0, secVol := [], opAt := 0 }

/-- No edit in work (R296). -/
def Edit.blank : Edit :=
  { st := 0, image := [], tasks := [], old := [], ret := [], imap := ⟨[], [], [], [], []⟩, objs := [], mig := [], hash := [], progid := 0
    progver := 0, ts := 0, acceptAt := 0, affected := [], layout := false, migrate := [], migWords := 0
    trail := none, req := none }

/-- No program loaded; both slots empty (log entry 6). -/
def Prog.blank : Prog :=
  { loaded := false, active := 0, hash := List.replicate 48 0, progid := 0, progver := 0, refStep := 0, editable := false
    upper := false, ret := [], imap := ⟨[], [], [], [], []⟩, objs := [], edit := .blank, leave := none, adm := ⟨2, 0, 0, 0, 0⟩
    slots := Vector.replicate 2 ⟨none, []⟩, waitLoad := none, storeFault := none, lostEdit := none }

/-- The dictionary store: no entry written, no session. -/
def Dict.blank : Dict :=
  { vals := [], gens := [], seen := [], sessions := [], half := [], nextId := 0, opened := 0, malformed := 0, badAuth := 0, fails := []
    lock := [], sent := none, asm_ := Vector.replicate 2 none, usbRx := [], wire := [], restoreMarked := false }

/-- A match unit at power-on reset. -/
def TmUnit.blank : TmUnit := { value := 0, per := 0, armed := false, hit := false, skip := 0 }

/-- The RTC domain of a unit that never ran (log entry 5). -/
def Rtc.blank : Rtc :=
  { cal := ⟨0, 0, 0, 0, 0, 0, 0⟩, base := 0, stg0 := 0, stg1 := 0, load := none, valid := false, onBak := false, mode := false
    stampV := false, swcnt := 0, stamp := 0, mainMv := 0, vbakMv := 0 }

/-- The time base before it is seeded. -/
def Time.blank : Time :=
  { tb := 0, valid := false, holdover := none, srcAt := 0, ppsAt := 0, slew := 0, rate := 0, frac := 0, steps := 0, ppsHigh := none, resyncAt := 0
    tm := Vector.replicate 8 .blank, rtc := .blank }

/-- The recorder at power-on reset (REC_STATUS 0000_0001h, R712). -/
def Rcd.blank : Rcd :=
  { busy := true, queue := [], torn := 0, supp := 0, lost := 0, lostNew := 0, buckets := [] }

/-- An interval that expects nothing. -/
def Interval.blank : Interval := { num := 0, exp := 0, tally := 0, counts := [], excused := false }

/-- Supervision at power-on reset: the watchdog is off (R670). -/
def Sup.blank : Sup :=
  { on := false, tc := 0, to_ := 0, next := none, once := false, winAt := 0, errcnt := 0, question := 0, qTally := 0, lexp := 0, qExp := 0
    servedAt := 0, selfAt := none, selfRec := false, restarting := false, cur := .blank, closing := none, ltally := 0
    lcounts := [], lexcused := false, lfault := false, injected := false, expCfg := 0, closedExc := [], miss := 0, extra := 0
    late := 0, missN := [], extraN := [], lateN := [], progN := [], due := [], evidence := none, gpc := 0
    engine := Vector.replicate 3 ⟨0, [], 0⟩ }

/-- Start-up step 1 (R768): PFW_N is driven low (R765). -/
def Pwr.blank : Pwr :=
  { phase := .step1, pfwLow := true, cause := 0, reached := 0, resetPend := none, rose := false, onAt := 0, startAt := 0
    durUs := 0, stepUs := List.replicate 10 0 }

/-- No sample yet. -/
def Run.blank : Run := ⟨false, 0, 0⟩

/-- A field channel at power-on reset. -/
def FChan.blank : FChan :=
  { mode := 0, lim := 0, acc := 0, flt := false, rd := 1, broken := false, ovl := false, latched := false, openw := false
    ot := false, rbmm := false, link := false, pin := false, cnt := 0, freq := 0, freqNew := 0, nosig := false, dir := false
    cmp := false, preset := false, entered := false, changed := 0, edgeT := 0, lastEdge := 0, meas := none, quad := none
    driven := false, offAt := 0, brokenAt := 0, volSw := 0, deaf := false, brk := .blank, lim_ := .blank, opn := .blank, mis := .blank
    dis := .blank }

/-- The field-channel controller at power-on reset. -/
def Field.blank : Field :=
  { ch := Vector.replicate 32 .blank
    grp := Vector.replicate 4 { low := false, lowAt := 0, lowN := 0, ocAt := none, ocN := 0, vfMean := 0, outMa := 0, oc := .blank }
    scans := 0, scanK := none, presets := 0 }

/-- An energy instance at power-on reset. -/
def Inst.blank : Inst :=
  { reg := Vector.replicate 8 ⟨0, 0⟩, saved := Vector.replicate 8 (0, 0), cycles := [], updates := 0, updK := none
    foor := false, foorNow := false, noref := false, refLost := false, subst := false, svhold := false, lost := none
    wasLost := false, good := 0, miss := 0, lastCnt := 0, lastAn := [], small := Vector.replicate 4 0, added := Vector.replicate 8 0, ovr := 0
    accLost := false, accSusp := false, lastCyc := [], status := 0, chStat := Vector.replicate 8 0 }

/-- The energy engine at power-on reset: every channel on its ×1 path (R428). -/
def Energy.blank : Energy :=
  { inst := Vector.replicate 2 .blank
    pulse := Vector.replicate 16 { acc := 0, pend := 0, ovf := false, on := false, start := none, w := 0, emitted := 0, cut := false }
    range16 := Vector.replicate 4 false, was16 := Vector.replicate 4 false, switches := Vector.replicate 4 0
    calValid := false, sess := none, recAt := 0 }

/-- The network engine at power-on reset: every link down. -/
def Net.blank : Net :=
  { port := Vector.replicate 4 { up := false, speed := 0, rx := 0, tx := 0, rxDisc := 0, txDisc := 0, queue := [], last := none }
    pair := Vector.replicate 2 { seq := 0, dup := 0, fault := 0, fwdN := 0, seen := [], fwd := [], lanAt := Vector.replicate 2 0, lifeAt := 0, nodes := [] }
    ring := Vector.replicate 4 ⟨0, 0⟩
    ptp := { st := 0, offset := 0, delay := 0, gm := List.replicate 8 0, steps := 0, parent := none, passive := none, good := 0, annAt := 0, listenAt := 0 }
    gsub := Vector.replicate 256 { acc := false, stNum := 0, sqNum := 0, valid := false, talexp := false, needcomm := false
                                   maperr := false, test := false, sim := false, until_ := 0, expAt := 0, disc := 0, words := [], pub := none }
    gpub := Vector.replicate 64 { stNum := 0, sqNum := 0, sent := none, step := 0, nextAt := none, ran := false }
    sv := Vector.replicate 16 { valid := false, lost := false, needcomm := false, missing := false, seen := false, cnt := 0
                                lastAt := 0, lostAt := 0, acc := 0, miss := 0, words := [] } }

/-- A message object at power-on reset. -/
def Mo.blank : Mo :=
  { dlc := 0, txreq := false, intx := false, noRetry := false, fromWin := false, next := none, newdat := false, lost := false
    txok := false, arblost := false, txerr := false, aborted := false, rxdlc := 0, rxfdf := false, rxbrs := false, rxesi := false
    time := 0, cnt := 0, lostN := 0, late := none, data := Vector.replicate 16 0, seqLast := 0 }

/-- A CAN controller at power-on reset: OFF (R509). -/
def Can.blank : Can :=
  { st := 0, tec := 0, rxec := 0, lec := 0, woken := false, tdcerr := false, busoff := false, delay := 0, ssp := 0, disc := 0
    offN := 0, recovering := false, mdp := [], mdpTx := false, mo := Vector.replicate 128 .blank }

/-- A protected link that is not open. -/
def PLink.blank : PLink := { open_ := false, phase := 0, tx := 0, rx := 0, old := none, at_ := 0, req1 := [], resp1 := [], cert := [], keys := none, oldKeys := none }

/-- A worker as the manager sees it before it is enabled. -/
def Worker.blank : Worker :=
  { st := 0, hbAt := 0, digest := List.replicate 48 0, delivered := 0, lost := 0, lostUpd := 0, slotK := none, due := none, iso := false
    nonce := none, quote := [], quoteAt := 0, attested := false, bound := none, link := .blank }

/-- The hierarchy agent at power-on reset. -/
def Hier.blank : Hier :=
  { cycle := none, workers := [], own := 0, lastDown := none, downAt := 0, delivered := 0, hbAt := 0, malformed := 0
    badProt := 0, seqOut := [], link := .blank, staged := 0, armed := [], boundary := 0 }

/-- The tandem agent at power-on reset: SINGLE, INTLK free. -/
def Tdm.blank : Tdm :=
  { st := 0, holds := false, busy := false, freeAt := 0, presIn := false, health := 0, pHealth := 0, pHealthAt := none
    cycle := 0, cycleAt := 0, switches := 0, swAt := none, inDis := 0, disc := 0, readWaits := 0, differ := 0, ownCrc := []
    peerCrc := [], crcRun := 0, lastEpoch := 0, lastCheck := none, cmds := [], dis := 0, inBits := 0, outBits := 0, pend := none, joinStep := 0
    joinAt := 0, outAt := 0, authed := 0, tx := [], txSeq := 0, rxSeq := none, rel := [], lines := [], netseq := [], waitTx := []
    waiting := 0, leadKey := 0, leadSt := 0, leadHc := 0, ready := false, healthAt := 0, aReq := [], aResp := [], keys := none, wire := [], copied := none
    joinCyc := none }

/-- A firmware slot that holds nothing (log entry 6). -/
def FwSlot.blank : FwSlot := { st := 0, version := 0, rollback := 0, hash := List.replicate 48 0, dictfmt := 0, image := none }

/-- A hash field filled up with zeros. -/
def padTo48 (b : List Byte) : List Byte := b ++ List.replicate (48 - b.length) 0

/-- Firmware slot 1 as the unit leaves the factory: CONFIRMED with what `Config.factoryFw` holds, empty when that is
empty (log entry 6). -/
def FwSlot.factory : FwSlot :=
  { st := if Config.factoryFw = [] then 0 else 2, version := BitVec.ofNat 32 (leNat ((Config.factoryFw.drop 12).take 4))
    rollback := leNat ((Config.factoryFw.drop 16).take 2), hash := padTo48 ((Config.factoryFw.drop 32).take 48)
    dictfmt := leNat ((Config.factoryFw.drop 18).take 2), image := if Config.factoryFw = [] then none else some Config.factoryFw }

/-- Trust and update state of a unit that has received no firmware parison (log entry 6). -/
def Sec.blank : Sec :=
  { fw := Vector.ofFn fun (k : Fin 2) => if k.val = 0 then FwSlot.factory else FwSlot.blank, active := 1, boots := 0, dictFmt := FwSlot.factory.dictfmt
    par := Vector.replicate 3 { st := 0, units := [], passed := false, boundary := 0 }, atReset := false, hot := none
    serving := none, quote := List.replicate 320 0, recovery := 0 }

/-- `n` bytes of ones at byte offset `a` of the OTP. -/
def otpMask (a n : Nat) : BitVec 8192 := BitVec.ofNat 8192 ((2 ^ (8 * n) - 1) * 2 ^ (8 * a))

/-- The OTP as manufacture leaves it (R724): what is written there comes from the unit; the product code is given, the
owner slots, both rollback counters and the reserved tail are unset. -/
def otpMade : BitVec 8192 :=
  (Config.otp &&& (otpMask 0 48 ||| otpMask 0x160 0x7A ||| otpMask 0x1DE 0x122)) ||| BitVec.ofNat 8192 (0x848 * 2 ^ (8 * 0x1DA))

end Sys2Proof.Machine
end

