-- ==== Sys2Proof/Machine/Sparse.lean ====
section
/-! DEFINITION. Sparse maps: lists of key and value, keys strictly rising, no entry equal to what an
unlisted key reads as. Memory and the wide tables of the block are held in this one canonical form. -/

namespace Sys2Proof.Machine

/-- The value at key `i`; `d` is what an unlisted key reads as. -/
def sget {α : Type} (d : α) : List (Nat × α) → Nat → α
  | [], _ => d
  | (k, v) :: r, i => if i = k then v else if i < k then d else sget d r i

/-- Writes `v` at key `i`; writing what an unlisted key reads as removes the entry. -/
def sset {α : Type} [DecidableEq α] (d : α) : List (Nat × α) → Nat → α → List (Nat × α)
  | [], i, v => if v = d then [] else [(i, v)]
  | (k, w) :: r, i, v =>
    if i < k then (if v = d then (k, w) :: r else (i, v) :: (k, w) :: r)
    else if i = k then (if v = d then r else (i, v) :: r)
    else (k, w) :: sset d r i v

/-- Every key of the list lies above `lo`, keys rise strictly, and no entry holds `d`. -/
def swfFrom {α : Type} [DecidableEq α] (d : α) : Nat → List (Nat × α) → Bool
  | _, [] => true
  | lo, (k, v) :: r => decide (lo ≤ k) && decide (v ≠ d) && swfFrom d (k + 1) r

/-- The canonical form of a sparse map. -/
def swf {α : Type} [DecidableEq α] (d : α) (m : List (Nat × α)) : Bool := swfFrom d 0 m

end Sys2Proof.Machine
end

