-- ==== Sys2Proof/Machine/State.lean ====
section
/-! DEFINITION. The state of the block, its reset, and the names of its stops. -/

namespace Sys2Proof.Machine

/-- The state of the module. `pending` holds the commands that wait, oldest first; `clk` counts nanoseconds
of the crystal and never runs backward; `freeCtr` numbers the free values drawn (the model's own); `mem` is
the memory over the fabric address map (R45), an unlisted byte reads 0; `errs` marks words by address / 4
that hold a single (1) or an uncorrectable (2) error (R320, R342); `bus` holds the fabric ports of the masters other than the application cores by ring position
(R311, R315); byte k of the OTP is bits 8k + 7 to 8k of `otp`. -/
structure State where
  pending : List Instr
  clk     : Nat
  freeCtr : Nat
  mem     : List Host.Cell
  errs    : List (Nat × Nat)
  bank    : Vector Bank 11
  bus     : List (Nat × BusPort)
  nv      : Nv
  ctx     : Vector Ctx 64
  core    : Vector Core 8
  op      : Op
  img     : Img
  evCount : Vector (BitVec 16) 256
  pair    : Vector Pair 4
  prog    : Prog
  dict    : Dict
  time    : Time
  rcd     : Rcd
  inj     : List (Nat × Det)
  sup     : Sup
  pwr     : Pwr
  fld     : Field
  nrg     : Energy
  net     : Net
  can     : Vector Can 2
  hier    : Hier
  tdm     : Tdm
  otp     : BitVec 8192
  sec     : Sec
  deriving DecidableEq, Repr

/-- The machine right after a power-on reset, at start-up step 1, of a unit that never ran: every register at its reset
value (R107, R190, R775), nothing listed in memory, non-volatile content as a log entry names it (3, 5, 6). -/
def State.reset : State :=
  { pending := [], clk := 0, freeCtr := 0, mem := [], errs := []
    bank := Vector.replicate 11 .blank, bus := [], nv := .blank
    ctx := Vector.ofFn fun g => Ctx.blank (g.val / 8)
    core := Vector.replicate 8 .blank, op := .blank, img := .blank, evCount := Vector.replicate 256 0
    pair := Vector.replicate 4 .blank, prog := .blank, dict := .blank, time := .blank, rcd := .blank, inj := []
    sup := .blank, pwr := .blank, fld := .blank, nrg := .blank, net := .blank, can := Vector.replicate 2 .blank
    hier := .blank, tdm := .blank, otp := otpMade, sec := .blank }

/-- Faults that stop the model. The spec has no such stop: every trap, refusal and reset is an effect on the
state. -/
inductive Fault where
  /-- Raised by no meaning; it stands for a command whose row the spec would leave without any effect. Safe. -/
  | noEffect (mnemonic : String)
  deriving DecidableEq, Repr

/-- Refusals of the model. -/
inductive Refusal where
  /-- Raised by an arm of the dispatch whose command has no meaning yet. Safe: no step is claimed. -/
  | notModelled (mnemonic : String)
  deriving DecidableEq, Repr

end Sys2Proof.Machine
end

