-- ==== Sys2Proof/Machine/Ops.lean ====
section
/-! DEFINITION. The named operations that every family uses: bits, memory, registers, counters, entries
kept in the dictionary, free values, records. -/

namespace Sys2Proof.Machine

/-! ## Bits -/

/-- A Boolean as 0 or 1. -/
def b2n (b : Bool) : Nat := if b then 1 else 0

/-- A field of `w` bits at position `p` of a register under assembly: value `v` cut to its width. -/
def fieldAt (v w p : Nat) : Nat := (v % 2 ^ w) * 2 ^ p

/-- The `w` bits of `x` from position `p`. -/
def bitsOf (x p w : Nat) : Nat := x / 2 ^ p % 2 ^ w

/-- Bit `p` of `x`. -/
def bitOf (x p : Nat) : Bool := x / 2 ^ p % 2 == 1

/-- Addition that saturates at `m`. -/
def satAdd (m a b : Nat) : Nat := if a + b ≤ m then a + b else m

/-- Increment that saturates at FFFF_FFFFh. -/
def satInc (a : Nat) : Nat := satAdd 0xFFFFFFFF a 1

/-- `f` on `s` when `b` holds, else `s`. -/
def when_ {α : Type} (b : Bool) (f : α → α) (s : α) : α := if b then f s else s

/-- The list of the numbers below `n` that satisfy `p`. -/
def below (n : Nat) (p : Nat → Bool) : List Nat := (List.range n).filter p

/-! ## Memory (R7, R45) -/

/-- The canonical form of memory: addresses strictly rising, no entry that holds what an unlisted address reads as. -/
def Memory.wf (m : List Host.Cell) : Bool := swf 0 m

/-- The byte at an address. -/
def rdByte (m : List Host.Cell) (a : Nat) : Byte := sget 0 m a

/-- The `n` bytes from `a`, lowest first. -/
def rdBytes (m : List Host.Cell) (a : Nat) : Nat → List Byte
  | 0 => []
  | n + 1 => rdByte m a :: rdBytes m (a + 1) n

/-- Writes bytes from `a` upward. -/
def wrBytes (m : List Host.Cell) (a : Nat) : List Byte → List Host.Cell
  | [] => m
  | b :: bs => wrBytes (sset 0 m a b) (a + 1) bs

/-- The value of the `n` bytes from `a`, little-endian (R7). -/
def rdMem (m : List Host.Cell) (a n : Nat) : Nat := leNat (rdBytes m a n)

/-- Writes the low `n` bytes of `v` from `a` upward, little-endian (R7). -/
def wrMem (m : List Host.Cell) (a n v : Nat) : List Host.Cell := wrBytes m a (leBytes n v)

/-- The word at `a`. -/
def rdWord (m : List Host.Cell) (a : Nat) : Word := BitVec.ofNat 32 (rdMem m a 4)

/-- Base address of bank `b` (R45): CB0–CB7, IB, SB, GB. -/
def bankBase (b : BankId) : Nat :=
  if b.val < 8 then b.val * 0x80000 else if b.val = 8 then 0x01000000 else if b.val = 9 then 0x02000000 else 0x03000000

/-- Size of bank `b` in words (R43, R323). -/
def bankWords (b : BankId) : Nat :=
  if b.val < 8 then 131072 else if b.val = 8 then 163840 else if b.val = 9 then 524288 else 131072

/-- Base address of the core bank of a core. -/
def cbBase (n : Nat) : Nat := n * 0x80000

/-- Base address of SB. -/
def sbBase : Nat := 0x02000000

/-- Base address of the record store. -/
def nvBase : Nat := 0x04000000

/-! ## Parts of the state -/

/-- Context `g`. -/
abbrev State.cx (s : State) (g : Gctx) : Ctx := s.ctx[g]

/-- Updates context `g`. -/
def State.modCx (s : State) (g : Gctx) (f : Ctx → Ctx) : State := { s with ctx := s.ctx.set g (f s.ctx[g]) }

/-- Updates the registers of context `g`. -/
def State.modRegs (s : State) (g : Gctx) (f : Regs → Regs) : State :=
  s.modCx g fun c => { c with regs := f c.regs }

/-- Updates the scheduling state of context `g`. -/
def State.modAct (s : State) (g : Gctx) (f : Act → Act) : State :=
  s.modCx g fun c => { c with act := f c.act }

/-- Updates the image state of context `g`. -/
def State.modImgCtx (s : State) (g : Gctx) (f : ImgCtx → ImgCtx) : State :=
  s.modCx g fun c => { c with img := f c.img }

/-- Updates the fabric port of context `g`. -/
def State.modPort (s : State) (g : Gctx) (f : Port → Port) : State :=
  s.modCx g fun c => { c with port := f c.port }

/-- Updates core `n`. -/
def State.modCore (s : State) (n : CoreId) (f : Core → Core) : State :=
  { s with core := s.core.set n (f s.core[n]) }

/-- Updates pair `p`. -/
def State.modPair (s : State) (p : PairId) (f : Pair → Pair) : State :=
  { s with pair := s.pair.set p (f s.pair[p]) }

/-- Updates bank `b`. -/
def State.modBank (s : State) (b : BankId) (f : Bank → Bank) : State :=
  { s with bank := s.bank.set b (f s.bank[b]) }

/-- Updates the image. -/
def State.modImg (s : State) (f : Img → Img) : State := { s with img := f s.img }

/-- Updates the record-store controller. -/
def State.modNv (s : State) (f : Nv → Nv) : State := { s with nv := f s.nv }

/-- Whether the module has power: after the lehr every island is stopped (R32, R763). -/
def State.on (s : State) : Bool := s.pwr.phase != .off

/-- An operation of an island, which does nothing while the module is off. -/
def whenOn (f : State → State) (s : State) : State := if s.on then f s else s

/-- Updates the operating state. -/
def State.modOp (s : State) (f : Op → Op) : State := { s with op := f s.op }

/-- Updates the dictionary. -/
def State.modDict (s : State) (f : Dict → Dict) : State := { s with dict := f s.dict }

/-- Updates the time base. -/
def State.modTime (s : State) (f : Time → Time) : State := { s with time := f s.time }

/-- The core of a context (R56). -/
def coreOf (g : Gctx) : CoreId := ⟨g.val / 8, by omega⟩

/-- The pair of a core (R237). -/
def pairOfCore (n : CoreId) : PairId := ⟨n.val / 2, by omega⟩

/-- The pair of a context. -/
def pairOf (g : Gctx) : PairId := ⟨g.val / 16, by omega⟩

/-- Context `k` of core `n`. -/
def ctxOf (n : CoreId) (k : Fin 8) : Gctx := ⟨n.val * 8 + k.val, by omega⟩

/-- The checker's context of a paired task (R238). -/
def checkerOf (g : Gctx) : Gctx := if h : g.val % 16 < 8 then ⟨g.val + 8, by omega⟩ else g

/-- The leader's context of a paired task (R238). -/
def leaderOf (g : Gctx) : Gctx := if g.val % 16 < 8 then g else ⟨g.val - 8, by omega⟩

/-- The contexts of a core, in ascending order. -/
def ctxsOf (n : CoreId) : List Gctx := (List.finRange 8).map (ctxOf n)

/-- Every context. -/
def allCtx : List Gctx := List.finRange 64

/-- The free word that the next draw gives. -/
def State.freeWord (s : State) : Word := Config.freeWord s.freeCtr

/-- The free choice that the next draw gives. -/
def State.freeBool (s : State) : Bool := Config.freeBool s.freeCtr

/-- The random bytes that the next draw gives. -/
def State.freeBytes (s : State) : List Byte := Config.freeBytes s.freeCtr

/-- Counts one draw of a free value. -/
def State.draw (s : State) : State := { s with freeCtr := s.freeCtr + 1 }

/-! ## Tandem (R608–R631) -/

/-- The unit does not act as LEAD: a TRAIL that joins, is in step or out of step, or a SOLO unit without INTLK (R610,
R622, R634). A unit that released INTLK for its lehr ends it as what it was (R367, R612). -/
def State.isTrail (s : State) : Bool := decide (3 ≤ s.tdm.st) || (s.tdm.st == 1 && !s.tdm.holds && s.nv.lehr == .none)

/-- The unit is LEAD with a TRAIL that is IN_STEP. -/
def State.leadPaired (s : State) : Bool := s.tdm.st == 2

/-- The unit is a TRAIL that is IN_STEP. -/
def State.inStep (s : State) : Bool := s.tdm.st == 4

/-- The unit runs in step with its partner, as LEAD or as TRAIL. -/
def State.inTandem (s : State) : Bool := s.leadPaired || s.inStep

/-- Updates the tandem agent. -/
def State.modTdm (s : State) (f : Tdm → Tdm) : State := { s with tdm := f s.tdm }

/-- A frame enters the transmit queue of TL (R609, R630). -/
def Tdm.send (t : Tdm) (type : Nat) (payload : List Byte) : Tdm :=
  { t with tx := t.tx ++ [{ type := type, tcycle := t.cycle, seq := t.txSeq, payload := payload }], txSeq := t.txSeq + 1 }

/-- Sends a frame on TL. -/
def State.tlSend (s : State) (type : Nat) (payload : List Byte) : State := s.modTdm fun t => t.send type payload

/-- Sends a COMMAND frame (R618, R631): apply cycle, kind, data. -/
def State.tlCommand (s : State) (cycle kind : Nat) (c : TlCmd) : State :=
  s.tlSend 8 (leBytes 4 cycle ++ leBytes 1 kind ++ Config.tlEncode c)

/-- RELEASE payload (R631): kind, context or line, gather epoch, time. -/
def releasePayload (kind n : Nat) (epoch : Word) (time : Word64) : List Byte :=
  leBytes 1 kind ++ leBytes 1 n ++ leBytes 2 0 ++ leBytes 4 epoch.toNat ++ leBytes 8 time.toNat

/-- What LEAD forwards for a release or a line assertion (R615). -/
def Tdm.forward (t : Tdm) (kind n : Nat) (epoch : Word) (time : Word64) : Tdm :=
  if t.st = 2 then t.send 4 (releasePayload kind n epoch time) else t

/-! ## OTP (R724, R725) -/

/-- Byte `k` of the OTP. -/
def State.otpByte (s : State) (k : Nat) : Byte := s.otp.extractLsb' (8 * k) 8

/-- The `n` bytes of the OTP from `a`. -/
def State.otpBytes (s : State) (a n : Nat) : List Byte := (List.range n).map fun i => s.otpByte (a + i)

/-- The Crailide root key hash. -/
def State.rootHash (s : State) : List Byte := s.otpBytes 0 48

/-- The unit serial. -/
def State.unitSerial (s : State) : List Byte := s.otpBytes 0x1C0 20

/-- The MAC address base. -/
def State.macBase (s : State) : List Byte := s.otpBytes 0x1D4 6

/-- Sets bits of the OTP; no bit ever goes back to 0. -/
def State.burn (s : State) (m : BitVec 8192) : State := { s with otp := s.otp ||| m }

/-- The number of bits that are set among the `n` bits from bit `p`. -/
def State.otpOnes (s : State) (p n : Nat) : Nat := ((List.range n).filter fun i => s.otp.getLsbD (p + i)).length

/-- The firmware rollback counter. -/
def State.fwCounter (s : State) : Nat := s.otpOnes (8 * 0x130) 64

/-- The program rollback counter. -/
def State.progCounter (s : State) : Nat := s.otpOnes (8 * 0x138) 256

/-- The lowest `n` bits from bit `p` as a mask: a counter at `n` has these set. -/
def otpOnesMask (p n : Nat) : BitVec 8192 := BitVec.ofNat 8192 ((2 ^ n - 1) * 2 ^ p)

/-- STATE of owner slot `k`. -/
def State.ownerState (s : State) (k : Nat) : Nat := (s.otpByte (0x60 + 0x40 * k)).toNat

/-- Key hash of owner slot `k`. -/
def State.ownerHash (s : State) (k : Nat) : List Byte := s.otpBytes (0x30 + 0x40 * k) 48

/-! ## Registers of a context (R197) -/

/-- Reads a general register; g0 reads 0. -/
def Regs.get (r : Regs) (i : Reg) : Word := if h : i.val = 0 then 0 else r.g[i.val - 1]

/-- Writes a general register; a write to g0 is discarded. -/
def Regs.put (r : Regs) (i : Reg) (x : Word) : Regs :=
  { r with g := if h : i.val = 0 then r.g else r.g.set (i.val - 1) x }

/-! ## CRC-32C (R675) -/

/-- One bit of the reflected CRC. -/
def crcBit (c : Nat) : Nat := if c % 2 = 1 then (c / 2) ^^^ 0x82F63B78 else c / 2

/-- One byte. -/
def crcByte (c : Nat) (b : Byte) : Nat :=
  crcBit (crcBit (crcBit (crcBit (crcBit (crcBit (crcBit (crcBit (c ^^^ b.toNat))))))))

/-- CRC-32C of bytes: polynomial 1EDC_6F41h, reflected, initial value and final XOR FFFF_FFFFh (R675). -/
def crc32c (bs : List Byte) : Word := BitVec.ofNat 32 (bs.foldl crcByte 0xFFFFFFFF ^^^ 0xFFFFFFFF)

/-- Little-endian bytes of a word. -/
def wordBytes (w : Word) : List Byte := leBytes 4 w.toNat

/-! ## Spread counters (R358–R361) -/

/-- Address of counter slot `k`. -/
def slotAddr (k : Nat) : Nat := nvBase + 0x1000 + k * 0x20

/-- The marker that says an update of a counter is at its commit point. -/
def cvMark : Nat := 0x5A5AC3C3

/-- The value of counter slot `k` (R358). -/
def ctrVal (m : List Host.Cell) (k : Nat) : Nat :=
  let a := slotAddr k
  if rdMem m (a + 16) 4 = cvMark then rdMem m (a + 12) 4 * 2 ^ 32 + rdMem m (a + 8) 4
  else rdMem m (a + 4) 4 * 2 ^ 32 + rdMem m a 4

/-- Reconciles counter slot `k` when its CV is set (R359). -/
def ctrReconcile (m : List Host.Cell) (k : Nat) : List Host.Cell :=
  let a := slotAddr k
  if rdMem m (a + 16) 4 = cvMark then
    wrMem (wrMem (wrMem m a 4 (rdMem m (a + 8) 4)) (a + 4) 4 (rdMem m (a + 12) 4)) (a + 16) 4 0
  else m

/-- Advances counter slot `k` by `d` (R359): one word write, or the five writes through the commit point. -/
def ctrAdd (m : List Host.Cell) (k d : Nat) : List Host.Cell :=
  let m := ctrReconcile m k
  let a := slotAddr k
  let lo := rdMem m a 4 + d
  if lo < 2 ^ 32 then wrMem m a 4 lo
  else
    let cl := lo - 2 ^ 32
    let cm := (rdMem m (a + 4) 4 + 1) % 2 ^ 32
    wrMem (wrMem (wrMem (wrMem (wrMem m (a + 8) 4 cl) (a + 12) 4 cm) a 4 cl) (a + 4) 4 cm) (a + 16) 4 0

/-- Advances counter slot `k` by `d`, in steps of at most 65,535 (R359, R361); `fuel` bounds the steps. -/
def ctrFold (m : List Host.Cell) (k : Nat) : Nat → Nat → List Host.Cell
  | _, 0 => m
  | 0, d => ctrAdd m k d
  | fuel + 1, d => if d ≤ 65535 then ctrAdd m k d else ctrFold (ctrAdd m k 65535) k fuel (d - 65535)

/-- Words that one update of counter slot `k` by `d` writes (R359). -/
def ctrWrites (m : List Host.Cell) (k d : Nat) : Nat := if rdMem m (slotAddr k) 4 + d < 2 ^ 32 then 1 else 6

/-- Words that all steps of an update by `d` write (R359, R361). -/
def ctrFoldWrites (m : List Host.Cell) (k : Nat) : Nat → Nat → Nat
  | _, 0 => 0
  | 0, d => ctrWrites m k d
  | fuel + 1, d =>
    if d ≤ 65535 then ctrWrites m k d else ctrWrites m k 65535 + ctrFoldWrites (ctrAdd m k 65535) k fuel (d - 65535)

/-! ## Values kept in the dictionary -/

/-- Key of an entry in the dictionary store. -/
def dkey (idx sub : Nat) : Nat := idx * 256 + sub

/-- The bytes kept for an entry, if any were written. -/
def State.entry (s : State) (idx sub : Nat) : Option (List Byte) := sget none s.dict.vals (dkey idx sub)

/-- The unsigned value kept for an entry, `d` when none was written. -/
def State.cfg (s : State) (idx sub d : Nat) : Nat :=
  match s.entry idx sub with
  | some bs => leNat bs
  | none => d

/-- The bytes kept for an entry, `d` when none were written. -/
def State.cfgBytes (s : State) (idx sub : Nat) (d : List Byte) : List Byte := (s.entry idx sub).getD d

/-- Keeps bytes for an entry and counts the change (R561). -/
def State.putEntry (s : State) (idx sub : Nat) (bs : List Byte) : State :=
  s.modDict fun d => { d with
    vals := sset none d.vals (dkey idx sub) (some bs)
    gens := sset 0 d.gens (dkey idx sub) ((sget 0 d.gens (dkey idx sub) + 1) % 2 ^ 32) }

/-- Set point of core `n` in MHz (D100h+n:01, R195). -/
def State.setpt (s : State) (n : Nat) : Nat := s.cfg (0xD100 + n) 1 500

/-! ## Records (R699–R711) -/

/-- Codes of severity 4 (R704). -/
def criticalCodes : List Nat :=
  [0x2014, 0x7031, 0x9002, 0x9004, 0x9020, 0x9024, 0xA004, 0xB008, 0xB00C, 0xC002, 0xC004, 0xC007,
   0xC104, 0xC106, 0xC107, 0xD010, 0xD013, 0xD014]

/-- Codes of severity 3 (R704). -/
def errorCodes : List Nat :=
  [0x1004, 0x2010, 0x2011, 0x2013, 0x2041, 0x2051, 0x3003, 0x3010, 0x3012, 0x3013, 0x3016, 0x4001,
   0x4013, 0x4020, 0x4022, 0x5020, 0x5030, 0x7011, 0x7015, 0x7032, 0x7033, 0x7034, 0x7035, 0x9001,
   0x9003, 0x9005, 0x9006, 0x9010, 0x9011, 0x9021, 0x9022, 0xA002, 0xB004, 0xC005, 0xC101, 0xD003]

/-- Codes of severity 2 (R704). -/
def warningCodes : List Nat :=
  [0x1003, 0x1022, 0x1023, 0x2012, 0x2021, 0x2023, 0x2024, 0x2030, 0x2040, 0x2056, 0x2057, 0x3001,
   0x3011, 0x3015, 0x3018, 0x4003, 0x4004, 0x4012, 0x4023, 0x5002, 0x5021, 0x5022, 0x5032, 0x5040,
   0x6001, 0x6004, 0x7014, 0x7022, 0x7036, 0x7037, 0x8002, 0x8003, 0x9012, 0x9023, 0xA003, 0xB002,
   0xC003, 0xC006, 0xD002, 0xD011]

/-- Codes of severity 1 (R704). -/
def noticeCodes : List Nat :=
  [0x1002, 0x1024, 0x2020, 0x2022, 0x2042, 0x2043, 0x2050, 0x2052, 0x2053, 0x2054, 0x2055, 0x3017,
   0x4010, 0x4011, 0x4021, 0x5001, 0x5010, 0x5011, 0x6002, 0x6003, 0x7010, 0x7020, 0x7021, 0x8004,
   0x8005, 0x9025, 0xA010, 0xA011, 0xB003, 0xB005, 0xB006, 0xB007, 0xB009, 0xB00A, 0xB00B, 0xC103,
   0xC105, 0xD001, 0xD012]

/-- Severity of a record code (R704). -/
def severity (code : Nat) : Nat :=
  if criticalCodes.contains code then 4 else if errorCodes.contains code then 3
  else if warningCodes.contains code then 2 else if noticeCodes.contains code then 1 else 0

/-- The limit of a code in A003h:01: burst and refill period (R721). -/
def codeLimit (code : Nat) : List Byte → Option (Nat × Nat)
  | a :: b :: c :: d :: r => if leNat [a, b] = code then some (c.toNat, d.toNat) else codeLimit code r
  | _ => none

/-- Burst of a code; 0 is never suppressed (R709). -/
def State.burst (s : State) (code : Nat) : Nat :=
  match codeLimit code (s.cfgBytes 0xA003 1 []) with
  | some (b, _) => b
  | none => s.cfg 0xA002 1 10

/-- Refill period of a code in ns (R709). -/
def State.refillNs (s : State) (code : Nat) : Nat :=
  (match codeLimit code (s.cfgBytes 0xA003 1 []) with
   | some (_, t) => t
   | none => s.cfg 0xA002 2 1) * 1000000000

/-- A code that no rate limit suppresses (R709). -/
def State.unlimited (s : State) (code : Nat) : Bool := severity code == 4 || s.burst code == 0

/-- The time stamp of a record: the time base, or 0 while the time is not valid (R700). -/
def State.stamp (s : State) : Word64 := if s.time.valid then s.time.tb else 0

/-- The bucket of a code. -/
def State.bucket (s : State) (code : Nat) : Bucket := sget ⟨0, 0, 0⟩ s.rcd.buckets code

/-- The record of an event at this instant (R700, R701). -/
def State.mkRec (s : State) (code src : Nat) (p1 p2 p3 : Nat) (inj : Bool) (supp : Nat) : Rec :=
  { code := BitVec.ofNat 16 code, src := BitVec.ofNat 8 src, inj := inj
    p1 := BitVec.ofNat 32 p1, p2 := BitVec.ofNat 32 p2, p3 := BitVec.ofNat 32 p3
    time := s.stamp, op := ctrVal s.mem 1 % 2 ^ 48, supp := satAdd 255 supp 0 }

/-- The recorder once code `code` has the tokens that its whole refill periods have given it by now (R709); a bucket that becomes full again
reports what is pending (R710). -/
def State.refilled (s : State) (code : Nat) : Rcd :=
  let b := s.bucket code
  let n := min b.missing ((s.clk - b.since) / max 1 (s.refillNs code))
  if n = 0 then s.rcd
  else
    let b' := { b with missing := b.missing - n, since := b.since + n * s.refillNs code }
    if b'.missing = 0 ∧ b.pend ≠ 0 then
      { s.rcd with
        buckets := sset ⟨0, 0, 0⟩ s.rcd.buckets code { b' with pend := 0 }
        queue := s.rcd.queue ++ [s.mkRec 0xA003 0x50 code b.pend 0 false 0] }
    else { s.rcd with buckets := sset ⟨0, 0, 0⟩ s.rcd.buckets code b' }

/-- What the arrival of an event does to the recorder (R708–R710): lost when the queue is full, else judged
by its bucket, with a token gained at this instant added first. -/
def State.judge (s : State) (code src p1 p2 p3 : Nat) (inj : Bool) : Rcd :=
  let r := s.refilled code
  let b := sget ⟨0, 0, 0⟩ r.buckets code
  if 256 ≤ r.queue.length then { r with lost := satInc r.lost, lostNew := r.lostNew + 1 }
  else if s.unlimited code then
    { r with queue := r.queue ++ [s.mkRec code src p1 p2 p3 inj b.pend], buckets := sset ⟨0, 0, 0⟩ r.buckets code { b with pend := 0 } }
  else if b.missing < s.burst code then
    { r with
      queue := r.queue ++ [s.mkRec code src p1 p2 p3 inj b.pend]
      buckets := sset ⟨0, 0, 0⟩ r.buckets code { missing := b.missing + 1, since := if b.missing = 0 then s.clk else b.since, pend := 0 } }
  else { r with supp := satInc r.supp, buckets := sset ⟨0, 0, 0⟩ r.buckets code { b with pend := b.pend + 1 } }

/-- An event reaches the recorder's writer. -/
def State.recInj (s : State) (code src p1 p2 p3 : Nat) (inj : Bool) : State :=
  { s with rcd := s.judge code src p1 p2 p3 inj }

/-- An event that no injection produced reaches the writer. -/
def State.rec_ (s : State) (code src : Nat) (p1 : Nat := 0) (p2 : Nat := 0) (p3 : Nat := 0) : State :=
  s.recInj code src p1 p2 p3 false

/-- A record the gaffer writes itself: it draws no token (R709). -/
def State.recGaffer (s : State) (code src p1 p2 p3 : Nat) : State :=
  { s with rcd := { s.rcd with queue := s.rcd.queue ++ [s.mkRec code src p1 p2 p3 false 0] } }

/-! ## Injection (R714–R719) -/

/-- The state of detector `d`. -/
def State.det (s : State) (d : Nat) : Det := sget ⟨0, 0, 0, 0⟩ s.inj d

/-- Whether detector `d` is pending or held. -/
def State.injOn (s : State) (d : Nat) : Bool := (s.det d).st != 0

/-- Whether detector `d` is pending or held for target `a`. -/
def State.injFor (s : State) (d a : Nat) : Bool := s.injOn d && (s.det d).a.toNat == a

/-- The report of detector `d` has been made: a pending injection ends, a held one stays (R715). -/
def State.injDone (s : State) (d : Nat) : State :=
  { s with inj := if (s.det d).st = 1 then sset ⟨0, 0, 0, 0⟩ s.inj d { s.det d with st := 0 } else s.inj }

/-- Whether any injection is active (R717). -/
def State.injActive (s : State) : Bool := s.inj.any fun p => p.2.st != 0

end Sys2Proof.Machine
end

