-- ==== Sys2Proof/Machine/Abort.lean ====
section
/-! DEFINITION. Refusals of the dictionary server and of the loader (R568). -/

namespace Sys2Proof.Machine

/-- A refusal: status code, D1–D3 (R568). -/
structure Abort where
  code : Nat
  d1   : Nat
  d2   : Nat
  d3   : Nat
  deriving DecidableEq, Repr

/-- ABORT_NOOBJ. -/
def abNoObj (idx sub : Nat) : Abort := ⟨0x80000001, idx, sub, 0⟩
/-- ABORT_ACCESS. -/
def abAccess (code : Nat) : Abort := ⟨0x80000002, code, 0, 0⟩
/-- ABORT_TYPE. -/
def abType (ty : Nat) : Abort := ⟨0x80000003, ty, 0, 0⟩
/-- ABORT_LEN. -/
def abLen (n : Nat) : Abort := ⟨0x80000004, n, 0, 0⟩
/-- ABORT_RANGE. -/
def abRange : Abort := ⟨0x80000005, 0, 0, 0⟩
/-- ABORT_RANGE by admission: condition and global context. -/
def abAdmission (cond ctx : Nat) : Abort := ⟨0x80000005, cond, ctx, 0⟩
/-- ABORT_STATE: key code and operating state code (R94). -/
def abState (s : State) : Abort := ⟨0x80000006, s.op.key.toNat, (match s.op.st with | .stop => 0 | .run => 1 | .halt => 2), 0⟩
/-- ABORT_CLAIMED: resource, holder, detail. -/
def abClaimed (res holder detail : Nat) : Abort := ⟨0x80000007, res, holder, detail⟩
/-- ABORT_AUTH: required role, session role. -/
def abAuth (need have_ : Nat) : Abort := ⟨0x80000008, need, have_, 0⟩
/-- ABORT_BUSY. -/
def abBusy : Abort := ⟨0x80000009, 0, 0, 0⟩
/-- ABORT_NVBUSY. -/
def abNvBusy : Abort := ⟨0x8000000A, 0, 0, 0⟩
/-- ABORT_TIMEOUT: the transfer's entry. -/
def abTimeout (key : Nat) : Abort := ⟨0x8000000B, key, 0, 0⟩
/-- ABORT_VERIFY: check step. -/
def abVerify (step : Nat) : Abort := ⟨0x8000000C, step, 0, 0⟩
/-- ABORT_ROLLBACK: offered step, counter. -/
def abRollback (step ctr : Nat) : Abort := ⟨0x8000000D, step, ctr, 0⟩
/-- ABORT_NOTIME. -/
def abNoTime : Abort := ⟨0x8000000E, 0, 0, 0⟩

/-- The refusal of the first of several checks that fails. -/
def firstBad {α : Type} : List (Option α) → Option α
  | [] => none
  | some a :: _ => some a
  | none :: r => firstBad r

/-- A check that refuses with `a` unless `ok` holds. -/
def need {α : Type} (ok : Bool) (a : α) : Option α := if ok then none else some a

end Sys2Proof.Machine
end

