-- ==== Sys2Proof/Machine/Container.lean ====
section
/-! DEFINITION. Image containers read from their bytes: the header of R731 and its checks (R732, R733), firmware
sections (R740), program bodies (R273–R276, R551, R794, migration entries). Reserved fields of a body are ignored (R23, R273). -/

namespace Sys2Proof.Machine

/-! ## Bytes -/

/-- The `n` bytes from offset `o`. -/
def sub_ (b : List Byte) (o n : Nat) : List Byte := (b.drop o).take n

/-- A value padded with zeros to `n` bytes. -/
def padTo (n : Nat) (b : List Byte) : List Byte := (b ++ List.replicate (n - b.length) 0).take n

/-- The unsigned value of the `n` bytes from offset `o`. -/
def num (b : List Byte) (o n : Nat) : Nat := leNat (sub_ b o n)

/-- Whether the `n` bytes from offset `o` are 0. -/
def zeros (b : List Byte) (o n : Nat) : Bool := (sub_ b o n).all (· == 0)

/-! ## Container header (R731) -/

/-- TARGET: 1 FIRMWARE, 2 PROGRAM. -/
def hdrTarget (h : List Byte) : Nat := num h 6 1
/-- KEYSLOT. -/
def hdrKeySlot (h : List Byte) : Nat := num h 7 1
/-- VERSION. -/
def hdrVersion (h : List Byte) : Nat := num h 12 4
/-- ROLLBACK. -/
def hdrRollback (h : List Byte) : Nat := num h 16 2
/-- DICTFMT. -/
def hdrDictFmt (h : List Byte) : Nat := num h 18 2
/-- BODYLEN. -/
def hdrBodyLen (h : List Byte) : Nat := num h 20 4
/-- FLAGS. -/
def hdrFlags (h : List Byte) : Nat := num h 24 4
/-- FLAGS.EDIT. -/
def hdrEdit (h : List Byte) : Bool := bitOf (hdrFlags h) 1
/-- BODYHASH. -/
def hdrHash (h : List Byte) : List Byte := sub_ h 32 48
/-- SIGNERKEY. -/
def hdrSigner (h : List Byte) : List Byte := sub_ h 80 97

/-- Check 1 of R732: fixed fields, ranges, reserved fields. -/
def hdrForm (h : List Byte) : Bool :=
  let t := hdrTarget h
  num h 0 4 == 0x49515153 && num h 4 2 == 1 && num h 8 4 == 0x848
    && (t == 1 || t == 2) && decide (hdrRollback h ≤ (if t = 1 then 64 else 256))
    && (t == 1 || hdrDictFmt h == 0) && decide (hdrFlags h < 4) && (t == 2 || !hdrEdit h)
    && hdrBodyLen h % 16 == 0 && decide (16 ≤ hdrBodyLen h)
    && zeros h 28 4 && zeros h 197 219 && (bitOf (hdrFlags h) 0 || zeros h 177 20)

/-- Check 4 of R732: the signer's key is the key of its slot. -/
def State.hdrKey (s : State) (h : List Byte) : Bool :=
  let k := hdrKeySlot h
  let hash := Config.sha384 (hdrSigner h)
  if hdrTarget h = 1 then k == 0xFF && hash == s.rootHash
  else decide (k < 4) && s.ownerState k == 1 && hash == s.ownerHash k

/-- Check 5 of R732: an image bound to a unit serial is this unit's. -/
def State.hdrSerial (s : State) (h : List Byte) : Bool := !bitOf (hdrFlags h) 0 || sub_ h 177 20 == s.unitSerial

/-- Check 6 of R732: the signature over header bytes 0 to 415. -/
def hdrSig (h : List Byte) : Bool := Config.ecdsaVerify (hdrSigner h) (h.take 416) (sub_ h 416 96)

/-- The rollback counter of a target. -/
def State.counterOf (s : State) (target : Nat) : Nat := if target = 1 then s.fwCounter else s.progCounter

/-- Check 7 of R732. -/
def State.hdrFresh (s : State) (h : List Byte) : Bool := decide (s.counterOf (hdrTarget h) ≤ hdrRollback h)

/-- The refusal of check 7. -/
def State.abOld (s : State) (h : List Byte) : Abort := abRollback (hdrRollback h) (s.counterOf (hdrTarget h))

/-- The body of a container. -/
def bodyOf (c : List Byte) : List Byte := sub_ c 512 (hdrBodyLen c)

/-- What R733 checks each time a container is read from the image store: checks 1, 4, 6 and 7 and the body hash. -/
def State.recheck (s : State) (c : List Byte) : Option Abort :=
  firstBad [need (hdrForm c && s.hdrKey c && hdrSig c) (abVerify 1), need (s.hdrFresh c) (s.abOld c),
    need (Config.sha384 (bodyOf c) == hdrHash c) (abVerify 1)]

/-! ## Firmware body (R740) -/

/-- A firmware section. -/
structure Section_ where
  ty   : Nat
  off  : Nat
  len  : Nat
  load : Nat
  hash : List Byte
  deriving DecidableEq, Repr

/-- Section `k` of a firmware body. -/
def sectionAt (b : List Byte) (k : Nat) : Section_ :=
  let o := 64 * k
  ⟨num b o 1, num b (o + 4) 4, num b (o + 8) 4, num b (o + 12) 4, sub_ b (o + 16) 48⟩

/-- The section of a type. -/
def sectionOf (b : List Byte) (ty : Nat) : Option Section_ := ((List.range 4).map (sectionAt b)).find? (·.ty == ty)

/-- The bytes of a section. -/
def Section_.bytes (x : Section_) (b : List Byte) : List Byte := sub_ b x.off x.len

/-- Whether a section verifies against the section table (R743). -/
def Section_.ok (x : Section_) (b : List Byte) : Bool := decide (x.off + x.len ≤ b.length) && Config.sha384 (x.bytes b) == x.hash

/-- Whether a firmware body has exactly one section of a type, of at most `n` bytes (R740). -/
def oneSection (b : List Byte) (ty n : Nat) : Bool :=
  match ((List.range 4).map (sectionAt b)).filter (·.ty == ty) with
  | [x] => decide (x.len ≤ n)
  | _ => false

/-- Whether a firmware container verifies: R733, the sections of its body, and its GAFFER section (R740, R743). -/
def State.fwVerifies (s : State) (c : List Byte) : Bool :=
  hdrTarget c == 1 && s.recheck c == none && oneSection (bodyOf c) 1 393216 && oneSection (bodyOf c) 2 65536 &&
    (match sectionOf (bodyOf c) 1 with
     | some x => x.ok (bodyOf c)
     | none => false)

/-- The hash of the RUNTIME section of a container (R747, R748). -/
def runtimeHash (c : List Byte) : Option (List Byte) := (sectionOf (bodyOf c) 2).map (·.hash)

/-! ## Program body (R273–R276) -/

/-- A block-table entry (R274). -/
structure Blk where
  ty    : Nat
  core  : Nat
  ctx   : Nat
  flags : Nat
  off   : Nat
  len   : Nat
  data  : Nat
  hash  : List Byte
  deriving DecidableEq, Repr

/-- Entry `k` of the block table. -/
def blkAt (b : List Byte) (k : Nat) : Blk :=
  let o := 128 + 64 * k
  ⟨num b o 1, num b (o + 1) 1, num b (o + 2) 1, num b (o + 3) 1, num b (o + 4) 4, num b (o + 8) 4, num b (o + 12) 4, sub_ b (o + 16) 48⟩

/-- The blocks of a body. -/
def blks (b : List Byte) : List Blk := (List.range (num b 16 2)).map (blkAt b)

/-- The bytes of a block. -/
def Blk.bytes (k : Blk) (b : List Byte) : List Byte := sub_ b k.data k.len

/-- The bytes of the first block of a type. -/
def blockOf (b : List Byte) (ty : Nat) : Option (List Byte) := ((blks b).find? (·.ty == ty)).map (·.bytes b)

/-- A block placed in a core bank. -/
def Blk.placed (k : Blk) : Bool := k.ty == 2 || k.ty == 3

/-- A paired block. -/
def Blk.paired (k : Blk) : Bool := bitOf k.flags 0

/-- The cores in whose banks a block is placed (R274, R279). -/
def Blk.cores (k : Blk) : List Nat := if k.paired then [k.core, k.core + 1] else [k.core]

/-- EDITABLE. -/
def bodyEditable (b : List Byte) : Bool := bitOf (num b 7 1) 0
/-- PROGID. -/
def bodyProgId (b : List Byte) : Word := BitVec.ofNat 32 (num b 8 4)
/-- PROGVER. -/
def bodyProgVer (b : List Byte) : Word := BitVec.ofNat 32 (num b 12 4)
/-- BASEHASH. -/
def bodyBase (b : List Byte) : List Byte := sub_ b 20 48

/-- Consecutive records of `n` bytes. -/
def records (n : Nat) (b : List Byte) : List (List Byte) := (List.range (b.length / n)).map fun i => sub_ b (n * i) n

/-- A task entry (R276): its context and attributes. Addresses are those of the context's core bank. -/
def taskOf (e : List Byte) : Nat × Task :=
  let g := num e 0 1
  let f := num e 3 1
  (g, { kind := (match num e 1 1 with | 1 => .cyclic | 2 => .event | 3 => .background | _ => .none)
        prio := num e 2 1, paired := bitOf f 0, action := bitsOf f 1 2, evline := num e 4 1
        period := num e 8 4, offset := num e 12 4, deadline := num e 16 4, budget := num e 20 4, staging := num e 6 2
        retained := num e 32 2, mmaction := bitsOf f 3 2
        entry := BitVec.ofNat 32 (cbBase (g / 8) + num e 24 4), stack := BitVec.ofNat 32 (cbBase (g / 8) + num e 28 4), rt := 0 })

/-- The tasks of a body, in ascending context order as the analysis takes them. -/
def tasksOf (b : List Byte) : List (Nat × Task) :=
  ((records 40 ((blockOf b 1).getD [])).map taskOf).mergeSort fun x y => decide (x.1 ≤ y.1)

/-- The RETAINED entries (R275). -/
def retOfBody (b : List Byte) : List RetEnt :=
  (records 8 ((blockOf b 4).getD [])).map fun e => ⟨num e 0 1, num e 1 4, num e 5 2⟩

/-- The migration entries. -/
def migOfBody (b : List Byte) : List MigEnt :=
  (records 8 ((blockOf b 7).getD [])).map fun e => ⟨num e 0 2, num e 2 2, num e 4 2, num e 6 1⟩

/-- Whether the counts of an IMAGEMAP block fit its length (R794). -/
def imapFits (b : List Byte) : Bool :=
  decide (16 ≤ b.length) && b.length == 16 + 8 * num b 0 2 + 8 * num b 2 2 + 4 * num b 4 2 + 8 * num b 6 2 + 4 * num b 8 2

/-- The image map of an IMAGEMAP block (R794). -/
def imapOf (b : List Byte) : Imap :=
  let nr := num b 0 2
  let nw := num b 2 2
  let no := num b 4 2
  let ns := num b 6 2
  let o1 := 16 + 8 * nr
  let o2 := o1 + 8 * nw
  let o3 := o2 + 4 * no
  let o4 := o3 + 8 * ns
  { reads := (records 8 (sub_ b 16 (8 * nr))).map fun e => ⟨num e 0 1, num e 2 2, num e 4 2⟩
    writes := (records 8 (sub_ b o1 (8 * nw))).map fun e => ⟨num e 0 1, num e 2 2, BitVec.ofNat 32 (num e 4 4)⟩
    owners := (records 4 (sub_ b o2 (4 * no))).map fun e => ⟨num e 0 2, num e 2 1⟩
    splits := (records 8 (sub_ b o3 (8 * ns))).map fun e => ⟨num e 2 1, num e 0 2, BitVec.ofNat 32 (num e 4 4)⟩
    res := (records 4 (sub_ b o4 (4 * num b 8 2))).map fun e => ⟨num e 0 2, num e 2 1⟩ }

/-- The application objects of a DICT block (R551); `none` when an entry runs past its end. `fuel` bounds the entries. -/
def dictObjs : Nat → List Byte → Option (List AppObj)
  | _, [] => some []
  | 0, _ => none
  | fuel + 1, b =>
    let n := num b 8 2
    let pad := (n + 3) / 4 * 4
    if b.length < 16 + pad then none
    else
      let o : AppObj :=
        { idx := num b 0 2, sub := num b 2 1, ty := num b 3 1, access := num b 4 1, role := num b 5 1
          persist := bitOf (num b 6 1) 0, inOut := bitOf (num b 6 1) 1, size := n, loc := num b 12 4, dflt := sub_ b 16 n }
      (dictObjs fuel (b.drop (16 + pad))).map fun r => o :: r

/-- The application objects of a body. -/
def objsOf (b : List Byte) : Option (List AppObj) := dictObjs 4096 (((blks b).filter (·.ty == 6)).flatMap (·.bytes b))

end Sys2Proof.Machine
end

