-- ==== Sys2Proof/Machine/Crypto.lean ====
section
/-! DEFINITION. Protected messages (R575, R598, R630): key derivation, sealing and tags, and the bytes of MDP, punty and tandem frames,
whose fields are little-endian (R7). -/

namespace Sys2Proof.Machine

/-! ## Key derivation (R575) -/

/-- Bytes with every bit of `m` inverted that is set in the pattern. -/
def xorAll (l : List Byte) (m : Byte) : List Byte := l.map fun b => b ^^^ m

/-- HMAC with SHA-384 (RFC 2104): blocks of 128 bytes; no key here is longer than one. -/
def hmac384 (key msg : List Byte) : List Byte :=
  let k := padTo 128 key
  Config.sha384 (xorAll k 0x5C ++ Config.sha384 (xorAll k 0x36 ++ msg))

/-- The first 72 bytes of HKDF-SHA-384 (RFC 5869): extract with the salt, expand by two blocks. A salt here has 64 bytes. -/
def hkdf72 (salt ikm info : List Byte) : List Byte :=
  let prk := hmac384 salt ikm
  let t1 := hmac384 prk (info ++ [1])
  (t1 ++ hmac384 prk (t1 ++ info ++ [2])).take 72

/-- INFO of an MDP session, of a punty link and of the tandem link (R575, R597, R629). -/
def infoMdp : List Byte := [0x4D, 0x44, 0x50, 0x31]
def infoPunty : List Byte := [0x50, 0x55, 0x4E, 0x54]
def infoTandem : List Byte := [0x54, 0x4C, 0x4E, 0x4B]

/-- Keys from the phase-1 payloads: nonce and public key of the client, and of the module after its STATUS (R574, R575). -/
def deriveKeys (info req1 resp1 : List Byte) (client : Bool) : Keys :=
  let secret := Config.ecdh (sub_ req1 32 97) (sub_ resp1 36 97)
  let b := hkdf72 (sub_ req1 0 32 ++ sub_ resp1 4 32) secret info
  let out := sub_ b 0 32
  let back := sub_ b 32 32
  if client then ⟨out, sub_ b 64 4, back, sub_ b 68 4⟩ else ⟨back, sub_ b 68 4, out, sub_ b 64 4⟩

/-- The nonce of a message (R575): the direction's salt, SEQ, four zero bytes. -/
def gcmNonce (salt : List Byte) (seq : Word) : List Byte := padTo 4 salt ++ wordBytes seq ++ leBytes 4 0

/-- A message as it is sent: ciphertext and tag. -/
def sealed (k : Keys) (seq : Word) (hdr plain : List Byte) : List Byte := Config.gcm k.mine (gcmNonce k.salt seq) hdr plain

/-- The tag that a received message must carry. -/
def tagFor (k : Keys) (seq : Word) (hdr plain : List Byte) : List Byte :=
  let b := Config.gcm k.theirs (gcmNonce k.saltIn seq) hdr plain
  b.drop (b.length - 16)

/-! ## MDP messages (R555, R557, R584) -/

/-- The header of an MDP message; `n` bytes follow it. -/
def mdpHeader (op : Byte) (enc : Bool) (session seq : Word) (n : Nat) : List Byte :=
  [1, op, BitVec.ofNat 8 (b2n enc), 0] ++ wordBytes session ++ wordBytes seq ++ leBytes 2 n ++ leBytes 2 0

/-- The request payload of an operation (R557, R571); commands with a name of their own are sent as WRITE. -/
def mdpPayload : Instr → List Byte
  | .sessionOpen _ mode role phase p => [mode, role, phase, 0] ++ p
  | .read _ i u => leBytes 2 i.toNat ++ [u, 0]
  | .write _ i u ty d => leBytes 2 i.toNat ++ [u, ty] ++ leBytes 2 d.length ++ leBytes 2 0 ++ d
  | .readBlock _ i u o n => leBytes 2 i.toNat ++ [u, 0] ++ leBytes 4 o.toNat ++ leBytes 2 n.toNat ++ leBytes 2 0
  | .writeBlock _ i u o t d =>
    leBytes 2 i.toNat ++ [u, 0] ++ leBytes 4 o.toNat ++ leBytes 4 t.toNat ++ leBytes 2 d.length ++ leBytes 2 0 ++ d
  | .enum _ i u c => leBytes 2 i.toNat ++ [u, c]
  | .abort _ i u => leBytes 2 i.toNat ++ [u, 0]
  | _ => []

/-- Operation code of a request (R557); every other command that has an entry of its own is sent as WRITE. -/
def opCode : Instr → Nat
  | .sessionOpen .. => 1
  | .sessionClose .. => 2
  | .read .. => 3
  | .readBlock .. => 5
  | .writeBlock .. => 6
  | .enum .. => 7
  | .abort .. => 8
  | _ => 4

/-- Whether the tag of a protected request verifies (R575, R577). -/
def verifies (k : Keys) (r : Req) (i : Instr) : Bool :=
  let p := mdpPayload i
  r.tag == tagFor k r.seq (mdpHeader (BitVec.ofNat 8 (opCode i)) true r.session r.seq (p.length + 16)) p

/-- The bytes of a response (R555, R558), protected when it has ENC and keys are known (R575). -/
def MdpResp.bytes (m : MdpResp) (k : Option Keys) : List Byte :=
  let p := wordBytes m.status ++ m.body
  match k, m.enc with
  | some k, true => let h := mdpHeader m.op true m.session m.seq (p.length + 16); h ++ sealed k m.seq h p
  | _, _ => mdpHeader m.op false m.session m.seq p.length ++ p

/-- A message in its USB frame: sync bytes, LENGTH, message, CRC-32C over LENGTH and message (R584). -/
def usbFrame (msg : List Byte) : List Byte :=
  let b := leBytes 2 msg.length ++ msg
  [0xA5, 0x5A] ++ b ++ wordBytes (crc32c b)

/-- The next data length that a CAN FD frame can have (R582). -/
def canLen (n : Nat) : Nat := ([0, 1, 2, 3, 4, 5, 6, 7, 8, 12, 16, 20, 24, 32, 48].find? fun k => decide (n ≤ k)).getD 64

/-- A message in CAN FD frames from segment `seg` on: control byte with FIRST, LAST and SEGNO, up to 63 data bytes, zeros (R582). -/
def canFramesFrom : Nat → Nat → List Byte → List (List Byte)
  | 0, _, _ => []
  | n + 1, seg, l =>
    let last := decide (l.length ≤ 63)
    let d := l.take 63
    padTo (canLen (d.length + 1)) (BitVec.ofNat 8 (128 * b2n (seg == 0) + 64 * b2n last + seg % 64) :: d)
      :: (if last then [] else canFramesFrom n (seg + 1) (l.drop 63))

/-- A message of at most 1056 bytes in CAN FD frames (R582, R583). -/
def canFrames (msg : List Byte) : List (List Byte) := canFramesFrom 17 0 msg

/-- The largest LENGTH of a USB frame (R585). -/
def usbMax : Nat := 1056

/-- What USB bytes leave to be completed: from the next sync pair on, past frames that are discarded for their LENGTH or CRC (R585) and past
whole ones, whose requests come as commands of their own. -/
def usbRest : Nat → List Byte → List Byte
  | 0, l => l
  | n + 1, l =>
    match l with
    | a :: b :: r =>
      if a = 0xA5 ∧ b = 0x5A then
        (let len := leNat (r.take 2)
         if r.length < 2 then l
         else if usbMax < len then usbRest n r
         else if r.length < len + 6 then l
         else if leNat (sub_ r (2 + len) 4) = (crc32c (r.take (2 + len))).toNat then usbRest n (r.drop (len + 6))
         else usbRest n r)
      else usbRest n (b :: r)
    | l => if l = [0xA5] then l else []

/-! ## Punty frames (R595) -/

/-- The header of a punty frame; `n` bytes follow it. -/
def puntyHeader (kind flags src dst : Byte) (cycle seq : Word) (n : Nat) : List Byte :=
  [1, kind, flags, src, dst, 0, 0, 0] ++ wordBytes cycle ++ wordBytes seq ++ leBytes 2 n ++ leBytes 2 0

/-- The tag that a received punty frame of type `kind` must carry (R598). -/
def puntyTag (k : Keys) (kind : Byte) (f : PuntyFrame) : List Byte :=
  tagFor k f.seq (puntyHeader kind f.flags f.src f.dst f.cycle f.seq (f.payload.length + 16)) f.payload

/-! ## Tandem frames (R630) -/

/-- The header of a tandem frame; `n` bytes follow it. -/
def tlHeader (ty : Nat) (enc : Bool) (tcycle seq : Word) (n : Nat) : List Byte :=
  [1, BitVec.ofNat 8 ty, BitVec.ofNat 8 (b2n enc), 0] ++ wordBytes tcycle ++ wordBytes seq ++ leBytes 2 n ++ leBytes 2 0

/-- The keys that protect frames of a type: AUTH carries step 1 of joining and has none (R629, R630). -/
def tlKeys (k : Option Keys) (ty : Nat) : Option Keys := if ty = 0xA then none else k

/-- The check that a received tandem frame must carry: its tag, or before step 1 of joining its CRC-32C (R630). -/
def tlCheck (k : Option Keys) (ty : Nat) (f : TdmFrame) : List Byte :=
  match tlKeys k ty with
  | some k => tagFor k f.seq (tlHeader ty true f.tcycle f.seq (f.payload.length + 16)) f.payload
  | none => wordBytes (crc32c (tlHeader ty false f.tcycle f.seq (f.payload.length + 4) ++ f.payload))

/-- The bytes of a tandem frame that the module sends (R630). -/
def TlFrame.bytes (f : TlFrame) (k : Option Keys) : List Byte :=
  let c : Word := BitVec.ofNat 32 f.tcycle
  match tlKeys k f.type with
  | some k => let h := tlHeader f.type true c f.seq (f.payload.length + 16); h ++ sealed k f.seq h f.payload
  | none => let b := tlHeader f.type false c f.seq (f.payload.length + 4) ++ f.payload; b ++ wordBytes (crc32c b)

end Sys2Proof.Machine
end

