-- ==== Sys2Proof/Machine/DictSpec.lean ====
section
/-! DEFINITION. The object dictionary's entries: address, type, access, role, default, persistence and range of each
(the entry tables of R113–R786), and the lookups over them (R540–R543). -/

namespace Sys2Proof.Machine

/-- The added condition of an entry's right (R545). -/
inductive Cond where
  | none
  | rem
  | stop
  | remStop
  | session
  deriving DecidableEq, Repr

/-- The values an entry's table permits, as unsigned numbers: any, a range, a list, up to a bound or FFh, a VID or FFFFh (log entry 74). -/
inductive Rng where
  | any
  | btw (lo hi : Nat)
  | oneOf (l : List Nat)
  | orFF (hi : Nat)
  | vid
  deriving DecidableEq, Repr

/-- One row of an entry table, for `n` indexes from `idx`: `len` is the exact length, or the greatest one when `fixed` is
false; `acc`, `role`, `pers` are the codes of R544, R547 and R558. -/
structure Ent where
  idx   : Nat
  n     : Nat
  sub   : Nat
  ty    : Nat
  len   : Nat
  fixed : Bool
  acc   : Nat
  cond  : Cond
  role  : Nat
  pers  : Nat
  rng   : Rng
  dflt  : List Byte
  deriving DecidableEq, Repr

/-- Size in bytes of a type of fixed size (R542). -/
def tySize (ty : Nat) : Nat :=
  if ty = 1 ∨ ty = 2 ∨ ty = 6 then 1 else if ty = 3 ∨ ty = 7 then 2
  else if ty = 4 ∨ ty = 8 ∨ ty = 10 then 4 else 8

/-- A row of a type of fixed size. -/
def num_ (idx n sub ty acc : Nat) (cond : Cond) (role pers : Nat) (rng : Rng) (d : Nat) : Ent :=
  ⟨idx, n, sub, ty, tySize ty, true, acc, cond, role, pers, rng, leBytes (tySize ty) d⟩

/-- A row of OCT with a stated length (R543). -/
def oct_ (idx n sub len acc : Nat) (cond : Cond) (role pers : Nat) : Ent :=
  ⟨idx, n, sub, 14, len, true, acc, cond, role, pers, .any, List.replicate len 0⟩

/-- A row of STR, of OCT without a stated length, or of DOMAIN. -/
def var_ (idx n sub ty acc : Nat) (cond : Cond) (role pers : Nat) : Ent :=
  ⟨idx, n, sub, ty, if ty = 13 then 255 else if ty = 14 then 65535 else 0xFFFFFFFF, false, acc, cond, role, pers, .any, []⟩

/-- Numbers as consecutive U16. -/
def u16Bytes (l : List Nat) : List Byte := l.flatMap (leBytes 2)

/-- The entries of R113. -/
def entriesTasks : List Ent := [
  num_ 0x2000 1 0x01 2 1 .none 0 0 (.any) 0,
  num_ 0x2000 1 0x02 2 1 .none 0 0 (.any) 0,
  num_ 0x2000 1 0x03 1 1 .none 0 0 (.any) 0,
  num_ 0x2000 1 0x04 2 1 .none 0 0 (.any) 0,
  num_ 0x2001 1 0x01 2 2 .rem 1 0 (.btw 1 2) 0,
  num_ 0x2002 1 0x01 2 1 .none 0 0 (.any) 2,
  num_ 0x2002 1 0x02 2 1 .none 0 0 (.any) 0,
  num_ 0x2002 1 0x03 2 1 .none 0 0 (.any) 0,
  num_ 0x2002 1 0x04 5 1 .none 0 0 (.any) 0,
  num_ 0x2002 1 0x05 5 1 .none 0 0 (.any) 0,
  num_ 0x2100 64 0x01 2 1 .none 0 2 (.any) 0,
  num_ 0x2100 64 0x02 2 1 .none 0 2 (.any) 0,
  num_ 0x2100 64 0x03 4 1 .none 0 2 (.any) 0,
  num_ 0x2100 64 0x04 4 1 .none 0 2 (.any) 0,
  num_ 0x2100 64 0x05 4 1 .none 0 2 (.any) 0,
  num_ 0x2100 64 0x06 4 1 .none 0 2 (.any) 0,
  num_ 0x2100 64 0x07 2 1 .none 0 2 (.any) 0,
  num_ 0x2100 64 0x08 2 1 .none 0 2 (.any) 0,
  num_ 0x2100 64 0x09 1 1 .none 0 2 (.any) 0,
  num_ 0x2100 64 0x0a 3 1 .none 0 2 (.any) 0,
  num_ 0x2100 64 0x0b 3 1 .none 0 2 (.any) 0,
  num_ 0x2100 64 0x0c 5 1 .none 0 0 (.any) 0,
  num_ 0x2100 64 0x0d 2 1 .none 0 0 (.any) 0,
  num_ 0x2100 64 0x0e 5 1 .none 0 0 (.any) 0,
  num_ 0x2100 64 0x0f 4 1 .none 0 0 (.any) 0,
  num_ 0x2100 64 0x10 4 1 .none 0 0 (.any) 0,
  num_ 0x2100 64 0x11 4 1 .none 0 0 (.any) 0,
  num_ 0x2100 64 0x12 4 1 .none 0 0 (.any) 0,
  num_ 0x2100 64 0x13 4 1 .none 0 0 (.any) 0,
  num_ 0x2100 64 0x14 4 1 .none 0 0 (.any) 0,
  num_ 0x2100 64 0x15 2 2 .rem 1 0 (.oneOf [1]) 0]

/-- The entries of R155. -/
def entriesImage : List Ent := [
  num_ 0x2200 1 0x01 4 1 .none 0 0 (.any) 0,
  num_ 0x2200 1 0x02 4 1 .none 0 0 (.any) 0,
  num_ 0x2200 1 0x03 4 1 .none 0 0 (.any) 0,
  num_ 0x2200 1 0x04 3 1 .none 0 0 (.any) 0,
  num_ 0x2200 1 0x05 4 1 .none 0 0 (.any) 0,
  num_ 0x2210 1 0x01 4 3 .rem 2 0 (.any) 0,
  num_ 0x2210 1 0x02 1 3 .rem 2 0 (.btw 0 1) 0,
  num_ 0x2210 1 0x03 2 2 .rem 2 0 (.btw 1 3) 0,
  var_ 0x2211 1 0x01 15 1 .none 0 0]

/-- The entries of R195. -/
def entriesCores : List Ent := [
  num_ 0xD100 8 0x01 3 5 .none 2 1 (.oneOf [250, 500, 750, 1000]) 500,
  num_ 0xD100 8 0x02 2 1 .none 0 0 (.any) 0,
  num_ 0xD100 8 0x03 5 1 .none 0 0 (.any) 0,
  num_ 0xD100 8 0x04 5 1 .none 0 0 (.any) 0,
  num_ 0xD100 8 0x05 4 1 .none 0 0 (.any) 0,
  num_ 0xD100 8 0x06 4 1 .none 0 0 (.any) 0,
  num_ 0xD108 4 0x01 3 5 .none 2 1 (.oneOf [250, 500, 750, 1000]) 500,
  num_ 0xD110 1 0x01 3 0 .none 0 0 (.any) 256]

/-- The entries of R270. -/
def entriesPairs : List Ent := [
  num_ 0xD120 4 0x01 1 1 .none 0 0 (.any) 0,
  num_ 0xD120 4 0x02 2 1 .none 0 0 (.any) 2,
  num_ 0xD120 4 0x03 4 1 .none 0 0 (.any) 0,
  num_ 0xD120 4 0x04 4 1 .none 0 0 (.any) 0,
  num_ 0xD120 4 0x05 1 5 .none 2 1 (.btw 0 1) 1,
  num_ 0xD120 4 0x06 5 1 .none 0 0 (.any) 0,
  num_ 0xD120 4 0x07 2 2 .stop 2 0 (.oneOf [1]) 0,
  num_ 0xD128 1 0x01 2 5 .none 2 1 (.btw 0 15) 3,
  num_ 0xD140 64 0x01 2 1 .none 0 2 (.any) 0]

/-- The entries of R306. -/
def entriesPrograms : List Ent := [
  num_ 0x2300 1 0x01 2 1 .none 0 1 (.any) 0,
  num_ 0x2300 1 0x02 2 2 .stop 2 0 (.btw 1 2) 0,
  oct_ 0x2300 1 0x03 48 1 .none 0 0,
  num_ 0x2300 1 0x04 5 1 .none 0 0 (.any) 0,
  num_ 0x2300 1 0x05 2 1 .none 0 0 (.any) 0,
  num_ 0x2301 2 0x01 1 1 .none 0 0 (.any) 0,
  num_ 0x2301 2 0x02 5 1 .none 0 0 (.any) 0,
  num_ 0x2301 2 0x03 2 1 .none 0 0 (.any) 0,
  num_ 0x2310 1 0x01 2 2 .rem 2 0 (.btw 1 4) 0,
  num_ 0x2310 1 0x02 2 1 .none 0 0 (.any) 0,
  num_ 0x2310 1 0x03 12 5 .none 2 0 (.any) 0,
  num_ 0x2310 1 0x04 12 1 .none 0 0 (.any) 0,
  num_ 0x2310 1 0x05 3 1 .none 0 0 (.any) 0]

/-- The entries of R337. -/
def entriesBanks : List Ent := [
  num_ 0xC100 11 0x01 2 4 .none 2 1 (.btw 0 2) 2,
  num_ 0xC100 11 0x02 2 1 .none 0 0 (.any) 0,
  num_ 0xC100 11 0x03 4 1 .none 0 0 (.any) 0,
  num_ 0xC100 11 0x04 4 1 .none 0 0 (.any) 0,
  num_ 0xC100 11 0x05 4 1 .none 0 0 (.any) 0,
  num_ 0xC100 11 0x06 3 1 .none 0 1 (.any) 65535,
  num_ 0xC100 11 0x07 3 1 .none 0 1 (.any) 65535,
  num_ 0xC100 11 0x08 2 2 .remStop 2 0 (.btw 1 2) 0,
  num_ 0xC100 11 0x09 2 2 .stop 3 0 (.oneOf [1]) 0,
  num_ 0xC100 11 0x0a 5 1 .none 0 0 (.any) 0]

/-- The entries of R376. -/
def entriesNv : List Ent := [
  num_ 0xC000 1 0x01 1 1 .none 0 0 (.any) 0,
  num_ 0xC000 1 0x02 3 1 .none 0 0 (.any) 0,
  num_ 0xC000 1 0x03 1 1 .none 0 0 (.any) 0,
  num_ 0xC000 1 0x04 1 1 .none 0 0 (.any) 0,
  num_ 0xC000 1 0x05 2 1 .none 0 1 (.any) 0,
  num_ 0xC000 1 0x06 3 1 .none 0 0 (.any) 0,
  num_ 0xC000 1 0x07 4 1 .none 0 0 (.any) 0,
  num_ 0xC000 1 0x08 4 1 .none 0 0 (.any) 0,
  num_ 0xC000 1 0x09 4 1 .none 0 0 (.any) 0,
  num_ 0xC000 1 0x0a 4 1 .none 0 0 (.any) 0,
  num_ 0xC000 1 0x0b 4 1 .none 0 0 (.any) 0,
  num_ 0xC000 1 0x0c 4 1 .none 0 1 (.any) 0,
  num_ 0xC000 1 0x0d 5 1 .none 0 1 (.any) 0,
  num_ 0xC010 32 0x01 5 1 .none 0 1 (.any) 0]

/-- The entries of R420. -/
def entriesField : List Ent := [
  num_ 0x3000 1 0x01 4 4 .none 2 1 (.btw 20 100000) 1000,
  num_ 0x3000 1 0x02 5 1 .none 0 0 (.any) 0,
  var_ 0x3000 1 0x03 15 1 .none 0 0,
  num_ 0x3010 4 0x01 3 1 .none 0 0 (.any) 0,
  num_ 0x3010 4 0x02 3 1 .none 0 0 (.any) 0,
  num_ 0x3010 4 0x03 4 1 .none 0 0 (.any) 0,
  num_ 0x3010 4 0x04 4 1 .none 0 0 (.any) 0,
  num_ 0x3100 32 0x01 2 5 .none 2 1 (.btw 0 4) 0,
  num_ 0x3100 32 0x02 2 5 .none 2 1 (.oneOf [1, 3]) 3,
  num_ 0x3100 32 0x03 3 5 .none 2 1 (.any) 1000,
  num_ 0x3100 32 0x04 2 5 .none 2 1 (.btw 0 3) 0,
  num_ 0x3100 32 0x05 1 5 .none 2 1 (.btw 0 1) 0,
  num_ 0x3100 32 0x06 3 5 .none 2 1 (.btw 1 1000) 10,
  num_ 0x3100 32 0x07 2 5 .none 2 1 (.btw 0 2) 0,
  num_ 0x3100 32 0x08 4 5 .none 2 1 (.btw 100 100000) 2000,
  num_ 0x3100 32 0x09 2 5 .none 2 1 (.btw 0 1) 0,
  num_ 0x3100 32 0x0a 1 5 .none 2 1 (.btw 0 1) 1,
  num_ 0x3100 32 0x0b 1 5 .none 2 1 (.btw 0 1) 1,
  num_ 0x3100 32 0x0c 2 5 .none 2 1 (.btw 0 2) 0,
  num_ 0x3100 32 0x0d 3 5 .none 2 1 (.btw 10 10000) 100,
  num_ 0x3100 32 0x0e 1 5 .none 2 1 (.btw 0 1) 0,
  num_ 0x3100 32 0x0f 2 1 .none 0 0 (.any) 0,
  num_ 0x3100 32 0x10 4 1 .none 0 0 (.any) 0,
  num_ 0x3100 32 0x11 5 1 .none 0 1 (.any) 0,
  num_ 0x3100 32 0x12 5 1 .none 0 1 (.any) 0]

/-- The entries of R458. -/
def entriesEnergy : List Ent := [
  num_ 0x4010 2 0x01 2 4 .none 2 1 (.btw 0 2) 0,
  num_ 0x4010 2 0x02 2 4 .none 2 1 (.btw 0 15) 0,
  num_ 0x4010 2 0x03 2 4 .none 2 1 (.btw 0 2) 0,
  num_ 0x4010 2 0x04 3 4 .none 2 1 (.btw 1 1000) 10,
  num_ 0x4010 2 0x05 2 5 .none 2 1 (.btw 1 50) 10,
  num_ 0x4010 2 0x06 2 4 .none 2 1 (.oneOf [50, 60]) 50,
  num_ 0x4010 2 0x07 2 5 .none 2 1 (.btw 0 2) 0,
  num_ 0x4010 2 0x08 4 1 .none 0 0 (.any) 0,
  oct_ 0x4010 2 0x09 64 1 .none 0 1,
  num_ 0x4010 2 0x0b 2 2 .stop 3 0 (.oneOf [1]) 0,
  num_ 0x4100 8 0x01 10 4 .none 2 1 (.any) 1065353216,
  num_ 0x4100 8 0x02 10 1 .none 0 1 (.any) 1065353216,
  num_ 0x4100 8 0x03 10 1 .none 0 1 (.any) 0,
  num_ 0x4100 8 0x04 8 1 .none 0 1 (.any) 0,
  num_ 0x4100 8 0x05 10 1 .none 0 1 (.any) 1065353216,
  num_ 0x4100 8 0x06 10 1 .none 0 1 (.any) 0,
  num_ 0x4100 8 0x07 8 1 .none 0 1 (.any) 0,
  num_ 0x4100 8 0x08 2 3 .session 3 0 (.btw 0 1) 0,
  num_ 0x4100 8 0x09 10 3 .session 3 0 (.any) 0,
  num_ 0x4100 8 0x0a 10 3 .session 3 0 (.any) 0,
  num_ 0x4100 8 0x0b 8 3 .session 3 0 (.any) 0,
  num_ 0x4100 8 0x0c 2 1 .none 0 0 (.any) 0,
  num_ 0x4100 8 0x0d 2 2 .remStop 3 0 (.btw 1 3) 0,
  num_ 0x4100 8 0x0e 2 1 .none 0 0 (.any) 0,
  num_ 0x4100 8 0x0f 10 1 .none 0 0 (.any) 0,
  num_ 0x4100 8 0x10 10 1 .none 0 0 (.any) 0,
  num_ 0x4100 8 0x11 4 1 .none 0 0 (.any) 0,
  num_ 0x4100 8 0x12 4 1 .none 0 0 (.any) 0,
  num_ 0x4200 16 0x01 2 5 .none 2 1 (.orFF 31) 255,
  num_ 0x4200 16 0x02 5 5 .none 2 1 (.btw 1 (2 ^ 63)) 100,
  num_ 0x4200 16 0x03 2 5 .none 2 1 (.btw 2 100) 20,
  num_ 0x4200 16 0x04 5 1 .none 0 1 (.any) 0,
  num_ 0x4200 16 0x05 3 1 .none 0 0 (.any) 0,
  num_ 0x4200 16 0x06 5 1 .none 0 0 (.any) 0]

/-- The entries of R501. -/
def entriesNet : List Ent := [
  num_ 0x5000 4 0x01 1 5 .none 2 1 (.btw 0 1) 1,
  num_ 0x5000 4 0x02 2 5 .none 2 1 (.btw 0 5) 0,
  num_ 0x5000 4 0x03 1 1 .none 0 0 (.any) 0,
  num_ 0x5000 4 0x04 3 1 .none 0 0 (.any) 0,
  num_ 0x5000 4 0x05 5 1 .none 0 0 (.any) 0,
  num_ 0x5000 4 0x07 4 1 .none 0 0 (.any) 0,
  num_ 0x5000 4 0x08 4 1 .none 0 0 (.any) 0,
  oct_ 0x5000 4 0x09 6 0 .none 0 0,
  num_ 0x5008 2 0x01 2 4 .none 2 1 (.btw 0 2) 0,
  num_ 0x5008 2 0x02 3 4 .none 2 1 (.btw 100 10000) 2000,
  num_ 0x5008 2 0x03 5 1 .none 0 0 (.any) 0,
  num_ 0x5008 2 0x04 2 1 .none 0 0 (.any) 0,
  num_ 0x5008 2 0x05 5 1 .none 0 0 (.any) 0,
  num_ 0x5010 4 0x01 4 5 .none 2 1 (.any) 0,
  num_ 0x5010 4 0x02 4 5 .none 2 1 (.any) 0,
  num_ 0x5010 4 0x03 4 5 .none 2 1 (.any) 0,
  num_ 0x5010 4 0x04 3 5 .none 2 1 (.vid) 65535,
  num_ 0x5010 4 0x05 2 5 .none 2 1 (.btw 0 7) 0,
  num_ 0x5020 1 0x01 2 4 .none 2 1 (.btw 0 3) 1,
  num_ 0x5020 1 0x02 2 4 .none 2 1 (.btw 1 2) 1,
  num_ 0x5020 1 0x03 2 4 .none 2 1 (.any) 0,
  num_ 0x5020 1 0x04 2 4 .none 2 1 (.any) 128,
  num_ 0x5020 1 0x05 2 4 .none 2 1 (.any) 128,
  num_ 0x5020 1 0x06 2 4 .none 2 1 (.btw 0 1) 1,
  num_ 0x5020 1 0x08 9 1 .none 0 0 (.any) 0,
  num_ 0x5020 1 0x09 9 1 .none 0 0 (.any) 0,
  oct_ 0x5020 1 0x0b 8 1 .none 0 0,
  num_ 0x5020 1 0x0c 2 1 .none 0 0 (.any) 0,
  num_ 0x5028 4 0x01 8 4 .none 2 1 (.any) 0,
  num_ 0x5028 4 0x02 8 4 .none 2 1 (.any) 0,
  num_ 0x5028 4 0x03 8 4 .none 2 1 (.any) 0,
  num_ 0x5100 256 0x01 1 5 .none 2 1 (.btw 0 1) 0,
  num_ 0x5100 256 0x02 2 5 .none 2 1 (.btw 0 3) 0,
  oct_ 0x5100 256 0x03 6 5 .none 2 1,
  num_ 0x5100 256 0x04 3 5 .none 2 1 (.any) 0,
  num_ 0x5100 256 0x05 3 5 .none 2 1 (.vid) 65535,
  var_ 0x5100 256 0x06 13 5 .none 2 1,
  var_ 0x5100 256 0x07 13 5 .none 2 1,
  num_ 0x5100 256 0x08 4 5 .none 2 1 (.any) 0,
  num_ 0x5100 256 0x09 3 5 .none 2 1 (.any) 1280,
  num_ 0x5100 256 0x0a 3 5 .none 2 1 (.any) 1,
  num_ 0x5100 256 0x0b 4 5 .none 2 1 (.btw 50 1000000) 1000,
  num_ 0x5100 256 0x0c 2 5 .none 2 1 (.orFF 79) 255,
  num_ 0x5100 256 0x0d 1 5 .none 2 1 (.btw 0 1) 0,
  num_ 0x5100 256 0x0e 1 5 .none 2 1 (.btw 0 1) 0,
  var_ 0x5100 256 0x0f 15 5 .none 2 1,
  num_ 0x5100 256 0x10 4 1 .none 0 0 (.any) 0,
  num_ 0x5300 64 0x01 1 5 .none 2 1 (.btw 0 1) 0,
  num_ 0x5300 64 0x02 2 5 .none 2 1 (.btw 0 3) 0,
  oct_ 0x5300 64 0x03 6 5 .none 2 1,
  num_ 0x5300 64 0x04 3 5 .none 2 1 (.any) 0,
  num_ 0x5300 64 0x05 3 5 .none 2 1 (.vid) 65535,
  num_ 0x5300 64 0x06 2 5 .none 2 1 (.btw 0 7) 4,
  var_ 0x5300 64 0x07 13 5 .none 2 1,
  var_ 0x5300 64 0x08 13 5 .none 2 1,
  var_ 0x5300 64 0x09 13 5 .none 2 1,
  num_ 0x5300 64 0x0a 4 5 .none 2 1 (.any) 1,
  { oct_ 0x5300 64 0x0b 16 5 .none 2 1 with dflt := u16Bytes [2, 4, 8, 16, 32, 64, 128, 1000] },
  num_ 0x5300 64 0x0c 2 5 .none 2 1 (.btw 0 2) 0,
  var_ 0x5300 64 0x0d 15 5 .none 2 1,
  num_ 0x5300 64 0x0e 4 1 .none 0 0 (.any) 0,
  num_ 0x5300 64 0x0f 4 1 .none 0 0 (.any) 0,
  num_ 0x5400 16 0x01 1 5 .none 2 1 (.btw 0 1) 0,
  num_ 0x5400 16 0x02 2 5 .none 2 1 (.btw 0 3) 0,
  oct_ 0x5400 16 0x03 6 5 .none 2 1,
  num_ 0x5400 16 0x04 3 5 .none 2 1 (.any) 0,
  num_ 0x5400 16 0x05 3 5 .none 2 1 (.vid) 65535,
  var_ 0x5400 16 0x06 13 5 .none 2 1,
  num_ 0x5400 16 0x07 4 5 .none 2 1 (.any) 0,
  num_ 0x5400 16 0x08 3 5 .none 2 1 (.btw 1 4800) 4000,
  num_ 0x5400 16 0x09 2 5 .none 2 1 (.btw 1 8) 1,
  num_ 0x5400 16 0x0a 2 5 .none 2 1 (.btw 1 10) 8,
  num_ 0x5400 16 0x0b 2 5 .none 2 1 (.orFF 79) 255,
  num_ 0x5500 4 0x01 1 5 .none 2 1 (.btw 0 1) 0,
  num_ 0x5500 4 0x02 4 5 .none 2 1 (.any) 0,
  num_ 0x5500 4 0x03 3 5 .none 2 1 (.btw 1 256) 1,
  num_ 0x5500 4 0x04 4 5 .none 2 1 (.any) 0,
  num_ 0x5500 4 0x05 3 5 .none 2 1 (.btw 1 256) 1,
  num_ 0x5500 4 0x06 4 1 .none 0 0 (.any) 0,
  { oct_ 0x5500 4 0x07 96 5 .none 2 1 with dflt := [] },
  num_ 0x5500 4 0x08 4 1 .none 0 0 (.any) 0]

/-- The entries of R537. -/
def entriesCan : List Ent := [
  num_ 0x6000 2 0x01 1 4 .none 2 1 (.btw 0 1) 0,
  num_ 0x6000 2 0x02 3 4 .none 2 1 (.btw 1 512) 2,
  num_ 0x6000 2 0x03 3 4 .none 2 1 (.btw 2 256) 63,
  num_ 0x6000 2 0x04 3 4 .none 2 1 (.btw 2 128) 16,
  num_ 0x6000 2 0x05 3 4 .none 2 1 (.btw 1 128) 16,
  num_ 0x6000 2 0x06 3 4 .none 2 1 (.btw 1 32) 1,
  num_ 0x6000 2 0x07 3 4 .none 2 1 (.btw 1 32) 15,
  num_ 0x6000 2 0x08 3 4 .none 2 1 (.btw 1 16) 4,
  num_ 0x6000 2 0x09 3 4 .none 2 1 (.btw 1 16) 4,
  num_ 0x6000 2 0x0a 2 4 .none 2 1 (.btw 0 2) 1,
  num_ 0x6000 2 0x0b 2 4 .none 2 1 (.btw 0 127) 16,
  num_ 0x6000 2 0x0c 2 4 .none 2 1 (.btw 0 2) 0,
  num_ 0x6000 2 0x0d 1 5 .none 2 1 (.btw 0 1) 0,
  num_ 0x6000 2 0x0e 2 5 .none 2 1 (.btw 0 1) 0,
  num_ 0x6000 2 0x0f 2 2 .remStop 1 0 (.btw 1 3) 0,
  num_ 0x6000 2 0x10 2 5 .none 2 1 (.btw 1 2) 1,
  num_ 0x6000 2 0x11 2 5 .none 2 1 (.orFF 127) 255,
  oct_ 0x6000 2 0x12 8 5 .none 2 1,
  num_ 0x6000 2 0x13 2 5 .none 2 1 (.btw 0 254) 0,
  num_ 0x6000 2 0x14 2 1 .none 0 0 (.any) 0,
  num_ 0x6000 2 0x15 4 1 .none 0 0 (.any) 0,
  num_ 0x6000 2 0x16 4 1 .none 0 0 (.any) 0,
  num_ 0x6000 2 0x17 4 1 .none 0 0 (.any) 0,
  num_ 0x6000 2 0x18 2 1 .none 0 0 (.any) 0,
  num_ 0x6100 128 0x01 2 5 .none 2 1 (.btw 0 2) 0,
  num_ 0x6100 128 0x02 4 5 .none 2 1 (.btw 0 536870911) 0,
  num_ 0x6100 128 0x03 1 5 .none 2 1 (.btw 0 1) 0,
  num_ 0x6100 128 0x04 1 5 .none 2 1 (.btw 0 1) 0,
  num_ 0x6100 128 0x05 1 5 .none 2 1 (.btw 0 1) 0,
  num_ 0x6100 128 0x06 1 5 .none 2 1 (.btw 0 1) 0,
  num_ 0x6100 128 0x07 3 5 .none 2 1 (.any) 0,
  num_ 0x6100 128 0x08 2 5 .none 2 1 (.oneOf [8, 16]) 8,
  num_ 0x6100 128 0x09 4 5 .none 2 1 (.btw 50 1000000) 1000,
  num_ 0x6100 128 0x0a 2 5 .none 2 1 (.orFF 79) 255,
  num_ 0x6100 128 0x0b 2 1 .none 0 0 (.any) 0,
  num_ 0x6100 128 0x0c 4 1 .none 0 0 (.any) 0,
  num_ 0x6100 128 0x0d 4 1 .none 0 0 (.any) 0]

/-- The object entries of CAN1 (R537): those of CAN0, from 6200h. -/
def entriesCan1 : List Ent := (entriesCan.filter fun e => e.idx == 0x6100).map fun e => { e with idx := 0x6200 }

/-- The entries of R586. -/
def entriesMdp : List Ent := [
  num_ 0x1010 1 0x01 2 2 .stop 3 0 (.btw 1 2) 0,
  num_ 0x1010 1 0x02 1 1 .none 0 1 (.any) 0,
  num_ 0x1B00 1 0x01 1 4 .none 3 1 (.btw 0 1) 1,
  num_ 0x1B00 1 0x02 1 4 .none 3 1 (.btw 0 1) 1,
  num_ 0x1B01 1 0x01 2 1 .none 0 0 (.any) 0,
  num_ 0x1B01 1 0x02 4 1 .none 0 0 (.any) 0,
  num_ 0x1B02 1 0x01 4 1 .none 0 0 (.any) 0,
  num_ 0x1B02 1 0x02 4 1 .none 0 0 (.any) 0,
  num_ 0x1B10 1 0x01 2 4 .none 3 1 (.btw 0 3) 0,
  num_ 0x1B10 1 0x02 2 4 .none 3 1 (.btw 0 3) 0,
  num_ 0x1B10 1 0x03 2 4 .none 3 1 (.btw 0 3) 1,
  num_ 0x1B10 1 0x04 1 1 .none 0 0 (.any) 0,
  num_ 0x1B20 1 0x01 2 4 .none 3 1 (.btw 0 3) 3,
  var_ 0x1B21 1 0x01 15 4 .none 3 1,
  num_ 0x1B22 2 0x01 2 4 .none 3 1 (.btw 0 3) 3]

/-- The entries of R633. -/
def entriesHier : List Ent := [
  num_ 0x7000 1 0x01 2 4 .none 2 1 (.btw 0 2) 0,
  num_ 0x7000 1 0x02 2 4 .none 2 1 (.btw 1 254) 1,
  num_ 0x7000 1 0x03 2 4 .none 3 1 (.btw 0 1) 0,
  num_ 0x7000 1 0x04 2 4 .none 2 1 (.btw 0 3) 0,
  num_ 0x7000 1 0x05 2 4 .none 2 1 (.btw 0 1) 0,
  num_ 0x7000 1 0x06 4 4 .none 2 1 (.btw 250 100000) 10000,
  num_ 0x7000 1 0x07 1 5 .none 2 1 (.btw 0 1) 0,
  num_ 0x7000 1 0x08 4 4 .none 2 1 (.any) 0,
  oct_ 0x7000 1 0x09 48 1 .none 0 0,
  num_ 0x7000 1 0x0a 2 1 .none 0 0 (.any) 0,
  num_ 0x7000 1 0x0b 3 4 .none 2 1 (.vid) 65535,
  num_ 0x7000 1 0x0c 2 4 .none 2 1 (.btw 0 7) 6,
  oct_ 0x7000 1 0x0d 20 4 .none 3 1,
  var_ 0x7000 1 0x0e 14 4 .none 3 1,
  num_ 0x7001 1 0x01 4 1 .none 0 0 (.any) 0,
  num_ 0x7001 1 0x02 4 1 .none 0 0 (.any) 0,
  var_ 0x7002 1 0x01 15 5 .none 2 0,
  num_ 0x7002 1 0x02 12 5 .none 2 0 (.any) 0,
  num_ 0x7002 1 0x03 2 2 .remStop 2 0 (.btw 1 2) 0,
  num_ 0x7002 1 0x04 2 1 .none 0 0 (.any) 0,
  num_ 0x7002 1 0x05 12 1 .none 0 0 (.any) 0,
  num_ 0x7011 254 0x01 1 4 .none 2 1 (.btw 0 1) 0,
  oct_ 0x7011 254 0x02 48 5 .none 3 1,
  oct_ 0x7011 254 0x03 20 5 .none 3 1,
  num_ 0x7011 254 0x04 4 5 .none 2 1 (.any) 0,
  num_ 0x7011 254 0x05 2 1 .none 0 0 (.any) 0,
  num_ 0x7011 254 0x06 5 1 .none 0 0 (.any) 0,
  num_ 0x7011 254 0x07 5 1 .none 0 0 (.any) 0,
  oct_ 0x7011 254 0x08 48 1 .none 0 0,
  oct_ 0x7011 254 0x09 48 5 .none 3 0,
  num_ 0x7011 254 0x0a 2 2 .none 1 0 (.oneOf [1]) 0,
  var_ 0x7011 254 0x0b 15 1 .none 0 0]

/-- The entries of R634. -/
def entriesTandem : List Ent := [
  num_ 0x7200 1 0x01 1 4 .none 2 1 (.btw 0 1) 0,
  num_ 0x7200 1 0x02 2 4 .none 2 1 (.btw 0 1) 0,
  num_ 0x7200 1 0x03 4 4 .none 2 1 (.btw 250 100000) 1000,
  num_ 0x7200 1 0x04 2 1 .none 0 0 (.any) 0,
  num_ 0x7200 1 0x05 2 1 .none 0 0 (.any) 0,
  num_ 0x7200 1 0x06 2 2 .rem 1 0 (.btw 1 2) 0,
  num_ 0x7200 1 0x07 4 1 .none 0 0 (.any) 0,
  num_ 0x7200 1 0x08 4 1 .none 0 0 (.any) 0,
  num_ 0x7200 1 0x09 4 1 .none 0 0 (.any) 0,
  num_ 0x7200 1 0x0a 4 1 .none 0 0 (.any) 0,
  num_ 0x7200 1 0x0b 4 1 .none 0 0 (.any) 0,
  oct_ 0x7200 1 0x0c 6 1 .none 0 1,
  num_ 0x7200 1 0x0d 4 1 .none 0 0 (.any) 0,
  num_ 0x7200 1 0x0e 4 1 .none 0 0 (.any) 0,
  num_ 0x7210 32 0x01 2 4 .none 2 1 (.btw 0 3) 0,
  num_ 0x7210 32 0x02 2 4 .none 2 1 (.orFF 31) 255,
  num_ 0x7210 32 0x03 1 4 .none 2 1 (.btw 0 1) 0]

/-- The entries of R660. -/
def entriesTime : List Ent := [
  num_ 0x8000 1 0x01 2 4 .none 2 1 (.btw 0 3) 1,
  num_ 0x8000 1 0x02 12 1 .none 0 0 (.any) 0,
  num_ 0x8000 1 0x03 7 5 .none 2 1 (.btw 0 255) 37,
  num_ 0x8000 1 0x04 1 1 .none 0 0 (.any) 0,
  num_ 0x8000 1 0x05 4 5 .none 2 1 (.btw 1 86400) 60,
  num_ 0x8000 1 0x06 4 5 .none 2 1 (.btw 1 1000000) 1000,
  num_ 0x8000 1 0x07 12 2 .remStop 3 0 (.any) 0,
  num_ 0x8000 1 0x08 4 1 .none 0 0 (.any) 0,
  num_ 0x8010 1 0x01 1 1 .none 0 0 (.any) 0,
  num_ 0x8010 1 0x02 2 4 .none 2 1 (.btw 0 1) 0,
  num_ 0x8010 1 0x03 4 1 .none 0 0 (.any) 0,
  num_ 0x8010 1 0x04 2 2 .none 1 0 (.oneOf [1]) 0,
  num_ 0x8010 1 0x05 2 1 .none 0 0 (.any) 0,
  num_ 0x8010 1 0x06 3 1 .none 0 0 (.any) 0,
  num_ 0x8010 1 0x07 12 1 .none 0 0 (.any) 0,
  num_ 0x8010 1 0x08 12 2 .remStop 3 0 (.any) 0]

/-- The entries of R696. -/
def entriesSup : List Ent := [
  num_ 0x9000 1 0x01 1 4 .none 3 1 (.btw 0 1) 1,
  num_ 0x9000 1 0x02 3 5 .none 3 1 (.btw 0 999) 10,
  num_ 0x9000 1 0x03 3 5 .none 3 1 (.btw 2 1000) 50,
  num_ 0x9000 1 0x04 2 4 .none 3 1 (.btw 1 15) 8,
  num_ 0x9000 1 0x05 3 4 .none 2 1 (.btw 10 10000) 100,
  num_ 0x9000 1 0x06 3 4 .none 2 1 (.any) 20,
  num_ 0x9000 1 0x07 2 1 .none 0 0 (.any) 0,
  num_ 0x9000 1 0x08 1 1 .none 0 0 (.any) 0,
  num_ 0x9000 1 0x09 5 1 .none 0 1 (.any) 0,
  num_ 0x9000 1 0x0a 2 5 .none 2 1 (.btw 1 10) 3,
  var_ 0x9010 1 0x01 15 1 .none 0 1,
  num_ 0x9010 1 0x02 1 1 .none 0 1 (.any) 0,
  num_ 0x9010 1 0x03 2 2 .stop 3 0 (.oneOf [1]) 0,
  num_ 0x9100 64 0x01 1 4 .none 2 1 (.btw 0 1) 0,
  num_ 0x9100 64 0x02 4 4 .none 3 1 (.any) 0,
  num_ 0x9100 64 0x03 2 4 .none 2 1 (.btw 0 3) 0,
  num_ 0x9100 64 0x04 4 1 .none 0 0 (.any) 0,
  num_ 0x9100 64 0x05 4 1 .none 0 0 (.any) 0,
  num_ 0x9100 64 0x06 4 1 .none 0 0 (.any) 0,
  num_ 0x9100 64 0x07 4 1 .none 0 0 (.any) 0,
  num_ 0x9200 8 0x01 4 1 .none 0 0 (.any) 0,
  num_ 0x9200 8 0x02 4 1 .none 0 0 (.any) 0,
  num_ 0x9200 8 0x03 4 1 .none 0 0 (.any) 0,
  num_ 0x9200 8 0x04 4 1 .none 0 0 (.any) 0]

/-- The entries of R721. -/
def entriesRec : List Ent := [
  num_ 0xA000 1 0x01 5 1 .none 0 1 (.any) 0,
  num_ 0xA000 1 0x02 5 1 .none 0 0 (.any) 0,
  num_ 0xA000 1 0x03 2 1 .none 0 0 (.any) 0,
  num_ 0xA000 1 0x04 4 1 .none 0 0 (.any) 0,
  num_ 0xA000 1 0x05 4 1 .none 0 0 (.any) 0,
  var_ 0xA001 1 0x01 15 1 .none 0 1,
  num_ 0xA002 1 0x01 2 5 .none 2 1 (.btw 1 255) 10,
  num_ 0xA002 1 0x02 2 5 .none 2 1 (.btw 1 255) 1,
  var_ 0xA003 1 0x01 15 5 .none 2 1,
  var_ 0xA004 1 0x01 15 0 .none 0 0,
  num_ 0xA100 128 0x01 2 2 .remStop 2 0 (.btw 1 3) 0,
  num_ 0xA100 128 0x02 4 5 .none 2 0 (.any) 0,
  num_ 0xA100 128 0x03 4 5 .none 2 0 (.any) 0,
  num_ 0xA100 128 0x04 2 1 .none 0 0 (.any) 0,
  num_ 0xA100 128 0x05 4 1 .none 0 0 (.any) 0]

/-- The entries of R755. -/
def entriesSec : List Ent := [
  num_ 0xB000 1 0x01 2 1 .none 0 0 (.any) 0,
  oct_ 0xB000 1 0x02 48 0 .none 0 0,
  oct_ 0xB001 4 0x01 48 1 .none 0 0,
  num_ 0xB001 4 0x02 2 1 .none 0 0 (.any) 0,
  oct_ 0xB005 1 0x01 97 2 .none 3 0,
  num_ 0xB005 1 0x02 2 2 .stop 3 0 (.btw 0 3) 0,
  num_ 0xB006 1 0x01 2 1 .none 0 0 (.any) 0,
  num_ 0xB006 1 0x02 3 1 .none 0 0 (.any) 0,
  var_ 0xB008 1 0x01 14 1 .none 0 1,
  var_ 0xB008 1 0x02 14 1 .none 0 1,
  oct_ 0xB008 1 0x03 20 0 .none 0 0,
  num_ 0xB011 2 0x01 2 1 .none 0 1 (.any) 0,
  num_ 0xB011 2 0x02 4 1 .none 0 1 (.any) 0,
  num_ 0xB011 2 0x03 3 1 .none 0 1 (.any) 0,
  oct_ 0xB011 2 0x04 48 1 .none 0 1,
  num_ 0xB011 2 0x05 3 1 .none 0 1 (.any) 0,
  num_ 0xB018 1 0x01 2 1 .none 0 1 (.any) 1,
  num_ 0xB018 1 0x02 2 1 .none 0 1 (.any) 0,
  num_ 0xB018 1 0x03 2 2 .none 3 0 (.oneOf [1]) 0,
  num_ 0xB018 1 0x04 3 1 .none 0 1 (.any) 0,
  var_ 0xB030 1 0x01 15 2 .none 3 0,
  var_ 0xB031 2 0x01 15 2 .none 2 0,
  num_ 0xB030 3 0x02 2 1 .none 0 1 (.any) 0,
  num_ 0xB030 3 0x03 4 1 .none 0 1 (.any) 0,
  var_ 0xB030 3 0x04 15 1 .none 0 1,
  oct_ 0xB030 3 0x05 512 1 .none 0 1,
  num_ 0xB030 1 0x06 2 2 .none 3 0 (.btw 1 5) 0,
  num_ 0xB031 2 0x06 2 2 .none 2 0 (.btw 1 5) 0,
  num_ 0xB030 3 0x07 12 5 .none 2 0 (.any) 0,
  oct_ 0xB050 1 0x01 32 2 .none 0 0,
  oct_ 0xB050 1 0x02 320 1 .none 0 0,
  num_ 0xB060 1 0x01 2 1 .none 0 1 (.any) 0]

/-- The entries of R786. -/
def entriesId : List Ent := [
  num_ 0x1000 1 0x01 4 0 .none 0 0 (.any) 2120,
  var_ 0x1000 1 0x02 13 0 .none 0 0,
  oct_ 0x1000 1 0x03 20 0 .none 0 0,
  num_ 0x1000 1 0x04 3 0 .none 0 0 (.any) 0,
  num_ 0x1000 1 0x05 4 1 .none 0 0 (.any) 0,
  num_ 0x1001 1 0x01 3 1 .none 0 0 (.any) 0,
  num_ 0x1001 1 0x02 3 1 .none 0 0 (.any) 0,
  num_ 0x1001 1 0x03 3 1 .none 0 0 (.any) 0,
  num_ 0x1001 1 0x04 7 1 .none 0 0 (.any) 0,
  num_ 0x1001 1 0x05 5 1 .none 0 1 (.any) 0,
  num_ 0x1002 1 0x01 2 1 .none 0 1 (.any) 0,
  num_ 0x1002 1 0x02 4 1 .none 0 0 (.any) 0,
  oct_ 0x1002 1 0x03 40 1 .none 0 0,
  num_ 0x1003 1 0x01 2 2 .stop 3 0 (.oneOf [1]) 0]

/-- Every table, in the order of the chapters. -/
def entryTable : List Ent :=
  entriesTasks ++ entriesImage ++ entriesCores ++ entriesPairs ++ entriesPrograms ++ entriesBanks ++ entriesNv ++ entriesField ++ entriesEnergy ++ entriesNet ++ entriesCan ++ entriesCan1 ++ entriesMdp ++ entriesHier ++ entriesTandem ++ entriesTime ++ entriesSup ++ entriesRec ++ entriesSec ++ entriesId

end Sys2Proof.Machine
end

