-- ==== Sys2Proof/Machine/EccOps.lean ====
section
/-! DEFINITION. Error correction at the banks (R320, R321) and in the record store (R342), the bank of an address, and the writes
that masters make other than through an instruction. -/

namespace Sys2Proof.Machine

/-- The core bank of core `n` as a bank number. -/
def cbOf (n : CoreId) : BankId := ⟨n.val, by omega⟩

/-- The bank that holds an address (R45). -/
def bankAt (a : Nat) : Option BankId :=
  if h : a < 0x400000 then some ⟨a / 0x80000, by omega⟩
  else if 0x01000000 ≤ a ∧ a < 0x010A0000 then some 8
  else if 0x02000000 ≤ a ∧ a < 0x02200000 then some 9
  else if 0x03000000 ≤ a ∧ a < 0x03080000 then some 10
  else none

/-- The error mark of the word that holds address `a`: 0 none, 1 single, 2 uncorrectable. -/
def State.errAt (s : State) (a : Nat) : Nat := sget 0 s.errs (a / 4)

/-- Whether an access to `a` in bank `b` meets an uncorrectable error, real or injected (R321, R714). -/
def State.meetsUe (s : State) (b : BankId) (a : Nat) : Bool :=
  s.errAt a == 2 || (s.injOn (48 + b.val) && (s.det (48 + b.val)).a.toNat / 4 == a / 4)

/-- Whether an access to `a` in bank `b` meets a correctable error, real or injected (R320, R714). -/
def State.meetsCe (s : State) (b : BankId) (a : Nat) : Bool :=
  s.errAt a == 1 || (s.injOn (59 + b.val) && (s.det (59 + b.val)).a.toNat / 4 == a / 4)

/-- Reports an uncorrectable error of the word at `a` of bank `b`; `how` is parameter 3 of C101h (R321, R339). -/
def State.reportUe (s : State) (b : BankId) (a how : Nat) (inj : Bool) : State :=
  (s.modBank b fun k => { k with ue := true, ueCnt := k.ueCnt + 1, eccAddr := BitVec.ofNat 32 (a / 4 * 4) }).recInj
    0xC101 (0x60 + b.val) b.val (a / 4 * 4) how inj

/-- Counts a corrected error at `a` of bank `b`; the corrected word is due to be written back (R320). -/
def State.reportCe (s : State) (b : BankId) (a : Nat) : State :=
  s.modBank b fun k => { k with
    ce := true, ceCnt := k.ceCnt + 1, wb := if k.wb.contains (a / 4) then k.wb else k.wb ++ [a / 4] }

/-- What reading the word of `a` in bank `b` reports (R320, R321); a status of 6 goes with an uncorrectable one. -/
def State.eccCheck (s : State) (b : BankId) (a how : Nat) : State :=
  if s.meetsUe b a then
    (if s.errAt a = 2 then s.reportUe b a how false else (s.injDone (48 + b.val)).reportUe b a how true)
  else if s.meetsCe b a then
    (if s.errAt a = 1 then s else s.injDone (59 + b.val)).reportCe b a
  else s

/-! ## Writes by masters -/

/-- Error marks once `n` bytes from `a` have been written: each word wholly written has valid check bits (R321, R342). -/
def clearMarks (e : List (Nat × Nat)) (a n : Nat) : List (Nat × Nat) := e.filter fun p => !decide (a ≤ 4 * p.1 ∧ 4 * p.1 + 4 ≤ a + n)

/-- Writes bytes from `a` upward; the check bits of the words wholly written are valid from then on. -/
def State.putBytes (s : State) (a : Nat) (bs : List Byte) : State :=
  { s with mem := wrBytes s.mem a bs, errs := clearMarks s.errs a bs.length }

/-- Writes the word at `a`. -/
def State.putWord (s : State) (a v : Nat) : State := s.putBytes a (leBytes 4 v)

/-- Writes words, each at its address. -/
def State.putWords (s : State) : List (Nat × Nat) → State
  | [] => s
  | x :: r => (s.putWord x.1 x.2).putWords r

/-! ## The record store (R342) -/

/-- Whether an address lies in the record store. -/
def inNv (a : Nat) : Bool := decide (nvBase ≤ a ∧ a < nvBase + 0x400000)

/-- Whether an access to `a` meets an uncorrectable error in the record store (R342, R714). -/
def State.nvUe (s : State) (a : Nat) : Bool := s.errAt a == 2 || (s.injOn 70 && (s.det 70).a.toNat / 4 == a / 4)

/-- The report of an uncorrectable error of the record store: read (0) or write (1). -/
def State.nvReportUe (s : State) (a how : Nat) : State :=
  let inj := s.errAt a != 2
  let s := if inj then s.injDone 70 else s
  (s.modNv fun v => { v with ue := true, ueCnt := v.ueCnt + 1, eccAddr := BitVec.ofNat 32 (a / 4 * 4) }).recInj 0xC005 0x56 (a / 4 * 4) how 0 inj

/-- Adds word writes to the volatile count of a sector. -/
def secAdd (m : List (Nat × Nat)) (sector words : Nat) : List (Nat × Nat) := sset 0 m sector (sget 0 m sector + words)

/-- Counts `words` word writes at record-store offset `off`. -/
def State.wrote (s : State) (off words : Nat) : State :=
  s.modNv fun v => { v with secVol := secAdd v.secVol (off / 0x20000) words }

/-- A read that corrects a single-bit error counts it and writes the word back (R342), a write that its sector counts (R361). -/
def State.nvCorrect (s : State) (a : Nat) : State :=
  if s.errAt a = 1 then
    ({ s with errs := sset 0 s.errs (a / 4) 0 }.modNv fun v => { v with ceCnt := v.ceCnt + 1 }).wrote (a - nvBase) 1
  else s

/-- What a read of the record-store word at `a` corrects or reports, whoever reads (R342). -/
def State.nvCheck (s : State) (a : Nat) : State := if s.nvUe a then s.nvReportUe a 0 else s.nvCorrect a

/-- The word that a read of the record store at `a` gives; an uncorrectable one is not known. -/
def State.nvWord (s : State) (a : Nat) : Word := if s.nvUe a then s.freeWord else rdWord s.mem a

/-- Reads the record-store word at `a`: its value, with what the read corrects or reports; a free value is drawn for a word that is not
known. -/
def State.nvGet (s : State) (a : Nat) : State × Word := (if s.nvUe a then (s.nvCheck a).draw else s.nvCheck a, s.nvWord a)

/-- The reads of counter slot `k` that an update begins with (R342, R359): LO, MID and CV. -/
def State.ctrCheck (s : State) (k : Nat) : State := ((s.nvCheck (slotAddr k)).nvCheck (slotAddr k + 4)).nvCheck (slotAddr k + 16)

/-- Advances counter slot `k` in the state (R359); the words written count for sector 0 (R361). -/
def State.count (s : State) (k d : Nat) : State :=
  if d = 0 then s
  else
    let s := s.ctrCheck k
    let n := ctrFoldWrites s.mem k 4096 d
    { s with
      mem := ctrFold s.mem k 4096 d, errs := clearMarks s.errs (slotAddr k) (if n = 1 then 4 else 20) }.wrote 0 n

end Sys2Proof.Machine
end

