-- ==== Sys2Proof/Machine/Flags.lean ====
section
/-! DEFINITION. Flag computations of S32 (R198, R210–R212) and the conditions (R199). -/

namespace Sys2Proof.Machine

/-- The result of an addition with carry-in: sum, carry and signed overflow (Notation of spec/05). -/
structure AddRes where
  res   : Word
  carry : Bool
  ovfl  : Bool
  deriving DecidableEq, Repr

/-- Addition with carry-in. -/
def addWith (a b : Word) (ci : Bool) : AddRes :=
  let sum := a.toNat + b.toNat + b2n ci
  let res : Word := BitVec.ofNat 32 sum
  { res := res, carry := decide (2 ^ 32 ≤ sum), ovfl := a.msb == b.msb && res.msb != a.msb }

/-- Subtraction with carry-in; a carry of `true` means no borrow. -/
def subWith (a b : Word) (ci : Bool) : AddRes := addWith a (~~~b) ci

/-- Sets Z and N from a result; C and V stay. -/
def Regs.setZN (r : Regs) (x : Word) : Regs := { r with z := x == 0, n := x.msb }

/-- Sets all four flags from an addition. -/
def Regs.setZNCV (r : Regs) (x : AddRes) : Regs :=
  { r with z := x.res == 0, n := x.res.msb, c := x.carry, v := x.ovfl }

/-- Condition codes (R199). -/
def Regs.cond (r : Regs) (k : BitVec 4) : Bool :=
  match k.toNat with
  | 0 => true
  | 1 => r.l
  | 2 => r.z
  | 3 => !r.z
  | 4 => r.c
  | 5 => !r.c
  | 6 => r.c && !r.z
  | 7 => !r.c || r.z
  | 8 => r.n == r.v
  | 9 => r.n != r.v
  | 10 => !r.z && r.n == r.v
  | 11 => r.z || r.n != r.v
  | 12 => r.n
  | 13 => !r.n
  | 14 => r.v
  | _ => !r.v

/-- CSTAT as a word (R192). -/
def Regs.cstat (r : Regs) : Word :=
  BitVec.ofNat 32 (fieldAt (b2n r.priv) 1 0 + fieldAt (b2n r.trapact) 1 1 + fieldAt (b2n r.coltrap) 1 2
    + fieldAt (b2n r.rstrap) 1 3 + fieldAt (b2n r.collided) 1 4 + fieldAt r.rstack.length 5 8
    + fieldAt r.lstack.length 4 16 + fieldAt (b2n r.v) 1 20 + fieldAt (b2n r.c) 1 21 + fieldAt (b2n r.n) 1 22
    + fieldAt (b2n r.z) 1 23 + fieldAt (b2n r.l) 1 24)

/-- A write of CSTAT: RW fields take their bits, COLLIDED is cleared by a 1, RO fields stay (R192). -/
def Regs.putCstat (r : Regs) (x : Word) : Regs :=
  { r with
    trapact := x.getLsbD 1, coltrap := x.getLsbD 2, rstrap := x.getLsbD 3
    collided := r.collided && !x.getLsbD 4
    v := x.getLsbD 20, c := x.getLsbD 21, n := x.getLsbD 22, z := x.getLsbD 23, l := x.getLsbD 24 }

/-- TRAPCAUSE as a word (R193). -/
def Regs.trapcause (r : Regs) : Word :=
  BitVec.ofNat 32 (fieldAt r.cause.toNat 8 0 + fieldAt r.status.toNat 8 8 + fieldAt (b2n r.prevpriv) 1 16
    + fieldAt (b2n r.trapPaired) 1 17 + fieldAt (b2n r.trapInj) 1 18)

/-- EVLOCAL as a word (R194). -/
def Regs.evlocal (r : Regs) : Word :=
  BitVec.ofNat 32 (fieldAt (b2n r.staleP) 1 0 + fieldAt (b2n r.collP) 1 1 + fieldAt (b2n r.staleM) 1 16
    + fieldAt (b2n r.collM) 1 17)

/-- A write of EVLOCAL: pending bits are W1C, mask bits RW (R194). -/
def Regs.putEvlocal (r : Regs) (x : Word) : Regs :=
  { r with
    staleP := r.staleP && !x.getLsbD 0, collP := r.collP && !x.getLsbD 1
    staleM := x.getLsbD 16, collM := x.getLsbD 17 }

/-- Pushes onto the logic stack; a full stack loses its oldest entry (R201). -/
def Regs.pushL (r : Regs) (b : Bool) : Regs := { r with lstack := (b :: r.lstack).take 8 }

/-- The value a pop of the logic stack takes (R202). -/
def Regs.topL (r : Regs) : Bool := r.lstack.head?.getD false

/-- Pops the logic stack (R202). -/
def Regs.popL (r : Regs) : Regs := { r with lstack := r.lstack.tail }

/-- Whether an event wakes WFE (R182). -/
def Regs.wakes (r : Regs) : Bool :=
  (r.evpend &&& r.evmask) != 0 || (r.staleP && r.staleM) || (r.collP && r.collM)

end Sys2Proof.Machine
end

