-- ==== Sys2Proof/Machine/Operands.lean ====
section
/-! DEFINITION. Operand forms of S32 (R204–R213) and the instruction words of the commands, which a trap puts
into TRAPINSN (R166). -/

namespace Sys2Proof.Machine

/-- Format A (R204). -/
def insnA (major rd ra rb fn : Nat) : Word :=
  BitVec.ofNat 32 (fieldAt major 6 26 + fieldAt rd 4 22 + fieldAt ra 4 18 + fieldAt rb 4 14 + fieldAt fn 14 0)

/-- Format I (R204). -/
def insnI (major rd ra sub imm : Nat) : Word :=
  BitVec.ofNat 32 (fieldAt major 6 26 + fieldAt rd 4 22 + fieldAt ra 4 18 + fieldAt sub 2 16 + fieldAt imm 16 0)

/-- Format M (R204). -/
def insnM (major rd ra size off : Nat) : Word := insnI major rd ra size off

/-- Format B (R204). -/
def insnB (major cond off : Nat) : Word :=
  BitVec.ofNat 32 (fieldAt major 6 26 + fieldAt cond 4 22 + fieldAt off 22 0)

/-- Format X (R204). -/
def insnX (major rd fn word bit : Nat) : Word :=
  BitVec.ofNat 32 (fieldAt major 6 26 + fieldAt rd 4 22 + fieldAt fn 2 20 + fieldAt word 15 5 + fieldAt bit 5 0)

/-- Format S (R204). -/
def insnS (sop r imm : Nat) : Word :=
  BitVec.ofNat 32 (fieldAt 0x3B 6 26 + fieldAt sop 6 20 + fieldAt r 4 16 + fieldAt imm 16 0)

/-- Format A of BITF (R211). -/
def insnBitf (op rd ra wm1 pos : Nat) : Word := insnA 0x01 rd ra 0 (fieldAt op 2 12 + fieldAt wm1 5 5 + fieldAt pos 5 0)

/-- An immediate, sign-extended (R212). -/
def sx16 (imm : BitVec 16) : Word := imm.signExtend 32

/-- An immediate, zero-extended (R212). -/
def zx16 (imm : BitVec 16) : Word := imm.zeroExtend 32

/-- Bytes of a memory operand by its size field (R213). -/
def sizeBytes (size : BitVec 2) : Nat := 2 ^ size.toNat

/-- The effective address of format M. -/
def effAddr (r : Regs) (ra : Reg) (off : BitVec 16) : Word := r.get ra + sx16 off

/-- Whether an access of a size is aligned (R214). -/
def aligned (size : BitVec 2) (ea : Word) : Bool := ea.toNat % sizeBytes size == 0

/-- The value a load gives its register (R203, R213). -/
def extend (size : BitVec 2) (signed : Bool) (x : Word) : Word :=
  match size.toNat, signed with
  | 0, true => (x.truncate 8).signExtend 32
  | 0, false => (x.truncate 8).zeroExtend 32
  | 1, true => (x.truncate 16).signExtend 32
  | 1, false => (x.truncate 16).zeroExtend 32
  | _, _ => x

/-- The low bytes of a store's operand. -/
def lowBytes (size : BitVec 2) (x : Word) : Word := extend size false x

/-- The target of a B-format branch (R225). -/
def branchTarget (pc : Word) (off : BitVec 22) : Word := pc + 4 * off.signExtend 32

/-- The mask of a bit field of `w` bits (R211). -/
def fieldMask (w : Nat) : Word := BitVec.ofNat 32 (2 ^ w - 1)

/-- A value of width `w`, sign-extended (Notation of spec/05). -/
def sxw (x : Word) (w : Nat) : Word := (x <<< (32 - w)).sshiftRight (32 - w)

/-- The bit address of bit `n` of image word `w` (R116). -/
def bitAddr (w : BitVec 15) (n : BitVec 5) : Word := BitVec.ofNat 32 (w.toNat * 32 + n.toNat)

end Sys2Proof.Machine
end

