-- ==== Sys2Proof/Machine/Sched.lean ====
section
/-! DEFINITION. The scheduler: which context runs, releases, event lines, completion, abandonment, overrun and
mismatch actions, entry to and exit from RUN (R54–R94, R158–R187, R242–R262). -/

namespace Sys2Proof.Machine

/-! ## Who runs -/

/-- Whether a context has an activation that has not completed. -/
def Ctx.inProgress (c : Ctx) : Bool :=
  match c.act.status with
  | .ready | .waitEvent | .waitTime _ | .committing _ => true
  | _ => false

/-- Whether a context is in a commit (R74). -/
def Ctx.inCommit (c : Ctx) : Bool :=
  match c.act.status with
  | .committing _ => true
  | _ => false

/-- Whether `g` is the checker's context of a paired task (R238). -/
def State.isChecker (s : State) (g : Gctx) : Bool := (s.cx g).task.paired && decide (8 ≤ g.val % 16)

/-- The context whose state `g` shows: the leader's for a paired task (R238). -/
def State.home (s : State) (g : Gctx) : Gctx := if (s.cx g).task.paired then leaderOf g else g

/-- Order of dispatch on a core: background, then demoted activations, then the others by priority
(R73, R76). -/
def Ctx.rank (c : Ctx) : Nat :=
  match c.task.kind with
  | .background => 0
  | _ => if c.act.demoted then c.task.prio else 16 + c.task.prio

/-- The contexts that compete for core `n`: its own, and on a checker the paired ones of its leader (R75). -/
def State.cands (s : State) (n : CoreId) : List Gctx :=
  (ctxsOf n).filterMap fun h =>
    if s.isChecker h then (if (s.cx (leaderOf h)).act.paired then some (leaderOf h) else none) else some h

/-- Whether `g` has the highest rank among the ready contexts of core `n`. -/
def State.topOn (s : State) (n : CoreId) (g : Gctx) : Bool :=
  (s.cands n).all fun h => h == g || (s.cx h).act.status != .ready || decide ((s.cx h).rank < (s.cx g).rank)

/-- The leader's core and the checker's core of a context. -/
def leaderCore (g : Gctx) : CoreId := coreOf (leaderOf g)

/-- The checker's core of the pair of a context. -/
def checkerCore (g : Gctx) : CoreId := coreOf (checkerOf (leaderOf g))

/-- A ready context that its core could run: a paired one only when it is on top on both cores (R75). -/
def State.runnable (s : State) (g : Gctx) : Bool :=
  (s.cx g).act.status == .ready && (!(s.cx g).act.paired || (s.topOn (leaderCore g) g && s.topOn (checkerCore g) g))

/-- Whether core `n` can retire: no switch of set point and no reload. -/
def Core.up (c : Core) : Bool := c.sw.isNone && c.reload.isNone && !c.failed

/-- Whether a commit of core `n` is in progress (R74). -/
def State.committing (s : State) (n : CoreId) : Bool := (s.cands n).any fun h => (s.cx h).inCommit

/-- Whether a release of an item is a store of the compare queue. -/
def Release.isStore : Release → Bool
  | .store _ _ _ => true
  | _ => false

/-- Whether the pair unit keeps `g` from running: on the leader's core while the compare queue holds a store of another context (R250), on
the checker's core until the checker's copy of another context has stopped, all its items compared (R244). -/
def State.queueHeld (s : State) (g : Gctx) : Bool :=
  s.pair[pairOf g].items.any fun i => i.ctx != g && (i.rel.isStore || decide (8 ≤ g.val % 16) || (s.cx g).act.paired)

/-- Whether the activation of `g` waits for the migration of its retained words (R293): one of the new version, or after ACCEPT or a revert
switch one that is not of the version left. -/
def State.migWait (s : State) (g : Gctx) : Bool :=
  ((s.cx g).act.newVer && s.prog.edit.migrate.contains g.val)
    || (!(s.cx g).act.leaving && (s.prog.leave.map fun l => l.migrate.contains g.val).getD false)

/-- Whether `g` is the running context of its core (R73–R76), not halted and not waiting for a migration
(R264, R293). -/
def State.running (s : State) (g : Gctx) : Bool :=
  let n := coreOf g
  s.runnable g && !(s.cx g).act.dbgHalt && s.core[n].up && !s.committing n
    && (s.cands n).all (fun h => h == g || !s.runnable h || decide ((s.cx h).rank < (s.cx g).rank))
    && (!(s.cx g).act.paired || (s.core[checkerCore g].up && !s.committing (checkerCore g)))
    && !s.migWait g && !s.queueHeld g

/-- The running context of core `n`, if any. -/
def State.runOf (s : State) (n : CoreId) : Option Gctx := (s.cands n).find? fun h => s.running h

/-- The context that core `n` shows as running: one in its commit is not preempted (R74, R109), else the running one. -/
def State.runShown (s : State) (n : CoreId) : Option Gctx :=
  if s.core[n].up then ((s.cands n).find? fun h => (s.cx h).inCommit).or (s.runOf n) else none

/-- The paired context that runs on pair `p`, in its commit too. -/
def State.pairRuns (s : State) (p : PairId) : Option Gctx :=
  (s.runShown ⟨2 * p.val, by omega⟩).bind fun g => if (s.cx g).act.paired then some g else none

/-- Whether core `n` carries a task. -/
def State.carries (s : State) (n : CoreId) : Bool := (ctxsOf n).any fun h => (s.cx h).task.kind != .none

/-- The running context `g` has retired nothing for 1 ms (R664). -/
def State.stalled (s : State) (g : Gctx) : Bool :=
  s.running g && decide (max (s.cx g).act.retiredAt s.core[coreOf g].lastRetire + 1000000 ≤ s.clk)

/-- Island state of core `n` (R173). -/
def State.island (s : State) (n : CoreId) : Nat :=
  if !s.core[n].powered then 0 else if s.core[n].sw.isSome then 3 else if s.core[n].clockOn then 2 else 1

/-- Whether the clock of core `n` has work (R174). -/
def State.clockWanted (s : State) (n : CoreId) : Bool :=
  (s.cands n).any fun h => (s.cx h).act.status == .ready || (s.cx h).inCommit

/-- Starts or stops the clock of core `n` (R29, R174) and counts restarts. -/
def State.clockOf (s : State) (n : CoreId) : Core :=
  let c := s.core[n]
  let w := s.clockWanted n
  { c with clockOn := w, restarts := c.restarts + b2n (w && !c.clockOn), lastRetire := if w && !c.clockOn then s.clk else c.lastRetire }

/-- Brings the clocks of both cores of a pair up to date. -/
def State.clocks (s : State) (p : PairId) : State :=
  let a : CoreId := ⟨2 * p.val, by omega⟩
  let b : CoreId := ⟨2 * p.val + 1, by omega⟩
  { s with core := (s.core.set a (s.clockOf a)).set b (s.clockOf b) }

/-- Sets the status of a context, with the clocks of its pair following. -/
def State.setStatus (s : State) (g : Gctx) (st : Status) : State :=
  (s.modAct g fun a => { a with status := st }).clocks (pairOf g)

/-! ## Releases -/

/-- Registers of a context at a release (R162). -/
def Regs.atRelease (r : Regs) (t : Task) : Regs :=
  { r with
    pc := t.entry, g := (Vector.replicate 15 0).set 13 t.stack
    z := false, n := false, c := false, v := false, l := false
    lstack := [], rstack := [], priv := false, trapact := false }

/-- Image state of a context at a release: the gather (R67), empty staging. -/
def ImgCtx.atRelease (i : ImgCtx) (epoch : Word) : ImgCtx :=
  { i with gather := epoch, gaged := false, staged := [], used := 0, dirty := [] }

/-- The task a release of context `g` starts (R291). -/
def Ctx.taskNow (c : Ctx) : Task := c.next.getD c.task

/-- A context at a release with release time `rel`, `demoted` under a pair restart (R67, R162, R257), which keeps a held release
(R63). -/
def Ctx.released (c : Ctx) (rel : Word64) (demoted : Bool) (epoch : Word) (newVer : Bool) (clk : Nat) : Ctx :=
  let t := c.taskNow
  { regs := c.regs.atRelease t
    task := t
    next := none
    img := c.img.atRelease epoch
    port := { c.port with txn := none, held := none }
    act := { c.act with
      demoted := demoted, held := demoted && c.act.held, everRel := true, rel := rel, relClk := clk, overran := false, missed := false
      paired := t.paired && !(c.act.broken && c.act.dbgHalt), broken := c.act.broken && c.act.dbgHalt
      after := none, newVer := newVer, leaving := false, used := 0, stall := 0, retiredAt := clk } }

/-- Whether an activation released now belongs to the new version of an edit (R291). -/
def State.newVersion (s : State) : Bool := s.prog.edit.st == 3 || s.prog.edit.st == 4

/-- Releases context `g` with release time `rel`; a broken context is paired again (R266). -/
def State.releaseAs (s : State) (g : Gctx) (rel : Word64) (demoted : Bool) : State :=
  let back := (s.cx g).act.broken && !(s.cx g).act.dbgHalt
  let s := when_ back (fun s => s.rec_ 0xD012 (0x48 + (pairOf g).val) g.val) s
  let s := s.modTdm fun t => if demoted then t else t.forward 0 g.val s.img.epoch rel
  (s.modCx g fun c => c.released rel demoted s.img.epoch s.newVersion s.clk).setStatus g .ready

/-- Releases context `g` now. -/
def State.release (s : State) (g : Gctx) : State := s.releaseAs g s.time.tb false

/-- Counts and records skipped releases (R65, R104). -/
def State.skip (s : State) (g : Gctx) (n cause : Nat) : State :=
  if n = 0 then s
  else (s.modAct g fun a => { a with skipCnt := a.skipCnt + n, fSkipped := true }).rec_ 0x2012 g.val g.val n cause

/-- Release times of a cyclic task in nanoseconds (R58): the latest one at or before `tb`, and how many of them
lie after `lo` and at or before `tb`. -/
def passed (period offset lo tb : Nat) : Option (Nat × Nat) :=
  if period = 0 ∨ tb < offset then none
  else
    let r := (tb - offset) / period * period + offset
    if r ≤ lo then none
    else
      let k0 := if lo < offset then 0 else (lo - offset) / period + 1
      some (r, (tb - offset) / period + 1 - k0)

/-- The instant after which a cyclic task's first release lies: its latest release time that was released or skipped, or 1 ms
after entry to RUN (R61, R87). -/
def State.releaseFloor (s : State) (g : Gctx) : Nat :=
  match (s.cx g).act.seen with
  | some l => l.toNat
  | none => s.op.enter.toNat + 999999

/-- The time base steps backward: a cyclic task's next release time is the first after that of its last release, so release
times that were skipped after it count again (R61). -/
def Ctx.steppedBack (c : Ctx) : Ctx := { c with act := { c.act with seen := c.act.last } }

/-- Every task after a backward step of the time base (R61). -/
def State.steppedBack (s : State) : State := { s with ctx := s.ctx.map Ctx.steppedBack }

/-- Whether the fabric keeps an address of a core bank from `g`: the staging half is reserved to the gaffer's loader while an edit is in work
(R287). From Ts on the new version runs from that half, so its activations reach it (DEDUCED, log entry 83). -/
def State.stagingHeld (s : State) (g : Gctx) (a : Nat) : Bool :=
  s.prog.edit.st != 0 && decide (a < 0x400000) && (decide (0x40000 ≤ a % 0x80000) != s.prog.upper) && !(s.newVersion && (s.cx g).act.newVer)

/-- Whether the scheduler releases at all: RUN, outside the lehr, not on a TRAIL (R84, R367, R615). -/
def State.releasing (s : State) : Bool := s.op.st == .run && s.nv.lehr == .none && !s.isTrail

/-! ## Check-in mask -/

/-- Bit `g` of a context mask. -/
def ctxBit (g : Gctx) : BitVec 64 := BitVec.ofNat 64 (2 ^ g.val)

/-- The supervised tasks that are released (R686). -/
def State.supervised (s : State) : BitVec 64 :=
  allCtx.foldl (fun m g =>
    if s.cfg (0x9100 + g.val) 1 0 = 1 ∧ (s.cx g).task.kind ≠ .none ∧ (s.cx g).act.status ≠ .stopped then m ||| ctxBit g else m) 0

/-- An interval is excused when it expects `g` (R685). -/
def Interval.excuse (i : Interval) (g : Gctx) : Interval :=
  { i with excused := i.excused || (i.exp &&& ctxBit g) != 0 }

/-- The task of `g` stops, is halted or reloads: its EXP bit is cleared and intervals that expect it are excused
(R685, R686). -/
def State.unexpect (s : State) (g : Gctx) : State :=
  { s with sup := { s.sup with
      expCfg := s.sup.expCfg &&& ~~~(ctxBit g), cur := s.sup.cur.excuse g, closing := s.sup.closing.map (·.excuse g) } }

/-- Intervals that expect `g` are excused while it is halted (R685). -/
def State.excuseHalted (s : State) (g : Gctx) : State :=
  { s with sup := { s.sup with cur := s.sup.cur.excuse g, closing := s.sup.closing.map (·.excuse g) } }

/-- The operating state is not RUN: every interval in work is excused (R685). -/
def State.excuseAll (s : State) : State :=
  { s with sup := { s.sup with
      cur := { s.sup.cur with excused := true }, closing := s.sup.closing.map fun i => { i with excused := true } } }

/-- The EXP bits of the supervised tasks are set for the intervals to come (R686). -/
def State.expectAll (s : State) : State := { s with sup := { s.sup with expCfg := s.supervised } }

/-! ## Abandonment and completion -/

/-- Drops the items of a context that its pair unit still holds. -/
def Pair.forget (p : Pair) (g : Gctx) : Pair := { p with items := p.items.filter fun i => i.ctx != g }

/-- A context whose activation is abandoned: uncommitted entries and retained changes are discarded (R80). -/
def Ctx.dropped (c : Ctx) : Ctx :=
  { c with
    img := { c.img with staged := [], dirty := [] }
    port := { c.port with txn := none, held := none }
    act := { c.act with paired := false, demoted := false, after := none } }

/-- Offset of a retained half in the record store (R345). -/
def halfOff (b : Bool) : Nat := if b then 0xD8000 else 0x58000

/-- The word addresses of a retained layout, in the order of its entries (R362): CB address of word i. -/
def retAddrs : List RetEnt → List Nat
  | [] => []
  | e :: r => ((List.range e.count).map fun j => cbBase (e.ctx / 8) + e.off + 4 * j) ++ retAddrs r

/-- Whether the activations of a version use the layout and the half of an edit that changes the retained layout (R291, R365). -/
def State.usesNewRet (s : State) (newVer : Bool) : Bool := newVer && s.newVersion && s.prog.edit.layout

/-- The retained layout and half of an activation (R291, R365): those of the version left, of the new version, or in force. -/
def State.retVer (s : State) (newVer leaving : Bool) : List RetEnt × Bool :=
  match leaving, s.prog.leave with
  | true, some l => (l.ret, l.half)
  | _, _ => if s.usesNewRet newVer then (s.prog.edit.ret, !s.nv.half) else (s.prog.ret, s.nv.half)

/-- The last committed value of the retained word at record-store offset `off`: still in the journal, else in the record store (R363). -/
def State.committedAt (s : State) (off : Nat) : Word :=
  match s.nv.queue.find? fun e => e.1 == off with
  | some e => e.2
  | none => rdWord s.mem (nvBase + off)

/-- The retained words that `g` changed since its last commit take their last committed values again (R80). -/
def State.rollBack (s : State) (g : Gctx) : State :=
  let v := s.retVer (s.cx g).act.newVer (s.cx g).act.leaving
  s.putWords ((s.cx g).img.dirty.filterMap fun i => (retAddrs v.1)[i]?.map fun a => (a, (s.committedAt (halfOff v.2 + 4 * i)).toNat))

/-- A context takes the task it was to switch to (R291). -/
def Ctx.settled (c : Ctx) : Ctx :=
  match c.next with
  | some t => { c with task := t, next := none }
  | none => c

/-- Core `n` loses its supply: its contexts hold no state (R31). -/
def State.gate (s : State) (n : CoreId) : State :=
  let s := s.modCore n fun c => { c with powered := false, clockOn := false }
  (ctxsOf n).foldl (fun s g => s.modCx g fun c => { c with regs := .blank n.val, port := .blank }) s

/-- Cores on which no context is loaded are gated (R31). -/
def State.gateIdle (s : State) : State :=
  (List.finRange 8).foldl (fun s n => if s.core[n].powered && !s.carries n then s.gate n else s) s

/-- The activation of `g` is over: it takes the task it was to switch to, and so does its context on the checker (R56, R238, R291). -/
def State.takeNext (s : State) (g : Gctx) : State :=
  if (s.cx g).next.isNone then s
  else
    let was := (s.cx g).task.paired
    let s := s.modCx g Ctx.settled
    (if was ∨ (s.cx g).task.paired then s.modCx (checkerOf g) fun c => { c with task := (s.cx g).task, next := none } else s).gateIdle

/-- Abandons the activation of `g`, which then is in state `st`; a commit already at the image engine completes
first (R80). What its pair unit still holds of it goes too: R80 lets an abandoned activation leave nothing further, and R253 says so of
a mismatch (DEDUCED, log entry 77). -/
def State.abandonTo (s : State) (g : Gctx) (st : Status) : State :=
  if (s.cx g).inCommit then s.modAct g fun a => { a with after := some st }
  else if (s.cx g).inProgress then
    ((((s.rollBack g).modCx g Ctx.dropped).modPair (pairOf g) fun p => p.forget g).setStatus g st).takeNext g
  else s.setStatus g st

/-- Abandons the activation of `g`, if it has one. -/
def State.abandon (s : State) (g : Gctx) : State := if (s.cx g).inProgress then s.abandonTo g .idle else s

/-- Abandons every activation. -/
def State.abandonAll (s : State) : State := allCtx.foldl (fun s g => s.abandon g) s

/-- Contexts with an activation in progress. -/
def State.inProgress (s : State) : List Gctx := allCtx.filter fun g => (s.cx g).inProgress

/-- Discards every held release (R88, R367). -/
def State.dropHeld (s : State) : State :=
  { s with ctx := s.ctx.map fun c => { c with act := { c.act with held := false } } }

/-- Saturated difference of two instants of the time base, in ns (R71, R105). -/
def nsSince (tb rel : Word64) : Nat := satAdd 0xFFFFFFFF (tb.toNat - rel.toNat) 0

/-- A context whose activation completes at time base `tb` (R71, R105). -/
def Ctx.completed (c : Ctx) (tb : Word64) : Ctx :=
  let r := nsSince tb c.act.rel
  { c with
    img := { c.img with dirty := [] }
    act := { c.act with
      actCnt := c.act.actCnt + 1, maxUsed := max c.act.maxUsed c.act.used
      lastResp := r, maxResp := max c.act.maxResp r, paired := false, demoted := false, after := none } }

/-- Completes the activation of `g`: it becomes idle, or stopped when its task was stopped meanwhile. -/
def State.complete (s : State) (g : Gctx) : State :=
  let st := (s.cx g).act.after.getD .idle
  let p := (s.cx g).act.paired
  let s := ((s.modCx g (·.completed s.time.tb)).setStatus g st).takeNext g
  when_ p (·.modPair (pairOf g) fun q => { q with actCnt := q.actCnt + 1 }) s

/-! ## Operating state -/

/-- Code of an operating state (R84). -/
def OpState.code : OpState → Nat
  | .stop => 0
  | .run => 1
  | .halt => 2

/-- Records a change of operating state (R84, R104). -/
def State.recState (s : State) (new_ old cause : Nat) : State := s.rec_ 0x2022 0x50 new_ old cause

/-- Copies retained words from record-store offset `off` upward into the core banks (R87); a word that the record store cannot give is
free (R342). -/
def State.restoreWords (s : State) (off : Nat) : List Nat → State
  | [] => s
  | a :: r =>
    let q := s.nvGet (nvBase + off)
    (q.1.putWord a q.2.toNat).restoreWords (off + 4) r

/-- The retained layout in force, and the half that holds it: those of the new version while an edit with a layout
change is PENDING (R365). -/
def State.retNow (s : State) : List RetEnt × Bool :=
  if s.newVersion && s.prog.edit.layout then (s.prog.edit.ret, !s.nv.half) else (s.prog.ret, s.nv.half)

/-- Words that still wait in the journal for the half at record-store offset `base`, over the words of the core banks (R363): a wait
at entry to RUN restores what was committed last. -/
def State.restoreQueued (s : State) (base : Nat) (addrs : List Nat) : State :=
  s.putWords (s.nv.queue.filterMap fun e =>
    if base ≤ e.1 then addrs[(e.1 - base) / 4]?.map fun a => (a, e.2.toNat) else none)

/-- Restores the retained variables from the record store (R87): the values of the last commits, of which those still in the journal
take the place of the record store's (DEDUCED, log entry 76). -/
def State.restoreRetained (s : State) : State :=
  let base := halfOff s.retNow.2
  let addrs := retAddrs s.retNow.1
  (s.restoreWords base addrs).restoreQueued base addrs

/-- Ends a stop: what still runs is abandoned, field outputs take their safe values (R88). -/
def State.finishStop (s : State) : State :=
  s.abandonAll.modOp fun o => { o with stopping := none, safe := true }

/-- Ends a stop once no activation is in progress (R88). -/
def State.stopIfIdle (s : State) : State :=
  if s.op.stopping.isSome ∧ s.inProgress = [] then s.finishStop else s

/-- A context at entry to RUN: a stopped task is released again, and releases start anew (R82, R87). -/
def Ctx.atRun (c : Ctx) : Ctx :=
  let st := if c.act.status = .stopped then .idle else c.act.status
  { c with act := { c.act with status := st, held := false, last := none, seen := none } }

/-- Entry to RUN (R87): a stop in progress is completed first (R88). -/
def State.enterRun (s : State) (cause : Nat) : State :=
  let old := s.op.st.code
  let s := if s.op.stopping.isSome then s.finishStop else s
  let s := { s with ctx := s.ctx.map Ctx.atRun }
  let s := s.restoreRetained.modOp fun o => { o with
      st := .run, enter := s.time.tb, enterClk := s.clk, armed := false, safe := false, stopping := none }
  s.expectAll.recState 1 old cause

/-- Leaving RUN for STOP (R88). -/
def State.leaveRun (s : State) (cause : Nat) : State :=
  let s := s.dropHeld.modOp fun o => { o with st := .stop, stopping := some s.clk, armed := false }
  let s := allCtx.foldl (fun s g => if (s.cx g).task.kind = .background then s.abandon g else s) s
  let s := { s with sup := { s.sup with expCfg := 0 } }
  (s.excuseAll.recState 0 1 cause).stopIfIdle

/-- HALT to STOP by command or key (R85). -/
def State.leaveHalt (s : State) (cause : Nat) : State :=
  (s.modOp fun o => { o with st := .stop }).recState 0 2 cause

/-- Entry to HALT (R89), from RUN or while activations continue under R88. -/
def State.halt (s : State) (g : Gctx) (cause : Nat) : State :=
  if s.op.st = .run ∨ (s.op.st = .stop ∧ s.op.stopping.isSome) then
    let old := s.op.st.code
    let s := s.dropHeld.abandonAll.modOp fun o => { o with
      st := .halt, haltCause := BitVec.ofNat 8 cause, stopping := none, safe := true, armed := false }
    let s := { s with sup := { s.sup with expCfg := 0 } }
    (s.excuseAll.rec_ 0x2014 0x50 g.val cause).recState 2 old 2
  else s

/-- Entry to STOP from any state. -/
def State.toStop (s : State) (cause : Nat) : State :=
  match s.op.st with
  | .run => s.leaveRun cause
  | .halt => s.leaveHalt cause
  | .stop => s

/-! ## Overrun and mismatch actions -/

/-- STOP_TASK (R77, R82): the activation is abandoned and the task is not released again. -/
def State.stopTask (s : State) (g : Gctx) (cause : Nat) : State :=
  ((s.abandonTo g .stopped).unexpect g).rec_ 0x2013 g.val g.val cause

/-- An overrun action (R77) by its code. -/
def State.overrunAction (s : State) (g : Gctx) (code : Nat) : State :=
  match code with
  | 0 => s.modAct g fun a => { a with demoted := true }
  | 1 => s.modAct g fun a => { a with demoted := true, skipNext := true }
  | 2 => s.stopTask g 0
  | _ => s.halt g 1

/-- An overrun action with LOG and SKIP taken as STOP_TASK (R168, R664); a stop whose last activation it ends is complete (R88).
R54 gives a background task no overrun action; STOP_TASK is taken for it (DEDUCED, log entry 80). -/
def State.hardAction (s : State) (g : Gctx) : State :=
  (s.overrunAction g (if (s.cx g).task.action ≤ 1 then 2 else (s.cx g).task.action)).stopIfIdle

/-- Pair restarts of a task within the preceding 10 s (R258). -/
def State.recentRestarts (s : State) (g : Gctx) : List Nat :=
  (s.cx g).act.restarts.filter fun t => s.clk ≤ t + 10000000000

/-- RESTART (R257, R258): released again at once, demoted, with the old release time; a task over its limit is
stopped. While a stop is in progress the task is not released again (R88). -/
def State.mmRestart (s : State) (g : Gctx) : State :=
  let old := s.recentRestarts g
  if s.cfg 0xD128 1 3 ≤ old.length then (s.stopTask g 1).rec_ 0xD014 (0x48 + (pairOf g).val) g.val old.length
  else if s.op.st = .run ∧ s.nv.lehr = .none then
    ((s.abandon g).modAct g fun a => { a with restarts := s.clk :: old }).releaseAs g (s.cx g).act.rel true
  else s.abandon g

/-- A mismatch action (R256), with `noRestart` RESTART taken as STOP_TASK (R262). -/
def State.mismatchAction (s : State) (g : Gctx) (noRestart : Bool) : State :=
  match (s.cx g).task.mmaction with
  | 0 => if noRestart then s.stopTask g 1 else s.mmRestart g
  | 1 => s.halt g 2
  | _ => (s.halt g 2).modOp fun o => { o with failover := true }

/-- The action that a failed comparator owes a task is applied at its next release instant (R262). -/
def State.payOwed (s : State) (g : Gctx) : State :=
  (s.modAct g fun a => { a with owed := false }).mismatchAction g true

/-! ## Event lines (R177–R183) -/

/-- Counts the instruction of `g` at `pc` as retired: on its core, and on the checker's core when it runs paired (R160). -/
def State.retired (s : State) (g : Gctx) (pc : Word) : State :=
  let up := fun (c : Core) => { c with retired := c.retired + 1, lastRetire := s.clk }
  let n := coreOf g
  let s' := (s.modAct g fun a => { a with retiredAt := s.clk, lastPc := pc }).modCore n up
  if (s.cx g).act.paired then s'.modCore (checkerCore g) up else s'

/-- A wait of `g` ends: WFE or WAITT retires and `g` is ready. An activation that a failed comparator left with an action due retires
nothing more; the action takes its place at the dispatch (R262). -/
def State.waitEnds (s : State) (g : Gctx) : State :=
  if (s.cx g).act.owed then s.setStatus g .ready
  else ((s.modRegs g fun r => { r with pc := r.pc + 4 }).retired g (s.cx g).regs.pc).setStatus g .ready

/-- Wakes a context that waits in WFE once an event of its mask is pending (R182): WFE retires. -/
def State.wakeEvent (s : State) (g : Gctx) : State :=
  if (s.cx g).act.status = .waitEvent ∧ (s.cx g).regs.wakes then s.waitEnds g else s

/-- Whether context `g` holds the event task bound to line `l`. -/
def State.boundTo (s : State) (l : Nat) (g : Gctx) : Bool :=
  (s.cx g).taskNow.kind == .event && (s.cx g).taskNow.evline == l && !s.isChecker g

/-- The context that line `l` releases (R112). -/
def State.bound (s : State) (l : Nat) : Option Gctx := allCtx.find? fun g => s.boundTo l g

/-- Whether a release of `g` lies less than its minimum inter-arrival time after its last one (R63). -/
def State.tooSoon (s : State) (g : Gctx) : Bool :=
  (s.cx g).act.everRel && decide (s.time.tb.toNat < (s.cx g).act.rel.toNat + (s.cx g).taskNow.period * 1000)

/-- Whether the core of the task of `g`, or a core of its pair for a paired task, is being reloaded (R666). -/
def State.reloading (s : State) (g : Gctx) : Bool :=
  s.core[coreOf g].reload.isSome || ((s.cx g).taskNow.paired && s.core[checkerCore g].reload.isSome)

/-- An assertion of the line bound to `g` (R62–R64, R180). -/
def State.eventRelease (s : State) (g : Gctx) (l : Nat) : State :=
  if s.op.st ≠ .run ∨ !s.op.armed ∨ (s.nv.lehr ≠ .none ∧ l ≠ 185) ∨ (s.nv.lehr ≠ .none ∧ s.nv.lehr ≠ .step2) then s
  else if (s.cx g).act.status = .stopped ∨ s.clk < (s.cx g).act.armFrom then s
  else if s.reloading g then s.modAct g fun a => { a with reloadSkip := a.reloadSkip + 1, skipCnt := a.skipCnt + 1, fSkipped := true }
  else if (s.cx g).act.held then s.modAct g fun a => { a with coalCnt := a.coalCnt + 1, fCoal := true }
  else if (s.cx g).inProgress ∨ s.tooSoon g then
    s.modAct g fun a => { a with held := true, deferCnt := a.deferCnt + 1, fDeferred := true }
  else if (s.cx g).act.owed then s.payOwed g
  else if (s.cx g).act.skipNext then (s.modAct g fun a => { a with skipNext := false }).skip g 1 1
  else s.release g

/-- Sets pending bits that the mask of a context has (R180). -/
def Ctx.pend (c : Ctx) (m : BitVec 256) : Ctx :=
  { c with regs := { c.regs with evpend := c.regs.evpend ||| (c.regs.evmask &&& m) } }

/-- Whether some context's mask has line `l`. -/
def State.masked (s : State) (l : Nat) : Bool := allCtx.any fun g => (s.cx g).regs.evmask.getLsbD l

/-- An assertion of event line `l` (R180) as the event network carries it: counted, pending in every context whose mask
has it, waking waits. -/
def State.signalLine (s : State) (l : Nat) (h : l < 256) : State :=
  let m : BitVec 256 := BitVec.ofNat 256 (2 ^ l)
  let s := { s with evCount := s.evCount.set l (s.evCount[l] + 1), ctx := s.ctx.map fun (c : Ctx) => c.pend m }
  allCtx.foldl (fun s g => s.wakeEvent g) s

/-- An assertion of event line `l` (R180), which also releases the bound task. LEAD forwards it when a mask has it; a
TRAIL takes its assertions from LEAD alone (R615). -/
def State.assertLine (s : State) (l : Nat) : State :=
  if h : l < 256 then
    if s.isTrail then s
    else
      let s := s.modTdm fun t => if s.masked l then t.forward 1 l s.img.epoch s.time.tb else t
      let s := s.signalLine l h
      match s.bound l with
      | some g => s.eventRelease g l
      | none => s
  else s

/-- An assertion that LEAD forwarded, on a TRAIL (R615). -/
def State.forwardedLine (s : State) (l : Nat) : State := if h : l < 256 then s.signalLine l h else s

/-- Assertions of several lines, in order. -/
def State.assertLines (s : State) : List Nat → State
  | [] => s
  | l :: r => (s.assertLine l).assertLines r

/-- The image-stale or collision event of a context (R172, R194), which wakes its WFE. -/
def State.localEvent (s : State) (g : Gctx) (collision : Bool) : State :=
  (s.modRegs g fun r => if collision then { r with collP := true } else { r with staleP := true }).wakeEvent g

end Sys2Proof.Machine
end

