-- ==== Sys2Proof/Machine/Image.lean ====
section
/-! DEFINITION. The process image: snapshot reads, staging, forces, publication, commits handed over
(R116–R150, R217–R223). -/

namespace Sys2Proof.Machine

/-! ## Forces (R145–R148) -/

/-- The forced bits of word `w`: mask and value. -/
def forceMask (f : List (Nat × Option Bool)) (w : Nat) : Word × Word :=
  f.foldl (fun mv p =>
    if p.1 / 32 = w then
      (match p.2 with
       | some b => (mv.1 ||| BitVec.ofNat 32 (2 ^ (p.1 % 32)), if b then mv.2 ||| BitVec.ofNat 32 (2 ^ (p.1 % 32)) else mv.2)
       | none => mv)
    else mv) (0, 0)

/-- A word with its forced bits in place (R146, R147). -/
def State.forced (s : State) (w : Nat) (x : Word) : Word :=
  let mv := forceMask s.img.forces w
  (x &&& ~~~mv.1) ||| mv.2

/-! ## Reads (R125–R131, R217) -/

/-- The version every input word holds after power-on reset (R125). -/
def bornVersion : Version := ⟨0, 0, true⟩

/-- The versions of an input word, newest first. -/
def State.versions (s : State) (w : Nat) : List Version := sget [bornVersion] s.img.ver w

/-- Whether a version is at or below a gather epoch (R126). -/
def Version.atOrBelow (v : Version) (gather : Word) : Bool := v.aged || decide ((gather - v.epoch).toNat < 2 ^ 31)

/-- The oldest retained version. -/
def oldest (vs : List Version) : Version := vs.getLast?.getD bornVersion

/-- Snapshot choice of R127: the value, and whether the read is stale. -/
def snapshot (vs : List Version) (gather : Word) (gaged : Bool) : Word × Bool :=
  match vs.find? (·.atOrBelow gather) with
  | some v => if gaged then ((oldest vs).val, true) else (v.val, false)
  | none => ((oldest vs).val, true)

/-- Reserved words of the hierarchy regions (R119, R222). -/
def reservedWord (w : Nat) : Bool := decide (0x3FE0 ≤ w ∧ w ≤ 0x3FFF) || decide (0x7FE0 ≤ w ∧ w ≤ 0x7FFF)

/-- The committed value of an output word. -/
def State.outWord (s : State) (w : Nat) : Word := sget 0 s.img.out w

/-- A word with staged entries in place (R131). -/
def overlay (w : Nat) (x : Word) : List StageEnt → Word
  | [] => x
  | e :: r => overlay w (if e.word = w then (x &&& ~~~e.mask) ||| e.val else x) r

/-- What a reader outside the cores sees of a word: newest version or committed value, with forces (R146, R147). -/
def State.imgWord (s : State) (w : Nat) : Word :=
  if reservedWord w then 0
  else if w < 0x4000 then s.forced w ((s.versions w).head?.getD bornVersion).val
  else s.forced w (s.outWord w)

/-- Whether an image read of word `w` by `g` is stale (R127, R130), or detector 46 reports it (R714). -/
def State.readStale (s : State) (g : Gctx) (w : Nat) : Bool :=
  decide (w < 0x4000) && !reservedWord w && (snapshot (s.versions w) (s.cx g).img.gather (s.cx g).img.gaged).2

/-- The value an image read gives. -/
def State.readValue (s : State) (g : Gctx) (w : Nat) : Word :=
  if reservedWord w then 0
  else if w < 0x4000 then s.forced w (snapshot (s.versions w) (s.cx g).img.gather (s.cx g).img.gaged).1
  else s.forced w (overlay w (s.outWord w) (s.cx g).img.staged)

/-- A stale read of word `w` by `g` is reported (R127): flag, count, event, record. -/
def State.reportStale (s : State) (g : Gctx) (w : Nat) (inj : Bool) : State :=
  let s := s.modImgCtx g fun i => { i with stale := true, staleW := w, staleN := satAdd 0xFFFF i.staleN 1 }
  let s := s.modImg fun i => { i with staleCnt := satInc i.staleCnt }
  (s.recInj 0x2040 g.val g.val w (s.cx g).img.gather.toNat inj).localEvent g false

/-- What an image read does beside giving its value. -/
def State.afterRead (s : State) (g : Gctx) (w : Nat) : State :=
  if s.readStale g w then (if s.injFor 46 g.val then s.injDone 46 else s).reportStale g w false
  else if s.injFor 46 g.val then (s.injDone 46).reportStale g (s.det 46).b.toNat true
  else s

/-! ## Staging (R133–R136, R217) -/

/-- Merges a masked write into the entries of a context (R133), or adds an entry. -/
def mergeStage (w : Nat) (m v : Word) : List StageEnt → List StageEnt
  | [] => [⟨w, m, v &&& m⟩]
  | e :: r => if e.word = w then { e with mask := e.mask ||| m, val := (e.val &&& ~~~m) ||| (v &&& m) } :: r else e :: mergeStage w m v r

/-- Whether a context has an entry for a word since its last commit. -/
def ImgCtx.hasEntry (i : ImgCtx) (w : Nat) : Bool := i.staged.any fun e => e.word == w

/-- Whether a staged write would need an entry beyond the limit (R134, R135). -/
def Ctx.stageFull (c : Ctx) (w : Nat) : Bool := !c.img.hasEntry w && decide (c.task.staging ≤ c.img.used)

/-- A staged write that its checks have passed. -/
def State.stage (s : State) (g : Gctx) (w : Nat) (m v : Word) : State :=
  s.modImgCtx g fun i => { i with
    staged := mergeStage w m v i.staged, used := if i.hasEntry w then i.used else i.used + 1 }

/-! ## Publication (R120–R124, R178) -/

/-- The versions of a word after a publication: the oldest slot is overwritten. -/
def pushVersion (vs : List Version) (v : Version) : List Version := (v :: vs).take 4

/-- Writes the words of a set under one epoch. -/
def pubWords (ver : List (Nat × List Version)) (epoch : Word) : List (Nat × Word) → List (Nat × List Version)
  | [] => ver
  | (w, x) :: r => pubWords (sset [bornVersion] ver w (pushVersion (sget [bornVersion] ver w) ⟨epoch, x, false⟩)) epoch r

/-- The image after a publication set has become visible (R120, R121, R129). -/
def Img.published (i : Img) (p : PubSet) (clk : Nat) : Img :=
  let e := i.epoch + 1
  { i with
    epoch := e, ver := pubWords i.ver e p.words
    lastPub := sset none i.lastPub p.src (some clk), heldPub := sset none i.heldPub p.src none
    lastSrc := p.src, lastSize := p.words.length
    sweep := i.sweep || e.toNat % 2 ^ 30 == 0 }

/-- Runs of consecutive words of a set: first word and count, then the words (R631). -/
def pubRuns : List (Nat × Word) → List (Nat × List Word)
  | [] => []
  | (w, x) :: r =>
    match pubRuns r with
    | (w', xs) :: q => if w' = w + 1 then (w, x :: xs) :: q else (w, [x]) :: (w', xs) :: q
    | [] => [(w, [x])]

/-- PUBLISH payload (R631): epoch, source, number of runs, runs, words. -/
def publishPayload (epoch : Word) (p : PubSet) : List Byte :=
  let runs := pubRuns p.words
  leBytes 4 epoch.toNat ++ leBytes 2 p.src ++ leBytes 2 runs.length
    ++ runs.flatMap (fun r => leBytes 2 r.1 ++ leBytes 2 r.2.length)
    ++ p.words.flatMap fun wx => leBytes 4 wx.2.toNat

/-- A context that gathered in this cycle under image epoch `e` and has executed nothing since. -/
def Ctx.gathersNow (c : Ctx) (e : Word) (clk : Nat) : Bool := c.inProgress && c.act.relClk == clk && c.act.used == 0 && c.img.gather == e

/-- A RELEASE frame that still waits for the link takes the new gather epoch of its release. -/
def TlFrame.regather (f : TlFrame) (g : Nat) (c : Ctx) (e e' : Word) : TlFrame :=
  if f.type = 4 ∧ f.payload = releasePayload 0 g e c.act.rel then { f with payload := releasePayload 0 g e' c.act.rel } else f

/-- Gathers that reached the image engine in the cycle in which a set completed include it (R128): their contexts take the new epoch, and so
does what LEAD forwards of them. A TRAIL gathers under LEAD's epochs (R615). -/
def State.gatherAgain (s : State) (e : Word) : State :=
  if s.isTrail then s
  else
    let e' := s.img.epoch
    let tx := allCtx.foldl (fun tx g => if (s.cx g).gathersNow e s.clk then tx.map fun f => f.regather g.val (s.cx g) e e' else tx) s.tdm.tx
    let s := { s with ctx := s.ctx.map fun (c : Ctx) => if c.gathersNow e s.clk then { c with img := { c.img with gather := e' } } else c }
    s.modTdm fun t => { t with tx := tx }

/-- Whether a march on SB keeps its owner and the gaffer away (R329). -/
def State.sbMarches (s : State) : Bool := s.bank[(9 : Fin 11)].march.isSome

/-- Whether a march on IB holds publications back (R329). -/
def State.ibMarches (s : State) : Bool := s.bank[(8 : Fin 11)].march.isSome

/-- A publication set becomes visible and asserts its lines in the same cycle (R178); LEAD sends it to a TRAIL that is
IN_STEP (R614). -/
def State.publishNow (s : State) (p : PubSet) : State :=
  let e := s.img.epoch
  let s := if s.leadPaired then s.tlSend 2 (publishPayload (e + 1) p) else s
  ({ s with img := s.img.published p s.clk }.gatherAgain e).assertLines p.lines

/-- Minimum publication interval in ns of the sources that are given one (R122). -/
def State.pubWhole (s : State) (src : Nat) : Nat :=
  if src = 0 then s.cfg 0x3000 1 1000 * 1000
  else if src ≤ 2 then s.cfg (0x4010 + (src - 1)) 4 10 * 1000000
  else if src = 3 then 1000000
  else if src < 0x200 then s.cfg (0x5100 + (src - 0x100)) 0x0B 1000 * 1000
  else if src < 0x380 then s.cfg (0x6100 + (src - 0x300)) 9 1000 * 1000
  else if src < 0x400 then s.cfg (0x6200 + (src - 0x380)) 9 1000 * 1000
  else s.cfg 0x7000 6 10000 * 1000

/-- Minimum publication interval of a source (R122), by its source code (R153), in ns as a numerator and a denominator. -/
def State.pubNs (s : State) (src : Nat) : Nat × Nat :=
  if 0x200 ≤ src ∧ src < 0x300 then (1000000000, max 1 (s.cfg (0x5400 + (src - 0x200)) 8 4000)) else (s.pubWhole src, 1)

/-- Minimum publication interval in ns, rounded up to the crystal's ns. -/
def State.pubInterval (s : State) (src : Nat) : Nat := ((s.pubNs src).1 + (s.pubNs src).2 - 1) / (s.pubNs src).2
/-- Whether the minimum interval of a source has passed since its last publication. -/
def State.pubDue (s : State) (src : Nat) : Bool :=
  match sget none s.img.lastPub src with
  | some t => decide (t + s.pubInterval src ≤ s.clk)
  | none => true

/-- A source's data arrives (R123): it takes the place of held data of the source, which counts as coalesced. -/
def Img.hold (i : Img) (p : PubSet) : Img :=
  { i with
    heldPub := sset none i.heldPub p.src (some p)
    coalCnt := if (sget none i.heldPub p.src).isSome then satInc i.coalCnt else i.coalCnt }

/-- A source's data arrives (R123): published, or held until its interval has passed or a march on IB has ended (R329). A TRAIL publishes
no source of its own (R614). -/
def State.publish (s : State) (p : PubSet) : State :=
  if s.isTrail then s
  else if s.pubDue p.src ∧ !s.ibMarches then (s.modImg fun i => i.hold p).publishNow p
  else s.modImg fun i => i.hold p

/-- Consecutive words from `w`. -/
def wordsFrom (w : Nat) : List Word → List (Nat × Word)
  | [] => []
  | x :: r => (w, x) :: wordsFrom (w + 1) r

/-- More than 2^30 behind the image epoch (R129). -/
def farBehind (epoch e : Word) : Bool := decide (2 ^ 30 < (epoch - e).toNat)

/-- Aging marks on the versions of a word. -/
def ageVersions (epoch : Word) (vs : List Version) : List Version :=
  vs.map fun v => { v with aged := v.aged || farBehind epoch v.epoch }

/-! ## Commits handed to the image engine (R68, R137–R141) -/

/-- The commit of what `g` staged and changed since its last commit. -/
def State.mkCommit (s : State) (g : Gctx) (byEnd : Bool) : Commit :=
  { ctx := g, entries := (s.cx g).img.staged, dirty := (s.cx g).img.dirty, newVer := (s.cx g).act.newVer, leaving := (s.cx g).act.leaving
    byEnd := byEnd, waiting := none }

/-- Sends a commit to the image engine; the context waits for its completion (R74, R140). -/
def State.sendCommit (s : State) (g : Gctx) (byEnd : Bool) : State :=
  let c := s.mkCommit g byEnd
  let s := s.modImg fun i => { i with commits := i.commits ++ [c] }
  (s.modImgCtx g fun i => { i with staged := [], dirty := [] }).setStatus g (.committing byEnd)

/-! ## Retained words (R362, R365) -/

/-- The index in a retained layout of the word at CB address `a`. -/
def retIndex (a : Nat) : List RetEnt → Nat → Option Nat
  | [], _ => none
  | e :: r, i =>
    let base := cbBase (e.ctx / 8) + e.off
    if base ≤ a ∧ a < base + 4 * e.count then some (i + (a - base) / 4) else retIndex a r (i + e.count)

/-- Marks the retained word at CB address `a` as changed by the activation of `g` (R68). -/
def State.markDirty (s : State) (g : Gctx) (a : Nat) : State :=
  match retIndex a (s.retVer (s.cx g).act.newVer (s.cx g).act.leaving).1 0 with
  | some i => s.modImgCtx g fun c => { c with dirty := if c.dirty.contains i then c.dirty else c.dirty ++ [i] }
  | none => s

/-! ## The two ports of a bank (R308–R318) -/

/-- Whether two addresses lie in the same word (R310). -/
def sameWord (a b : Nat) : Bool := a / 4 == b / 4

/-- A write at a bank: the bytes, and a full word clears an uncorrectable error (R321). -/
def State.bankWrite (s : State) (a : Nat) (size : BitVec 2) (x : Word) : State :=
  let n := sizeBytes size
  { s with mem := wrMem s.mem a n x.toNat, errs := if n = 4 then sset 0 s.errs (a / 4) 0 else s.errs }

/-- The fabric port of a master other than an application core, by its ring position. -/
def State.busAt (s : State) (pos : Nat) : BusPort := sget ⟨0, 0⟩ s.bus pos

/-- A response reaches a master other than an application core: an error goes into its own error register (R37, R315), a word it read
into its port. -/
def State.toBus (s : State) (pos : Nat) (q : Resp) : State :=
  { s with bus := sset ⟨0, 0⟩ s.bus pos (if q.status = 0 then { s.busAt pos with data := q.data } else { s.busAt pos with err := q.status }) }

/-- A COLLIDE at bank `b` (R314, R315): the bank notes it, and that of a master other than a core is recorded and enters its error register. -/
def State.bankCollide (s : State) (b : BankId) (pos a : Nat) : State :=
  let s := s.modBank b fun k => { k with coll := true, colAddr := BitVec.ofNat 32 a, colCnt := satInc k.colCnt, lastPos := pos }
  if 8 ≤ pos then (s.toBus pos ⟨7, 0⟩).rec_ 0xC102 (0x60 + b.val) b.val a pos else s

/-- The shared-port access that bank `b` serves in this bank cycle on the word of `a`. -/
def State.meets (s : State) (b : BankId) (a : Nat) : Option SharedAccess :=
  s.bank[b].sh.bind fun x => if x.clk = s.clk ∧ sameWord x.addr.toNat a then some x else none

/-- The word of `x` and its error mark as they were before the bank cycle. -/
def State.before (s : State) (x : SharedAccess) : State :=
  { s with mem := wrMem s.mem (x.addr.toNat / 4 * 4) 4 x.old.toNat, errs := sset 0 s.errs (x.addr.toNat / 4) x.oldErr }

/-- Memory as a read of the owner sees it in this bank cycle (R313): the value from before a shared-port write or atomic to its word. -/
def State.ownerMem (s : State) (b : BankId) (a : Nat) : List Host.Cell :=
  match s.meets b a with
  | some x => wrMem s.mem (x.addr.toNat / 4 * 4) 4 x.old.toNat
  | none => s.mem

/-- An owner's write or atomic in the same bank cycle as a shared-port write to its word: the shared write is discarded with COLLIDE
(R313, R314). -/
def State.ownerFirst (s : State) (b : BankId) (a : Nat) : State :=
  match s.meets b a with
  | some x =>
    match x.acc with
    | .write _ _ _ => ((s.before x).modBank b fun k => { k with sh := none }).bankCollide b x.pos x.addr.toNat
    | _ => s
  | none => s

/-- Marks the retained word at `a` as changed when a store of `g` changed it from `old` (R68). -/
def State.markChanged (s : State) (g : Gctx) (a old : Nat) : State :=
  if rdMem s.mem (a / 4 * 4) 4 = old then s else s.markDirty g (a / 4 * 4)

/-- A store to the own core bank (R213): the bytes are written, a changed retained word is marked. A full-word
write clears an uncorrectable error of its word (R321). A shared-port write of the same cycle to its word is discarded (R313); over a
shared-port atomic the bank applies the store in the next cycle, before anything else can read the word (R317). -/
def State.cbStore (s : State) (g : Gctx) (a : Word) (size : BitVec 2) (x : Word) : State :=
  let s := s.ownerFirst (cbOf (coreOf g)) a.toNat
  (s.bankWrite a.toNat size x).markChanged g a.toNat (rdMem s.mem (a.toNat / 4 * 4) 4)

/-- The new word of an atomic (R216). -/
def atomicVal (op : TxnOp) (old x : Word) : Word := match op with | .aadd _ => old + x | _ => x

/-- The new word of a shared-port atomic. -/
def portAtomicVal (o : PortAccess) (old : Word) : Word :=
  match o with
  | .aadd _ x => old + x
  | .aswp _ x => x
  | _ => old

/-- Counts an atomic at bank `b` (R334). -/
def State.countAtom (s : State) (b : BankId) : State := s.modBank b fun k => { k with atomCnt := k.atomCnt + 1 }

/-- An atomic on the own core bank through the owner port, with the word it returns (R216, R313): of two atomics to one word in one bank
cycle the owner's comes first, and the shared-port one executes on its result (R318). -/
def State.cbAtomic (s : State) (g : Gctx) (op : TxnOp) (a x : Word) : State × Word :=
  let b := cbOf (coreOf g)
  let w := a.toNat
  let s := (s.ownerFirst b w).countAtom b
  match s.meets b w with
  | some y =>
    let old := y.old
    let mid := atomicVal op old x
    let now := rdMem s.mem w 4
    match y.acc with
    | .aadd _ _ | .aswp _ _ =>
      (((s.toBus y.pos ⟨0, mid⟩).bankWrite w 2 (portAtomicVal y.acc mid)).markChanged g w now, old)
    | _ => ((s.bankWrite w 2 mid).markChanged g w now, old)
  | none =>
    let old := rdWord s.mem w
    ((s.bankWrite w 2 (atomicVal op old x)).markChanged g w old.toNat, old)

end Sys2Proof.Machine
end

