-- ==== Sys2Proof/Machine/NvOps.lean ====
section
/-! DEFINITION. Record-store operations shared by the families: the journal, twin records (R353–R363, R788). -/

namespace Sys2Proof.Machine

/-! ## Journal (R363, R364) -/

/-- A retained word enters the queue; a word already queued takes the new value in its entry (R363). -/
def journalPut (q : List (Nat × Word)) (off : Nat) (v : Word) : List (Nat × Word) :=
  if q.any (fun e => e.1 == off) then q.map fun e => if e.1 = off then (off, v) else e else q ++ [(off, v)]

/-- Committed words enter the queue in one step (R363). -/
def journalAll (q l : List (Nat × Word)) : List (Nat × Word) := l.foldl (fun q e => journalPut q e.1 e.2) q

/-- Words are put into the journal; the highest fill level is kept (R372). -/
def State.enqueue (s : State) (l : List (Nat × Word)) : State :=
  s.modNv fun v => { v with queue := journalAll v.queue l, qhigh := max v.qhigh (journalAll v.queue l).length }

/-- The longest queue (R364). -/
def journalMax : Nat := 16384

/-! ## What the twin records hold (R345, R548) -/

/-- Whether a row covers an index. -/
def Ent.covers (e : Ent) (idx : Nat) : Bool := decide (e.idx ≤ idx ∧ idx < e.idx + e.n)

/-- Whether the value kept for a dictionary key survives a loss of power: its entry is persistent (R547, R551). -/
def keptKey (k : Nat) : Bool :=
  decide (0xE000 ≤ k / 256) || entryTable.any fun e => e.covers (k / 256) && e.sub == k % 256 && e.pers == 1

/-- Whether a key is a calibration coefficient, which the calibration record holds (R451, R454). -/
def calKey (k : Nat) : Bool := decide (0x4100 ≤ k / 256 ∧ k / 256 < 0x4108 ∧ 2 ≤ k % 256 ∧ k % 256 < 8)

/-- Key of a twin record: region code and record ID. The IDs are the model's own: in region 0 the directory record 0 and the boot
record 1, in region 3 the calibration record 0, the energy instances 1 and 2 and the repair table 3, in regions 4 and 5 the index. -/
def twinKey (region id : Nat) : Nat := region * 65536 + id

/-- The directory record. -/
def dirKey : Nat := twinKey 0 0

/-- The key of the record of an index (R548): the hierarchy and tandem entries have the region of their area. -/
def idxKey (idx : Nat) : Nat := twinKey (if 0x7000 ≤ idx ∧ idx < 0x8000 then 4 else 5) idx

/-- Whether a dictionary key belongs to the record of index `idx`. -/
def inRecord (idx k : Nat) : Bool := k / 256 == idx && keptKey k && !calKey k

/-- What the entries of an index hold beside their kept values: the active slot (2300h:01), the mark of a restore (1010h:01). -/
def State.extraVals (s : State) (idx : Nat) : List (Nat × List Byte) :=
  if idx = 0x2300 then [(dkey 0x2300 1, leBytes 1 s.prog.active)]
  else if idx = 0x1010 then [(dkey 0x1010 1, leBytes 1 (b2n s.dict.restoreMarked))]
  else []

/-- The kept values of the dictionary whose keys `f` takes. -/
def Dict.those (d : Dict) (f : Nat → Bool) : List (Nat × List Byte) :=
  d.vals.filterMap fun p => if f p.1 then p.2.map fun v => (p.1, v) else none

/-- What the gaffer writes as the content of record `k`. -/
def State.recData (s : State) (k : Nat) : RecData :=
  let id := k % 65536
  if k = dirKey then .dir s.nv.half s.nv.clean s.nv.listed
  else if k / 65536 = 0 then .boot s.sec.active s.sec.boots
  else if k / 65536 = 3 then
    if id = 0 then .cal (s.dict.those calKey)
    else if id = 1 then .energy s.nrg.inst[0].saved.toList
    else if id = 2 then .energy s.nrg.inst[1].saved.toList
    else .repair (s.bank.toList.map fun (b : Bank) => (b.rep0, b.rep1))
  else .entry (s.dict.those (inRecord id) ++ s.extraVals id)

/-- The values of some keys give way to others. -/
def Dict.replaced (d : Dict) (f : Nat → Bool) (l : List (Nat × List Byte)) : Dict :=
  { d with vals := l.foldl (fun m p => sset none m p.1 (some p.2)) (d.vals.filter fun p => !f p.1) }

/-- The content of record `k` takes effect. -/
def State.takeData (s : State) (k : Nat) (d : RecData) : State :=
  let id := k % 65536
  match d with
  | .dir h c l => s.modNv fun v => { v with half := h, clean := c, listed := l }
  | .boot a n => { s with sec := { s.sec with active := a, boots := n } }
  | .repair l => { s with bank := Vector.ofFn fun (b : Fin 11) =>
      { s.bank[b] with rep0 := (l.getD b.val (none, none)).1, rep1 := (l.getD b.val (none, none)).2 } }
  | .cal l => s.modDict fun d => d.replaced calKey l
  | .energy l => { s with nrg := { s.nrg with inst := Vector.ofFn fun (i : Fin 2) =>
      if i.val + 1 = id then { s.nrg.inst[i] with saved := Vector.ofFn fun (a : Fin 8) => l.getD a.val (0, 0) } else s.nrg.inst[i] } }
  | .entry l =>
    if id = 0x2300 then { s with prog := { s.prog with active := leNat ((l.map (·.2)).headD []) } }
    else if id = 0x1010 then s.modDict fun d => { d with restoreMarked := leNat ((l.map (·.2)).headD []) == 1 }
    else s.modDict fun d => d.replaced (inRecord id) l

/-- The defaults of record `k` (R355, R443, R454, R332, R365); those of the boot record are the unit as delivered (log entry 6). -/
def dataDefault (k : Nat) : RecData :=
  if k = dirKey then .dir false false []
  else if k / 65536 = 0 then .boot 1 0
  else if k / 65536 = 3 then (if k % 65536 = 0 then .cal [] else if k % 65536 ≤ 2 then .energy [] else .repair [])
  else .entry []

/-! ## Copies (R353, R355) -/

/-- The header of a copy (R353). -/
def Copy.header (c : Copy) : List Byte := leBytes 2 c.id ++ leBytes 2 c.len ++ leBytes 4 c.seq.toNat ++ List.replicate 8 0

/-- The bytes of a copy (R353): header, payload, and the CRC-32C of both. -/
def Copy.bytes (c : Copy) : List Byte :=
  let b := c.header ++ Config.recPayload c.data
  b ++ wordBytes (if c.crcOk then crc32c b else Config.brokenCrc b)

/-- Bytes that a copy occupies: header, payload, CRC. -/
def Copy.size (c : Copy) : Nat := 20 + c.len

/-- Offset and size of the regions that hold twin records, region 5 by its lower half (R345). -/
def twinRegion (r : Nat) : Nat × Nat :=
  if r = 0 then (0, 0x1000) else if r = 3 then (0x4000, 0x4000) else if r = 4 then (0x8000, 0x10000) else (0x18000, 0x20000)

/-- Offset of copy A, or with `b` of copy B, of record `k` (R345, R353): copy B lies higher, in region 5 in the upper half. -/
def copyOff (k : Nat) (b : Bool) : Nat :=
  let r := twinRegion (k / 65536)
  let a := r.1 + 4 * (Config.recPlace k % (r.2 / 4))
  if !b then a else if k / 65536 = 5 then a + 0x20000 else a + 16 + 4 * Config.recGap k

/-- Whether a copy covers the byte at address `a`. -/
def Copy.covers (c : Copy) (k : Nat) (b : Bool) (a : Nat) : Bool :=
  decide (nvBase + copyOff k b ≤ a ∧ a < nvBase + copyOff k b + c.size)

/-- Copy A or, with `b`, copy B. -/
def Twin.copy (t : Twin) (b : Bool) : Option Copy := if b then t.b else t.a

/-- The copies of record `k`. -/
def State.twin (s : State) (k : Nat) : Twin := sget ⟨none, none⟩ s.nv.twins k

/-- The valid copies of record `k` (R353): CRC, ID and LEN are right, and every word can be read (R342). -/
def State.validTwin (s : State) (k : Nat) : Twin :=
  let ok (b : Bool) (c : Copy) : Bool := c.crcOk && c.fits && c.id == k % 65536 && !s.errs.any fun p => p.2 == 2 && c.covers k b (4 * p.1)
  ⟨(s.twin k).a.filter (ok false), (s.twin k).b.filter (ok true)⟩

/-- Whether copy A, of valid copies, is the one taken (R354, R355): copy B is not newer. -/
def Twin.takesA (t : Twin) : Bool :=
  match t.a, t.b with
  | some a, some b => !decide (1 ≤ (b.seq - a.seq).toNat ∧ (b.seq - a.seq).toNat < 2 ^ 31)
  | some _, none => true
  | none, _ => false

/-- The copy taken (R355). -/
def Twin.taken (t : Twin) : Option Copy := if t.takesA then t.a else t.b

/-- Whether two valid copies conflict (R355): one sequence number with different content, or numbers exactly half the range apart. -/
def Twin.conflict (t : Twin) : Bool :=
  match t.a, t.b with
  | some a, some b => (a.seq == b.seq && a.data != b.data) || (b.seq - a.seq).toNat == 2 ^ 31
  | _, _ => false

/-! ## Writing (R356, R788) -/

/-- A copy is written: its words are readable from then on, and count for its sector (R361). -/
def State.putCopy (s : State) (k : Nat) (b : Bool) (c : Copy) : State :=
  let t := s.twin k
  (({ s with errs := clearMarks s.errs (nvBase + copyOff k b) c.size }).modNv fun v => { v with
    twins := sset ⟨none, none⟩ v.twins k (if b then ⟨t.a, some c⟩ else ⟨some c, t.b⟩) }).wrote (copyOff k b) ((c.size + 3) / 4)

/-- The copy that a write of record `k` makes (R356): the next sequence number, 1 when neither copy is valid. -/
def State.nextCopy (s : State) (k : Nat) : Copy :=
  { id := k % 65536, len := (Config.recPayload (s.recData k)).length % 65536
    seq := match (s.validTwin k).taken with | some c => c.seq + 1 | none => 1
    data := s.recData k, crcOk := true, fits := true }

/-- Writes record `k` to the copy not taken (R356): B when A is taken or both are equal, A when neither is valid. -/
def State.writeTwin (s : State) (k : Nat) : State := s.putCopy k (s.validTwin k).takesA (s.nextCopy k)

/-- Writes a twin record; one that the directory does not list is first entered there by a directory write (R356, R788). -/
def State.twinWrite (s : State) (region id : Nat) : State :=
  let k := twinKey region id
  let s := if k = dirKey ∨ s.nv.listed.contains k then s else (s.modNv fun v => { v with listed := v.listed ++ [k] }).writeTwin dirKey
  s.writeTwin k

/-- Writes the record of an index (R548). -/
def State.twinOf (s : State) (idx : Nat) : State := s.twinWrite (idxKey idx / 65536) idx

/-! ## Reading by a core (R343, R353) -/

/-- The byte of the record store at address `a`: of a copy that covers it, else what memory holds. -/
def State.recByte (s : State) (a : Nat) : Byte :=
  let hit (b : Bool) (p : Nat × Twin) : Option Byte :=
    match p.2.copy b with
    | some c => if c.covers p.1 b a then some (c.bytes.getD (a - nvBase - copyOff p.1 b) 0) else none
    | none => none
  (s.nv.twins.findSome? fun p => (hit false p).or (hit true p)).getD (rdByte s.mem a)

/-- The word of the record store at address `a`: twin records lie in the regions 0 and 3 to 5 (R345). -/
def State.recWord (s : State) (a : Nat) : Word :=
  let o := a - nvBase
  if o < 0x1000 ∨ 0x4000 ≤ o ∧ o < 0x58000 then
    BitVec.ofNat 32 (leNat ((List.range 4).map fun i => s.recByte (a + i)))
  else rdWord s.mem a

end Sys2Proof.Machine
end

