-- ==== Sys2Proof/Machine/FieldOps.lean ====
section
/-! DEFINITION. Operations of the field channels: modes and claims, driven states, the filter, counters
(R378–R416). -/

namespace Sys2Proof.Machine

/-! ## Access -/

/-- Updates the field part. -/
def State.modFld (s : State) (f : Field → Field) : State := { s with fld := f s.fld }

/-- Channel `c`. -/
abbrev State.fch (s : State) (c : Ch) : FChan := s.fld.ch[c]

/-- Updates channel `c`. -/
def State.modCh (s : State) (c : Ch) (f : FChan → FChan) : State :=
  s.modFld fun d => { d with ch := d.ch.set c (f d.ch[c]) }

/-- Updates group `g`. -/
def State.modGrp (s : State) (g : Grp) (f : FGroup → FGroup) : State :=
  s.modFld fun d => { d with grp := d.grp.set g (f d.grp[g]) }

/-- The group of a channel (R378). -/
def grpOf (c : Ch) : Grp := ⟨c.val / 8, by omega⟩

/-- The channels of a group. -/
def chsOf (g : Grp) : List Ch := (List.finRange 8).map fun k => ⟨g.val * 8 + k.val, by omega⟩

/-- Every channel. -/
def allCh : List Ch := List.finRange 32

/-- An entry of a channel, 3100h+ch:sub. -/
def State.chCfg (s : State) (c : Ch) (sub d : Nat) : Nat := s.cfg (0x3100 + c.val) sub d

/-! ## Samples (R380, R793) -/

/-- The whole microsecond of the time base now, whose sample is the latest. -/
def State.sampleNo (s : State) : Nat := s.time.tb.toNat / 1000

/-- How many of `n` samples that end with sample `m` have not been taken yet: there is one in each microsecond. -/
def Run.due (r : Run) (n m : Nat) : Nat := min n (m + 1 - r.next)

/-- `n` consecutive samples that end with sample `m` show the condition or do not (R793); samples between them and the last one known
are not known to have shown the same. -/
def Run.feed (r : Run) (b : Bool) (n m : Nat) : Run :=
  let k := r.due n m
  if k = 0 then r else ⟨b, if r.shows = b ∧ r.next + k = m + 1 then r.n + k else k, m + 1⟩

/-- Whether the latest `t` samples have shown the condition, or with `b` false have not. -/
def Run.held (r : Run) (b : Bool) (t : Nat) : Bool := r.shows == b && decide (t ≤ r.n)

/-- No samples are taken: the count starts again with the sample after `m`. -/
def Run.anew (_r : Run) (m : Nat) : Run := ⟨false, 0, m + 1⟩

/-- A channel whose sampling starts again after sample `m`. -/
def FChan.anew (f : FChan) (m : Nat) : FChan :=
  { f with brk := f.brk.anew m, lim_ := f.lim_.anew m, opn := f.opn.anew m, mis := f.mis.anew m, dis := f.dis.anew m }

/-- The samples go on when the time base moves from microsecond `a` to `b`. -/
def Run.moved (r : Run) (a b : Nat) : Run := { r with next := r.next + b - a }

/-- The samples of every channel and group go on when the time base moves from microsecond `a` to `b` (R380). -/
def Field.moved (d : Field) (a b : Nat) : Field :=
  { d with
    ch := d.ch.map fun (f : FChan) => { f with brk := f.brk.moved a b, lim_ := f.lim_.moved a b, opn := f.opn.moved a b, mis := f.mis.moved a b, dis := f.dis.moved a b }
    grp := d.grp.map fun (g : FGroup) => { g with oc := g.oc.moved a b } }

/-! ## Claims on channels (R409–R411) -/

/-- The pulse source assigned to channel `c` (R445). -/
def State.pulseOn (s : State) (c : Ch) : Option (Fin 16) :=
  (List.finRange 16).find? fun p => s.cfg (0x4200 + p.val) 1 0xFF == c.val

/-- Whether a tandem readback assignment of some output holds channel `c` (7210h+ch:02, R411). -/
def State.tandemOn (s : State) (c : Ch) : Bool :=
  (List.finRange 32).any fun o => s.cfg (0x7210 + o.val) 2 0xFF == c.val

/-- The mode that channel `c` is configured to (R385): claimed modes come before 3100h+ch:01. -/
def State.modeCfg (s : State) (c : Ch) : Nat :=
  if (s.pulseOn c).isSome then 5 else if s.tandemOn c then 6 else s.chCfg c 1 0

/-- The first channel of a quadrature pair to which `c` belongs, if it is paired (R408). -/
def State.quadOf (s : State) (c : Ch) : Option Ch :=
  let a : Ch := ⟨c.val / 2 * 2, by omega⟩
  if s.chCfg a 0xE 0 = 1 then some a else none

/-- The other channel of a pair. -/
def mate (c : Ch) : Ch := if c.val % 2 = 0 then ⟨(c.val + 1) % 32, by omega⟩ else ⟨c.val - 1, by omega⟩

/-- The holder code of channel `c` (R385, R409). -/
def State.holder (s : State) (c : Ch) : Nat :=
  match s.modeCfg c with
  | 0 => 0
  | 4 => 2
  | 5 => 3
  | 6 => 4
  | _ => 1

/-! ## Modes -/

/-- Whether a mode reads the input (R385). -/
def inputMode (m : Nat) : Bool := m == 1 || m == 4 || m == 6

/-- Whether a mode drives a switch. -/
def outputMode (m : Nat) : Bool := m == 2 || m == 3 || m == 5

/-- A channel after a mode change (R386): output off, filter, counter, frequency and diagnostics cleared. -/
def FChan.inMode (c : FChan) (m lim : Nat) : FChan :=
  { c with
    mode := m, lim := lim, acc := 0, flt := false, rd := 1, broken := false, ovl := false, latched := false
    openw := false, ot := false, rbmm := false, cnt := 0, freq := 0, freqNew := 0, nosig := false, dir := false
    cmp := false, preset := false, entered := false, changed := 0, meas := none, quad := none, driven := false }

/-! ## Driven states (R395–R399) -/

/-- Row 1 of R395: off for a fault of the channel or its group. -/
def State.cutOff (s : State) (c : Ch) : Bool :=
  let f := s.fch c
  let g := s.fld.grp[grpOf c]
  f.link || f.deaf || g.low || g.ocAt.isSome || f.ot || f.latched

/-- Whether start-up step 10 has completed (R395 row 2). -/
def State.started (s : State) : Bool := s.pwr.phase == .running

/-- The forced value of output bit 4000h[c], if it is forced (R147). -/
def State.forcedOut (s : State) (c : Ch) : Option Bool := sget none s.img.forces (0x4000 * 32 + c.val)

/-- The committed bit 4000h[c]. -/
def State.cmdBit (s : State) (c : Ch) : Bool := (s.outWord 0x4000).getLsbD c.val

/-- The safe value of channel `c` (R397). -/
def State.safeValue (s : State) (c : Ch) : Bool :=
  match s.chCfg c 7 0 with
  | 0 => false
  | 1 => s.cmdBit c
  | _ => true

/-- The driven state that R395 gives a DO or DO_RB channel. -/
def State.doState (s : State) (c : Ch) : Bool :=
  if s.cutOff c || !s.started then false
  else if s.op.safe then s.safeValue c
  else (s.forcedOut c).getD (s.cmdBit c)

/-- The driven state of a PULSE channel (R449). -/
def State.pulseState (s : State) (c : Ch) : Bool :=
  !s.cutOff c && s.started && (match s.pulseOn c with | some p => s.nrg.pulse[p].on | none => false)

/-- The driven state of a channel by its mode; on a TRAIL as R624 says. -/
def State.drivenWant (s : State) (c : Ch) : Bool :=
  match (s.fch c).mode with
  | 2 | 3 => (!s.isTrail || s.inStep) && s.doState c
  | 5 => !s.isTrail && s.pulseState c
  | _ => false

/-- Whether the driven state comes from row 3 of R395. -/
def State.safeRow (s : State) (c : Ch) : Bool :=
  ((s.fch c).mode == 2 || (s.fch c).mode == 3) && !s.cutOff c && s.started && s.op.safe

/-- A switch takes a driven state; an off-to-on transition counts as a switching operation (R402). -/
def FChan.drive (c : FChan) (on : Bool) : FChan :=
  { c with driven := on, volSw := c.volSw + b2n (on && !c.driven) }

/-- A latched channel whose driven state would be off without the latch loses LATCHED and OVL (R398). -/
def State.unlatch (s : State) (c : Ch) : FChan :=
  let f := s.fch c
  let free := f.latched && !(s.modCh c fun f => { f with latched := false }).drivenWant c
  { f with latched := f.latched && !free, ovl := f.ovl && !free }

/-- Brings every switch to the driven state that R395 and R449 give it. -/
def State.refreshOutputs (s : State) : State :=
  let s := s.modFld fun d => { d with ch := Vector.ofFn s.unlatch }
  s.modFld fun d => { d with ch := Vector.ofFn fun (c : Ch) => d.ch[c].drive (s.drivenWant c) }

/-- Presets that the preset word requests from 0 to 1 load their counts (R405). -/
def State.applyPresets (s : State) : State :=
  let w := s.imgWord 0x4002
  let up (c : Ch) : Bool := w.getLsbD c.val && !s.fld.presets.getLsbD c.val
  let own (c : Ch) : Bool := (s.fch c).mode == 4 && (s.quadOf c).getD c == c
  s.modFld fun d => { d with
    presets := w
    ch := Vector.ofFn fun (c : Ch) =>
      if up c && own c then { d.ch[c] with cnt := s.imgWord (0x4010 + c.val), preset := true, quad := none } else d.ch[c] }

/-! ## Comparator and filter (R387, R392) -/

/-- The comparator reading (R392) of a current in µA after the reading `rd`. -/
def reading (rd ua : Nat) : Nat :=
  if ua < 350 then 0
  else if ua < 500 then (if rd = 0 then 0 else 1)
  else if ua ≤ 1500 then 1
  else if ua ≤ 2000 then (if rd = 2 then 2 else 1)
  else 2

/-- A channel under the filter limit `n` before its next sample (R387). -/
def FChan.setLimit (c : FChan) (n : Nat) : FChan :=
  if n = c.lim then c
  else
    { c with
      lim := n
      acc := if c.lim = 0 then (if c.flt then n else 0) else if n ≠ 0 ∧ n < c.acc then n else c.acc }

/-- `n` samples of the filter, one at least, that read `ua` µA (R387, R388): what `n` steps of one sample give. -/
def FChan.sampleN (c : FChan) (ua n : Nat) : FChan :=
  let rd := reading c.rd ua
  if c.lim = 0 then { c with rd := rd, flt := rd == 2 }
  else if rd = 2 then
    let a := max c.acc (min c.lim (c.acc + n))
    { c with rd := rd, acc := a, flt := c.flt || a == c.lim }
  else { c with rd := rd, acc := c.acc - n, flt := c.flt && c.acc - n != 0 }

/-- Which of a series of samples that read `ua` µA completes a change of the filtered state. -/
def FChan.changesAt (c : FChan) (ua : Nat) : Nat :=
  if c.lim = 0 then 1 else if reading c.rd ua = 2 then max 1 (c.lim - c.acc) else max 1 c.acc

/-- Whether channel `c` samples its input: an input mode, no VF_LOW, no link fault (R381, R382). -/
def State.samples (s : State) (c : Ch) : Bool :=
  inputMode (s.fch c).mode && !(s.fch c).link && !s.fld.grp[grpOf c].low

/-! ## Counting (R403–R408) -/

/-- The instant of an edge of a channel, in ns of the time base (R391). -/
def edgeNs (lim tb : Nat) : Nat := if lim = 0 then tb * 2 / 125 * 125 / 2 else tb / 1000 * 1000

/-- Whether an edge is a counted one (R404). -/
def State.counted (s : State) (c : Ch) (rising : Bool) : Bool :=
  match s.chCfg c 0xC 0 with
  | 0 => rising
  | 1 => !rising
  | _ => true

/-- Whether inhibit bit 4003h[c] is 1. -/
def State.inhibited (s : State) (c : Ch) : Bool := (s.imgWord 0x4003).getLsbD c.val

/-- A channel whose count becomes `x` by counting (R406). -/
def FChan.countTo (f : FChan) (x cmpv : Word) : FChan := { f with cnt := x, cmp := f.cmp || x == cmpv }

/-- A counted edge at `t` in the frequency measurement (R407): gate in ns, edges per period. -/
def FChan.measure (f : FChan) (t gate per : Nat) : FChan :=
  match f.meas with
  | none => { f with meas := some ⟨t, 0⟩ }
  | some m =>
    if m.start + gate ≤ t ∧ m.start < t then
      { f with freqNew := BitVec.ofNat 32 ((m.edges + 1) / per * 1000000000000 / (t - m.start)), meas := some ⟨t, 0⟩ }
    else { f with meas := some { m with edges := m.edges + 1 } }

/-- A counted edge of a COUNTER channel that counts for itself (R404, R406, R407). -/
def State.countEdge (s : State) (c : Ch) (t : Nat) : State :=
  let per := if s.chCfg c 0xC 0 = 2 then 2 else 1
  let gate := s.chCfg c 0xD 100 * 1000000
  s.modCh c fun f =>
    { (f.countTo (f.cnt + 1) (s.imgWord (0x4030 + c.val))).measure t gate per with
      nosig := false, lastEdge := s.clk, edgeT := BitVec.ofNat 32 t }

/-- Whether a step of a quadrature pair counts up (R408): after an edge of A the phases differ, after one of B they
agree, when A leads. -/
def quadUp (onA a b : Bool) : Bool := if onA then a != b else a == b

/-- A step of the quadrature pair of `a` at `t` (R408), a counted edge of which four make a period (R407). When the other phase changed in the same sample, that step is
taken back and the pair's error count advances. -/
def State.quadStep (s : State) (a : Ch) (onA : Bool) (t : Nat) : State :=
  let f := s.fch a
  let b := mate a
  match f.quad with
  | some q =>
    if q.at_ = t / 1000 then
      (s.modCh a fun f => { f with cnt := q.cnt, cmp := q.cmp, dir := q.dir, meas := q.meas, quad := none }).modCh b
        fun g => { g with cnt := g.cnt + 1 }
    else s.modCh a (step f b)
  | none => s.modCh a (step f b)
where
  step (f : FChan) (b : Ch) : FChan → FChan := fun g =>
    let up := quadUp onA g.flt (s.fch b).flt
    let g' := (g.countTo (if up then g.cnt + 1 else g.cnt - 1) (s.imgWord (0x4030 + a.val))).measure t (s.chCfg a 0xD 100 * 1000000) 4
    { g' with
      dir := !up, lastEdge := s.clk, nosig := false, edgeT := BitVec.ofNat 32 t
      quad := some ⟨t / 1000, f.cnt, f.cmp, f.dir, f.meas⟩ }

/-- A change of the filtered state of channel `c` that has happened at `t` (R390, R391, R403, R404, R408). -/
def State.onEdge (s : State) (c : Ch) (t : Nat) : State :=
  let f := s.fch c
  let s := s.modCh c fun f => { f with changed := f.changed ||| (if f.flt then 1 else 2) }
  if f.mode = 4 then
    match s.quadOf c with
    | some a => if s.inhibited a then s else s.quadStep a (a == c) t
    | none => if s.counted c f.flt && !s.inhibited c then s.countEdge c t else s
  else
    s.modCh c fun f => { f with
      edgeT := BitVec.ofNat 32 t
      cnt := if f.mode = 1 && f.flt then f.cnt + 1 else f.cnt
      lastEdge := s.clk }

/-- `n` consecutive samples of channel `c`, of which sample `m` is the last, read `ua` µA; those not taken before run through comparator and
filter (R380, R387, R392), with the edge that one of them completes, and count for the wire-break check (R793). -/
def State.sampleRun (s : State) (c : Ch) (ua n m : Nat) : State :=
  let f := (s.fch c).setLimit (s.chCfg c 3 1000)
  let k := f.brk.due n m
  if k = 0 then s
  else
    let g := f.sampleN ua k
    let s' := s.modCh c fun _ => { g with brk := f.brk.feed (g.rd == 0) n m }
    if g.flt = f.flt then s'
    else
      let m' := m + f.changesAt ua - k
      s'.onEdge c (if m' = s.sampleNo then edgeNs f.lim s.time.tb.toNat else m' * 1000)

/-- The samples of channel `c` up to now, one a microsecond, the latest last. -/
def State.sampleAll (s : State) (c : Ch) (l : List Nat) : State :=
  let m := s.sampleNo
  ((List.range l.length).zip l).foldl (fun s x => if l.length ≤ m + 1 + x.1 then s.sampleRun c x.2 1 (m + 1 + x.1 - l.length) else s) s

/-! ## The field scan (R389, R390, R415, R416) -/

/-- Bits of a word, one per channel. -/
def State.chBits (s : State) (p : Ch → FChan → Bool) : Word :=
  BitVec.ofNat 32 (allCh.foldl (fun n c => if p c (s.fch c) then n + 2 ^ c.val else n) 0)

/-- Any fault of a channel (word 000Dh). -/
def State.chFault (s : State) (c : Ch) : Bool :=
  let f := s.fch c
  f.mode != 0 && (f.broken || f.ovl || f.openw || f.ot || f.rbmm || f.link || s.fld.grp[grpOf c].low)

/-- The channel status word (R416). -/
def State.chStatus (s : State) (c : Ch) : Word :=
  let f := s.fch c
  let valid := !f.link && !s.fld.grp[grpOf c].low && f.mode != 0
  BitVec.ofNat 32 (fieldAt f.mode 3 0 + fieldAt (s.holder c) 3 4 + fieldAt (b2n valid) 1 8 + fieldAt (b2n f.broken) 1 9
    + fieldAt (b2n f.ovl) 1 10 + fieldAt (b2n f.openw) 1 11 + fieldAt (b2n f.ot) 1 12 + fieldAt (b2n f.rbmm) 1 13
    + fieldAt (b2n f.latched) 1 14 + fieldAt (b2n f.link) 1 15 + fieldAt (b2n f.cmp) 1 16 + fieldAt (b2n f.nosig) 1 17
    + fieldAt (b2n f.dir) 1 18 + fieldAt (b2n f.preset) 1 19 + fieldAt (b2n (s.safeRow c)) 1 20)

/-- The status byte of a group in word 0003h. -/
def State.grpByte (s : State) (g : Grp) : Nat :=
  let d := s.fld.grp[g]
  fieldAt (b2n (decide (19200 ≤ d.vfMean ∧ d.vfMean ≤ 30000))) 1 0 + fieldAt (b2n d.low) 1 1
    + fieldAt (b2n d.ocAt.isSome) 1 2 + fieldAt (b2n ((chsOf g).any s.chFault)) 1 3

/-- Current words of the channels at a scan. -/
def State.curWord (s : State) (c : Ch) (p : ScanPins) : Word :=
  let f := s.fch c
  if f.mode = 0 then 0
  else BitVec.ofNat 32 ((if outputMode f.mode then p.outMa.getD c.val 0 else p.inUa.getD c.val 0) % 65536)

/-- The 256 words of a field scan at instant `t` (R415); words not named read 0. -/
def State.scanWords (s : State) (t : Nat) (p : ScanPins) : List (Nat × Word) :=
  let perCh (base : Nat) (f : Ch → Word) : List (Nat × Word) := allCh.map fun c => (base + c.val, f c)
  [(0, BitVec.ofNat 32 s.fld.scans), (1, BitVec.ofNat 32 t), (2, BitVec.ofNat 32 (t / 2 ^ 32)),
   (3, BitVec.ofNat 32 (s.grpByte 0 + s.grpByte 1 * 256 + s.grpByte 2 * 65536 + s.grpByte 3 * 16777216)),
   (4, 0), (5, 0), (6, 0), (7, 0),
   (8, s.chBits fun _ f => inputMode f.mode && f.flt),
   (9, s.chBits fun _ f => inputMode f.mode && f.rd == 2),
   (10, s.chBits fun _ f => inputMode f.mode && f.broken),
   (11, s.chBits fun _ f => f.mode == 3 && f.pin),
   (12, s.chBits fun _ f => outputMode f.mode && f.driven),
   (13, s.chBits fun c _ => s.chFault c)]
  ++ (List.range 18).map (fun k => (14 + k, (0 : Word)))
  ++ perCh 0x20 s.chStatus
  ++ perCh 0x40 (fun c => if (s.fch c).mode = 1 ∨ (s.fch c).mode = 4 then (s.fch c).cnt else 0)
  ++ perCh 0x60 (fun c => if (s.fch c).mode = 4 then (s.fch c).freq else 0)
  ++ (List.range 32).map (fun k => (0x80 + k, (0 : Word)))
  ++ perCh 0xA0 (fun c => if inputMode (s.fch c).mode then (s.fch c).edgeT else 0)
  ++ perCh 0xC0 (fun c => s.curWord c p)
  ++ (List.range 32).map (fun k => (0xE0 + k, (0 : Word)))

/-- The event lines that a scan asserts (R390). -/
def State.scanLines (s : State) : List Nat :=
  (allCh.filter fun c => ((s.fch c).changed &&& BitVec.ofNat 2 (s.chCfg c 4 0)) != 0).map (·.val)
  ++ (allCh.filter fun c => (s.fch c).cmp).map (fun c => 32 + c.val)
  ++ (allCh.filter fun c => (s.fch c).entered).map (fun c => 64 + c.val)

/-- What the pins show at the scan sample reaches the channels and groups. -/
def State.takePins (s : State) (p : ScanPins) : State :=
  let chv := Vector.ofFn fun (c : Ch) =>
    let f := s.fch c
    { f with
      rd := if s.samples c then reading f.rd (p.inUa.getD c.val 0) else f.rd
      brk := if s.samples c ∧ (reading f.rd (p.inUa.getD c.val 0) == 0) ≠ f.brk.shows then { f.brk with n := 0 } else f.brk
      pin := p.pinHi.getLsbD c.val
      freq := f.freqNew }
  let outMa (g : Grp) : Nat := (chsOf g).foldl (fun n c => if outputMode (s.fch c).mode then n + p.outMa.getD c.val 0 else n) 0
  let grpv := Vector.ofFn fun (g : Grp) => { s.fld.grp[g] with vfMean := p.vfMv.getD g.val 0, outMa := outMa g }
  s.modFld fun d => { d with ch := chv, grp := grpv, scans := (d.scans + 1) % 2 ^ 32 }

/-- What is reported once per scan is cleared after it. -/
def FChan.scanned (f : FChan) : FChan := { f with changed := 0, cmp := false, preset := false, entered := false }

/-- Scan period in ns. -/
def State.scanNs (s : State) : Nat := s.cfg 0x3000 1 1000 * 1000

/-- FIELD_SCAN (R389): at each instant k × P of the time base the scan is published with its lines. With a TRAIL that is
IN_STEP, LEAD's scan waits for SCAN, which TRAIL sends in place of publishing (R619). -/
def opFieldScan (p : ScanPins) (s : State) : State :=
  let k := s.time.tb.toNat / s.scanNs
  if s.fld.scanK = some k ∨ s.pwr.phase = .off ∨ s.pwr.phase = .step1 then s
  else
    let s := s.takePins p
    let set : PubSet := { src := 0, words := s.scanWords (k * s.scanNs) p, lines := s.scanLines }
    let s := s.modFld fun d => { d with scanK := some k, ch := d.ch.map FChan.scanned }
    if s.leadPaired then s.modTdm fun t => { t with pend := some set }
    else if s.inStep then s.tlSend 3 (leBytes 8 (k * s.scanNs) ++ set.words.flatMap fun w => leBytes 4 w.2.toNat)
    else s.publish set

end Sys2Proof.Machine
end

