-- ==== Sys2Proof/Machine/EnergyOps.lean ====
section
/-! DEFINITION. Operations of the energy engine: samples to cycles, registers, updates, pulses (R424–R457).
Arithmetic is exact; square roots, phasors and binary32 results are those of Config. -/

namespace Sys2Proof.Machine

/-! ## Access and numbers -/

/-- Updates instance `i`. -/
def State.modInst (s : State) (i : Fin 2) (f : Inst → Inst) : State :=
  { s with nrg := { s.nrg with inst := s.nrg.inst.set i (f s.nrg.inst[i]) } }

/-- Instance `i`. -/
abbrev State.ins (s : State) (i : Fin 2) : Inst := s.nrg.inst[i]

/-- Updates pulse source `p`. -/
def State.modPulse (s : State) (p : Fin 16) (f : Pulse → Pulse) : State :=
  { s with nrg := { s.nrg with pulse := s.nrg.pulse.set p (f s.nrg.pulse[p]) } }

/-- An entry of instance `i`, 4010h+i:sub. -/
def State.insCfg (s : State) (i : Fin 2) (sub d : Nat) : Nat := s.cfg (0x4010 + i.val) sub d

/-- The source of an instance (R432). -/
def State.insSrc (s : State) (i : Fin 2) : Nat := s.insCfg i 1 (if i.val = 0 then 1 else 0)

/-- The value of a binary32 word. -/
def f32Rat (w : Word) : Rat :=
  let e := bitsOf w.toNat 23 8
  let m := bitsOf w.toNat 0 23
  if e = 255 then Config.f32Special w
  else
    let n : Nat := if e = 0 then m * 2 else (m + 2 ^ 23) * 2 ^ e
    mkRat (if w.msb then -(n : Int) else n) (2 ^ 150)

/-- binary32 1.0. -/
def f32One : Nat := 0x3F800000

/-- Mean of a list. -/
def mean (xs : List Rat) : Rat := if xs = [] then 0 else xs.foldl (· + ·) 0 / xs.length

/-- Sum of a list. -/
def rsum (xs : List Rat) : Rat := xs.foldl (· + ·) 0

/-- Element `k` of a list of quantities. -/
def at_ (xs : List Rat) (k : Nat) : Rat := xs.getD k 0

/-- Frames per second of SV stream `k` (4500h group is read in the Ethernet chapter: 5400h+k:08). -/
def State.svRate (s : State) (k : Nat) : Nat := s.cfg (0x5400 + k) 8 4000

/-- Sample interval of an instance in ns (R432). -/
def State.ts (s : State) (i : Fin 2) : Rat := if s.insSrc i = 2 then mkRat 1000000000 (s.svRate (s.insCfg i 2 0)) else 62500

/-! ## From samples to series -/

/-- Samples with held copies in place of up to two missing ones (R434). -/
def holdGaps : List Int → List Sample → List (List Int)
  | _, [] => []
  | last, x :: r => (List.replicate (min x.gap 2) last) ++ x.an :: holdGaps x.an r

/-- Full scale of a path in nV (R427). -/
def fullScale (x16 : Bool) : Int := if x16 then 62500000 else 1000000000

/-- A value clipped to a full scale (R426). -/
def clip (fs x : Int) : Int := if fs < x then fs else if x < -fs then -fs else x

/-- The path of each sample of current channel `j` in a cycle (R428, R429): ×16 until the input goes beyond 50 mV. -/
def paths : Bool → Bool → List Int → List Bool
  | _, _, [] => []
  | now, was, x :: r =>
    let on := if now then true else was && decide (x.natAbs ≤ 50000000)
    on :: paths now on r

/-- Committed coefficient of channel `ch` on a path: `sub` 0 gain, 1 offset, 2 phase (4100h+ch:02–07). -/
def State.coef (s : State) (ch : Nat) (x16 : Bool) (sub : Nat) : Word :=
  BitVec.ofNat 32 (s.cfg (0x4100 + ch) ((if x16 then 5 else 2) + sub) (if sub = 0 then f32One else 0))

/-- Scale of a channel in primary units per input volt (R425). -/
def State.scale (s : State) (ch : Nat) : Rat := f32Rat (BitVec.ofNat 32 (s.cfg (0x4100 + ch) 1 f32One))

/-- A sample in volts under gain and offset. -/
def calibrated (gain off : Rat) (nv : Int) : Rat := mkRat nv 1000000000 * gain - off

/-- A series under a phase coefficient. -/
def delayed (phase : Int) (ts : Rat) (xs : List Rat) : List Rat := if phase = 0 then xs else Config.delay phase ts xs

/-- The paths of channel `ch` over raw samples. -/
def State.pathsOf (s : State) (ch : Nat) (raw : List Int) : List Bool :=
  if h : 4 ≤ ch ∧ ch < 8 then paths s.nrg.range16[ch - 4] s.nrg.was16[ch - 4] raw
  else raw.map fun _ => false

/-- Raw samples of channel `ch`; a substituted channel replays its last cycle (R452). -/
def State.rawOf (s : State) (i : Fin 2) (ch : Nat) (xs : List (List Int)) : List Int :=
  let live := xs.map fun a => a.getD ch 0
  match s.nrg.sess with
  | some c =>
    if c.ch.val = ch then
      let old := (c.replay[i]).map fun x => x.an.getD ch 0
      if old.length = live.length then old
      else (Config.resample live.length (old.map fun x => mkRat x 1)).map fun q => q.floor
    else live
  | none => live

/-- The series of channel `ch` of an on-module source, in primary units (R425, R426, R450); each path has its own calibration, and each
sample comes from the path in use (R428). -/
def State.onModule (s : State) (i : Fin 2) (ch : Nat) (xs : List (List Int)) : List Rat :=
  let raw := s.rawOf i ch xs
  let path (x16 : Bool) : List Rat := delayed (s.coef ch x16 2).toInt (s.ts i) (raw.map fun x =>
    calibrated (f32Rat (s.coef ch x16 0)) (f32Rat (s.coef ch x16 1)) (clip (fullScale x16) x))
  let one := path false
  let sixteen := path true
  (s.pathsOf ch raw).zipIdx.map fun bk => (if bk.1 then at_ sixteen bk.2 else at_ one bk.2) * s.scale ch

/-- The series of channel `ch` of an SV source: 10 mV and 1 mA per LSB (R433). -/
def svSeries (ch : Nat) (xs : List (List Int)) : List Rat :=
  xs.map fun a => mkRat (a.getD ch 0) (if ch < 4 then 100 else 1000)

/-- The series of all eight channels. -/
def State.series (s : State) (i : Fin 2) (xs : List (List Int)) : List (List Rat) :=
  (List.range 8).map fun ch => if s.insSrc i = 1 then s.onModule i ch xs else svSeries ch xs

/-- Channels with a clipped sample (R426). -/
def State.clipped (s : State) (i : Fin 2) (xs : List (List Int)) : BitVec 8 :=
  BitVec.ofNat 8 ((List.range 8).foldl (fun n ch =>
    let raw := s.rawOf i ch xs
    if (raw.zip (s.pathsOf ch raw)).any fun xp => clip (fullScale xp.2) xp.1 != xp.1 then n + 2 ^ ch else n) 0)

/-! ## A line cycle (R436–R438) -/

/-- The elements of a wiring mode (R435): whether element A, B or C measures. -/
def element (wiring k : Nat) : Bool := k == 0 || (wiring == 0 && k < 3) || (wiring == 1 && k == 2)

/-- v × i of element `k` over the samples; 0 for an element that is not there. -/
def elemSeries (wiring k : Nat) (ser : List (List Rat)) : List Rat :=
  let v := ser.getD k []
  let c := ser.getD (k + 4) []
  if element wiring k then List.zipWith (· * ·) v c else v.map fun _ => 0

/-- The nominal value of a channel in primary units (R425). -/
def State.nominal (s : State) (ch : Nat) : Rat := (if ch < 4 then mkRat 1 2 else mkRat 2 5) * s.scale ch

/-- Whether a fundamental exceeds a fraction of the nominal value. -/
def exceeds (re im nom frac : Rat) : Bool := decide ((frac * nom) * (frac * nom) < re * re + im * im)

/-- The channel the engine takes as reference (R437), if any phase exceeds 10 % of Un. -/
def State.refOf (s : State) (i : Fin 2) (ph : List (Rat × Rat)) : Option Nat :=
  [s.insCfg i 7 0, 0, 1, 2].find? fun k => exceeds (ph.getD k (0, 0)).1 (ph.getD k (0, 0)).2 (s.nominal k) (mkRat 1 10)

/-- Clamps a cycle duration in ns to 45–65 Hz. -/
def clampDur (d : Rat) : Rat := if mkRat 1000000000 45 < d then mkRat 1000000000 45 else if d < mkRat 1000000000 65 then mkRat 1000000000 65 else d

/-- What one cycle gives (R438). -/
def mkCycle (wiring : Nat) (len dur : Rat) (ser : List (List Rat)) : Cycle :=
  { len := len
    dur := dur
    ms := ser.map fun x => mean (x.map fun v => v * v)
    re := ser.map fun x => (Config.phasor x dur).1
    im := ser.map fun x => (Config.phasor x dur).2
    p := (List.range 3).map fun k => mean (elemSeries wiring k ser) }

/-- S of element `k` of a cycle. -/
def Cycle.appar (c : Cycle) (wiring k : Nat) : Rat :=
  if element wiring k then Config.sqrt (at_ c.ms k) * Config.sqrt (at_ c.ms (k + 4)) else 0

/-- P fundamental of element `k`. -/
def Cycle.pFund (c : Cycle) (wiring k : Nat) : Rat :=
  if element wiring k then at_ c.re k * at_ c.re (k + 4) + at_ c.im k * at_ c.im (k + 4) else 0

/-- Q fundamental of element `k`: the imaginary part of V × conj(I), positive when current lags. -/
def Cycle.qFund (c : Cycle) (wiring k : Nat) : Rat :=
  if element wiring k then at_ c.im k * at_ c.re (k + 4) - at_ c.re k * at_ c.im (k + 4) else 0

/-- Sum over the elements. -/
def elems (f : Nat → Rat) : Rat := f 0 + f 1 + f 2

/-! ## Registers (R441, R442, R446) -/

/-- Power times ns in milli-units times hours. -/
def mwh (x : Rat) : Rat := x / 3600000000

/-- The positive part. -/
def pos (x : Rat) : Rat := if 0 < x then x else 0

/-- What a cycle adds to registers 0–7 (R441). -/
def added (wiring : Nat) (ts : Rat) (c : Cycle) (ser : List (List Rat)) : List Rat :=
  let e := (List.range 3).map fun k => elemSeries wiring k ser
  let p := List.zipWith (· + ·) (List.zipWith (· + ·) (e.getD 0 []) (e.getD 1 [])) (e.getD 2 [])
  let q := elems (c.qFund wiring)
  [mwh (rsum (p.map fun x => pos x * ts)), mwh (rsum (p.map fun x => pos (-x) * ts)),
   mwh (pos q * c.len), mwh (pos (-q) * c.len), mwh (elems (c.appar wiring) * c.len)]
  ++ e.map fun x => mwh (rsum (x.map fun v => pos v * ts))

/-- What a cycle in which SRCLOST was set still adds: the samples before the loss, and no quantity of a whole cycle (R434, R441). -/
def addedPart (wiring : Nat) (ts : Rat) (c : Cycle) (ser : List (List Rat)) : List Rat :=
  (added wiring ts c ser).zipIdx.map fun xk => if 2 ≤ xk.2 ∧ xk.2 ≤ 4 then 0 else xk.1

/-- The samples of a cycle before the third consecutive missing one, with two held (R434). -/
def beforeLoss : List Int → List Sample → List (List Int)
  | _, [] => []
  | last, x :: r => if 3 ≤ x.gap then List.replicate 2 last else (List.replicate (min x.gap 2) last) ++ x.an :: beforeLoss x.an r

/-- A register after an addition, its remainder carried (R442). -/
def EReg.add (r : EReg) (x : Rat) : EReg :=
  { val := r.val + BitVec.ofInt 64 (r.rem + x).floor, rem := r.rem + x - (r.rem + x).floor }

/-- Whole units that an addition moves into the register. -/
def EReg.whole (r : EReg) (x : Rat) : Nat := (r.rem + x).floor.toNat

/-- Threshold of a pulse source. -/
def State.thr (s : State) (p : Fin 16) : Nat := max 1 (s.cfg (0x4200 + p.val) 2 100)

/-- Units reach a pulse accumulator; each threshold passed makes a pulse due (R446, R447). -/
def Pulse.feed (q : Pulse) (thr d : Nat) : Pulse :=
  let n := (q.acc + d) / thr
  { q with acc := (q.acc + d) % thr, pend := min 65535 (q.pend + n), ovf := q.ovf || decide (65535 < q.pend + n) }

/-- Pulse source `8i + a`. -/
def pulseOf (i : Fin 2) (a : Fin 8) : Fin 16 := ⟨8 * i.val + a.val, by omega⟩

/-- The registers and pulse sources of an instance after an addition; a saturation is recorded once (R447), or where
detector 101 reports it (R714). -/
def State.accumulate (s : State) (i : Fin 2) (add : List Rat) : State :=
  (List.finRange 8).foldl (fun s a =>
    let x := at_ add a.val
    let p := pulseOf i a
    let old := s.nrg.pulse[p]
    let new_ := old.feed (s.thr p) (EReg.whole (s.ins i).reg[a] x)
    let s := (s.modInst i fun n => { n with reg := n.reg.set a (n.reg[a].add x), added := n.added.set a x }).modPulse p fun _ => new_
    if new_.ovf && !old.ovf then s.rec_ 0x4020 0x54 p.val (s.cfg (0x4200 + p.val) 1 0xFF)
    else if s.injFor 101 p.val then (s.injDone 101).recInj 0x4020 0x54 p.val (s.cfg (0x4200 + p.val) 1 0xFF) 0 true
    else s) s

/-! ## Pulses (R446) -/

/-- The last sample instant of an instance, in ns of the time base. -/
def State.sampleNow (s : State) (i : Fin 2) : Nat :=
  let ts := s.ts i
  (((mkRat s.time.tb.toNat 1 / ts).floor : Rat) * ts).floor.toNat

/-- The expected interval between pulses in ns; none is infinite. -/
def State.interval (s : State) (p : Fin 16) : Option Rat :=
  let i : Fin 2 := ⟨p.val / 8, by omega⟩
  let d := (s.ins i).added[p.val % 8]
  match (s.ins i).cycles with
  | c :: _ => if d = 0 then none else some (s.thr p * c.len / d)
  | [] => none

/-- The width of the next pulse of a source in ns. -/
def State.pulseWidth (s : State) (p : Fin 16) : Nat :=
  let i : Fin 2 := ⟨p.val / 8, by omega⟩
  let ts := s.ts i
  let width : Rat := (s.cfg (0x4200 + p.val) 3 20 * 1000000 : Nat)
  let w := match s.interval p with
    | some t => min width (max t 1000000 / 2)
    | none => width
  (((w / ts).floor : Rat) * ts).floor.toNat

/-- INHIBIT of a pulse source (R448). -/
def State.pulseInhibit (s : State) (p : Fin 16) : Bool := (s.imgWord (0x4050 + p.val)).getLsbD 0

/-- Whether the spacing of R446 lets a pulse start at `now`. -/
def Pulse.spaced (q : Pulse) (now : Nat) : Bool :=
  match q.start with
  | some t => decide (t + max (2 * q.w) 1000000 ≤ now)
  | none => true

/-- A change from 0 to 1 of CLEAR empties the pending count (R448). -/
def State.applyPulseCtl (s : State) : State :=
  { s with nrg := { s.nrg with pulse := Vector.ofFn fun (p : Fin 16) =>
      let q := s.nrg.pulse[p]
      let c := (s.imgWord (0x4050 + p.val)).getLsbD 1
      if c && !q.cut then { q with pend := 0, ovf := false, cut := c } else { q with cut := c } } }

/-! ## The published set (R439, R455–R457) -/

/-- The mean over the cycles of the window. -/
def overCycles (cs : List Cycle) (f : Cycle → Rat) : Rat := mean (cs.map f)

/-- A status word of channel `ch` (R457). -/
def State.anStatus (s : State) (i : Fin 2) (cs : List Cycle) (ch : Nat) : Word :=
  let low := match cs with
    | [] => false
    | _ => decide (overCycles cs (fun c => at_ c.re ch * at_ c.re ch + at_ c.im ch * at_ c.im ch)
        < s.nominal ch / 100 * (s.nominal ch / 100))
  let r16 := if h : 4 ≤ ch ∧ ch < 8 then s.nrg.range16[ch - 4] else false
  let sub := match s.nrg.sess with | some c => c.ch.val == ch && s.insSrc i == 1 | none => false
  BitVec.ofNat 32 (fieldAt (b2n r16) 1 0 + fieldAt (b2n ((s.ins i).ovr.getLsbD ch)) 1 1 + fieldAt (b2n sub) 1 2
    + fieldAt (b2n s.nrg.calValid) 1 3 + fieldAt (b2n low) 1 4)

/-- The status word of an instance (R456). -/
def State.insStatus (s : State) (i : Fin 2) : Word :=
  let n := s.ins i
  let valid := decide (s.insCfg i 5 10 ≤ n.cycles.length) && !n.noref && n.lost.isNone
  let ovf := (List.finRange 8).any fun a => s.nrg.pulse[pulseOf i a].ovf
  BitVec.ofNat 32 (fieldAt (s.insSrc i) 2 0 + fieldAt (s.insCfg i 3 0) 2 2 + fieldAt (b2n valid) 1 4
    + fieldAt (b2n n.foor) 1 5 + fieldAt (b2n n.noref) 1 6 + fieldAt (b2n n.subst) 1 7 + fieldAt (b2n n.svhold) 1 8
    + fieldAt (b2n n.lost.isSome) 1 9 + fieldAt (b2n ovf) 1 10 + fieldAt (b2n n.accLost) 1 11
    + fieldAt (b2n n.accSusp) 1 12)

/-- RMS total of channel `ch`: mean squares are averaged before the root is taken. -/
def rmsTotal (cs : List Cycle) (ch : Nat) : Rat := Config.sqrt (overCycles cs fun c => at_ c.ms ch)

/-- Squared RMS fundamental of channel `ch`. -/
def fundSq (cs : List Cycle) (ch : Nat) : Rat :=
  overCycles cs fun c => at_ c.re ch * at_ c.re ch + at_ c.im ch * at_ c.im ch

/-- THD of channel `ch`; 0 when its fundamental is below 1 % of nominal (R438). -/
def State.thd (s : State) (cs : List Cycle) (ch : Nat) : Rat :=
  if fundSq cs ch < s.nominal ch / 100 * (s.nominal ch / 100) then 0
  else Config.sqrt (overCycles cs (fun c => at_ c.ms ch) - fundSq cs ch) / Config.sqrt (fundSq cs ch)

/-- A quantity per element and its sum. -/
def perElem (cs : List Cycle) (f : Cycle → Nat → Rat) : List Rat :=
  (List.range 3).map (fun k => overCycles cs fun c => f c k) ++ [overCycles cs fun c => elems (f c)]

/-- The 128 words of an update at instant `t` (R455). -/
def State.energyWords (s : State) (i : Fin 2) (t : Nat) : List Word :=
  let n := s.ins i
  let cs := n.cycles.take (s.insCfg i 5 10)
  let w := s.insCfg i 3 0
  let f (x : Rat) : Word := Config.f32 x
  let p := perElem cs fun c k => at_ c.p k
  let ap := perElem cs fun c k => c.appar w k
  let freq : Rat := match n.cycles with | c :: _ => 1000000000 / c.dur | [] => 0
  [BitVec.ofNat 32 (n.updates + 1), BitVec.ofNat 32 t, BitVec.ofNat 32 (t / 2 ^ 32), s.insStatus i, f freq, 0, 0, 0]
  ++ (List.range 4).map (fun k => f (rmsTotal cs k)) ++ (List.range 4).map (fun k => f (Config.sqrt (fundSq cs k)))
  ++ (List.range 4).map (fun k => f (rmsTotal cs (k + 4))) ++ (List.range 4).map (fun k => f (Config.sqrt (fundSq cs (k + 4))))
  ++ p.map f ++ ap.map f
  ++ (perElem cs fun c k => c.pFund w k).map f ++ (perElem cs fun c k => c.qFund w k).map f
  ++ (List.zipWith (fun a b => if b = 0 then 0 else a / b) p ap).map f
  ++ (List.range 8).map (fun k => f (s.thd cs k)) ++ List.replicate 12 0
  ++ (List.finRange 8).flatMap (fun a => [(n.reg[a].val).extractLsb' 0 32, (n.reg[a].val).extractLsb' 32 32])
  ++ (List.finRange 8).map (fun a => BitVec.ofNat 32 s.nrg.pulse[pulseOf i a].pend)
  ++ (List.range 8).map (s.anStatus i cs) ++ s.nrg.switches.toList ++ List.replicate 28 0

/-- Update period in ns. -/
def State.updNs (s : State) (i : Fin 2) : Nat := s.insCfg i 4 10 * 1000000

/-- First image word of an instance. -/
def insBase (i : Fin 2) : Nat := 0x100 + 0x80 * i.val

end Sys2Proof.Machine
end

