-- ==== Sys2Proof/Machine/Energy.lean ====
section
/-! DEFINITION. Meanings of the energy-engine commands (R424–R460). RESET_REGISTERS and the calibration commands come
through the dictionary and stand in its family. -/

namespace Sys2Proof.Machine

/-- SRC of the energy engine (R703). -/
def srcEnergy : Nat := 0x54

/-! ## LINE_CYCLE -/

/-- SRCLOST of an instance is set (R434). -/
def State.sourceLost (s : State) (i : Fin 2) (inj : Bool) : State :=
  if (s.ins i).lost.isSome then s
  else
    (s.modInst i fun n => { n with lost := some s.clk, good := 0 }).recInj 0x4001 srcEnergy i.val (s.insCfg i 2 0)
      (s.ins i).lastCnt inj

/-- What the gaps of a cycle do to an SV source: held samples, loss and return (R434). -/
def State.svCycle (s : State) (i : Fin 2) (xs : List Sample) : State :=
  let gap := xs.any fun x => decide (1 ≤ x.gap)
  let big := xs.any fun x => decide (3 ≤ x.gap)
  let inj := s.injFor 98 i.val
  let s := s.modInst i fun n => { n with
    svhold := n.svhold || gap
    lastAn := (xs.getLast?.map (·.an)).getD n.lastAn
    good := if gap then 0 else n.good + 1 }
  if big || inj then (if inj then s.injDone 98 else s).sourceLost i (!big)
  else
    match (s.ins i).lost with
    | some t =>
      if 2 ≤ (s.ins i).good then
        (s.modInst i fun n => { n with lost := none }).rec_ 0x4002 srcEnergy i.val ((s.clk - t) / 1000000)
      else s
    | none => s

/-- The reference and frequency findings of a cycle (R437): codes 4004h and 4003h when a condition begins. -/
def State.refFindings (s : State) (i : Fin 2) (noRef : Bool) (measured : Rat) : State :=
  let n := s.ins i
  let injR := s.injFor 99 i.val
  let injF := s.injFor 100 i.val
  let out := !noRef && (decide (mkRat 1000000000 45 < measured) || decide (measured < mkRat 1000000000 65))
  let s := if injR then s.injDone 99 else s
  let s := if injF then s.injDone 100 else s
  let s := s.modInst i fun n => { n with
    noref := n.noref || noRef || injR, refLost := noRef || injR, foor := n.foor || out || injF, foorNow := out || injF }
  let s := if (noRef || injR) && !n.refLost then s.recInj 0x4004 srcEnergy i.val 0 0 (!noRef) else s
  if (out || injF) && !n.foorNow then
    s.recInj 0x4003 srcEnergy i.val (if measured ≤ 0 then 0 else (1000000000000 / measured).floor.toNat) 0 (!out)
  else s

/-- Gain switching at the end of a line cycle of an on-module instance (R430, R431). -/
def State.gainUp (s : State) (i : Fin 2) (xs : List Sample) : State :=
  let small (j : Fin 4) : Bool := xs.all fun x => decide ((x.an.getD (4 + j.val) 0).natAbs ≤ 50000000)
  let cnt : Vector Nat 4 := Vector.ofFn fun (j : Fin 4) => if small j then min 2 ((s.ins i).small[j] + 1) else 0
  let up (j : Fin 4) : Bool := !s.nrg.range16[j] && cnt[j] == 2
  let r : Vector Bool 4 := Vector.ofFn fun (j : Fin 4) => s.nrg.range16[j] || up j
  let sw : Vector Word 4 := Vector.ofFn fun (j : Fin 4) => if up j then s.nrg.switches[j] + 1 else s.nrg.switches[j]
  let s := s.modInst i fun n => { n with small := cnt }
  { s with nrg := { s.nrg with range16 := r, was16 := r, switches := sw } }

/-- The trial quantities of the channel in a session (R451), from its live samples. -/
def State.trial (s : State) (i : Fin 2) (c : CalSess) (xs : List (List Int)) (dur : Rat) (ser : List (List Rat)) : CalSess :=
  let x16 := c.path == 1
  let vs := (xs.map fun a => a.getD c.ch.val 0).map fun v => calibrated (f32Rat c.gain) (f32Rat c.off) (clip (fullScale x16) v)
  let tr := (delayed c.phase.toInt (s.ts i) vs).map (· * s.scale c.ch.val)
  { c with
    rms := Config.f32 (Config.sqrt (mean (tr.map fun v => v * v)))
    angle := Config.angle (Config.phasor tr dur) (Config.phasor (ser.getD 0 []) dur) }

/-- COMMIT of a session takes effect at the line-cycle boundary (R451). -/
def State.calCommitted (s : State) (c : CalSess) : State :=
  let base := if c.path = 1 then 5 else 2
  let idx := 0x4100 + c.ch.val
  let s := ((s.putEntry idx base (leBytes 4 c.gain.toNat)).putEntry idx (base + 1) (leBytes 4 c.off.toNat)).putEntry idx
    (base + 2) (leBytes 4 c.phase.toNat)
  let s := ({ s with nrg := { s.nrg with sess := none, calValid := true } }).twinWrite 3 0
  s.rec_ 0x4011 srcEnergy c.ch.val c.path

/-- What the end of a cycle does to a calibration session (R451, R452). -/
def State.calCycle (s : State) (i : Fin 2) (xs : List (List Int)) (dur : Rat) (ser : List (List Rat)) : State :=
  match s.nrg.sess with
  | some c =>
    let s := { s with nrg := { s.nrg with sess := some (s.trial i c xs dur ser) } }
    let s := s.modInst i fun n => { n with subst := true }
    if c.commit then s.calCommitted c else s
  | none => s

/-- The window of cycles kept, newest first. -/
def keepCycles : Nat := 50

/-- LINE_CYCLE (R436–R438, R441): the samples of the cycle become quantities and energy. -/
def opLineCycle (i : Fin 2) (samples : List Sample) (s : State) : State :=
  if s.insSrc i = 0 ∨ samples = [] then s
  else
    let onMod := s.insSrc i == 1
    let xs := if onMod then samples.map (·.an) else holdGaps (s.ins i).lastAn samples
    let ser := s.series i xs
    let ph := ser.map fun x => Config.phasor x (Config.crossing (ser.getD (s.insCfg i 7 0) []) (s.ts i))
    let ref := s.refOf i ph
    let measured := Config.crossing (ser.getD (ref.getD 0) []) (s.ts i)
    let dur := if ref.isNone then mkRat 1000000000 (s.insCfg i 6 50) else clampDur measured
    let cyc := mkCycle (s.insCfg i 3 0) (if ref.isNone then dur else measured) dur ser
    let add := added (s.insCfg i 3 0) (s.ts i) cyc ser
    let part := addedPart (s.insCfg i 3 0) (s.ts i) cyc (s.series i (beforeLoss (s.ins i).lastAn samples))
    let ovr := if onMod then s.clipped i xs else 0
    let s := if onMod then s else s.svCycle i samples
    let s := s.refFindings i ref.isNone measured
    let s := if (s.ins i).lost.isNone then s.accumulate i add else if (s.ins i).wasLost then s else s.accumulate i part
    let s := s.modInst i fun n => { n with wasLost := n.lost.isSome }
    let s := s.modInst i fun n => { n with cycles := (cyc :: n.cycles).take keepCycles, ovr := n.ovr ||| ovr }
    let s := if onMod then (s.calCycle i xs dur ser).gainUp i samples else s
    if onMod && s.nrg.sess.isSome then s else s.modInst i fun n => { n with lastCyc := samples }

/-! ## The other events -/

/-- GAIN_SWITCH (R429, R431). -/
def opGainSwitch (j : Fin 4) (s : State) : State :=
  if s.nrg.range16[j] then
    { s with nrg := { s.nrg with range16 := s.nrg.range16.set j false, switches := s.nrg.switches.set j (s.nrg.switches[j] + 1) } }
  else s

/-- ENERGY_UPDATE (R439): once per instant k × U the set of 128 words is published. -/
def opEnergyUpdate (i : Fin 2) (s : State) : State :=
  let k := s.time.tb.toNat / s.updNs i
  if s.insSrc i = 0 ∨ (s.ins i).updK = some k then s
  else
    let words := s.energyWords i (k * s.updNs i)
    let st := s.insStatus i
    let cs := (s.ins i).cycles.take (s.insCfg i 5 10)
    let stat : Vector Word 8 := Vector.ofFn fun (c : Fin 8) => s.anStatus i cs c.val
    let s := s.modInst i fun n => { n with
      updates := (n.updates + 1) % 2 ^ 32, updK := some k, status := st, chStat := stat
      foor := n.foorNow, noref := n.refLost, subst := false, svhold := false, ovr := 0 }
    s.publish { src := 1 + i.val, words := wordsFrom (insBase i) words, lines := [] }

/-- The instance of a pulse source. -/
def insOf (p : Fin 16) : Fin 2 := ⟨p.val / 8, by omega⟩

/-- PULSE_START (R446, R449). -/
def opPulseStart (p : Fin 16) (s : State) : State :=
  let q := s.nrg.pulse[p]
  let now := s.sampleNow (insOf p)
  if s.insSrc (insOf p) ≠ 0 ∧ !q.on ∧ 0 < q.pend ∧ !s.pulseInhibit p ∧ q.spaced now then
    let w := s.pulseWidth p
    (s.modPulse p fun q => { q with
      on := true, start := some now, w := w, pend := q.pend - 1, emitted := (q.emitted + 1) % 2 ^ 64 }).refreshOutputs
  else s

/-- PULSE_END (R446): the width has elapsed, or a pulse that is due cuts it short. -/
def opPulseEnd (p : Fin 16) (s : State) : State :=
  let q := s.nrg.pulse[p]
  let now := s.sampleNow (insOf p)
  match q.start with
  | some t =>
    if q.on ∧ t + q.w ≤ now then (s.modPulse p fun q => { q with on := false }).refreshOutputs
    else if q.on ∧ 0 < q.pend ∧ t + 1000000 ≤ now then
      (s.modPulse p fun q => { q with on := false, w := now - t }).refreshOutputs
    else s
  | none => s

/-- The twin record of an instance (R443): what it holds, and its write. -/
def State.saveEnergy (s : State) (i : Fin 2) : State :=
  (s.modInst i fun n => { n with
    saved := Vector.ofFn fun (a : Fin 8) => (n.reg[a].val, s.nrg.pulse[pulseOf i a].acc) }).twinWrite 3 (1 + i.val)

/-- Writes the record of every enabled instance (R443). -/
def State.saveEnergies (s : State) : State :=
  let s := if s.insSrc 0 = 0 then s else s.saveEnergy 0
  if s.insSrc 1 = 0 then s else s.saveEnergy 1

/-- ENERGY_RECORD_WRITE (R443): once per second. -/
def opEnergyRecord (s : State) : State :=
  if s.nrg.recAt + 1000000000 ≤ s.clk then
    ({ s with nrg := { s.nrg with recAt := s.clk } }).saveEnergies
  else s

/-- The end of a session without COMMIT (R451, R453). -/
def State.calAbort (s : State) (cause : Nat) : State :=
  match s.nrg.sess with
  | some c => ({ s with nrg := { s.nrg with sess := none } }).rec_ 0x4012 srcEnergy c.ch.val cause
  | none => s

/-- CAL_TIMEOUT (R453). -/
def opCalTimeout (s : State) : State :=
  match s.nrg.sess with
  | some c => if c.at_ + 60000000000 ≤ s.clk then s.calAbort 1 else s
  | none => s

/-! ## Meanings -/

/-- LINE_CYCLE (R436). -/
def execLineCycle (i : Fin 2) (samples : List Sample) (s : State) : Host.Outcome State Fault Refusal :=
  .next (opLineCycle i samples s)

/-- GAIN_SWITCH (R429). -/
def execGainSwitch (ch : Fin 4) (s : State) : Host.Outcome State Fault Refusal := .next (opGainSwitch ch s)

/-- ENERGY_UPDATE (R439). -/
def execEnergyUpdate (i : Fin 2) (s : State) : Host.Outcome State Fault Refusal := .next (whenOn (opEnergyUpdate i) s)

/-- PULSE_START (R446). -/
def execPulseStart (p : Fin 16) (s : State) : Host.Outcome State Fault Refusal := .next (opPulseStart p s)

/-- PULSE_END (R446). -/
def execPulseEnd (p : Fin 16) (s : State) : Host.Outcome State Fault Refusal := .next (opPulseEnd p s)

/-- ENERGY_RECORD_WRITE (R443). -/
def execEnergyRecordWrite (s : State) : Host.Outcome State Fault Refusal := .next (whenOn opEnergyRecord s)

/-- CAL_TIMEOUT (R453). -/
def execCalTimeout (s : State) : Host.Outcome State Fault Refusal := .next (opCalTimeout s)

end Sys2Proof.Machine
end

