-- ==== Sys2Proof/Machine/SupOps.lean ====
section
/-! DEFINITION. Operations of the check-in unit (R681–R689). -/

namespace Sys2Proof.Machine

/-! ## Intervals (R681–R685) -/

/-- Updates supervision. -/
def State.modSup (s : State) (f : Sup → Sup) : State := { s with sup := f s.sup }

/-- Check-in interval Ti in ns. -/
def State.tiNs (s : State) : Nat := s.cfg 0x9000 5 100 * 1000000

/-- Grace G in ns. -/
def State.graceNs (s : State) : Nat := s.cfg 0x9000 6 20 * 1000000

/-- Count of a context in an interval. -/
def Interval.count (i : Interval) (g : Nat) : Nat := sget 0 i.counts g

/-- Whether a context is expected in an interval. -/
def Interval.expects (i : Interval) (g : Nat) : Bool := i.exp.getLsbD g

/-- A check-in reaches an interval (R682). -/
def Interval.checkin (i : Interval) (g : Nat) (key : Word) : Interval :=
  { i with tally := i.tally + key, counts := sset 0 i.counts g (min 255 (i.count g + 1)) }

/-- Real faults of a context at the close (R683): missing, extra. -/
def Interval.missing (i : Interval) (g : Nat) : Bool := !i.excused && i.expects g && i.count g == 0

/-- An unexpected or repeated check-in. -/
def Interval.surplus (i : Interval) (g : Nat) : Bool :=
  !i.excused && (decide (2 ≤ i.count g) || (i.count g == 1 && !i.expects g))

/-- The report of a missing check-in, with its counter, flag and due action. -/
def State.reportMiss (s : State) (i : Interval) (g : Gctx) (inj : Bool) : State :=
  (s.modSup fun p => { p with
    miss := p.miss ||| ctxBit g, missN := sset 0 p.missN g.val (satInc (sget 0 p.missN g.val))
    due := if p.due.contains g then p.due else p.due ++ [g], lfault := true, injected := inj }).recInj
    0x9010 0x59 g.val (i.num % 2 ^ 32) 0 inj

/-- The report of an extra check-in. -/
def State.reportExtra (s : State) (i : Interval) (g : Gctx) (inj : Bool) : State :=
  (s.modSup fun p => { p with
    extra := p.extra ||| ctxBit g, extraN := sset 0 p.extraN g.val (satInc (sget 0 p.extraN g.val))
    due := if p.due.contains g then p.due else p.due ++ [g], lfault := true, injected := inj }).recInj
    0x9011 0x59 g.val (i.num % 2 ^ 32) (i.count g.val) inj

/-- What the close finds for context `g`: real faults first, then those that detectors 44 and 45 inject (R715, R719). -/
def State.closeCtx (s : State) (i : Interval) (g : Gctx) : State :=
  let m := i.missing g.val
  let x := i.surplus g.val
  let im := !i.excused && s.injFor 44 g.val
  let ix := !i.excused && s.injFor 45 g.val
  let s := if im then s.injDone 44 else s
  let s := if ix then s.injDone 45 else s
  let s := if m || im then s.reportMiss i g (!m) else s
  if x || ix then s.reportExtra i g (!x) else s

/-- The tally that the gaffer expects of an interval (R687): the keys of the contexts expected, or the tally itself where it is EXCUSED. -/
def State.expectedTally (s : State) (i : Interval) : Word :=
  if i.excused then i.tally
  else allCtx.foldl (fun n g => if i.expects g.val then n + BitVec.ofNat 32 (s.cfg (0x9100 + g.val) 2 0) else n) 0

/-- The close of an interval (R683): tally and counts are latched, faults reported. -/
def State.closeInterval (s : State) (i : Interval) : State :=
  let s := s.modSup fun p => { p with
    ltally := i.tally, lexp := s.expectedTally i, lcounts := i.counts, lexcused := i.excused, lfault := false
    closedExc := if i.excused then i.num :: p.closedExc else p.closedExc }
  allCtx.foldl (fun s g => s.closeCtx i g) s

/-- Whether an interval with mask `exp` is excused from its start (R685). -/
def State.excusedNow (s : State) (exp : BitVec 64) : Bool :=
  s.op.st != .run || allCtx.any fun g =>
    exp.getLsbD g.val && ((s.cx g).act.status == .stopped || (s.cx g).act.dbgHalt || s.core[coreOf g].reload.isSome)

/-- A new interval (R681, R684). -/
def State.newInterval (s : State) (num : Nat) (excused : Bool) : Interval :=
  { num := num, exp := s.sup.expCfg, tally := 0, counts := [], excused := excused || s.excusedNow s.sup.expCfg }

/-- Closes the interval in its grace, if any. -/
def State.closeClosing (s : State) : State :=
  match s.sup.closing with
  | some i => (s.modSup fun p => { p with closing := none }).closeInterval i
  | none => s

/-- INTERVAL_START (R681): the current interval enters its grace. -/
def opIntervalStart (s : State) : State :=
  let k := s.time.tb.toNat / s.tiNs
  if k = s.sup.cur.num then s
  else
    let s := s.closeClosing
    s.modSup fun p => { p with closing := some p.cur, cur := s.newInterval k false }

/-- INTERVAL_CLOSE (R681, R683). -/
def opIntervalClose (s : State) : State :=
  match s.sup.closing with
  | some i => if (i.num + 1) * s.tiNs + s.graceNs ≤ s.time.tb.toNat then s.closeClosing else s
  | none => s

/-- A time-base step ends the interval in progress and one in its grace, both EXCUSED (R685); the state already holds
the new time base. -/
def State.stepIntervals (s : State) : State :=
  let cur := { s.sup.cur with excused := true }
  let old := s.sup.closing.map fun i => { i with excused := true }
  let s := (s.modSup fun p => { p with closing := none }).closeInterval cur
  let s := match old with
    | some i => s.closeInterval i
    | none => s
  s.modSup fun p => { p with cur := s.newInterval (s.time.tb.toNat / s.tiNs) true }

/-- The interval in which a check-in of `g` counts (R681). -/
def State.checkinInterval (s : State) (g : Gctx) : Nat :=
  if (s.cx g).task.kind = .background then (s.time.tb.toNat - s.graceNs) / s.tiNs else (s.cx g).act.rel.toNat / s.tiNs

/-- A check-in of context `g` with a key (R682); that of a paired task counts for the leader (R681). -/
def State.checkin (s : State) (g : Gctx) (key : Word) : State :=
  let g := s.home g
  let k := s.checkinInterval g
  if s.sup.cur.num ≤ k then s.modSup fun p => { p with cur := p.cur.checkin g.val key }
  else if s.sup.closing.any fun i => i.num == k then
    s.modSup fun p => { p with closing := p.closing.map fun i => i.checkin g.val key }
  else if s.sup.closedExc.contains k then s
  else
    (s.modSup fun p => { p with late := p.late ||| ctxBit g, lateN := sset 0 p.lateN g.val (satInc (sget 0 p.lateN g.val)) }).rec_
      0x9012 0x59 g.val (k % 2 ^ 32) ((s.time.tb.toNat - ((k + 1) * s.tiNs + s.graceNs)) / 1000)

end Sys2Proof.Machine
end

