-- ==== Sys2Proof/Machine/TimeOps.lean ====
section
/-! DEFINITION. Operations of the time base and of the RTC domain (R639–R660). -/

namespace Sys2Proof.Machine

/-! ## Time base (R640–R643) -/

/-- Discipline source (R640). -/
def State.tbSource (s : State) : Nat := s.cfg 0x8000 1 1

/-- A signed value as a 32-bit field, saturated to I32. -/
def satI32 (x : Int) : Nat :=
  let y : Int := if x < -2147483648 then -2147483648 else if 2147483647 < x then 2147483647 else x
  (y % 4294967296).toNat

/-- TBVALID takes a value; a change is recorded with its cause (R643). -/
def State.setValid (s : State) (v : Bool) (cause : Nat) : State :=
  if s.time.valid = v then s else (s.modTime fun t => { t with valid := v }).rec_ 0x8004 0x50 (b2n v) cause

/-- Cyclic releases that a forward step passes (R60): one release at most, the others skipped. The scheduler takes them
with CYCLIC_RELEASE at the new time; a backward step moves no release (R61). The step itself is recorded (R641), and
ends the check-in interval (R685); the samples of the field channels follow the time base (R380). -/
def State.stepTime (s : State) (d : Int) : State :=
  let a := s.sampleNo
  let s := s.modTime fun t => { t with tb := t.tb + BitVec.ofInt 64 d, steps := satInc t.steps, slew := 0 }
  let s := if d < 0 then s.steppedBack else s
  let s := { s with fld := s.fld.moved a s.sampleNo }
  (s.rec_ 0x8003 0x50 (satI32 d) s.tbSource).stepIntervals

/-- Step threshold in ns. -/
def State.stepNs (s : State) : Nat := s.cfg 0x8000 6 1000 * 1000

/-- A correction of `d` ns (R641): slewed below the threshold, stepped otherwise. -/
def State.correct (s : State) (d : Int) : State :=
  if d.natAbs < s.stepNs then s.modTime fun t => { t with slew := d } else s.stepTime d

/-- A corrected rate, in 10^-9 of the crystal's: which one a source gives is open, within the 200 ppm of R641. -/
def State.freeRate (s : State) : Int := (s.freeWord.toNat % 400001 : Int) - 200000

/-- A correction arrives from the selected source, in phase and rate: holdover ends (R640, R642). -/
def State.disciplined (s : State) (d : Int) : State :=
  (s.draw.modTime fun t => { t with holdover := none, rate := s.freeRate }).correct d

/-- Holdover begins (R642). -/
def State.beginHoldover (s : State) : State :=
  s.modTime fun t => { t with holdover := match t.holdover with | some h => some h | none => some s.clk }

/-- Holdover limit in ns. -/
def State.limitNs (s : State) : Nat := s.cfg 0x8000 5 60 * 1000000000

/-! ## Match units (R647) -/

/-- Additions of the period that bring a value above the time base. -/
def periodsPast (v per tb : Nat) : Nat := if tb < v ∨ per = 0 then 0 else (tb - v) / per + 1

/-- A match unit that the time base has reached. -/
def TmUnit.fire (u : TmUnit) (tb : Word64) : TmUnit :=
  if u.per = 0 then { u with armed := false, hit := true }
  else
    let n := periodsPast u.value.toNat u.per.toNat tb.toNat
    { u with hit := true, value := u.value + BitVec.ofNat 64 (n * u.per.toNat), skip := satAdd 0xFFFF u.skip (n - 1) }

/-- Whether unit `k` is due. -/
def State.tmDue (s : State) (k : Fin 8) : Bool := s.time.tm[k].armed && decide (s.time.tm[k].value.toNat ≤ s.time.tb.toNat)

/-- Updates match unit `k`. -/
def State.modTm (s : State) (k : Fin 8) (f : TmUnit → TmUnit) : State :=
  s.modTime fun t => { t with tm := t.tm.set k (f t.tm[k]) }

/-- TIME_MATCH (R647): event line 176 + k is asserted. -/
def opTimeMatch (k : Fin 8) (s : State) : State :=
  if s.tmDue k then (s.modTm k fun u => u.fire s.time.tb).assertLine (176 + k.val) else s

/-- A write of TM_HIk arms the unit; a value in the past asserts the line at once (R647). -/
def State.tmHiWrite (s : State) (k : Fin 8) (v : Word) : State :=
  opTimeMatch k (s.modTm k fun u => { u with value := v ++ u.value.extractLsb' 0 32, armed := true })

/-! ## Calendar (R651, R652) -/

/-- Length of a month as the domain counts it (R652). -/
def monthLen (m y : Nat) : Nat :=
  if m = 4 ∨ m = 6 ∨ m = 9 ∨ m = 11 then 30
  else if m = 2 then (if y % 4 = 0 then 29 else 28)
  else 31

/-- The date after a day change. -/
def Cal.nextDay (c : Cal) : Cal :=
  let c := { c with wday := if 6 ≤ c.wday then 0 else c.wday + 1 }
  if monthLen c.month c.year ≤ c.day then
    if 12 ≤ c.month then { c with day := 1, month := 1, year := if c.year = 99 then 0 else c.year + 1 }
    else { c with day := 1, month := c.month + 1 }
  else { c with day := c.day + 1 }

/-- One second later (R652). -/
def Cal.advance (c : Cal) : Cal :=
  if c.sec < 59 then { c with sec := c.sec + 1 }
  else
    let c := { c with sec := 0 }
    if c.min < 59 then { c with min := c.min + 1 }
    else
      let c := { c with min := 0 }
      if c.hour < 23 then { c with hour := c.hour + 1 } else ({ c with hour := 0 }).nextDay

/-- A valid date (R644, R651). -/
def Cal.valid (c : Cal) : Bool :=
  decide (c.sec ≤ 59 ∧ c.min ≤ 59 ∧ c.hour ≤ 23 ∧ 1 ≤ c.month ∧ c.month ≤ 12 ∧ 1 ≤ c.day ∧ c.day ≤ monthLen c.month c.year)

/-- Days of the months before month `m` of year `y`. -/
def daysBefore (y : Nat) : Nat → Nat
  | 0 => 0
  | m + 1 => if m = 0 then 0 else daysBefore y m + monthLen m y

/-- Seconds from 2000-01-01 00:00:00 to a date. -/
def Cal.seconds (c : Cal) : Nat :=
  let days := c.year * 365 + (c.year + 3) / 4 + daysBefore c.year c.month + (c.day - 1)
  days * 86400 + c.hour * 3600 + c.min * 60 + c.sec

/-- The month and day of a day number in a year; months are tried from `m` on. -/
def monthDay (y d : Nat) : Nat → Nat → Nat × Nat
  | 0, m => (m, d + 1)
  | fuel + 1, m => if d < monthLen m y ∨ 12 ≤ m then (m, d + 1) else monthDay y (d - monthLen m y) fuel (m + 1)

/-- The year and day number of a day count since 2000-01-01, within 100 years. -/
def yearDay : Nat → Nat → Nat → Nat × Nat
  | 0, y, d => (y, d)
  | fuel + 1, y, d =>
    let n := if y % 4 = 0 then 366 else 365
    if d < n then (y, d) else yearDay fuel (y + 1) (d - n)

/-- The calendar of a number of seconds since 2000-01-01 00:00:00, a Saturday; the calendar repeats after 2099. -/
def calOf (secs : Nat) : Cal :=
  let secs := secs % (36525 * 86400)
  let d := secs / 86400
  let t := secs % 86400
  let yd := yearDay 100 0 d
  let md := monthDay yd.1 yd.2 12 1
  { sec := t % 60, min := t / 60 % 60, hour := t / 3600, wday := (d + 6) % 7, day := md.2, month := md.1, year := yd.1 }

/-- Seconds from the PTP epoch to 2000-01-01 (R644). -/
def epoch2000 : Nat := 946684800

/-! ## The RTC domain (R648–R657) -/

/-- Updates the RTC domain. -/
def State.modRtc (s : State) (f : Rtc → Rtc) : State := s.modTime fun t => { t with rtc := f t.rtc }

/-- Oscillator edges in `ns` nanoseconds of 32,768 Hz. -/
def rtcEdges (ns : Nat) : Nat := ns * 32768 / 1000000000

/-- The prescaler (R652): edges since it last was 0; a wrap not yet taken leaves it at its end. -/
def State.presc (s : State) : Nat := min 0x7FFF (rtcEdges (s.clk - s.time.rtc.base))

/-- SEC to WDAY at the positions of RTC_CAL0 (R659). -/
def Cal.word0 (c : Cal) : Word :=
  BitVec.ofNat 32 (fieldAt c.sec 6 0 + fieldAt c.min 6 8 + fieldAt c.hour 5 16 + fieldAt c.wday 3 24)

/-- DAY, MONTH and YEAR at the positions of RTC_CAL1. -/
def Cal.word1 (c : Cal) : Word := BitVec.ofNat 32 (fieldAt c.day 5 0 + fieldAt c.month 4 8 + fieldAt c.year 7 16)

/-- The calendar that staged words and SEC spell (R654). -/
def calOfWords (w0 w1 : Word) (sec : Nat) : Cal :=
  { sec := sec, min := bitsOf w0.toNat 8 6, hour := bitsOf w0.toNat 16 5, wday := bitsOf w0.toNat 24 3
    day := bitsOf w1.toNat 0 5, month := bitsOf w1.toNat 8 4, year := bitsOf w1.toNat 16 7 }

/-- The switch stamp (R649, R658). -/
def Cal.stamp (c : Cal) : Word :=
  BitVec.ofNat 32 (fieldAt c.sec 6 0 + fieldAt c.min 6 6 + fieldAt c.hour 5 12 + fieldAt c.day 5 17 + fieldAt c.month 4 22)

/-- Whether a written SEC waits for its load edge at instant `clk` (R654). -/
def Rtc.loadPend (r : Rtc) (clk : Nat) : Bool :=
  match r.load with
  | some (_, t) => decide (t ≤ clk)
  | none => false

/-- RTC_STATUS (R659) at instant `clk`. -/
def Rtc.status (r : Rtc) (clk : Nat) : Word :=
  BitVec.ofNat 32 (fieldAt (b2n r.valid) 1 0 + fieldAt (b2n (r.loadPend clk)) 1 1 + fieldAt (b2n r.onBak) 1 2
    + fieldAt (b2n r.mode) 1 3 + fieldAt (b2n r.stampV) 1 4 + fieldAt r.swcnt 8 8)

/-- Whether start-up has come to step 2, from which registers show the entries they mirror; until then they show their
reset values (R768, R775). -/
def State.mirrors (s : State) : Bool := s.pwr.phase != .off && s.pwr.phase != .step1

/-- RTC_TBSTAT (R659). -/
def State.tbStat (s : State) : Word :=
  BitVec.ofNat 32 (fieldAt (b2n s.time.valid) 1 0 + fieldAt (if s.mirrors then s.tbSource else 0) 2 1 + fieldAt (b2n s.time.holdover.isSome) 1 3)

/-- Staged YEAR or WDAY outside its writable range is a reserved value (R651). -/
def stgReserved (k : Nat) (v : Word) : Bool :=
  if k = 0 then decide (6 < bitsOf v.toNat 24 3) else decide (99 < bitsOf v.toNat 16 7)

/-- A write of RTC_SETSEC (R654, R655). -/
def State.setSec (s : State) (v : Word) : State := s.modRtc fun r => { r with load := some (bitsOf v.toNat 0 6, s.clk) }

/-- The RTC as nanoseconds since the PTP epoch; 0 when it is no valid date (8010h:07). -/
def State.rtcUtc (s : State) : Nat :=
  let c := s.time.rtc.cal
  if c.valid then (c.seconds + epoch2000) * 1000000000 + s.presc * 1000000000 / 32768 else 0

/-- A whole second of UTC as a calendar; outside 2000 to 2099 the spec gives none, so the words are free. -/
def State.calFor (s : State) (secs : Nat) : Cal :=
  if epoch2000 ≤ secs ∧ secs < epoch2000 + 36525 * 86400 then calOf (secs - epoch2000)
  else calOfWords s.freeWord (Config.freeWord (s.freeCtr + 1)) (bitsOf (Config.freeWord (s.freeCtr + 2)).toNat 0 6)

/-- The next whole second of a UTC instant that a load edge can still follow, and the ns until it (R654, R657). -/
def nextSecond (utc : Nat) : Nat × Nat :=
  let d := 1000000000 - utc % 1000000000
  if d < 30500 then (utc / 1000000000 + 2, d + 1000000000) else (utc / 1000000000 + 1, d)

/-- The gaffer writes the RTC with UTC `utc` ns since the PTP epoch (R657): staged fields and SETSEC, timed so that the
load edge follows a whole second of UTC. -/
def State.writeRtc (s : State) (utc cause : Nat) : State :=
  let n := nextSecond utc
  let c := s.calFor n.1
  let diff : Int := (utc : Int) - (s.rtcUtc : Int)
  let s := (s.modRtc fun r => { r with
    stg0 := c.word0 &&& ~~~0x3F, stg1 := c.word1, load := some (c.sec, s.clk + n.2 - 30500) }).draw.draw.draw
  s.rec_ 0x8005 0x50 cause (satI32 (diff / 1000000))

/-- UTC in ns of a TAI instant under the offset of 8000h:03. -/
def State.utcOf (s : State) (tai : Nat) : Nat := tai - s.cfg 0x8000 3 37 * 1000000000

end Sys2Proof.Machine
end

