-- ==== Sys2Proof/Machine/NetOps.lean ====
section
/-! DEFINITION. Operations of the network engine: sending, redundancy, rings, PTP, GOOSE, SV (R461–R500). -/

namespace Sys2Proof

/-- CRC-32C of a frame as it goes onto the wire (R621); the bytes of every frame are not given. -/
opaque Config.frameCrc : Machine.TxFrame → Word

end Sys2Proof

namespace Sys2Proof.Machine

/-- SRC of the network engine (R703). -/
def srcNet : Nat := 0x52

/-! ## Access -/

/-- Updates the network engine. -/
def State.modNet (s : State) (f : Net → Net) : State := { s with net := f s.net }

/-- Updates port `p`. -/
def State.modNetPort (s : State) (p : Fin 4) (f : NetPort → NetPort) : State :=
  s.modNet fun n => { n with port := n.port.set p (f n.port[p]) }

/-- Updates pair `x`. -/
def State.modNetPair (s : State) (x : Fin 2) (f : NetPair → NetPair) : State :=
  s.modNet fun n => { n with pair := n.pair.set x (f n.pair[x]) }

/-- The pair of a port or interface. -/
def npair (p : Fin 4) : Fin 2 := ⟨p.val / 2, by omega⟩

/-- Mode of a pair: 0 independent, 1 PRP, 2 HSR (5008h+x:01). -/
def State.pairMode (s : State) (x : Fin 2) : Nat := if s.pwr.phase = .recovery then 0 else s.cfg (0x5008 + x.val) 1 0

/-- Whether a port is enabled (5000h + pt:01); in recovery mode P0 alone (R752). -/
def State.portOn (s : State) (pt : Fin 4) : Bool := if s.pwr.phase = .recovery then pt == 0 else s.cfg (0x5000 + pt.val) 1 1 != 0

/-- Whether interface `f` exists (R461). -/
def State.ifaceUp (s : State) (f : Fin 4) : Bool := f.val % 2 == 0 || s.pairMode (npair f) == 0

/-- The interface of a port (R461). -/
def State.ifaceOf (s : State) (p : Fin 4) : Fin 4 :=
  if s.pairMode (npair p) = 0 then p else ⟨p.val / 2 * 2, by omega⟩

/-- The other port of a pair. -/
def otherPort (p : Fin 4) : Fin 4 := if p.val % 2 = 0 then ⟨(p.val + 1) % 4, by omega⟩ else ⟨p.val - 1, by omega⟩

/-- The ports of an interface. -/
def State.portsOf (s : State) (f : Fin 4) : List (Fin 4) :=
  if s.pairMode (npair f) = 0 then [f] else [f, otherPort f]

/-- The MAC address of an interface (R462): the base, in tandem that of the pair (7200h:0C), plus the port number. -/
def State.macOf (s : State) (f : Fin 4) : List Byte :=
  let base := if s.tdm.st = 2 ∨ s.isTrail then s.cfgBytes 0x7200 0xC s.macBase else s.macBase
  (leBytes 6 (leNat base.reverse + f.val)).reverse

/-! ## Sending (R466, R467, R621) -/

/-- Queue of a PCP (R467). -/
def queueOf (pcp : Nat) : Nat := pcp / 2

/-- VID of a configured value; FFFFh sends untagged (R466). -/
def vidOf (v : Nat) : Option Nat := if v = 0xFFFF then none else some v

/-- A frame enters the queue of a port whose link is up. -/
def NetPort.enqueue (p : NetPort) (fr : TxFrame) : NetPort := if p.up then { p with queue := p.queue ++ [fr] } else p

/-- A frame goes out on every port of an interface with the given sequence number. -/
def State.putFrame (s : State) (f : Fin 4) (fr : TxFrame) : State :=
  (s.portsOf f).foldl (fun s p => s.modNetPort p fun q => q.enqueue fr) s

/-- stNum and sqNum of a frame, where present. -/
def TxBody.numbers : TxBody → Word × Word
  | .goose _ st sq _ _ _ => (st, sq)
  | _ => (0, 0)

/-- A body with LEAD's GOOSE numbers in it. -/
def TxBody.withNumbers (b : TxBody) (st sq : Word) : TxBody :=
  match b with
  | .goose p _ _ tal test ws => .goose p st sq tal test ws
  | b => b

/-- Frames that only the INTLK holder sends (R622). -/
def TxBody.holderOnly : TxBody → Bool
  | .ptpSync _ | .ptpFollowUp | .ptpAnnounce | .mdp _ => true
  | .punty kind _ _ _ _ _ _ _ _ => kind == 1 || kind == 0x11 || kind == 0x13 || kind == 0x14
  | _ => false

/-- NETSEQ payload (R631). -/
def netseqPayload (f : Fin 4) (fr : TxFrame) : List Byte :=
  leBytes 1 f.val ++ leBytes 1 0 ++ leBytes 2 0 ++ leBytes 4 ((fr.seqnr.map (·.toNat)).getD 0)
    ++ leBytes 4 fr.body.numbers.1.toNat ++ leBytes 4 fr.body.numbers.2.toNat ++ leBytes 4 (Config.frameCrc fr).toNat

/-- TRAIL sends its copy of a frame under LEAD's numbers (R621). -/
def State.sendCopy (s : State) (f : Fin 4) (fr : TxFrame) (n : NetSeq) : State :=
  let fr := { fr with
    seqnr := if s.pairMode (npair f) = 0 then none else some (BitVec.ofNat 16 n.seq.toNat)
    body := fr.body.withNumbers n.stNum n.sqNum }
  let s := s.putFrame f fr
  let s := match fr.body with
    | .goose p _ _ _ _ _ => if h : p < 64 then s.modNet fun x => { x with gpub := x.gpub.set p { x.gpub[p] with stNum := n.stNum, sqNum := n.sqNum } } else s
    | _ => s
  if Config.frameCrc fr = n.crc then s
  else (s.modTdm fun t => { t with differ := satInc t.differ }).rec_ 0x7033 0x57 f.val (n.seq.toNat)

/-- TRAIL forms a frame: it is sent with the numbers of a NETSEQ that has arrived, or waits for one (R621). -/
def State.trailSend (s : State) (f : Fin 4) (fr : TxFrame) : State :=
  match s.tdm.netseq.find? (·.iface == f.val) with
  | some n => (s.modTdm fun t => { t with netseq := t.netseq.erase n }).sendCopy f fr n
  | none => s.modTdm fun t => { t with waitTx := t.waitTx ++ [(f.val, fr)] }

/-- The module sends a frame on an interface (R466–R469, R621, R624). -/
def State.sendFrame (s : State) (f : Fin 4) (q : Nat) (vid : Option Nat) (body : TxBody) : State :=
  let x := npair f
  let fr : TxFrame := { q := q, vid := vid, seqnr := if s.pairMode x = 0 then none else some s.net.pair[x].seq, body := body }
  if s.isTrail then (if s.inStep && !body.holderOnly then s.trailSend f fr else s)
  else
    let s := if s.pairMode x = 0 then s else s.modNetPair x fun p => { p with seq := p.seq + 1 }
    let s := if s.leadPaired && !body.holderOnly then s.tlSend 5 (netseqPayload f fr) else s
    s.putFrame f fr

/-- Queue and VID of an interface's own frames (5010h+f:04–05); recovery mode tags none (R752). -/
def State.ownFrame (s : State) (f : Fin 4) (b : TxBody) : State :=
  s.sendFrame f (queueOf (s.cfg (0x5010 + f.val) 5 0))
    (if s.pwr.phase = .recovery then none else vidOf (s.cfg (0x5010 + f.val) 4 0xFFFF)) b

/-- The next frame of a port: the oldest of its highest queue (R467). -/
def nextFrame (q : List TxFrame) : Option TxFrame :=
  (q.find? (·.q == 3)).or ((q.find? (·.q == 2)).or ((q.find? (·.q == 1)).or q.head?))

/-- Bytes `o` to `o + n - 1` of a list take the big-endian value `v`. -/
def putBe (l : List Byte) (o n v : Nat) : List Byte := l.take o ++ (leBytes n v).reverse ++ l.drop (o + n)

/-- A forwarded PTP message with its residence time of `ns` in the correction field, which counts 2^-16 ns (R483; IEEE 1588: 8 bytes
at offset 8 of the message). -/
def resided (f : EthFrame) (ns : Nat) : EthFrame :=
  if f.etype = 0x88F7 ∧ 16 ≤ f.payload.length then
    { f with payload := putBe f.payload 8 8 (leNat ((f.payload.drop 8).take 8).reverse + ns * 65536) }
  else f

/-- A frame as it goes out at `clk`. -/
def TxFrame.sent (f : TxFrame) (clk : Nat) : TxFrame :=
  match f.body with
  | .forwarded x t => { f with body := .forwarded (resided x (clk - t)) t }
  | _ => f

/-- A port sends its next frame at `clk`. -/
def NetPort.sendNext (p : NetPort) (clk : Nat) : NetPort :=
  match nextFrame p.queue with
  | some f => if p.up then { p with queue := p.queue.erase f, tx := (p.tx + 1) % 2 ^ 32, last := some (f.sent clk) } else p
  | none => p

/-- The link of a port comes up or goes down: the frames queued for it are discarded and counted at link down (R464). -/
def State.linkIs (s : State) (pt : Fin 4) (up : Bool) (speed : Nat) (inj : Bool) : State :=
  (s.modNetPort pt fun q => { q with
    up := up, speed := if up then speed else 0
    txDisc := if up then q.txDisc else satAdd 0xFFFFFFFF q.txDisc q.queue.length
    queue := if up then q.queue else [] }).recInj 0x5001 srcNet pt.val (b2n up) speed inj

/-! ## Receiving (R465, R469–R474) -/

/-- Whether a received frame passes R465. -/
def frameSound (f : EthFrame) : Bool := decide (64 ≤ f.length ∧ f.length ≤ 1522) && f.fcsOk && decide (f.tags ≤ 1)

/-- The broadcast address. -/
def broadcast : List Byte := List.replicate 6 0xFF

/-- A group address. -/
def isGroup (a : List Byte) : Bool := match a with | b :: _ => b.getLsbD 0 | [] => false

/-- Whether a list of 6-byte addresses holds one. -/
def hasAddr (a : List Byte) : List Byte → Bool
  | b0 :: b1 :: b2 :: b3 :: b4 :: b5 :: r => [b0, b1, b2, b3, b4, b5] == a || hasAddr a r
  | _ => false

/-- A big-endian 16-bit field at an offset of a payload. -/
def be16 (bs : List Byte) (o : Nat) : Nat := (bs.getD o 0).toNat * 256 + (bs.getD (o + 1) 0).toNat

/-- A big-endian 32-bit field. -/
def be32 (bs : List Byte) (o : Nat) : Nat := be16 bs o * 65536 + be16 bs (o + 2)

/-- The IPv4 address of an interface; 0 is none (R473). In recovery mode P0 has 169.254.8.48 (R752). -/
def State.ipOf (s : State) (f : Fin 4) : Nat :=
  if s.pwr.phase = .recovery then (if f = 0 then 0xA9FE0830 else 0) else s.cfg (0x5010 + f.val) 1 0

/-- What the engine does with an IPv4 datagram (R473, R474): a fragment is discarded, its own services take ICMP echo
and UDP 40962 and 40963 for the interface's address. -/
def State.takesIp (s : State) (f : Fin 4) (p : List Byte) : Bool :=
  let ihl := (p.getD 0 0).toNat % 16 * 4
  let frag := be16 p 6 % 0x4000 != 0
  let mine := s.ipOf f != 0 && be32 p 16 == s.ipOf f
  let proto := (p.getD 9 0).toNat
  let port := be16 p (ihl + 2)
  frag || (mine && ((proto == 1 && (p.getD ihl 0).toNat == 8) || (proto == 17 && (port == 40962 || port == 40963))))

/-- Whether the engine takes a frame for itself (R474). -/
def State.engineTakes (s : State) (f : Fin 4) (fr : EthFrame) : Bool :=
  let t := fr.etype.toNat
  [0x88B8, 0x88BA, 0x88F7, 0x88FB, 0x88B5].contains t
    || (t == 0x0806 && s.ipOf f != 0 && be32 fr.payload 24 == s.ipOf f)
    || (t == 0x0800 && s.takesIp f fr.payload)

/-- Base of a ring in the address map, and its slots (R475). -/
def State.ringAt (s : State) (f : Fin 4) (tx : Bool) : Nat × Nat :=
  (sbBase + s.cfg (0x5500 + f.val) (if tx then 4 else 2) 0, max 1 (s.cfg (0x5500 + f.val) (if tx then 5 else 3) 1))

/-- PUT and GET of a ring, and the modulus of its counts (R475). -/
def ringIdx (m : List Host.Cell) (base slots : Nat) : Nat × Nat × Nat := (rdMem m base 4, rdMem m (base + 4) 4, slots * 2 ^ 24)

/-- Frames that a ring holds (R476). -/
def ringHolds (put get mod : Nat) : Nat := (put % mod + mod - get % mod) % mod

/-- The frame bytes of a receive slot: addresses, the VLAN tag if any, EtherType, payload (R477). The tag's priority bits
are not shown to the engine's commands, so they are free. -/
def ringBytes (fr : EthFrame) (free : Word) : List Byte :=
  let tci := free.toNat % 16 * 4096 + fr.vid.toNat
  fr.dst ++ fr.src
    ++ (if fr.tags = 1 then [0x81, 0x00, BitVec.ofNat 8 (tci / 256), BitVec.ofNat 8 tci] else [])
    ++ [BitVec.ofNat 8 (fr.etype.toNat / 256), BitVec.ofNat 8 fr.etype.toNat] ++ fr.payload

/-- The engine reads a word of SB through its owner port; an uncorrectable one goes into its error register (R37, R320, R321). -/
def State.engineReads (s : State) (a : Nat) : State :=
  let s' := s.eccCheck 9 a 0
  if s.meetsUe 9 a then s'.toBus 10 ⟨6, 0⟩ else s'

/-- Whether the engine can use the ring at `base`: no march keeps it from SB (R329), and both index words can be read. -/
def State.ringUsable (s : State) (base : Nat) : Bool := !s.sbMarches && !s.meetsUe 9 base && !s.meetsUe 9 (base + 4)

/-- The engine reads the index words of the ring at `base`. -/
def State.readIdx (s : State) (base : Nat) : State := if s.sbMarches then s else (s.engineReads base).engineReads (base + 4)

/-- A frame for the receive ring of interface `f` is discarded and counted (R478). -/
def State.ringDrop (s : State) (f : Fin 4) : State :=
  s.modNet fun n => { n with ring := n.ring.set f { n.ring[f] with drop := satInc n.ring[f].drop } }

/-- A frame goes to the application receive ring, or is dropped when the ring is full or cannot be used (R474–R478). -/
def State.toRing (s : State) (f p : Fin 4) (fr : EthFrame) : State :=
  if s.cfg (0x5500 + f.val) 1 0 = 0 then s
  else
    let b := s.ringAt f false
    let i := ringIdx s.mem b.1 b.2
    if !s.ringUsable b.1 || decide (b.2 ≤ ringHolds i.1 i.2.1 i.2.2) then (s.readIdx b.1).ringDrop f
    else
      let slot := b.1 + 64 + i.1 % b.2 * 1536
      let bytes := ringBytes fr s.freeWord
      let s := (s.readIdx b.1).putBytes slot (leBytes 4 (fieldAt bytes.length 11 0 + fieldAt p.val 2 12) ++ leBytes 8 s.time.tb.toNat)
      ((s.putBytes (slot + 16) bytes).putWord b.1 ((i.1 + 1) % i.2.2)).draw

/-- Whether a copy with this source and number was seen within 400 ms in the window of 64 numbers (R468, R469). -/
def seenBefore (l : List Seen) (src : List Byte) (seq : BitVec 16) (clk : Nat) : Bool :=
  ((l.filter fun e => e.src == src).take 64).any fun e => e.seq == seq && decide (clk ≤ e.at_ + 400000000)

/-- Remembers a copy; what is older than 400 ms is forgotten (R468). -/
def remember (l : List Seen) (src : List Byte) (seq : BitVec 16) (clk : Nat) : List Seen :=
  ⟨src, seq, clk⟩ :: l.filter fun e => decide (clk ≤ e.at_ + 400000000)

/-- The node table after a frame from `src` (R468): 512 entries, each forgotten after 60 s; the oldest gives way. -/
def nodesAfter (l : List NetNode) (src : List Byte) (clk : Nat) : List NetNode :=
  (⟨src, clk⟩ :: l.filter fun n => n.src != src && decide (clk ≤ n.at_ + 60000000000)).take 512

/-- HSR forwarding of a ring frame (R470): not of an own frame, not when the module is its sole destination, and once. -/
def State.hsrForward (s : State) (p : Fin 4) (fr : EthFrame) (seq : BitVec 16) : State :=
  let x := npair p
  let mac := s.macOf (s.ifaceOf p)
  if s.pairMode x = 2 ∧ s.net.port[otherPort p].up ∧ fr.src ≠ mac ∧ fr.dst ≠ mac ∧ !seenBefore s.net.pair[x].fwd fr.src seq s.clk then
    let s := s.modNetPair x fun q => { q with fwdN := (q.fwdN + 1) % 2 ^ 64, fwd := remember q.fwd fr.src seq s.clk }
    s.modNetPort (otherPort p) fun q => q.enqueue { q := 3, vid := none, seqnr := some seq, body := .forwarded fr s.clk }
  else s

/-- A frame arrives on a LAN of a pair: the LAN's fault clears (R472). -/
def State.lanSeen (s : State) (p : Fin 4) : State :=
  let lan : Fin 2 := ⟨p.val % 2, by omega⟩
  s.modNetPair (npair p) fun q => { q with
    lanAt := q.lanAt.set lan s.clk, fault := q.fault &&& ~~~(BitVec.ofNat 2 (2 ^ lan.val)) }

/-- A first copy reaches the services or the ring (R474). -/
def State.deliver (s : State) (p : Fin 4) (fr : EthFrame) : State :=
  let f := s.ifaceOf p
  let mine := fr.dst == s.macOf f || fr.dst == broadcast || (isGroup fr.dst && hasAddr fr.dst (s.cfgBytes (0x5500 + f.val) 7 []))
  if s.engineTakes f fr || !mine then s else s.toRing f p fr

/-- FRAME_RECEIVED (R465, R469–R474). -/
def opFrameReceived (p : Fin 4) (fr : EthFrame) (s : State) : State :=
  let x := npair p
  if !s.portOn p ∨ !s.net.port[p].up then s
  else if !frameSound fr then s.modNetPort p fun q => { q with rxDisc := satInc q.rxDisc }
  else
    let s := (s.modNetPort p fun q => { q with rx := (q.rx + 1) % 2 ^ 32 }).lanSeen p
    match fr.seqnr with
    | some n =>
      if s.pairMode x = 0 then s.deliver p fr
      else
        let s := (s.modNetPair x fun q => { q with nodes := nodesAfter q.nodes fr.src s.clk }).hsrForward p fr n
        if fr.src = s.macOf (s.ifaceOf p) then s
        else if seenBefore s.net.pair[x].seen fr.src n s.clk then
          s.modNetPair x fun q => { q with dup := (q.dup + 1) % 2 ^ 64 }
        else (s.modNetPair x fun q => { q with seen := remember q.seen fr.src n s.clk }).deliver p fr
    | none => s.deliver p fr

/-! ## The transmit ring (R476–R479) -/

/-- EtherTypes that the engine keeps to itself (R474). -/
def ownEtherType (t : Nat) : Bool := [0x88B8, 0x88BA, 0x88F7, 0x88FB, 0x88B5].contains t

/-- The word addresses of `n` bytes from the aligned address `a`. -/
def wordsOf (a n : Nat) : List Nat := (List.range ((n + 3) / 4)).map fun k => a + 4 * k

/-- The engine reads the slot of a frame of `len` bytes. -/
def State.readSlot (s : State) (slot len : Nat) : State := (slot :: wordsOf (slot + 16) len).foldl (fun s a => s.engineReads a) s

/-- A frame of the transmit ring with the padding that makes it 64 bytes with its tag and FCS (R478). -/
def padFrame (tagged : Bool) (b : List Byte) : List Byte := b ++ List.replicate ((if tagged then 56 else 60) - b.length) 0

/-- TRANSMIT_RING (R478, R479). A frame with a word that cannot be read is taken and not sent (R321). -/
def opTransmitRing (f : Fin 4) (s : State) : State :=
  let b := s.ringAt f true
  let i := ringIdx s.mem b.1 b.2
  if s.cfg (0x5500 + f.val) 1 0 = 0 ∨ !s.ifaceUp f then s
  else if !s.ringUsable b.1 then s.readIdx b.1
  else if ringHolds i.1 i.2.1 i.2.2 = 0 then s.readIdx b.1
  else
    let slot := b.1 + 64 + i.2.1 % b.2 * 1536
    let lost := (slot :: wordsOf (slot + 16) (rdMem s.mem slot 4 % 2048)).any fun a => s.meetsUe 9 a
    let s := (s.readIdx b.1).readSlot slot (rdMem s.mem slot 4 % 2048)
    let w0 := rdMem s.mem slot 4
    let len := w0 % 2048
    let bytes := rdBytes s.mem (slot + 16) len
    let et := if be16 bytes 12 = 0x8100 then be16 bytes 16 else be16 bytes 12
    let bad := ownEtherType et || decide (len < 14) || decide (1518 < len)
    let stamp := bitOf w0 16 && !bad
    let s := if stamp then s.putBytes (slot + 4) (leBytes 8 s.time.tb.toNat) else s
    let s := s.putWord (b.1 + 4) ((i.2.1 + 1) % i.2.2)
    if lost then s
    else if bad then
      (s.modNet fun n => { n with ring := n.ring.set f { n.ring[f] with disc := satInc n.ring[f].disc } }).rec_
        0x5040 srcNet f.val et len
    else
      let vid := vidOf (s.cfg (0x5010 + f.val) 4 0xFFFF)
      s.sendFrame f (queueOf (s.cfg (0x5010 + f.val) 5 0)) vid (.app f.val (padFrame vid.isSome bytes))

/-! ## PTP (R480–R486) -/

/-- Updates PTP. -/
def State.modPtp (s : State) (f : Ptp → Ptp) : State := s.modNet fun n => { n with ptp := f n.ptp }

/-- PTP leaves LOCKED: the time base enters holdover when PTP is the source (R642). -/
def State.ptpStops (s : State) : State :=
  if s.tbSource = 1 then s.beginHoldover
  else if s.tbSource = 3 ∧ max s.time.ppsAt s.time.srcAt + 1500000000 ≤ s.clk then s.beginHoldover
  else s

/-- A change of PTP state (R485) with its record; entering LOCKED makes time valid when PTP is the source and time was
valid (R643). -/
def State.ptpState (s : State) (n : Nat) : State :=
  let o := s.net.ptp.st
  if n = o then s
  else
    let s := (s.modPtp fun p => { p with st := n, good := 0, listenAt := if n = 1 then s.clk else p.listenAt }).rec_
      0x5010 srcNet n o (satI32 s.net.ptp.offset)
    let s := if o = 3 then s.ptpStops else s
    if n = 3 ∧ (s.tbSource = 1 ∨ s.tbSource = 3) then s.setValid true 1 else s

/-- A correction from PTP reaches the time base when PTP is the source (R640, R642). -/
def State.ptpDiscipline (s : State) (offset : Int) : State :=
  let st := s.net.ptp.st
  let use := (s.tbSource == 1 && (st == 2 || st == 3)) || (s.tbSource == 3 && st == 3)
  if use && !s.isTrail then s.disciplined (-offset) else s

/-- An Announce (R485): on the other port of a PRP pair it makes that port PASSIVE_SLAVE (R482); a grandmaster change is recorded; a valid UTC offset is written to 8000h:03 (R644). -/
def State.ptpAnnounce (s : State) (pt : Fin 4) (gm : List Byte) (steps : Nat) (utc : Option Nat) : State :=
  let p := s.net.ptp
  if p.st = 0 then s
  else if p.parent.isSome ∧ p.parent ≠ some pt ∧ (p.st = 2 ∨ p.st = 3) then
    (if s.pairMode (npair pt) = 1 ∧ p.parent = some (otherPort pt) ∧ gm = p.gm then s.modPtp fun p => { p with passive := some pt } else s)
  else
    let s := s.modPtp fun p => { p with gm := gm, steps := steps, parent := some pt, annAt := s.clk }
    let s := if gm = p.gm then s
      else s.rec_ 0x5011 srcNet (leNat ((gm.reverse).take 4)) (leNat (((gm.reverse).drop 4).take 4)) steps
    let s := match utc with
      | some u => if u ≤ 255 ∧ s.cfg 0x8000 3 37 ≠ u then (s.putEntry 0x8000 3 (leBytes 2 u)).twinOf 0x8000 else s
      | none => s
    if p.st = 1 ∨ p.st = 4 then s.ptpState 2 else s

/-- A signed entry of a port's timestamping (R484), in ns. -/
def State.stampCfg (s : State) (pt : Fin 4) (sub : Nat) : Int := (BitVec.ofNat 32 (s.cfg (0x5028 + pt.val) sub 0)).toInt

/-- Whether a port is a SerDes lane (R463). -/
def serdes (pt : Fin 4) : Bool := Config.isAF && decide (2 ≤ pt.val)

/-- The offset from master with the ingress latency of a lane and the asymmetry of the path taken out (R484). -/
def State.trueOffset (s : State) (pt : Fin 4) (offset : Int) : Int :=
  offset - s.stampCfg pt 1 - (if serdes pt then s.stampCfg pt 2 else 0)

/-- The mean path delay with half the latencies of a lane taken out (R484). -/
def State.trueDelay (s : State) (pt : Fin 4) (mean : Int) : Int :=
  mean - (if serdes pt then (s.stampCfg pt 2 + s.stampCfg pt 3) / 2 else 0)

/-- A Sync (R485): offset, state, discipline. Detector 104 makes PTP leave LOCKED (R714). -/
def State.ptpSync (s : State) (pt : Fin 4) (offset : Int) : State :=
  let p := s.net.ptp
  if (p.st ≠ 2 ∧ p.st ≠ 3) ∨ p.parent ≠ some pt then s
  else
    let offset := s.trueOffset pt offset
    let good := if offset.natAbs < 100 then p.good + 1 else 0
    let s := s.modPtp fun p => { p with offset := offset, good := good }
    let s :=
      if p.st = 3 ∧ s.injOn 104 then (s.injDone 104).ptpState (if (s.det 104).b = 0 then 4 else 2)
      else if p.st = 2 ∧ 16 ≤ good then s.ptpState 3
      else if p.st = 3 ∧ 1000 < offset.natAbs then s.ptpState 2
      else s
    s.ptpDiscipline offset

/-- A PTP message goes out on a port, in Q3 (R467). -/
def State.ptpPut (s : State) (pt : Fin 4) (b : TxBody) : State :=
  s.modNetPort pt fun q => q.enqueue { q := 3, vid := none, seqnr := none, body := b }

/-- A PTP event message goes out in the mode of 5020h:06: alone, or with a follow-up that carries its time (R480). -/
def State.ptpSend (s : State) (pt : Fin 4) (event : Bool → TxBody) (followUp : TxBody) : State :=
  if s.cfg 0x5020 6 1 = 1 then s.ptpPut pt (event false) else (s.ptpPut pt (event true)).ptpPut pt followUp

/-- A peer-delay request is answered (R480). -/
def State.ptpRespond (s : State) (pt : Fin 4) : State :=
  if s.cfg 0x5020 1 1 = 0 then s else s.ptpSend pt .ptpPdelayResp .ptpPdelayFollowUp

/-- PTP_MESSAGE (R480, R485). -/
def opPtpMessage (m : PtpMsg) (s : State) : State :=
  if s.isTrail then s
  else
    match m with
    | .announce pt gm steps utc => s.ptpAnnounce pt gm steps utc
    | .sync pt offset _ => s.ptpSync pt offset
    | .delay pt mean => if s.net.ptp.st = 0 then s else s.modPtp fun p => { p with delay := s.trueDelay pt mean }
    | .delayReq pt => s.ptpRespond pt

/-- ANNOUNCE_TIMEOUT (R485): LOCKED becomes HOLDOVER, unless the other port of the doubly attached clock takes over with no step (R482). The
command is the expiry of the profile's receipt timeout, whose length the spec does not give. -/
def opAnnounceTimeout (s : State) : State :=
  match s.net.ptp.passive with
  | some q => s.modPtp fun p => { p with parent := some q, passive := none }
  | none =>
    let t := s.modPtp fun p => { p with parent := none }
    if s.net.ptp.st = 3 then t.ptpState 4 else t

/-- PTP_TRANSMIT_INTERVAL (R480): a peer-delay request, and as master Sync and Announce. -/
def opPtpTransmit (pt : Fin 4) (s : State) : State :=
  let mode := s.cfg 0x5020 1 1
  let master := !s.isTrail && ((mode == 2 && s.net.ptp.parent.isNone) || (mode == 3 && s.net.ptp.parent != some pt))
  if mode = 0 ∨ !s.portOn pt then s
  else
    let s := if s.isTrail then s else s.ptpPut pt .ptpPdelayReq
    if master then (s.ptpPut pt .ptpAnnounce).ptpSend pt .ptpSync .ptpFollowUp else s

/-! ## GOOSE subscriptions (R487–R493) -/

/-- An entry of subscription `k`. -/
def State.gsCfg (s : State) (k : Fin 256) (sub d : Nat) : Nat := s.cfg (0x5100 + k.val) sub d

/-- A member map entry (R492). -/
structure MapEnt where
  member : Nat
  ty     : Nat
  word   : Nat
  bit    : Nat
  width  : Nat
  deriving DecidableEq, Repr

/-- The entries of a member map, 8 bytes each (R492). -/
def mapEnts : List Byte → List MapEnt
  | m0 :: m1 :: ty :: w0 :: w1 :: b :: wd :: _ :: r =>
    { member := leNat [m0, m1], ty := ty.toNat, word := leNat [w0, w1], bit := b.toNat, width := wd.toNat } :: mapEnts r
  | _ => []

/-- Type code of a member (R492). -/
def gooseCode : GooseVal → Nat
  | .bool _ => 1
  | .bits _ _ => 2
  | .int _ => 3
  | .unsigned _ => 4
  | .float _ => 5
  | .int64 _ => 6
  | .utc _ _ _ => 7
  | .octets _ => 8

/-- Whether a member has the type of its map entry, within its size (R492). -/
def MapEnt.fits (e : MapEnt) (v : GooseVal) : Bool :=
  e.ty == 0 || (e.ty == gooseCode v &&
    (match v with
     | .bits n _ => decide (1 ≤ n ∧ n ≤ 32)
     | .int x => decide (-2147483648 ≤ x ∧ x < 2147483648)
     | .unsigned x => decide (x < 4294967296)
     | .octets bs => decide (1 ≤ bs.length ∧ bs.length ≤ 4)
     | _ => true))

/-- Word `i` of a list replaced. -/
def setWord (ws : List Word) (i : Nat) (f : Word → Word) : List Word := ws.set i (f (ws.getD i 0))

/-- A member placed into the window under its entry (R492). -/
def MapEnt.place (e : MapEnt) (v : GooseVal) (ws : List Word) : List Word :=
  if e.ty = 0 then ws
  else
    match v with
    | .bool b => setWord ws e.word fun x =>
        (x &&& ~~~(1#32 <<< e.bit)) ||| (if b then 1#32 <<< e.bit else 0)
    | .bits _ n => setWord ws e.word fun x =>
        (x &&& ~~~((BitVec.ofNat 32 (2 ^ e.width - 1)) <<< e.bit)) ||| ((BitVec.ofNat 32 (n % 2 ^ e.width)) <<< e.bit)
    | .int x => setWord ws e.word fun _ => BitVec.ofInt 32 x
    | .unsigned x => setWord ws e.word fun _ => BitVec.ofNat 32 x
    | .float x => setWord ws e.word fun _ => x
    | .int64 x => setWord (setWord ws e.word fun _ => BitVec.ofInt 32 x) (e.word + 1) fun _ => BitVec.ofInt 32 (x / 4294967296)
    | .utc sec frac q => setWord (setWord ws e.word fun _ => sec) (e.word + 1) fun _ => frac ++ q
    | .octets bs => setWord ws e.word fun _ => BitVec.ofNat 32 (leNat bs)

/-- The first map entry whose member is missing or has another type: member number and type received. -/
def mapError (ms : List GooseVal) : List MapEnt → Option (Nat × Nat)
  | [] => none
  | e :: r =>
    match ms[e.member]? with
    | some v => if e.fits v then mapError ms r else some (e.member, gooseCode v)
    | none => if e.ty = 0 then mapError ms r else some (e.member, 0)

/-- Every member placed. -/
def placeAll (ms : List GooseVal) (ws : List Word) : List MapEnt → List Word
  | [] => ws
  | e :: r => placeAll ms (match ms[e.member]? with | some v => e.place v ws | none => ws) r

/-- Whether a message belongs to subscription `k` (R487). -/
def State.gooseFor (s : State) (m : GooseMsg) (k : Fin 256) : Bool :=
  let vid := s.gsCfg k 5 0xFFFF
  s.gsCfg k 1 0 == 1 && s.gsCfg k 2 0 == m.iface.val && s.cfgBytes (0x5100 + k.val) 3 (List.replicate 6 0) == m.dst
    && s.gsCfg k 4 0 == m.appid && (vid == 0xFFFF || m.vid == some vid)
    && s.cfgBytes (0x5100 + k.val) 6 [] == m.gocb && s.cfgBytes (0x5100 + k.val) 7 [] == m.dataset

/-- A number older than another in serial-number arithmetic (R354). -/
def olderSeq (a b : Word) : Bool := decide (1 ≤ (b - a).toNat ∧ (b - a).toNat < 2 ^ 31)

/-- The status word (R491). -/
def GooseSub.status (g : GooseSub) : Word :=
  BitVec.ofNat 32 (fieldAt (b2n g.valid) 1 0 + fieldAt (b2n g.talexp) 1 1 + fieldAt (b2n g.needcomm) 1 2
    + fieldAt (b2n g.maperr) 1 3 + fieldAt (b2n g.test) 1 4 + fieldAt (b2n g.sim) 1 5 + fieldAt g.stNum.toNat 16 16)

/-- Updates subscription `k`. -/
def State.modSub (s : State) (k : Fin 256) (f : GooseSub → GooseSub) : State :=
  s.modNet fun n => { n with gsub := n.gsub.set k (f n.gsub[k]) }

/-- The lines of a source with an assignable line entry: A0–A79 are lines 96–175 (R177). -/
def lineOf (a : Nat) : List Nat := if a < 80 then [96 + a] else []

/-- Publishes the set of subscription `k`: status word and data window (R489). -/
def State.publishSub (s : State) (k : Fin 256) : State :=
  let g := s.net.gsub[k]
  let ws := (g.words.take (s.gsCfg k 0xA 1)) ++ List.replicate (s.gsCfg k 0xA 1 - g.words.length) 0
  let s := s.modSub k fun g => { g with pub := some (g.status, ws) }
  s.publish { src := 0x100 + k.val, words := (0x400 + k.val, g.status) :: wordsFrom (s.gsCfg k 9 0x500) ws
              lines := lineOf (s.gsCfg k 0xC 0xFF) }

/-- Publishes when the first frame was accepted, or stNum, data or status bits [5:0] differ from the last set (R489). -/
def State.publishIfNew (s : State) (k : Fin 256) (accepted : Bool) : State :=
  let g := s.net.gsub[k]
  match g.pub with
  | none => if accepted ∨ g.status.toNat % 64 ≠ 0 then s.publishSub k else s
  | some (st, ws) =>
    if st.toNat % 64 ≠ g.status.toNat % 64 ∨ (accepted ∧ (st ≠ g.status ∨ ws ≠ g.words)) then s.publishSub k else s

/-- A frame that the checks have accepted (R488 row 5). -/
def State.acceptGoose (s : State) (k : Fin 256) (m : GooseMsg) : State :=
  let g := s.net.gsub[k]
  let size := s.gsCfg k 0xA 1
  let base := (g.words.take size) ++ List.replicate (size - g.words.length) 0
  let ws := placeAll m.members base (mapEnts (s.cfgBytes (0x5100 + k.val) 0xF []))
  let s := s.modSub k fun g => { g with
    acc := true, stNum := m.stNum, sqNum := m.sqNum, valid := true, talexp := false, needcomm := false, maperr := false
    test := m.test, sim := m.sim, until_ := s.clk + m.tal * 1000000, words := ws }
  let s := if g.talexp then s.rec_ 0x5023 srcNet k.val m.stNum.toNat ((s.clk - g.expAt) / 1000000) else s
  s.publishIfNew k true

/-- A frame of subscription `k` judged by the rows of R488. -/
def State.judgeGoose (s : State) (k : Fin 256) (m : GooseMsg) : State :=
  let g := s.net.gsub[k]
  let map := mapEnts (s.cfgBytes (0x5100 + k.val) 0xF [])
  if g.acc ∧ !g.talexp ∧ olderSeq m.stNum g.stNum then s.modSub k fun g => { g with disc := g.disc + 1 }
  else if (m.test ∧ s.gsCfg k 0xD 0 = 0) ∨ (m.sim ∧ s.gsCfg k 0xE 0 = 0) then s
  else if m.confRev.toNat ≠ s.gsCfg k 8 0 ∨ m.nEntries ≠ map.length then
    let s := (s.modSub k fun g => { g with needcomm := true, valid := false }).publishIfNew k false
    if g.needcomm then s else s.rec_ 0x5021 srcNet k.val m.confRev.toNat (s.gsCfg k 8 0)
  else
    match mapError m.members map with
    | some e =>
      let s := (s.modSub k fun g => { g with maperr := true, valid := false }).publishIfNew k false
      if g.maperr then s else s.rec_ 0x5022 srcNet k.val e.1 e.2
    | none => s.acceptGoose k m

/-- GOOSE_FRAME (R487, R488): every subscription that the frame belongs to takes it. -/
def opGooseFrame (m : GooseMsg) (s : State) : State :=
  ((List.finRange 256).filter (s.gooseFor m)).foldl (fun (s : State) k => s.judgeGoose k m) s

/-- GOOSE_TAL_EXPIRED (R490). -/
def opGooseTal (k : Fin 256) (s : State) : State :=
  let g := s.net.gsub[k]
  let real := g.acc && decide (g.until_ ≤ s.clk)
  let inj := s.injFor 105 k.val
  if s.gsCfg k 1 0 = 1 ∧ !g.talexp ∧ (real ∨ inj) then
    let s := s.modSub k fun g => { g with talexp := true, valid := false, expAt := s.clk }
    let s := if inj then s.injDone 105 else s
    (s.publishIfNew k false).recInj 0x5020 srcNet k.val g.stNum.toNat g.sqNum.toNat (!real)
  else s

/-! ## GOOSE publications (R494–R497) -/

/-- An entry of publication `p`. -/
def State.gpCfg (s : State) (p : Fin 64) (sub d : Nat) : Nat := s.cfg (0x5300 + p.val) sub d

/-- Updates publication `p`. -/
def State.modPub (s : State) (p : Fin 64) (f : GoosePub → GoosePub) : State :=
  s.modNet fun n => { n with gpub := n.gpub.set p (f n.gpub[p]) }

/-- Default ladder in ms (R501). -/
def ladderDefault : List Nat := [2, 4, 8, 16, 32, 64, 128, 1000]

/-- U16 values of bytes. -/
def u16s : List Byte → List Nat
  | a :: b :: r => leNat [a, b] :: u16s r
  | _ => []

/-- The intervals of a publication: values up to the first 0 (R496, R501). -/
def State.ladder (s : State) (p : Fin 64) : List Nat :=
  match s.entry (0x5300 + p.val) 0xB with
  | some bs => (u16s bs).takeWhile (· != 0)
  | none => ladderDefault

/-- Interval `i` of a ladder in ms; the last one repeats. -/
def ladderAt (l : List Nat) (i : Nat) : Nat := l.getD i (l.getLast?.getD 1000)

/-- The 32 output words of publication `p`, with forces (R494). -/
def State.pubWords (s : State) (p : Fin 64) : List Word :=
  (List.range 32).map fun i => s.imgWord (0x4400 + p.val * 32 + i)

/-- The words or bits that a map takes from the words of a publication. -/
def mapped_ (ws : List Word) (e : MapEnt) : List Word :=
  match e.ty with
  | 0 => []
  | 1 => [(ws.getD e.word 0 >>> e.bit) &&& 1]
  | 2 => [(ws.getD e.word 0 >>> e.bit) &&& BitVec.ofNat 32 (2 ^ e.width - 1)]
  | 6 | 7 => [ws.getD e.word 0, ws.getD (e.word + 1) 0]
  | _ => [ws.getD e.word 0]

/-- The members of publication `p` in some words. -/
def State.members (s : State) (p : Fin 64) (ws : List Word) : List (List Word) :=
  (mapEnts (s.cfgBytes (0x5300 + p.val) 0xD [])).map (mapped_ ws)

/-- Whether publication `p` sends now: enabled, RUN was entered, and R497 outside RUN. -/
def State.pubActive (s : State) (p : Fin 64) : Bool :=
  s.gpCfg p 1 0 == 1 && s.net.gpub[p].ran && (s.op.st == .run || s.gpCfg p 0xC 0 != 1)

/-- The frame of publication `p` as it stands. -/
def State.gooseBody (s : State) (p : Fin 64) : TxBody :=
  let g := s.net.gpub[p]
  .goose p.val g.stNum g.sqNum (2 * ladderAt (s.ladder p) g.step) (s.op.st != .run && s.gpCfg p 0xC 0 == 2) (g.sent.getD [])

/-- Sends the frame of publication `p`; the next is due after the ladder's interval (R496). -/
def State.sendGoose (s : State) (p : Fin 64) : State :=
  let g := s.net.gpub[p]
  let s := s.sendFrame ⟨s.gpCfg p 2 0 % 4, Nat.mod_lt _ (by decide)⟩ (queueOf (s.gpCfg p 6 4)) (vidOf (s.gpCfg p 5 0xFFFF)) (s.gooseBody p)
  s.modPub p fun q => { q with nextAt := some (s.clk + ladderAt (s.ladder p) g.step * 1000000) }

/-- Whether a frame is one of publication `p`, and a change (sqNum 0) where `change` is asked. -/
def TxFrame.isPub (p : Nat) (change : Bool) (f : TxFrame) : Bool :=
  match f.body with
  | .goose q _ sq _ _ _ => q == p && (!change || sq == 0)
  | _ => false

/-- Whether a frame of publication `p`, or a change, still waits in a queue (R494). -/
def State.pubQueued (s : State) (p : Fin 64) (change : Bool) : Bool := s.net.port.toList.any fun q => q.queue.any (TxFrame.isPub p.val change)

/-- Replaces the data of a queued frame. -/
def TxFrame.refresh (p : Nat) (b : TxBody) (f : TxFrame) : TxFrame := if f.isPub p false then { f with body := b } else f

/-- The queued frame of publication `p` takes its present numbers and data (R494). -/
def State.refreshPub (s : State) (p : Fin 64) : State :=
  s.modNet fun n => { n with port := n.port.map fun q => { q with queue := q.queue.map (TxFrame.refresh p.val (s.gooseBody p)) } }

/-- A change of publication `p` (R494): stNum advances, the ladder starts again. While a frame of it is still queued, its data is replaced;
stNum advances once for a frame. -/
def State.gooseChange (s : State) (p : Fin 64) : State :=
  let ws := s.pubWords p
  if s.pubQueued p true then (s.modPub p fun g => { g with sent := some ws }).refreshPub p
  else if s.pubQueued p false then
    (s.modPub p fun g => { g with
      stNum := g.stNum + 1, sqNum := 0, sent := some ws, step := 0, nextAt := some (s.clk + ladderAt (s.ladder p) 0 * 1000000) }).refreshPub p
  else
    (s.modPub p fun g => { g with stNum := g.stNum + 1, sqNum := 0, sent := some ws, step := 0 }).sendGoose p

/-- The publications sample their words at a commit that changed `words` (R494). -/
def State.gooseCommit (s : State) (words : List Nat) : State :=
  (List.finRange 64).foldl (fun s p =>
    let base := 0x4400 + p.val * 32
    if s.op.st = .run ∧ s.pubActive p ∧ words.any (fun w => decide (base ≤ w ∧ w < base + 32)) ∧
        (s.net.gpub[p].sent.map (s.members p)) ≠ some (s.members p (s.pubWords p)) then s.gooseChange p
    else s) s

/-- GOOSE_REPETITION (R496). -/
def opGooseRepetition (p : Fin 64) (s : State) : State :=
  match s.net.gpub[p].nextAt with
  | some t =>
    if s.pubActive p ∧ t ≤ s.clk then
      (s.modPub p fun g => { g with sqNum := g.sqNum + 1, step := g.step + 1 }).sendGoose p
    else s
  | none => s

/-- What a change of operating state does to the publications (R497): the first entry to RUN, and a return to RUN after
SILENT or TEST, send a change. -/
def State.gooseState (s : State) (wasRun : Bool) : State :=
  if s.op.st = .run ∧ !wasRun then
    (List.finRange 64).foldl (fun s p =>
      let first := !s.net.gpub[p].ran
      let s := s.modPub p fun g => { g with ran := true }
      if s.gpCfg p 1 0 = 1 ∧ (first ∨ s.gpCfg p 0xC 0 ≠ 0) then s.gooseChange p else s) s
  else s

/-! ## SV subscriptions (R498–R500) -/

/-- An entry of stream `k`. -/
def State.svCfg (s : State) (k : Fin 16) (sub d : Nat) : Nat := s.cfg (0x5400 + k.val) sub d

/-- Updates stream `k`. -/
def State.modSv (s : State) (k : Fin 16) (f : SvSub → SvSub) : State :=
  s.modNet fun n => { n with sv := n.sv.set k (f n.sv[k]) }

/-- Whether a frame belongs to stream `k` (R498). -/
def State.svFor (s : State) (m : SvMsg) (k : Fin 16) : Bool :=
  let vid := s.svCfg k 5 0xFFFF
  s.svCfg k 1 0 == 1 && s.svCfg k 2 0 == m.iface.val && s.cfgBytes (0x5400 + k.val) 3 (List.replicate 6 0) == m.dst
    && s.svCfg k 4 0 == m.appid && (vid == 0xFFFF || m.vid == some vid) && s.cfgBytes (0x5400 + k.val) 6 [] == m.svid

/-- Samples per second of a stream: frames times ASDUs. -/
def State.svSamples (s : State) (k : Fin 16) : Nat := max 1 (s.svCfg k 8 4000 * s.svCfg k 9 1)

/-- Samples missing between counts, and the last count, over the ASDUs of a frame (R500). -/
def svMissing (mod : Nat) : Bool → Nat → List Asdu → Nat × Nat
  | _, last, [] => (0, last)
  | seen, last, a :: r =>
    let gap := if seen then (a.smpCnt.toNat + mod - (last + 1) % mod) % mod else 0
    let q := svMissing mod true a.smpCnt.toNat r
    (gap + q.1, q.2)

/-- Words of one ASDU of a set (R499): 22 words. -/
def asduWords (a : Asdu) : List Word :=
  let vs := a.vals.flatMap fun v => [v.1, v.2]
  (BitVec.ofNat 32 (fieldAt a.smpCnt.toNat 16 0 + fieldAt a.smpSynch.toNat 8 16)) :: 0 :: (vs ++ List.replicate (20 - vs.length) 0)

/-- First status word of a stream. -/
def SvSub.status (v : SvSub) (synch : Nat) : Word :=
  BitVec.ofNat 32 (fieldAt (b2n v.valid) 1 0 + fieldAt (b2n v.lost) 1 1 + fieldAt (b2n v.needcomm) 1 2
    + fieldAt (b2n v.missing) 1 3 + fieldAt synch 2 8)

/-- Publishes a stream's set of C0h words with a status word at its head (R499). -/
def State.publishSv (s : State) (k : Fin 16) : State :=
  let v := s.net.sv[k]
  let synch := bitsOf (v.words.getD 0 0).toNat 8 2
  let ws := (v.status synch :: v.words.tail).take 0xC0
  let s := s.modSv k fun v => { v with missing := false, words := ws }
  s.publish { src := 0x200 + k.val, words := wordsFrom (0x1400 + k.val * 0xC0) (ws ++ List.replicate (0xC0 - ws.length) 0)
              lines := lineOf (s.svCfg k 0xB 0xFF) }

/-- Whether a quality marks a sample invalid or test (R434): validity 01b, or the test bit. -/
def svBad (q : Word) : Bool := bitsOf q.toNat 0 2 == 1 || q.getLsbD 11

/-- Consecutive samples that an instance finds missing at the end of a frame, or where they reach three, and the last valid sample's count
there (R434). -/
def svBadRun (mod : Nat) : Bool → Nat → Nat → Nat → List Asdu → Nat × Nat
  | _, _, miss, valid, [] => (miss, valid)
  | seen, last, miss, valid, a :: r =>
    let gap := if seen then (a.smpCnt.toNat + mod - (last + 1) % mod) % mod else 0
    let bad := a.vals.any fun v => svBad v.2
    if 3 ≤ miss + gap then (miss + gap, valid)
    else svBadRun mod true a.smpCnt.toNat (if bad then miss + gap + 1 else 0) (if bad then valid else a.smpCnt.toNat) r

/-- The energy instances that take this stream follow its samples (R434). -/
def State.svToEnergy (s : State) (k : Fin 16) (m : SvMsg) (seen : Bool) (last : Nat) : State :=
  [(0 : Fin 2), 1].foldl (fun s i =>
    if s.insSrc i = 2 ∧ s.insCfg i 2 0 = k.val then
      let n := svBadRun (s.svSamples k) seen last (s.ins i).miss (s.ins i).lastCnt m.asdus
      let s := s.modInst i fun e => { e with miss := n.1, lastCnt := n.2 }
      if 3 ≤ n.1 then s.sourceLost i false else s
    else s) s

/-- A frame of stream `k` (R498–R500). -/
def State.takeSv (s : State) (m : SvMsg) (k : Fin 16) : State :=
    let v := s.net.sv[k]
    if m.confRev.toNat ≠ s.svCfg k 7 0 ∨ m.asdus.length ≠ s.svCfg k 9 1 ∨ m.asdus.any (fun a => a.vals.length != s.svCfg k 0xA 8) then
      let s := s.modSv k fun v => { v with needcomm := true, valid := false }
      if v.needcomm then s else (s.publishSv k).rec_ 0x5032 srcNet k.val m.confRev.toNat (s.svCfg k 7 0)
    else
      let q := svMissing (s.svSamples k) v.seen v.cnt m.asdus
      let last := (m.asdus.getLast?.map (·.smpSynch.toNat)).getD 0
      let body : List Word := [BitVec.ofNat 32 q.2, s.time.tb.extractLsb' 0 32, s.time.tb.extractLsb' 32 32,
        BitVec.ofNat 32 (v.acc + 1), BitVec.ofNat 32 (v.miss + q.1), BitVec.ofNat 32 m.asdus.length]
        ++ List.replicate 9 0 ++ m.asdus.flatMap asduWords
      let s := s.modSv k fun v => { v with
        valid := true, lost := false, needcomm := false, missing := v.missing || decide (0 < q.1), seen := true, cnt := q.2
        lastAt := s.clk, acc := (v.acc + 1) % 2 ^ 32, miss := (v.miss + q.1) % 2 ^ 32
        words := BitVec.ofNat 32 (fieldAt last 2 8) :: body }
      let s := if v.lost then s.rec_ 0x5031 srcNet k.val ((s.clk - v.lostAt) / 1000000) else s
      (s.publishSv k).svToEnergy k m v.seen v.cnt

/-- SV_FRAME (R498–R500): every stream that the frame matches accepts it. -/
def opSvFrame (m : SvMsg) (s : State) : State :=
  ((List.finRange 16).filter (s.svFor m)).foldl (fun (s : State) k => s.takeSv m k) s

/-- SV_LOST (R500). -/
def opSvLost (k : Fin 16) (s : State) : State :=
  let v := s.net.sv[k]
  let limit := max 1000000 (4 * 1000000000 / max 1 (s.svCfg k 8 4000))
  let real := decide (v.lastAt + limit ≤ s.clk)
  let inj := s.injFor 106 k.val
  if s.svCfg k 1 0 = 1 ∧ !v.lost ∧ (real ∨ inj) then
    let s := s.modSv k fun v => { v with lost := true, valid := false, lostAt := s.clk }
    let s := if inj then s.injDone 106 else s
    (s.publishSv k).recInj 0x5030 srcNet k.val v.cnt 0 (!real)
  else s

end Sys2Proof.Machine
end

