-- ==== Sys2Proof/Machine/CanOps.lean ====
section
/-! DEFINITION. Operations of the CAN FD controllers (R504–R536). The counting rules of TEC and REC are those of
ISO 11898-1, which R504 names and does not repeat. -/

namespace Sys2Proof.Machine

/-- A message object number. -/
abbrev MoId := Fin 128

/-- SRC of CAN records: the network engine carries the controllers (R40, R703). -/
def srcCan : Nat := 0x52

/-- Updates controller `c`. -/
def State.modCan (s : State) (c : Fin 2) (f : Can → Can) : State := { s with can := s.can.set c (f s.can[c]) }

/-- Updates object `m` of controller `c`. -/
def State.modMo (s : State) (c : Fin 2) (m : MoId) (f : Mo → Mo) : State :=
  s.modCan c fun k => { k with mo := k.mo.set m (f k.mo[m]) }

/-- Object `m` of controller `c`. -/
abbrev State.mo (s : State) (c : Fin 2) (m : MoId) : Mo := s.can[c].mo[m]

/-- Every object. -/
def allMo : List MoId := List.finRange 128

/-- An entry of controller `c`. -/
def State.canCfg (s : State) (c : Fin 2) (sub d : Nat) : Nat := s.cfg (0x6000 + c.val) sub d

/-- Index of the entries of an object (R537). -/
def moIdx (c : Fin 2) (m : MoId) : Nat := 0x6100 + 0x100 * c.val + m.val

/-- Index of the `k`th object of both controllers; its source code is 300h + k (R153). -/
def moAt (k : Nat) : Nat := 0x6100 + k / 128 * 0x100 + k % 128

/-- An entry of an object. -/
def State.moCfg (s : State) (c : Fin 2) (m : MoId) (sub d : Nat) : Nat := s.cfg (moIdx c m) sub d

/-- Direction of an object: 0 unused, 1 RX, 2 TX. -/
def State.moDir (s : State) (c : Fin 2) (m : MoId) : Nat := s.moCfg c m 1 0

/-- A 29-bit identifier. -/
def State.moIde (s : State) (c : Fin 2) (m : MoId) : Bool := s.moCfg c m 3 0 == 1

/-- Data bytes of a DLC (R504): classical frames carry at most 8. -/
def dlcBytes (fdf : Bool) (dlc : Nat) : Nat :=
  if dlc ≤ 8 then dlc else if !fdf then 8 else [12, 16, 20, 24, 32, 48, 64].getD (dlc - 9) 64

/-- Resource code of an object (R409). -/
def moRes (c : Fin 2) (m : MoId) : Nat := 0x3000 + 0x1000 * c.val + m.val

/-- Whether a program's image map uses an object: its window, or its registers (R513). -/
def imapUses (i : Imap) (res base size : Nat) : Bool :=
  i.res.any (fun r => r.word == res)
    || (base != 0 &&
        (i.reads.any (fun r => decide (r.first < base + size ∧ base < r.first + r.count))
          || i.writes.any (fun w => decide (base ≤ w.word ∧ w.word < base + size))))

/-- Window base and size of an object. -/
def State.moWin (s : State) (c : Fin 2) (m : MoId) : Nat × Nat := (s.moCfg c m 7 0, s.moCfg c m 8 8)

/-- The holder code of an object (R513, R534): 0 none, 1 IMAGE, 7 WAKE. -/
def State.moHolder (s : State) (c : Fin 2) (m : MoId) : Nat :=
  if s.canCfg c 0x11 0xFF = m.val then 7
  else if s.prog.loaded ∧ imapUses s.prog.imap (moRes c m) (s.moWin c m).1 (s.moWin c m).2 then 1
  else 0

/-- Whether the unit may transmit on CAN: in tandem only the INTLK holder (R528). -/
def State.canHolder (s : State) : Bool := !s.isTrail

/-! ## Controller states (R509, R510) -/

/-- The error state that the counters give. -/
def errState (tec rx : Nat) : Nat := if 255 < tec then 4 else if 128 ≤ tec ∨ 128 ≤ rx then 3 else 2

/-- TEC in [15:0] and REC in [31:16]. -/
def Can.counts (k : Can) : Nat := fieldAt k.tec 16 0 + fieldAt k.rxec 16 16

/-- `n` words of data at the head of a zero-filled list. -/
def dataWords (n : Nat) (bs : List Byte) : List Word :=
  (List.range n).map fun i => BitVec.ofNat 32 (leNat ((bs.drop (4 * i)).take 4))

/-- A request becomes pending (R521). -/
def Mo.request (o : Mo) (win : Bool) : Mo := { o with txreq := true, fromWin := win, noRetry := false }

/-- An object takes a window's frame (R525). -/
def Mo.load (o : Mo) (dlc : BitVec 4) (bs : List Byte) : Mo :=
  { o with dlc := dlc, data := Vector.ofFn fun (i : Fin 16) => (dataWords 16 bs).getD i.val 0 }

/-- A window request that waited follows the one that is over (R525). -/
def Mo.follow (o : Mo) : Mo :=
  match o.next with
  | some (d, bs) => { (o.load d bs).request true with next := none }
  | none => o

/-- A request that ends without success: one-shot objects at bus-off (R510), or a transmission that is not retried (R523). -/
def Mo.ended (m : Mo) (err : Bool) : Mo :=
  Mo.follow { m with txreq := false, intx := false, noRetry := false, fromWin := false
                     txerr := m.txerr || err, arblost := m.arblost || !err }

/-- Whether a request is one-shot (R523): by its entry, the controller's, or an ABORT during transmission (R524). -/
def State.oneShot (s : State) (c : Fin 2) (m : MoId) : Bool :=
  s.moCfg c m 6 0 == 1 || s.canCfg c 0xD 0 == 1 || (s.mo c m).noRetry

/-- The MDP frame in transmission is over: it leaves the queue, or is tried again (R513, R523). -/
def Can.mdpOver (k : Can) (gone : Bool) : Can := if k.mdpTx then { k with mdpTx := false, mdp := if gone then k.mdp.tail else k.mdp } else k

/-- One-shot requests end with TXERR at bus-off; the others stay pending (R510). -/
def State.dropOneShots (s : State) (c : Fin 2) : State :=
  allMo.foldl (fun s m => if (s.mo c m).txreq then
      s.modMo c m fun o => if s.oneShot c m then o.ended true else { o with intx := false } else s)
    (s.modCan c fun k => k.mdpOver (s.canCfg c 0xD 0 == 1))

/-- The counters take new values; a change among states 2–4 is recorded (R509). -/
def State.setErr (s : State) (c : Fin 2) (tec rx : Nat) (inj : Bool) : State :=
  let k := s.can[c]
  let n := errState tec rx
  let s := s.modCan c fun k => { k with tec := min tec 511, rxec := min rx 255, st := n }
  if n = k.st then s
  else
    let s := s.recInj 0x6001 srcCan c.val n (s.can[c]).counts inj
    if n = 4 then
      (s.modCan c fun k => { k with busoff := true, offN := satInc k.offN, recovering := s.canCfg c 0xE 0 == 0 }).dropOneShots c
    else s

/-- Whether a controller takes part in the bus. -/
def Can.active (k : Can) : Bool := k.st == 2 || k.st == 3

/-! ## Receiving (R512, R515–R518) -/

/-- Whether an identifier belongs to MDP on controller `c` (R513). -/
def State.mdpId (s : State) (c : Fin 2) (id : Nat) (ide : Bool) : Bool :=
  let d := s.canCfg c 0x13 0
  ide && d != 0 && (id == 0x1A4E0000 + d || id == 0x1A4F0000 + d)

/-- Whether a frame matches an RX object (R512). -/
def State.rxMatch (s : State) (c : Fin 2) (f : CanFrame) (m : MoId) : Bool :=
  s.moDir c m == 1 && s.moIde c m == f.ide && s.moCfg c m 2 0 == f.id.toNat

/-- The words of a window set (R517, R518). -/
def canWindow (size : Nat) (f : CanFrame) (lost : Bool) (cnt : Nat) (time : Word) : List Word :=
  let cap := 4 * (size - 2)
  BitVec.ofNat 32 (fieldAt f.dlc.toNat 4 0 + fieldAt f.data.length 7 4 + fieldAt (b2n f.fdf) 1 11 + fieldAt (b2n f.brs) 1 12
    + fieldAt (b2n f.esi) 1 13 + fieldAt (b2n (decide (cap < f.data.length))) 1 14 + fieldAt (b2n lost) 1 15
    + fieldAt cnt 16 16) :: time :: dataWords (size - 2) (f.data.take cap)

/-- Source code of an object (R153). -/
def moSrc (c : Fin 2) (m : MoId) : Nat := 0x300 + 0x80 * c.val + m.val

/-- The frame is stored in one step (R515). -/
def Mo.store (o : Mo) (f : CanFrame) (time : Word) : Mo :=
  { o with
    newdat := true, lost := o.lost || o.newdat, lostN := if o.newdat then satInc o.lostN else o.lostN
    rxdlc := f.dlc, rxfdf := f.fdf, rxbrs := f.brs, rxesi := f.esi, time := time, cnt := (o.cnt + 1) % 2 ^ 32
    data := Vector.ofFn fun (i : Fin 16) => (dataWords 16 f.data).getD i.val 0 }

/-- CAN_FRAME_RECEIVED (R512, R515–R519). -/
def opCanReceived (c : Fin 2) (f : CanFrame) (s : State) : State :=
  if !s.can[c].active then s
  else
    let rx := s.can[c].rxec
    let s := s.setErr c s.can[c].tec (if 127 < rx then 127 else rx - 1) false
    match (if f.remote then none else allMo.find? (s.rxMatch c f)) with
    | none =>
      if s.mdpId c f.id.toNat f.ide && !f.remote then s else s.modCan c fun k => { k with disc := satInc k.disc }
    | some m =>
      let t := s.time.tb.extractLsb' 0 32
      let s := s.modMo c m fun o => o.store f t
      let w := s.moWin c m
      if w.1 = 0 then s
      else
        let late := (sget none s.img.heldPub (moSrc c m)).isSome
        s.publish { src := moSrc c m, words := wordsFrom w.1 (canWindow w.2 f late (s.mo c m).cnt t)
                    lines := (let a := s.moCfg c m 0xA 0xFF; if a < 80 then [96 + a] else []) }

/-! ## Transmitting (R521–R526) -/

/-- Arbitration value of an object: the field that wins is the lower one (R522). -/
def arbKey (id : Nat) (ide : Bool) : Nat :=
  if ide then bitsOf id 18 11 * 2 ^ 21 + 2 ^ 20 + 2 ^ 19 + bitsOf id 0 18 * 2 else id % 2048 * 2 ^ 21

/-- Key of object `m`. -/
def State.moKey (s : State) (c : Fin 2) (m : MoId) : Nat := arbKey (s.moCfg c m 2 0) (s.moIde c m)

/-- Whether a pending object wins the next arbitration among the objects (R522). -/
def State.wins (s : State) (c : Fin 2) (m : MoId) : Bool :=
  (s.mo c m).txreq && allMo.all fun o =>
    o == m || !(s.mo c o).txreq || decide (s.moKey c m < s.moKey c o) || (s.moKey c m == s.moKey c o && decide (m < o))

/-- Whether some object or an MDP frame is in transmission. -/
def State.sending (s : State) (c : Fin 2) : Bool := s.can[c].mdpTx || allMo.any fun m => (s.mo c m).intx

/-- Key of a response of MDP (R513, R582). -/
def State.mdpKey (s : State) (c : Fin 2) : Nat := arbKey (0x1A4F0000 + s.canCfg c 0x13 0) true

/-- The winner of the arbitration, an object or an MDP frame, goes into transmission (R513, R522). -/
def State.startTx (s : State) (c : Fin 2) : State :=
  if s.can[c].active && s.canHolder && s.canCfg c 0xC 0 == 0 && !s.sending c then
    let mdp (s : State) : State := if s.can[c].mdp = [] then s else s.modCan c fun k => { k with mdpTx := true }
    match allMo.find? (s.wins c) with
    | some m => if s.can[c].mdp = [] ∨ s.moKey c m ≤ s.mdpKey c then s.modMo c m fun o => { o with intx := true } else mdp s
    | none => mdp s
  else s

/-- The frames of an MDP response wait for the bus (R513, R582). -/
def State.canMdp (s : State) (c : Fin 2) (fs : List (List Byte)) : State :=
  if s.canHolder ∧ s.can[c].st ≠ 0 ∧ s.can[c].st ≠ 5 then s.modCan c fun k => { k with mdp := k.mdp ++ fs } else s

/-- Delay compensation of a transmitted FD frame with BRS (R508). -/
def State.tdc (s : State) (c : Fin 2) (m : MoId) (delay : Nat) : State :=
  let mode := s.canCfg c 0xA 1
  let off := s.canCfg c 0xB 16
  if s.moCfg c m 4 0 = 0 ∨ s.moCfg c m 5 0 = 0 ∨ mode = 0 then s
  else
    let d := if mode = 1 then delay else s.can[c].delay
    let ssp := if mode = 1 then delay + off else off
    let s := s.modCan c fun k => { k with delay := d, ssp := min ssp 127, tdcerr := k.tdcerr || decide (127 < ssp) }
    if 127 < ssp then s.rec_ 0x6004 srcCan c.val d off else s

/-- A transmission succeeds (R523): a window request that waited follows it (R525). -/
def Mo.sent (o : Mo) (time : Word) : Mo :=
  Mo.follow { o with txreq := false, intx := false, noRetry := false, fromWin := false, txok := true, time := time, cnt := (o.cnt + 1) % 2 ^ 32 }

/-- A transmission fails: retried, or ended with ARBLOST or TXERR (R523, R524). -/
def State.txFailed (s : State) (c : Fin 2) (m : MoId) (err : Bool) : State :=
  if s.oneShot c m then s.modMo c m fun o => o.ended err else s.modMo c m fun o => { o with intx := false }

/-- An injected bus-off or error-passive report (detectors 107, 108) at controller `c`. -/
def State.canInjected (s : State) (c : Fin 2) : State :=
  if s.injFor 107 c.val ∧ s.can[c].active then (s.injDone 107).setErr c 256 s.can[c].rxec true
  else if s.injFor 108 c.val ∧ s.can[c].st = 2 then (s.injDone 108).setErr c (max 128 s.can[c].tec) s.can[c].rxec true
  else s

/-- CAN_RECEIVE_ERROR (R509, R533): LEC takes the error, REC rises by the amount ISO 11898-1 gives the error, 1 or 8. -/
def opCanReceiveError (c : Fin 2) (lec : BitVec 3) (s : State) : State :=
  if s.can[c].active then
    let d := if s.freeBool then 8 else 1
    ((s.draw.modCan c fun k => { k with lec := lec }).setErr c s.can[c].tec (s.can[c].rxec + d) false).canInjected c
  else s

/-- A request is withdrawn with ABORTED. -/
def Mo.withdraw (o : Mo) : Mo := { o with txreq := false, intx := false, next := none, fromWin := false, aborted := true }

/-- What a write of CANn_MOCTRLm does (R514, R521, R524, R527–R529, R535); `none` is status RULE. `done` says that the controller clears
TXREQ in the cycle of the write: the write is then judged with TXREQ clear, and takes effect after that (R14). -/
def State.moctrl (s : State) (c : Fin 2) (m : MoId) (v : Word) (done : Bool) : Option State :=
  let o := s.mo c m
  let clears := done && o.intx && o.next.isNone
  let dlc : BitVec 4 := v.extractLsb' 0 4
  let req := v.getLsbD 8
  let abort := v.getLsbD 9
  if s.moHolder c m ≠ 1 ∨ s.moDir c m ≠ 2 then none
  else if o.txreq && !clears then
    if abort && !req && dlc == o.dlc then
      some (s.modMo c m fun o => if o.intx then { o with noRetry := true, next := none } else o.withdraw)
    else none
  else if decide (8 < dlc.toNat) && s.moCfg c m 4 0 == 0 then none
  else if req && (s.op.st != .run || s.can[c].st == 5 || !s.canHolder) then none
  else if o.txreq then some (s.modMo c m fun o => { o with late := some (s.clk, v) })
  else some (s.modMo c m fun o => if req then { o with dlc := dlc }.request false else { o with dlc := dlc })

/-- A write that met the end of a request in the same cycle takes effect once TXREQ is clear (R14, R521). -/
def State.lateRequest (s : State) (c : Fin 2) (m : MoId) : State :=
  match (s.mo c m).late with
  | some (t, v) =>
    let s := s.modMo c m fun o => { o with late := none }
    if t = s.clk then (s.moctrl c m v false).getD s else s
  | none => s

/-- What the end of a transmission does to its object (R508, R523). -/
def State.moOver (s : State) (c : Fin 2) (m : MoId) (out : TxOutcome) (delay : Nat) : State :=
  match out with
  | .ok => (((s.tdc c m delay).modMo c m fun o => o.sent (s.time.tb.extractLsb' 0 32))).lateRequest c m
  | .arbLost => (s.txFailed c m false).lateRequest c m
  | .error _ => (s.txFailed c m true).lateRequest c m

/-- What the end of a transmission does to an MDP frame (R513, R523): a success takes it out, a failure too where the controller is
one-shot. -/
def State.mdpOver (s : State) (c : Fin 2) (out : TxOutcome) : State :=
  s.modCan c fun k => k.mdpOver (out == .ok || s.canCfg c 0xD 0 == 1)

/-- What the end of a transmission does to the error counters (R509). -/
def State.txCount (s : State) (c : Fin 2) (out : TxOutcome) : State :=
  let k := s.can[c]
  match out with
  | .ok => s.setErr c (k.tec - 1) k.rxec false
  | .arbLost => s
  | .error lec => (s.modCan c fun k => { k with lec := lec }).setErr c (if lec = 3 ∧ k.st = 3 then k.tec else k.tec + 8) k.rxec false

/-- TRANSMISSION_COMPLETE (R508, R509, R513, R523) of an object, or of an MDP frame. -/
def opTransmission (c : Fin 2) (m : Option MoId) (out : TxOutcome) (delay : Nat) (s : State) : State :=
  let s := s.startTx c
  if !s.can[c].active then s
  else
    match m with
    | some m => if (s.mo c m).intx then (s.moOver c m out delay).txCount c out else s
    | none => if s.can[c].mdpTx then (s.mdpOver c out).txCount c out else s

/-- A write of CANn_MODATAm_i (R514, R521); `none` is status RULE. -/
def State.modata (s : State) (c : Fin 2) (m : MoId) (i : Fin 16) (v : Word) : Option State :=
  if s.moHolder c m ≠ 1 ∨ (s.mo c m).txreq then none
  else if s.moDir c m ≠ 2 then some s
  else some (s.modMo c m fun o => { o with data := o.data.set i v })

/-- A commit changed the window of TX object `m` (R525–R527). A unit that does not hold INTLK takes the SEQ as sent by the holder (R528). -/
def State.windowCommit (s : State) (c : Fin 2) (m : MoId) : State :=
  let w := s.moWin c m
  let w0 := s.imgWord w.1
  let seq : Byte := w0.extractLsb' 8 8
  let dlc : BitVec 4 := w0.extractLsb' 0 4
  let o := s.mo c m
  let n := dlcBytes (s.moCfg c m 4 0 == 1) dlc.toNat
  let bs := ((List.range (w.2 - 1)).flatMap fun i => leBytes 4 (s.imgWord (w.1 + 1 + i)).toNat).take n
  if seq = o.seqLast then s
  else if s.op.st ≠ .run then s.modMo c m fun o => { o with seqLast := seq }
  else if !s.canHolder then s.modMo c m fun o => { o with seqLast := seq }
  else if s.can[c].st = 5 ∨ s.can[c].st = 0 then s
  else if 4 * (w.2 - 1) < n then s.modMo c m fun o => { o with txerr := true, lostN := satInc o.lostN }
  else
    s.modMo c m fun o =>
      if o.txreq && (o.intx || !o.fromWin) then { o with next := some (dlc, bs), seqLast := seq }
      else { (o.load dlc bs).request true with seqLast := seq }

/-- TX windows at a commit that changed `words` (R525). -/
def State.canCommit (s : State) (words : List Nat) : State :=
  [(0 : Fin 2), 1].foldl (fun s c => allMo.foldl (fun s m =>
    let w := s.moWin c m
    if s.moDir c m = 2 ∧ w.1 ≠ 0 ∧ words.any (fun x => decide (w.1 ≤ x ∧ x < w.1 + w.2)) then s.windowCommit c m else s) s) s

/-- Entry to STOP or HALT withdraws requests that are not in transmission (R527). -/
def State.canStop (s : State) : State :=
  { s with can := s.can.map fun k => { k with mo := k.mo.map fun o => if o.txreq && !o.intx then o.withdraw else { o with next := none } } }

/-! ## Sleep, wake, recovery (R510, R529, R530) -/

/-- SLEEP (R529). -/
def State.canSleep (s : State) (c : Fin 2) : State :=
  if s.can[c].active ∨ s.can[c].st = 1 ∨ s.can[c].st = 4 then
    (s.modCan c fun k => { k with st := 5, recovering := false, mdp := [], mdpTx := false, mo := k.mo.map fun o => if o.txreq then o.withdraw else o }).rec_
      0x6002 srcCan c.val (s.canCfg c 0x10 1)
  else s

/-- A wake (R530): bus integration follows. -/
def State.canWakes (s : State) (c : Fin 2) (cause : Nat) : State :=
  if s.can[c].st = 5 then (s.modCan c fun k => { k with st := 1, woken := true, tec := 0, rxec := 0 }).rec_ 0x6003 srcCan c.val cause
  else s

/-- Bytes of an object's data registers. -/
def Mo.bytes (o : Mo) : List Byte := o.data.toList.flatMap fun w => leBytes 4 w.toNat

/-- Whether data match under a mask (R530). -/
def maskMatch : List Byte → List Byte → List Byte → Bool
  | m :: ms, a :: as_, b :: bs => ((a ^^^ b) &&& m) == 0 && maskMatch ms as_ bs
  | m :: ms, [], b :: bs => (b &&& m) == 0 && maskMatch ms [] bs
  | m :: ms, a :: as_, [] => (a &&& m) == 0 && maskMatch ms as_ []
  | _, _, _ => true

/-- Whether a frame wakes controller `c` in mode FRAME (R530). -/
def State.wakeFrame (s : State) (c : Fin 2) (f : CanFrame) : Bool :=
  let n := s.canCfg c 0x11 0xFF
  if h : n < 128 then
    let m : MoId := ⟨n, h⟩
    s.moIde c m == f.ide && s.moCfg c m 2 0 == f.id.toNat
      && maskMatch (s.cfgBytes (0x6000 + c.val) 0x12 (List.replicate 8 0)) (s.mo c m).bytes f.data
  else false

/-- CAN_WAKE (R530). -/
def opCanWake (c : Fin 2) (w : WakeEvent) (s : State) : State :=
  match w with
  | .dominant => if s.canCfg c 0x10 1 = 1 then s.canWakes c 0 else s
  | .frame f => if s.canCfg c 0x10 1 = 2 ∧ s.wakeFrame c f then s.canWakes c 1 else s
  | .frameErrors => if s.canCfg c 0x10 1 = 2 then s.canWakes c 2 else s

/-- BUS_INTEGRATION (R509): the controller becomes ERROR_ACTIVE. -/
def opBusIntegration (c : Fin 2) (s : State) : State :=
  if s.can[c].st = 1 then s.modCan c fun k => { k with st := 2, tec := 0, rxec := 0 } else s

/-- BUS_OFF_RECOVERY (R510). -/
def opBusOffRecovery (c : Fin 2) (s : State) : State :=
  if s.can[c].st = 4 ∧ s.can[c].recovering then (s.modCan c fun k => { k with recovering := false }).setErr c 0 0 false else s

/-- RECOVER (R510): command 3 starts recovery. -/
def State.canRecover (s : State) (c : Fin 2) : State :=
  if s.can[c].st = 4 then s.modCan c fun k => { k with recovering := true } else s

/-- A write of 6000h+c:01: enabling starts bus integration, disabling puts the controller OFF (R509). -/
def State.canEnable (s : State) (c : Fin 2) (on : Bool) : State :=
  s.modCan c fun k =>
    if on then (if k.st = 0 then { k with st := 1, tec := 0, rxec := 0 } else k)
    else { k with st := 0, recovering := false, mdp := [], mdpTx := false, mo := k.mo.map fun o => if o.txreq then o.withdraw else o }

end Sys2Proof.Machine
end

