-- ==== Sys2Proof/Machine/Claims.lean ====
section
/-! DEFINITION. The claim table (R409–R414): who holds a resource. It is computed from the entries and the loaded
program, which are its only homes. -/

namespace Sys2Proof.Machine

/-- The tasks in force, by leader's context, ascending. -/
def State.taskSet (s : State) : List (Nat × Task) :=
  allCtx.filterMap fun g =>
    let t := (s.cx g).taskNow
    if t.kind = .none ∨ (t.paired ∧ 8 ≤ g.val % 16) then none else some (g.val, t)

/-- The lowest of a list of contexts, FFh for none. -/
def lowest (l : List Nat) : Nat := l.foldl min 0xFF

/-- Tasks of an image map that declare writes to bit mask `m` of word `w`. -/
def Imap.writers (i : Imap) (w : Nat) (m : Word) : List Nat :=
  (i.writes.filter fun e => e.word == w && (e.mask &&& m) != 0).map (·.ctx)

/-- The image map in force; empty while no program is loaded. -/
def State.imapNow (s : State) : Imap := if s.prog.loaded then s.prog.imap else ⟨[], [], [], [], []⟩

/-- Contexts that use object `m` of controller `c` in an image map (R513). -/
def State.moUsers (s : State) (i : Imap) (c : Fin 2) (m : MoId) : List Nat :=
  let w := s.moWin c m
  let hit := fun a n => decide (w.1 ≠ 0 ∧ a < w.1 + w.2 ∧ w.1 < a + n)
  (i.res.filter fun r => r.word == moRes c m).map (·.ctx)
    ++ (i.reads.filter fun r => hit r.first r.count).map (·.ctx)
    ++ (i.writes.filter fun r => hit r.word 1).map (·.ctx)

/-- The source assigned to assignable line `a`, by source code (R153, R179). -/
def State.lineSource (s : State) (a : Nat) : Option Nat :=
  if a < 80 then
    ((below 256 fun k => s.cfg (0x5100 + k) 0xC 0xFF == a).head?.map (0x100 + ·)).or
      (((below 16 fun k => s.cfg (0x5400 + k) 0xB 0xFF == a).head?.map (0x200 + ·)).or
        ((below 256 fun m => s.cfg (moAt m) 0xA 0xFF == a).head?.map (0x300 + ·)))
  else none

/-- The holder of resource `res`: holder code and detail (R409). -/
def State.claim (s : State) (res : Nat) : Nat × Nat :=
  let k := res % 0x1000
  if 0x1000 ≤ res ∧ res < 0x1020 then
    let c : Ch := ⟨k % 32, Nat.mod_lt _ (by decide)⟩
    match s.holder c with
    | 0 => (0, 0)
    | 1 => (1, lowest (s.imapNow.writers 0x4000 (1#32 <<< c.val)))
    | 2 => (2, match s.quadOf c with | some a => a.val | none => c.val)
    | 3 => (3, match s.pulseOn c with | some p => p.val / 8 | none => 0)
    | h => (h, 0)
  else if 0x2000 ≤ res ∧ res < 0x2010 then (if s.cfg (0x4200 + k) 1 0xFF = 0xFF then (0, 0) else (3, k / 8))
  else if (0x3000 ≤ res ∧ res < 0x3080) ∨ (0x4000 ≤ res ∧ res < 0x4080) then
    let c : Fin 2 := if res < 0x4000 then 0 else 1
    let m : MoId := ⟨k % 128, Nat.mod_lt _ (by decide)⟩
    match s.moHolder c m with
    | 7 => (7, c.val)
    | 1 => (1, lowest (s.moUsers s.imapNow c m))
    | _ => (0, 0)
  else if 0x5000 ≤ res ∧ res < 0x5100 then
    match s.bound k with
    | some g => (5, g.val)
    | none =>
      match s.lineSource (k - 96) with
      | some src => if 96 ≤ k then (6, src) else (0, 0)
      | none => (0, 0)
  else (0, 0)

/-- Every resource code of R409, in ascending order. -/
def allRes : List Nat :=
  (List.range 32).map (0x1000 + ·) ++ (List.range 16).map (0x2000 + ·) ++ (List.range 128).map (0x3000 + ·)
    ++ (List.range 128).map (0x4000 + ·) ++ (List.range 256).map (0x5000 + ·)

/-- The claim table in force, entry 3000h:03: 8 bytes per held resource. -/
def State.claimTable (s : State) : List Byte :=
  allRes.flatMap fun r =>
    let h := s.claim r
    if h.1 = 0 then [] else leBytes 2 r ++ leBytes 1 h.1 ++ leBytes 1 0 ++ leBytes 4 h.2

/-- Reports a refused claim with code 3018h (R410); the resource's present holder is named. -/
def State.recClaim (s : State) (a : Abort) : State := if a.code = 0x80000007 then s.rec_ 0x3018 0x50 a.d1 a.d2 a.d3 else s

/-- The refusal that names the present holder of a resource. -/
def State.abHeld (s : State) (res : Nat) : Abort := abClaimed res (s.claim res).1 (s.claim res).2

/-- What a declared write to a field or pulse word requires and does not find (R412, R448): the resource. -/
def State.unheld (s : State) (w : Nat) (m : Word) : Option Nat :=
  let bits := below 32 fun b => m.getLsbD b
  let counter := fun b => s.chCfg ⟨b % 32, Nat.mod_lt _ (by decide)⟩ 1 0 == 4 && s.modeCfg ⟨b % 32, Nat.mod_lt _ (by decide)⟩ == 4
    && (match s.quadOf ⟨b % 32, Nat.mod_lt _ (by decide)⟩ with | some a => a.val == b | none => true)
  let output := fun b => let x := s.modeCfg ⟨b % 32, Nat.mod_lt _ (by decide)⟩; x == 2 || x == 3
  if w = 0x4000 then (bits.find? fun b => !output b).map (0x1000 + ·)
  else if w = 0x4002 ∨ w = 0x4003 then (bits.find? fun b => !counter b).map (0x1000 + ·)
  else if 0x4010 ≤ w ∧ w < 0x4050 then
    (if (0x4010 ≤ w ∧ w < 0x4030) ∨ (0x4030 ≤ w ∧ w < 0x4050) then
      (let ch := (w - 0x4010) % 32; if counter ch then none else some (0x1000 + ch)) else none)
  else if 0x4050 ≤ w ∧ w < 0x4060 then (if s.cfg (0x4200 + (w - 0x4050)) 1 0xFF = 0xFF then some (0x2000 + (w - 0x4050)) else none)
  else none

end Sys2Proof.Machine
end

