-- ==== Sys2Proof/Machine/Admission.lean ====
section
/-! DEFINITION. Admission (R54–R57, R95–R102, R124, R792). The analysis is exact: every time of R99 is held multiplied by
the set point in MHz of the task's core, which all tasks that share a core with it have in common. -/

namespace Sys2Proof.Machine

/-- A task as admission sees it: global context, attributes, and what R288 adds to it: a lower bound on its cost in
scaled ns and an addition to its blocking term in ns. -/
structure AdmTask where
  ctx   : Nat
  t     : Task
  minC  : Nat
  block : Nat
  deriving DecidableEq, Repr

/-- A plain task of a set. -/
def admOf (p : Nat × Task) : AdmTask := ⟨p.1, p.2, 0, 0⟩

/-- The cores of a task (R56). -/
def AdmTask.cores (a : AdmTask) : List Nat := if a.t.paired then [a.ctx / 8, a.ctx / 8 + 1] else [a.ctx / 8]

/-- The contexts a task occupies (R56, R238). -/
def AdmTask.ctxs (a : AdmTask) : List Nat := if a.t.paired then [a.ctx, a.ctx + 8] else [a.ctx]

/-- Whether two tasks share a core. -/
def AdmTask.shares (a b : AdmTask) : Bool := a.cores.any fun c => b.cores.contains c

/-- A cyclic or event task. -/
def Task.timed (t : Task) : Bool := t.kind == .cyclic || t.kind == .event

/-- The ranges of R54, R57 and R256. -/
def AdmTask.inRange (a : AdmTask) : Bool :=
  let t := a.t
  decide (a.ctx < 64 ∧ t.staging ≤ 256) &&
    match t.kind with
    | .none => false
    | .background => t.prio == 0 && !t.paired && t.retained == 0
    | k =>
      decide (1 ≤ t.prio ∧ t.prio ≤ 15 ∧ 20 ≤ t.period ∧ t.period ≤ 10000000 ∧ 1 ≤ t.deadline ∧ t.deadline ≤ t.period
        ∧ 64 ≤ t.budget ∧ t.budget ≤ 4294967295 ∧ t.action ≤ 3 ∧ t.retained ≤ 16384 ∧ t.evline ≤ 255 ∧ t.mmaction ≤ 2)
        && (k != .cyclic || decide (t.offset < t.period)) && (!t.paired || a.ctx / 8 % 2 == 0)

/-- Whether two tasks break R56 together: one context, one priority, or two background tasks on one core. -/
def AdmTask.clash (a b : AdmTask) : Bool :=
  a.ctxs.any (b.ctxs.contains ·) || (a.shares b && a.t.prio == b.t.prio)

/-- Whether a task breaks R54–R57 within a set: by itself, or against another task of the set. Of two tasks that clash both break the
condition, so the one of lower context is named (R792). -/
def badPlace (set : List AdmTask) (a : AdmTask) : Bool := !a.inRange || (set.erase a).any fun b => b.clash a

/-- Puts a task into a list in ascending global context. -/
def insertCtx (a : AdmTask) : List AdmTask → List AdmTask
  | [] => [a]
  | b :: r => if a.ctx ≤ b.ctx then a :: b :: r else b :: insertCtx a r

/-- A set in ascending global context, the order in which a failing task is looked for (R792). -/
def byCtx (set : List AdmTask) : List AdmTask := set.foldr insertCtx []

/-- Commit term in ns (R99). -/
def Task.commitNs (t : Task) : Nat := (t.staging + 3) / 4 + 8

/-- Cost of one activation, scaled by `f` MHz (R99). -/
def AdmTask.cost (f : Nat) (a : AdmTask) : Nat :=
  max a.minC (a.t.budget * 1000 + 20 * f + 20000 + a.t.commitNs * f)

/-- Blocking term in ns (R99): background tasks have priority 0. -/
def blocking (set : List AdmTask) (a : AdmTask) : Nat :=
  ((set.filter fun b => b.shares a && decide (b.t.prio < a.t.prio)).map (·.t.commitNs)).foldl max 0 + a.block

/-- Release jitter in ns (R99). -/
def Task.jitter (t : Task) : Nat := if t.kind = .cyclic then 100 else 0

/-- Tasks of higher priority that share a core (R99). -/
def higher (set : List AdmTask) (a : AdmTask) : List AdmTask :=
  set.filter fun b => b.t.timed && b.shares a && decide (a.t.prio < b.t.prio)

/-- One turn of the iteration of R99. -/
def nextW (f base : Nat) (hp : List AdmTask) (w : Nat) : Nat :=
  hp.foldl (fun n k =>
    let t := k.t.period * 1000 * f
    n + (w + k.t.jitter * f + t - 1) / t * k.cost f) base

/-- The iteration of R99, scaled: the value of w + j at which it stopped, and whether the bound stays within the
deadline. `fuel` exceeds the number of turns that a deadline of 10 s allows. -/
def iterate (f base j dl : Nat) (hp : List AdmTask) : Nat → Nat → Nat × Bool
  | 0, w => (w + j, false)
  | fuel + 1, w =>
    let n := nextW f base hp w
    if dl < n + j then (n + j, false)
    else if n = w then (w + j, true)
    else iterate f base j dl hp fuel n

/-- Bound of a task, scaled, and whether it meets its deadline (R99). -/
def bound_ (f : Nat) (set : List AdmTask) (a : AdmTask) : Nat × Bool :=
  let base := a.cost f + blocking set a * f
  iterate f base (a.t.jitter * f) (a.t.deadline * 1000 * f) (higher set a) 100000000 base

/-- Rounding up to whole units. -/
def ceilDiv (a b : Nat) : Nat := if b = 0 then 0 else (a + b - 1) / b

/-! ## Publication intervals of input words (R117, R122, R124) -/

/-- The minimum publication interval of a source in ns. -/
def State.pubRat (s : State) (src : Nat) : Rat := mkRat (s.pubNs src).1 (s.pubNs src).2

/-- The minimum publication interval in ns of the source that writes input word `w`; `none` when no source writes it. A subscription's
status word comes with its data (R117). -/
def State.wordInterval (s : State) (w : Nat) : Option Rat :=
  if w < 0x100 then some (s.pubRat 0)
  else if w < 0x180 then some (s.pubRat 1)
  else if w < 0x200 then some (s.pubRat 2)
  else if w < 0x400 then some (s.pubRat 3)
  else if w < 0x500 then (if s.cfg (0x5100 + (w - 0x400)) 1 0 = 1 then some (s.pubRat (0x100 + (w - 0x400))) else none)
  else if w < 0x1000 then
    (below 256 fun k => s.cfg (0x5100 + k) 1 0 == 1 && decide (s.cfg (0x5100 + k) 9 0x500 ≤ w)
      && decide (w < s.cfg (0x5100 + k) 9 0x500 + s.cfg (0x5100 + k) 0xA 1)).head?.map fun k => s.pubRat (0x100 + k)
  else if w < 0x1400 then
    (below 256 fun m =>
      let b := s.cfg (moAt m) 7 0
      s.cfg (moAt m) 1 0 == 1 && decide (b ≠ 0 ∧ b ≤ w ∧ w < b + s.cfg (moAt m) 8 8)).head?.map fun m => s.pubRat (0x300 + m)
  else if w < 0x2000 then (let k := (w - 0x1400) / 192; if s.cfg (0x5400 + k) 1 0 = 1 then some (s.pubRat (0x200 + k)) else none)
  else if w < 0x4000 then some (s.pubRat 0x400)
  else none

/-- The shortest interval of a list. -/
def shortest : List (Option Rat) → Option Rat
  | [] => none
  | none :: r => shortest r
  | some x :: r => match shortest r with | some y => some (min x y) | none => some x

/-- The shortest publication interval of any input word that context `g` declares as read (R98, R794). -/
def State.readInterval (s : State) (i : Imap) (g : Nat) : Option Rat :=
  shortest ((i.reads.filter fun r => r.ctx == g).flatMap fun r =>
    (List.range r.count).map fun j => if r.first + j < 0x4000 then s.wordInterval (r.first + j) else none)

/-! ## The six conditions (R98, R792) -/

/-- A failed condition: code, context, bound, limit (R792). -/
structure AdmFail where
  cond  : Nat
  ctx   : Nat
  bound : Nat
  limit : Nat
  deriving DecidableEq, Repr

/-- The set point of a core in MHz, as `freq` gives it. -/
abbrev Freq := Nat → Nat

/-- Condition 1 fails for a task. -/
def State.failPlace (s : State) (freq : Freq) (set : List AdmTask) (a : AdmTask) : Bool :=
  badPlace set a || (a.t.paired && freq (a.ctx / 8) != freq (a.ctx / 8 + 1))
    || (a.t.kind == .event && ((set.erase a).any (fun b => b.t.kind == .event && b.t.evline == a.t.evline)
        || (decide (96 ≤ a.t.evline) && (s.lineSource (a.t.evline - 96)).isSome)))

/-- The lowest bit address that context `g` declares and a lower context too, with that context (R792). -/
def ownerClash (i : Imap) (g : Nat) : Option (Nat × Nat) :=
  ((i.writes.filter fun e => e.ctx == g).flatMap fun e =>
    (i.writes.filter fun o => o.word == e.word && decide (o.ctx < g)).flatMap fun o =>
      (below 32 fun b => (e.mask &&& o.mask).getLsbD b).map fun b => (e.word * 32 + b, o.ctx)).foldl
    (fun acc x => match acc with
      | some y => if x.1 < y.1 ∨ (x.1 = y.1 ∧ x.2 < y.2) then some x else some y
      | none => some x) none

/-- Sum of W × 35 / t over a list, t in ns (R98). -/
def journalRate (l : List AdmTask) : Rat := l.foldl (fun q a => q + mkRat (a.t.retained * 35) (a.t.period * 1000)) 0

/-- Sum of W over a list. -/
def journalSize (l : List AdmTask) : Nat := l.foldl (fun n a => n + a.t.retained) 0

/-- The first context at which a running sum fails. -/
def firstOver (ok : List AdmTask → Bool) (pre : List AdmTask) : List AdmTask → Option Nat
  | [] => none
  | a :: r => if ok (pre ++ [a]) then firstOver ok (pre ++ [a]) r else some a.ctx

/-- What STALENESS adds to a bound in tandem, in ns: the tandem lag (R617). -/
def State.lag (s : State) : Nat := if s.cfg 0x7200 1 0 = 1 then 40000 else 0

/-- The first condition that fails, in the order of the codes (R98). -/
def State.admFail (s : State) (freq : Freq) (set : List AdmTask) (i : Imap) : Option AdmFail :=
  let set := byCtx set
  let timed := set.filter fun a => a.t.timed
  let f := fun (a : AdmTask) => freq (a.ctx / 8)
  let b := fun a => bound_ (f a) set a
  firstBad [
    (set.find? (s.failPlace freq set)).map fun a => ⟨1, a.ctx, 0, 0⟩,
    (set.findSome? fun a => (ownerClash i a.ctx).map fun x => (⟨2, a.ctx, x.1, x.2⟩ : AdmFail)),
    (timed.find? fun a => !(b a).2).map fun a => ⟨3, a.ctx, ceilDiv (b a).1 (f a), a.t.deadline * 1000⟩,
    (timed.findSome? fun a =>
      match s.readInterval i a.ctx with
      | some n =>
        if (((b a).1 + s.lag * f a : Nat) : Rat) < 3 * n * (f a : Nat) then none
        else some (⟨4, a.ctx, ceilDiv (b a).1 (f a) + s.lag, (3 * n).ceil.toNat⟩ : AdmFail)
      | none => none),
    (firstOver (fun l => decide (journalRate l ≤ mkRat 1 4)) [] timed).map fun g =>
      ⟨5, g, ((journalRate timed) * 1000000).ceil.toNat, 250000⟩,
    (firstOver (fun l => decide (journalSize l ≤ 16384)) [] timed).map fun g => ⟨6, g, journalSize timed, 16384⟩]

/-- The bound of a task in whole ns (2100h+g:0C). -/
def rtNs (freq : Freq) (set : List AdmTask) (a : AdmTask) : Nat := ceilDiv (bound_ (freq (a.ctx / 8)) set a).1 (freq (a.ctx / 8))

/-- The largest ratio of bound to deadline in parts per thousand, rounded up (R97). -/
def worstRatio (freq : Freq) (set : List AdmTask) : Nat :=
  ((set.filter fun a => a.t.timed).map fun a =>
    ceilDiv (1000 * (bound_ (freq (a.ctx / 8)) set a).1) (freq (a.ctx / 8) * a.t.deadline * 1000)).foldl max 0

/-- Admission is refused: the report of 2002h and code 2030h (R96, R792). -/
def State.admRefuse (s : State) (x : AdmFail) : State :=
  ({ s with prog := { s.prog with adm := ⟨1, x.ctx, x.cond, x.bound, x.limit⟩ } }).rec_ 0x2030 0x50 x.ctx x.cond x.bound

/-- Admission passes: code 2031h (R97). The report of 2002h keeps no failing task. -/
def State.admPass (s : State) (freq : Freq) (set : List AdmTask) : State :=
  ({ s with prog := { s.prog with adm := ⟨0, 0, 0, 0, 0⟩ } }).rec_ 0x2031 0x50 set.length (worstRatio freq set)

/-- The set points in force. -/
def State.freqNow (s : State) : Freq := fun n => s.setpt n

/-- The bounds of an accepted set go to the task table (2100h+g:0C); the checker's copy shows the leader's. -/
def State.putRt (s : State) (freq : Freq) (set : List AdmTask) : State :=
  set.foldl (fun s a =>
    a.ctxs.foldl (fun s g => if h : g < 64 then s.modCx ⟨g, h⟩ fun c => { c with task := { c.task with rt := if a.t.timed then rtNs freq set a else 0 } } else s) s) s

/-- Admission over the set in force with other set points or publication intervals (R95): refused, or accepted with its
records. -/
def State.admitNow (s : State) (freq : Freq) : State × Option Abort :=
  let set := s.taskSet.map admOf
  match s.admFail freq set s.prog.imap with
  | some x => (s.admRefuse x, some (abAdmission x.cond x.ctx))
  | none => ((s.admPass freq set).putRt freq set, none)

/-! ## Load of the tandem link (R617) -/

/-- The publication sources in use, each with its set size in words (R122, R153). -/
def State.sources (s : State) : List (Nat × Nat) :=
  [(0, 256), (3, 512)] ++ (below 2 fun i => s.cfg (0x4010 + i) 1 (if i = 0 then 1 else 0) != 0).map (fun i => (1 + i, 128))
    ++ (below 256 fun k => s.cfg (0x5100 + k) 1 0 == 1).map (fun k => (0x100 + k, s.cfg (0x5100 + k) 0xA 1))
    ++ (below 16 fun k => s.cfg (0x5400 + k) 1 0 == 1).map (fun k => (0x200 + k, 192))
    ++ (below 256 fun m => s.cfg (moAt m) 1 0 == 1 && s.cfg (moAt m) 7 0 != 0).map (fun m => (0x300 + m, s.cfg (moAt m) 8 8))
    ++ (if s.cfg 0x7000 1 0 = 2 then [(0x400, 32)]
        else if s.cfg 0x7000 1 0 = 1 then (below 255 fun w => w != 0 && s.cfg (0x7010 + w) 1 0 == 1).map (fun w => (0x400 + w, 32)) else [])

/-- TL load in bytes per second with a task set (R617). -/
def State.tlLoad (s : State) (set : List Task) : Rat :=
  s.sources.foldl (fun q x => q + mkRat ((4 * x.2 + 40) * 1000000000 * (s.pubNs x.1).2) (max 1 (s.pubNs x.1).1)) 0
    + (set.filter (·.timed)).foldl (fun q t => q + mkRat (48 * 1000000) (max 1 t.period)) 0

/-- The load in kB/s when a tandem would exceed 50 MB/s (R617). -/
def State.tlOver (s : State) (set : List Task) : Option Nat :=
  if s.cfg 0x7200 1 0 = 1 ∧ 50000000 < s.tlLoad set then some (s.tlLoad set / 1000).ceil.toNat else none

/-- A refusal for the load of the tandem link (7037h). -/
def State.tlRefuse (s : State) (kbs : Nat) : State := s.rec_ 0x7037 0x57 kbs

end Sys2Proof.Machine
end

