-- ==== Sys2Proof/Machine/ProgCheck.lean ====
section
/-! DEFINITION. The checks of a program container (R277): a version as containers make it, and what each step refuses. -/

namespace Sys2Proof.Machine

/-- A program version: what a base program and the edits on it amount to. `upper` says that the upper halves hold it
(R287); `place` lists the blocks to write, as CB address and bytes; `init` those of them that are DATA blocks, which give the retained
words' initial values (R365); `reserved` the ranges of checkers' banks that hold paired code: owning context, address, length (R241). -/
structure Ver where
  tasks    : List (Nat × Task)
  imap     : Imap
  ret      : List RetEnt
  objs     : List AppObj
  hash     : List Byte
  progid   : Word
  progver  : Word
  editable : Bool
  upper    : Bool
  place    : List (Nat × List Byte)
  init     : List (Nat × List Byte)
  reserved : List (Nat × Nat × Nat)
  deriving DecidableEq, Repr

/-- A refusal by a check of R277: step, abort, the context that code 2051h names, FFh for none, and whether detector 125
injected it. -/
structure ChkFail where
  step  : Nat
  abort : Abort
  ctx   : Nat
  inj   : Bool
  deriving DecidableEq, Repr

/-- The placed blocks of a body as CB addresses and bytes. -/
def placement (b : List Byte) : List (Nat × List Byte) :=
  ((blks b).filter (·.placed)).flatMap fun k => k.cores.map fun n => (cbBase n + k.off, k.bytes b)

/-- The DATA blocks of a body as CB addresses and bytes. -/
def dataPlacement (b : List Byte) : List (Nat × List Byte) :=
  ((blks b).filter (·.ty == 3)).flatMap fun k => k.cores.map fun n => (cbBase n + k.off, k.bytes b)

/-- The ranges of checkers' banks that the PAIRED code of a body holds (R241). -/
def reservedBy (b : List Byte) : List (Nat × Nat × Nat) :=
  ((blks b).filter fun k => k.ty == 2 && k.paired).map fun k => (k.ctx, cbBase (k.core + 1) + k.off, k.len)

/-- The reserved ranges once a body has been added to a version with the ranges `l`: code that the body gives anew is no longer held at
its old place. -/
def reservedAfter (l : List (Nat × Nat × Nat)) (b : List Byte) : List (Nat × Nat × Nat) :=
  (l.filter fun p => !(reservedBy b).any fun q => q.1 == p.1) ++ reservedBy b

/-- The version that a base program makes. -/
def baseVer (b hash : List Byte) : Ver :=
  { tasks := tasksOf b, imap := imapOf ((blockOf b 5).getD []), ret := retOfBody b, objs := (objsOf b).getD [], hash := hash
    progid := bodyProgId b, progver := bodyProgVer b, editable := bodyEditable b, upper := false, place := placement b
    init := dataPlacement b, reserved := reservedBy b }

/-- The version that an edit makes of another: its TASKS and IMAGEMAP blocks give the whole new task set and map; without
a RETAINED or a DICT block the layout or the objects stay (log entry 20). -/
def editVer (v : Ver) (b hash : List Byte) : Ver :=
  { tasks := tasksOf b, imap := imapOf ((blockOf b 5).getD [])
    ret := if (blockOf b 4).isSome then retOfBody b else v.ret
    objs := if (blockOf b 6).isSome then (objsOf b).getD [] else v.objs
    hash := hash, progid := bodyProgId b, progver := bodyProgVer b, editable := v.editable, upper := !v.upper
    place := v.place ++ placement b, init := v.init ++ dataPlacement b, reserved := reservedAfter v.reserved b }

/-- The version in force. -/
def State.verNow (s : State) : Ver :=
  { tasks := s.taskSet, imap := s.prog.imap, ret := s.prog.ret, objs := s.prog.objs, hash := s.prog.hash
    progid := s.prog.progid, progver := s.prog.progver, editable := s.prog.editable, upper := s.prog.upper, place := [], init := []
    reserved := if s.prog.loaded then
        (let sl := s.prog.slots[if s.prog.active = 2 then (1 : Fin 2) else 0]
         (sl.base.toList ++ sl.edits).foldl (fun l c => reservedAfter l (bodyOf c)) [])
      else [] }

/-- The contexts that an edit's container replaces, adds or removes (R286). -/
def affectedBy (v : Ver) (b : List Byte) : List Nat :=
  let new_ := tasksOf b
  let own := ((blks b).filter fun k => k.placed && k.ctx != 0xFF).map (·.ctx)
  let changed := new_.filter fun p =>
    match v.tasks.find? (·.1 == p.1) with
    | some q => { q.2 with rt := 0 } != p.2 || own.contains p.1
    | none => true
  let removed := v.tasks.filter fun q => !new_.any (·.1 == q.1)
  (changed ++ removed).map (·.1)

/-! ## Steps 1 to 4 -/

/-- Step 1 (R277, R733): header, signature, rollback, and the target of a program. -/
def State.chk1 (s : State) (c : List Byte) (edit : Bool) : Option ChkFail :=
  firstBad [need (hdrTarget c == 2 && hdrEdit c == edit) ⟨1, abVerify 1, 0xFF, false⟩, (s.recheck c).map fun a => ⟨1, a, 0xFF, false⟩]

/-- Step 2: known magic, format and kind, counts in range, the base of an edit. -/
def chk2 (v : Ver) (b : List Byte) (edit : Bool) : Option ChkFail :=
  need (num b 0 4 == 0x47504A46 && num b 4 2 == 1 && num b 6 1 == b2n edit
      && decide (1 ≤ num b 16 2 ∧ num b 16 2 ≤ 512 ∧ 1 ≤ num b 18 1 ∧ num b 18 1 ≤ 64)
      && (!edit || bodyBase b == v.hash)) ⟨2, abVerify 2, 0xFF, false⟩

/-- Step 3: every block's data inside the body, with its hash. -/
def chk3 (b : List Byte) : Option ChkFail :=
  ((blks b).find? fun k => !(decide (k.data + k.len ≤ b.length) && Config.sha384 (k.bytes b) == k.hash)).map fun k =>
    ⟨3, abVerify 3, k.ctx, false⟩

/-- Detector 125 presents a hash failure of the block that it names (R714). -/
def State.chk3Inj (s : State) (b : List Byte) : Option ChkFail :=
  if s.injOn 125 then ((blks b)[(s.det 125).a.toNat]?).map fun k => ⟨3, abVerify 3, k.ctx, true⟩ else none

/-- Blocks of a type. -/
def countTy (b : List Byte) (ty : Nat) : Nat := ((blks b).filter (·.ty == ty)).length

/-- The block counts of R275. -/
def countsOk (b : List Byte) (edit : Bool) : Bool :=
  countTy b 1 == 1 && countTy b 5 == 1 && (if edit then decide (countTy b 4 ≤ 1 ∧ countTy b 7 ≤ 1) else countTy b 4 == 1 && countTy b 7 == 0)
    && (blks b).all fun k => decide (1 ≤ k.ty ∧ k.ty ≤ 7)

/-- The RUNTIME load range of the firmware in force, as CB offsets (R740). -/
def State.runtimeRange (s : State) : Nat × Nat :=
  match (s.sec.fw[(s.sec.active - 1) % 2]'(Nat.mod_lt _ (by decide))).image with
  | some c => (match sectionOf (bodyOf c) 2 with | some x => (x.load, x.len) | none => (0, 0))
  | none => (0, 0)

/-- Whether two ranges overlap. -/
def overlaps (a n b m : Nat) : Bool := decide (a < b + m ∧ b < a + n)

/-- Whether a placed block fits its banks (R274, R279, R286, R333, R740). -/
def State.blkFits (s : State) (v : Ver) (b : List Byte) (edit : Bool) (k : Blk) : Bool :=
  let rt := s.runtimeRange
  decide (k.core < 8) && (!k.paired || k.core % 2 == 0) && k.off % 4 == 0 && k.len % 4 == 0 && k.data % 64 == 0
    && decide (k.off + k.len ≤ 0x80000)
    && (if edit then (if v.upper then decide (k.off + k.len ≤ 0x40000) else decide (0x40000 ≤ k.off))
        else !bodyEditable b || decide (k.off + k.len ≤ 0x40000))
    && !overlaps k.off k.len rt.1 rt.2
    && k.cores.all fun n => if h : n < 11 then !s.bank[n].failed else false

/-- Whether a list of placed ranges is free of overlaps. -/
def noOverlap : List (Nat × List Byte) → Bool
  | [] => true
  | p :: r => r.all (fun q => !overlaps p.1 p.2.length q.1 q.2.length) && noOverlap r

/-- Size of a fixed type in bytes; `none` for STR, OCT and DOMAIN (R542). -/
def typeSize (ty : Nat) : Option Nat :=
  if ty = 0x0D ∨ ty = 0x0E ∨ ty = 0x0F then none else some ([0, 1, 1, 2, 4, 8, 1, 2, 4, 8, 4, 8, 8].getD ty 0)

/-- SB bytes that an object occupies (R553). -/
def AppObj.span (o : AppObj) : Nat := 4 + (o.size + 3) / 4 * 4 + (if typeSize o.ty = none then 4 else 0)

/-- Whether an object is in range (R551, R552). -/
def AppObj.ok (o : AppObj) : Bool :=
  decide (0xE000 ≤ o.idx ∧ o.idx ≤ 0xEFFF ∧ 1 ≤ o.sub ∧ 1 ≤ o.ty ∧ o.ty ≤ 0x0E ∧ o.access ≤ 5 ∧ o.role ≤ 3 ∧ o.size ≤ 1016)
    && (match typeSize o.ty with | some n => o.size == n | none => true)
    && (if o.inOut then
          decide (o.access ≤ 1) && (let n := (o.size + 3) / 4; decide ((0x4100 ≤ o.loc ∧ o.loc + n ≤ 0x4400) ∨ (0x5000 ≤ o.loc ∧ o.loc + n ≤ 0x6000)))
        else o.loc % 4 == 0 && decide (o.loc + o.span ≤ 0x200000))

/-- SB ranges of the application frame rings (R475). -/
def State.ringRanges (s : State) : List (Nat × Nat) :=
  (List.range 4).flatMap fun f =>
    [(s.cfg (0x5500 + f) 2 0, s.cfg (0x5500 + f) 3 0), (s.cfg (0x5500 + f) 4 0, s.cfg (0x5500 + f) 5 0)].filterMap fun p =>
      if s.cfg (0x5500 + f) 1 0 = 1 then some (p.1, 64 + p.2 * 1536) else none

/-- Whether the SB-backed objects overlap neither one another nor a ring, and no entry is given twice (R554). -/
def State.objsOk (s : State) : List AppObj → Bool
  | [] => true
  | o :: r =>
    o.ok && r.all (fun q => !(o.idx == q.idx && o.sub == q.sub) && (o.inOut || q.inOut || !overlaps o.loc o.span q.loc q.span))
      && (o.inOut || s.ringRanges.all fun g => !overlaps o.loc o.span g.1 g.2) && s.objsOk r

/-- Words of a retained layout. -/
def retCount (l : List RetEnt) : Nat := l.foldl (fun n e => n + e.count) 0

/-- Words of the retained region of a context. -/
def retOfCtx (l : List RetEnt) (g : Nat) : Nat := retCount (l.filter (·.ctx == g))

/-- Whether the retained entries lie inside their banks and within the limit (R362). -/
def retOk (l : List RetEnt) : Bool :=
  decide (retCount l ≤ 24576) && l.all fun e => decide (e.ctx < 64 ∧ e.off + 4 * e.count ≤ 0x80000) && e.off % 4 == 0

/-- The contexts that a body's migration entries concern: the owning task of the MIGRATION block, or every affected task
when the block names none (R274, log entry 20). -/
def migCtxs (affected : List Nat) (b : List Byte) : List Nat :=
  match (blks b).find? (·.ty == 7) with
  | some k => if k.ctx = 0xFF then affected else [k.ctx]
  | none => []

/-- Whether a placed block follows R239: a paired task's code goes into both banks of its pair, a split task's code into one, DATA into the
leader's alone. Shared code may be placed either way. -/
def pairOk (tasks : List (Nat × Task)) (k : Blk) : Bool :=
  if k.ty = 3 then !k.paired
  else
    match tasks.find? (·.1 == k.ctx) with
    | some p => if p.2.paired then k.paired && k.core == k.ctx / 8 else !k.paired
    | none => true

/-- Whether the blocks of a body that are placed in one bank, and the retained regions of a version, stay clear of paired code (R241). -/
def clearOfPaired (v : Ver) (b : List Byte) : Bool :=
  v.reserved.all fun p =>
    ((blks b).filter fun k => k.placed && !k.paired).all (fun k => !overlaps (cbBase k.core + k.off) k.len p.2.1 p.2.2)
      && v.ret.all fun e => !overlaps (cbBase (e.ctx / 8) + e.off) (4 * e.count) p.2.1 p.2.2

/-- Whether the new ranges of migration entries are free of overlaps. -/
def migApart : List MigEnt → Bool
  | [] => true
  | e :: r => r.all (fun q => !overlaps e.newOff e.count q.newOff q.count) && migApart r

/-- Whether migration entries stay inside both layouts and their new ranges do not overlap (R294). -/
def migOk (v : Ver) (new_ : List RetEnt) (g : List Nat) (m : List MigEnt) : Bool :=
  m.all (fun e => decide (e.op ≤ 2) && g.all fun c =>
      decide (e.newOff + e.count ≤ retOfCtx new_ c) && (e.op != 0 || decide (e.oldOff + e.count ≤ retOfCtx v.ret c)))
    && migApart m

/-- An IMAGEMAP entry that names a context holding no task, or a read range beyond 7FFFh (R794). -/
def imapBad (i : Imap) (tasks : List (Nat × Task)) : Option Nat :=
  let named := tasks.map (·.1)
  ((i.reads.map (·.ctx) ++ i.writes.map (·.ctx) ++ i.owners.map (·.ctx) ++ i.splits.map (·.ctx)
    ++ (i.res.map (·.ctx)).filter (· != 0xFF)).find? fun g => !named.contains g).or
    ((i.reads.find? fun r => decide (0x8000 < r.first + r.count)).map (·.ctx))

/-- Step 4 (R277): counts, placement, layouts, objects. -/
def State.chk4 (s : State) (v : Ver) (b : List Byte) (edit : Bool) (edits : Nat) : Option ChkFail :=
  let fail := fun g => (⟨4, abRange, g, false⟩ : ChkFail)
  let new_ := if edit then editVer v b [] else baseVer b []
  let im := (blockOf b 5).getD []
  firstBad [
    need (!(s.bank[8].failed || s.bank[9].failed || s.bank[10].failed)) (fail 0xFF),
    need (countsOk b edit) (fail 0xFF),
    need (((blockOf b 1).getD []).length == 40 * num b 18 1) (fail 0xFF),
    ((blks b).find? fun k => k.placed && !s.blkFits v b edit k).map fun k => fail k.ctx,
    need (noOverlap (placement b)) (fail 0xFF),
    ((blks b).find? fun k => k.placed && !pairOk new_.tasks k).map fun k => fail k.ctx,
    need (clearOfPaired new_ b) (fail 0xFF),
    need (retOk new_.ret) (fail 0xFF),
    need (imapFits im) (fail 0xFF),
    (imapBad (imapOf im) new_.tasks).map fail,
    need ((objsOf b).isSome && s.objsOk new_.objs) (fail 0xFF),
    need (!edit || decide (edits < 15)) (fail 0xFF),
    need (!edit || v.editable) (fail 0xFF),
    need (!edit || new_.tasks.all (fun p => (v.tasks.find? (·.1 == p.1)).all fun q => q.2.paired == p.2.paired)) (fail 0xFF),
    need (!edit || migOk v new_.ret (migCtxs (affectedBy v b) b) (migOfBody b)) (fail 0xFF)]

/-! ## Steps 5 to 8 -/

/-- Whether the supervised contexts fit a task set (R689): each holds a task and no deadline exceeds the grace. -/
def State.supervisionBad (s : State) (tasks : List (Nat × Task)) : Option Nat :=
  (below 64 fun g => s.cfg (0x9100 + g) 1 0 == 1 &&
    match tasks.find? fun p => (admOf p).ctxs.contains g with
    | none => true
    | some p => p.2.timed && decide (s.graceNs < p.2.deadline * 1000)).head?

/-- Step 5: attributes and supervision. -/
def State.chk5 (s : State) (tasks : List (Nat × Task)) : Option ChkFail :=
  let set := tasks.map admOf
  firstBad [(set.find? (badPlace set)).map fun a => ⟨5, abRange, a.ctx, false⟩, (s.supervisionBad tasks).map fun g => ⟨5, abRange, g, false⟩]

/-- Step 6: claims of event lines and of the resources that IMAGEMAP names (R179, R410, R412, R448). -/
def State.chk6 (s : State) (v : Ver) : Option ChkFail :=
  let held := fun res => let h := (s.claim res).1; h != 0 && h != 1
  firstBad [
    (v.tasks.find? fun p => p.2.kind == .event && decide (96 ≤ p.2.evline) && (s.lineSource (p.2.evline - 96)).isSome).map fun p =>
      ⟨6, abClaimed (0x5000 + p.2.evline) 6 ((s.lineSource (p.2.evline - 96)).getD 0), p.1, false⟩,
    (v.imap.res.find? fun r => held r.word).map fun r => ⟨6, s.abHeld r.word, r.ctx, false⟩,
    ([(0 : Fin 2), 1].findSome? fun c => allMo.findSome? fun m =>
      if s.moHolder c m = 7 ∧ s.moUsers v.imap c m ≠ [] then
        some (⟨6, abClaimed (moRes c m) 7 c.val, lowest (s.moUsers v.imap c m), false⟩ : ChkFail) else none),
    (v.imap.writes.findSome? fun e => (s.unheld e.word e.mask).map fun res => (⟨6, s.abHeld res, e.ctx, false⟩ : ChkFail))]

/-- Whether word `w` lies in the window of a TX object (R538). -/
def State.inTxWindow (s : State) (w : Nat) : Bool :=
  [(0 : Fin 2), 1].any fun c => allMo.any fun m => s.moDir c m == 2 && decide ((s.moWin c m).1 ≠ 0 ∧ (s.moWin c m).1 ≤ w ∧ w < (s.moWin c m).1 + (s.moWin c m).2)

/-- A word that no program may write (R418, R538, R794). -/
def State.noWrite (s : State) (w : Nat) : Bool :=
  decide (w < 0x4000 ∨ 0x7FFF < w) || reservedWord w || w == 0x4001 || decide (0x4004 ≤ w ∧ w ≤ 0x400F)
    || decide (0x4060 ≤ w ∧ w ≤ 0x40FF) || (decide (0x4C00 ≤ w ∧ w ≤ 0x4FFF) && !s.inTxWindow w)

/-- The bits of word `w` that context `g` declares. -/
def Imap.declared (i : Imap) (w g : Nat) : Word := (i.writes.filter fun e => e.word == w && e.ctx == g).foldl (fun m e => m ||| e.mask) 0

/-- The bits of word `w` that the split table gives context `g`. -/
def Imap.splitMask (i : Imap) (w g : Nat) : Word := (i.splits.filter fun e => e.word == w && e.ctx == g).foldl (fun m e => m ||| e.mask) 0

/-- Whether owner and split entries describe the write entries of word `w` exactly (R794). -/
def Imap.exactAt (i : Imap) (w : Nat) : Bool :=
  let ws := ((i.writes.filter fun e => e.word == w && e.mask != 0).map (·.ctx)).eraseDups
  let os := (i.owners.filter (·.word == w)).map (·.ctx)
  let sp := ((i.splits.filter (·.word == w)).map (·.ctx)).eraseDups
  match ws with
  | [] => os == [] && sp == []
  | [g] => os == [g] && sp == []
  | _ => os == [] && ws.all (fun g => i.splitMask w g == i.declared w g) && sp.all (ws.contains ·)

/-- Step 7: declared writes, ownership (R143, R418, R538, R794). -/
def State.chk7 (s : State) (i : Imap) : Option ChkFail :=
  let words := (i.writes.map (·.word) ++ i.owners.map (·.word) ++ i.splits.map (·.word)).eraseDups
  firstBad [
    need (decide (i.splits.length ≤ 1024)) ⟨7, abRange, 0xFF, false⟩,
    (i.writes.find? fun e => s.noWrite e.word).map fun e => ⟨7, abRange, e.ctx, false⟩,
    need (words.all i.exactAt) ⟨7, abRange, 0xFF, false⟩]

/-- Steps 1 to 7 on a container, against the version it builds on. -/
def State.check (s : State) (v : Ver) (c : List Byte) (edit : Bool) (edits : Nat) : Option ChkFail :=
  let b := bodyOf c
  let new_ := if edit then editVer v b (hdrHash c) else baseVer b (hdrHash c)
  firstBad [s.chk1 c edit, chk2 v b edit, chk3 b, s.chk3Inj b, s.chk4 v b edit edits, s.chk5 new_.tasks, s.chk6 new_, s.chk7 new_.imap]

end Sys2Proof.Machine
end

