-- ==== Sys2Proof/Machine/Insn.lean ====
section
/-! DEFINITION. How an instruction issues, traps, retires and passes its pair unit (R158–R172, R197–R258). -/

namespace Sys2Proof.Machine

/-! ## Pair items (R246–R247) -/

/-- An item with no lane in use. -/
def noLanes : LaneItem :=
  { addr := none, wdata := none, ctrl := none, iaddr := none, smask := none, sval := none, sys := none }

/-- The item of a memory access (R246, R791). -/
def memItem (addr wdata : Word) (hasData : Bool) (size : BitVec 2) (write : Bool) (op : Nat) (priv : Bool) : LaneItem :=
  { noLanes with
    addr := some addr, wdata := if hasData then some wdata else none
    ctrl := some (BitVec.ofNat 8 (fieldAt size.toNat 2 0 + fieldAt (b2n write) 1 2 + fieldAt op 3 3 + fieldAt (b2n priv) 2 6)) }

/-- The item of class `cls` on lane SYS (R791). -/
def sysItem (cls operand : Nat) : LaneItem :=
  { noLanes with sys := some (BitVec.ofNat 16 (fieldAt operand 8 0 + fieldAt cls 8 8)) }

/-- The item of an image read. -/
def readItem (ba : Nat) : LaneItem := { noLanes with iaddr := some (BitVec.ofNat 20 ba) }

/-- The item of a staged write. -/
def stageItem (ba : Nat) (m v : Word) : LaneItem :=
  { noLanes with iaddr := some (BitVec.ofNat 20 ba), smask := some m, sval := some v }

/-- In a paired activation an item goes to the pair unit, with what leaves once it has been compared (R247). -/
def State.emit (s : State) (g : Gctx) (item : LaneItem) (rel : Release) : State :=
  if (s.cx g).act.paired then
    s.modPair (pairOf g) fun p => { p with items := p.items ++ [{ item := item, pc := (s.cx g).regs.pc, ctx := g, rel := rel }] }
  else s

/-- Whether the leader waits for the item's comparison before it goes on (R247, R248). -/
def Release.blocks : Release → Bool
  | .send | .own | .trap _ _ _ _ | .commit _ | .waitTime _ | .waitEvent => true
  | _ => false

/-- Whether the pair unit still holds an item of `g`: a mismatch on it would be taken ahead of what follows it (R254). -/
def State.pairBusy (s : State) (g : Gctx) : Bool := s.pair[pairOf g].items.any fun i => i.ctx == g

/-- Whether `g` waits for its pair unit: an item that must be compared first, or a full compare queue (R247). -/
def State.pairWait (s : State) (g : Gctx) : Bool :=
  let p := s.pair[pairOf g]
  p.items.any (fun i => i.ctx == g && i.rel.blocks)
    || decide (4 ≤ (p.items.filter fun i => i.ctx == g && i.rel.isStore).length)

/-! ## Retiring and trapping -/

/-- Adds core cycles to the budget counter (R69). -/
def Act.spend (a : Act) (cycles : Nat) : Act := { a with used := a.used + cycles }

/-- An instruction of `g` retires: its register effect, the next pc, its cycles. -/
def State.retire (s : State) (g : Gctx) (cycles : Nat) (f : Regs → Regs) : State :=
  ((s.modRegs g fun r => { f r with pc := r.pc + 4 }).modAct g (·.spend cycles)).retired g (s.cx g).regs.pc

/-- An instruction of `g` retires and continues at `pc`. -/
def State.retireTo (s : State) (g : Gctx) (cycles : Nat) (pc : Word) (f : Regs → Regs) : State :=
  ((s.modRegs g fun r => { f r with pc := pc }).modAct g (·.spend cycles)).retired g (s.cx g).regs.pc

/-- Registers at trap entry (R166, R193). -/
def Regs.trapped (r : Regs) (cause status : Nat) (addr insn : Word) (paired inj : Bool) : Regs :=
  { r with
    trappc := r.pc, trapinsn := insn, trapaddr := addr
    cause := BitVec.ofNat 8 cause, status := BitVec.ofNat 8 status
    prevpriv := r.priv, trapPaired := paired, trapInj := inj
    trapact := true, priv := true, pc := r.trapvec }

/-- Whether a core raises a trap itself, so that its pair unit compares it (R246). -/
def ownTrap (cause : Nat) : Bool := cause != 9 && cause != 10

/-- A double trap (R168). -/
def State.doubleTrap (s : State) (g : Gctx) (cause : Nat) : State :=
  let first := (s.cx g).regs.cause.toNat
  let s := (s.modCore (coreOf g) fun c => { c with dtraps := c.dtraps + 1 }).rec_ 0xD003 g.val g.val first cause
  s.hardAction g

/-- Taking a trap (R166–R168): the ONE entry. `addr` is TRAPADDR, `status` the fabric status (R193). -/
def State.trapNow (s : State) (g : Gctx) (insn : Word) (cause status : Nat) (addr : Word) (inj : Bool := false) : State :=
  if (s.cx g).regs.trapact then s.doubleTrap g cause
  else (s.modRegs g fun r => r.trapped cause status addr insn (s.cx g).act.paired inj).modAct g (·.spend 3)

/-- A trap of the instruction of `g`: one that both copies of a paired activation raise themselves is taken once it has been compared, a
mismatch going ahead of it (R246, R254). -/
def State.trap (s : State) (g : Gctx) (insn : Word) (cause status : Nat) (addr : Word) (inj : Bool := false) : State :=
  if (s.cx g).act.paired && ownTrap cause && !inj then s.emit g (sysItem 6 cause) (.trap insn cause status addr)
  else s.trapNow g insn cause status addr inj

/-- Return from a trap (R231). -/
def Regs.rett (r : Regs) : Regs := { r with pc := r.trappc, priv := r.prevpriv, trapact := false }

/-! ## Issue -/

/-- Whether an address lies in the core bank from which `g` fetches (R206, R240). -/
def inOwnCb (g : Gctx) (a : Nat) : Bool := decide (a / 0x80000 = g.val / 8)

/-- Whether an address lies in some range of the map (R45). -/
def mapped (a : Nat) : Bool :=
  decide (a < 0x400000) || decide (0x01000000 ≤ a ∧ a < 0x010A0000) || decide (0x02000000 ≤ a ∧ a < 0x02200000)
    || decide (0x03000000 ≤ a ∧ a < 0x03080000) || decide (0x04000000 ≤ a ∧ a < 0x04400000)
    || decide (0x0F000000 ≤ a ∧ a < 0x0F040000) || decide (0x10000000 ≤ a ∧ a < 0x10200000)

/-- Status of an instruction fetch (R206, R287, R321). -/
def State.fetchStatus (s : State) (g : Gctx) : Nat :=
  let pc := (s.cx g).regs.pc.toNat
  if !mapped pc then 1
  else if !inOwnCb g pc || pc % 4 != 0 || s.stagingHeld g pc then 2
  else if s.meetsUe (cbOf (coreOf g)) pc then 6
  else 0

/-- The fetch of the instruction of `g` at its banks (R320, R321): in a paired activation the checker fetches the word at the same offset of its
own core bank (R240), and where that word is uncorrectable the checker's copy of the instruction is a FETCH trap. -/
def State.fetched (s : State) (g : Gctx) : State :=
  let pc := (s.cx g).regs.pc.toNat
  let s := s.eccCheck (cbOf (coreOf g)) pc 0
  if (s.cx g).act.paired then
    let b := cbOf (checkerCore g)
    (if s.meetsUe b (pc + 0x80000) then s.emit g noLanes .badFetch else s).eccCheck b (pc + 0x80000) 0
  else s

/-- Registers when a load's response has status OK (R213). -/
def Regs.loaded (r : Regs) (op : TxnOp) (size : BitVec 2) (x : Word) : Regs :=
  match op with
  | .load rd signed => r.put rd (extend size signed x)
  | .aadd rd | .aswp rd => r.put rd x
  | .rsst => { r with rstack := r.rstack.dropLast }
  | .rsld => { r with rstack := r.rstack ++ [x] }
  | .store => r

/-- Whether a transaction stores and can end with COLLIDE as a store does (R172). -/
def TxnOp.stores : TxnOp → Bool
  | .store | .rsst => true
  | _ => false

/-- A collided store that retires (R172). -/
def Regs.collide (r : Regs) (a : Word) : Regs :=
  { r with collided := true, colcnt := satInc r.colcnt, coladdr := a, collP := true }

/-- Cycles of an instruction that a response ends, beside its stall: none for the record store, whose 35 ns stand in place of the cycle
(R235). -/
def Txn.cycles (t : Txn) : Nat := if nvBase ≤ t.addr.toNat ∧ t.addr.toNat < nvBase + 0x400000 then 0 else 1

/-- The instruction whose transaction got response `q` retires or traps (R171, R172, R228). -/
def State.finishTxn (s : State) (g : Gctx) (t : Txn) (q : Resp) (inj : Bool) : State :=
  let s := s.modPort g fun p => { p with txn := none, held := none, heldInj := false }
  if q.status = 0 then s.retire g t.cycles fun r => r.loaded t.op t.size q.data
  else if q.status = 7 ∧ t.op.stores then
    let s := s.modCore (coreOf g) fun c => { c with collided := c.collided + 1 }
    if (s.cx g).regs.coltrap then s.trap g t.insn 10 7 t.addr inj
    else s.retire g t.cycles fun r => r.collide t.addr
  else s.trap g t.insn 9 q.status t.addr inj

/-- A response reaches its context: a running one retires or traps, another keeps it (R161). -/
def State.deliverResp (s : State) (g : Gctx) (t : Txn) (q : Resp) (inj : Bool) : State :=
  if s.running g then s.finishTxn g t q inj
  else s.modPort g fun p => { p with held := some q, heldInj := inj }

/-- A context that runs again retires the instruction whose response the core held (R161). -/
def State.resume (s : State) (g : Gctx) : State :=
  match (s.cx g).port.txn, (s.cx g).port.held with
  | some t, some q => s.finishTxn g t q (s.cx g).port.heldInj
  | _, _ => s

/-- Whether `g` can issue an instruction: it runs, no transaction of it is in flight, its pair unit holds nothing
it must wait for. -/
def State.canIssue (s : State) (g : Gctx) : Bool :=
  s.running g && (s.cx g).port.txn.isNone && !s.pairWait g

/-- The instruction that `g` has fetched: a fetch error and an injected trap come first (R167, R715). -/
def State.issued (s : State) (g : Gctx) (insn : Word) (body : State → State) : State :=
  let st := s.fetchStatus g
  let s := if st = 0 ∨ st = 6 then s.fetched g else s
  if st ≠ 0 then s.draw.trap g s.freeWord 1 st (s.cx g).regs.pc
  else if s.injFor 122 g.val then (s.injDone 122).trap g insn (s.det 122).b.toNat 0 0 true
  else body s

/-- The whole of an instruction command: nothing happens unless `g` is the context that retires next. An activation
that a failed comparator left with an action due gets the action in place of the instruction (R262). -/
def State.run (s : State) (g : Gctx) (insn : Word) (body : State → State) : State :=
  if s.running g then
    if (s.cx g).act.owed && !(s.cx g).act.broken then s.payOwed g
    else
      let s := s.resume g
      if s.canIssue g then s.issued g insn body else s
  else s

/-! ## The operand forms -/

/-- An ALU instruction: result into `rd`, Z and N from it (R210–R212). -/
def State.aluZN (s : State) (g : Gctx) (rd : Reg) (x : Word) : State :=
  s.retire g 1 fun r => (r.setZN x).put rd x

/-- An ALU instruction that sets all four flags. -/
def State.aluZNCV (s : State) (g : Gctx) (rd : Reg) (x : AddRes) : State :=
  s.retire g 1 fun r => (r.setZNCV x).put rd x.res

/-- A register-register operation that sets Z and N. -/
def opZN (g : Gctx) (rd ra rb : Reg) (fn : Nat) (f : Word → Word → Word) (s : State) : State :=
  s.run g (insnA 0 rd.val ra.val rb.val fn) fun s => s.aluZN g rd (f ((s.cx g).regs.get ra) ((s.cx g).regs.get rb))

/-- A register-register addition or subtraction. -/
def opZNCV (g : Gctx) (rd ra rb : Reg) (fn : Nat) (f : Word → Word → Bool → AddRes) (s : State) : State :=
  s.run g (insnA 0 rd.val ra.val rb.val fn) fun s =>
    s.aluZNCV g rd (f ((s.cx g).regs.get ra) ((s.cx g).regs.get rb) (s.cx g).regs.c)

/-- An immediate operation that sets Z and N. -/
def opImm (g : Gctx) (rd ra : Reg) (major sub imm : Nat) (f : Word → Word) (s : State) : State :=
  s.run g (insnI major rd.val ra.val sub imm) fun s => s.aluZN g rd (f ((s.cx g).regs.get ra))

/-- A bit-field operation (R211): a field beyond bit 31 raises UNDEF. -/
def opField (g : Gctx) (rd ra : Reg) (op : Nat) (wm1 pos : BitVec 5) (f : Regs → Nat → Nat → Word) (s : State) : State :=
  let insn := insnBitf op rd.val ra.val wm1.toNat pos.toNat
  s.run g insn fun s =>
    if 32 < pos.toNat + (wm1.toNat + 1) then s.trap g insn 3 0 0
    else s.aluZN g rd (f (s.cx g).regs pos.toNat (wm1.toNat + 1))

/-- A logic-bit instruction of major 02h (R224). -/
def opLogic (g : Gctx) (rd ra fn : Nat) (f : Regs → Regs) (s : State) : State :=
  s.run g (insnA 2 rd ra 0 fn) fun s => s.retire g 1 f

/-- Whether an image read of `g` on a TRAIL must wait for publication sets of its gather epoch (R616). -/
def State.readWaits (s : State) (g : Gctx) : Bool :=
  s.inStep && decide (0 < ((s.cx g).img.gather - s.img.epoch).toNat ∧ ((s.cx g).img.gather - s.img.epoch).toNat < 2 ^ 31)

/-- A wait under R616 begins or goes on; it is counted once. -/
def Tdm.wait (t : Tdm) (g : Gctx) : Tdm :=
  { t with readWaits := if t.waiting.getLsbD g.val then t.readWaits else satInc t.readWaits, waiting := t.waiting ||| ctxBit g }

/-- An image read (R218, R220): 2 cycles, the value read goes into the registers. On a TRAIL it may wait (R616). -/
def State.imgRead (s : State) (g : Gctx) (w : Nat) (ba : Nat) (f : Regs → Word → Regs) : State :=
  if s.readWaits g then s.modTdm fun t => t.wait g
  else
    let x := s.readValue g w
    let s := s.modTdm fun t => { t with waiting := t.waiting &&& ~~~(ctxBit g) }
    ((s.emit g (readItem ba) .none).afterRead g w).retire g 2 fun r => f r x

/-- An image-bit read of format X (R218). -/
def opBitRead (g : Gctx) (major fn : Nat) (w : BitVec 15) (n : BitVec 5) (f : Regs → Bool → Regs) (s : State) : State :=
  s.run g (insnX major 0 fn w.toNat n.toNat) fun s =>
    s.imgRead g w.toNat (bitAddr w n).toNat fun r x => f r (x.getLsbD n.toNat)

/-- A staged write with its checks (R135, R136, R217): `ba` is the bit address a trap reports. -/
def State.stageWrite (s : State) (g : Gctx) (insn : Word) (w : Nat) (ba : Nat) (m v : Word) : State :=
  if w < 0x4000 then
    (s.modImgCtx g fun i => { i with addrflt := true }).trap g insn 7 0 (BitVec.ofNat 32 ba)
  else if (s.cx g).stageFull w then
    (s.modImgCtx g fun i => { i with ovf := true }).trap g insn 8 0 (BitVec.ofNat 32 ba)
  else ((s.emit g (stageItem ba m (v &&& m)) .none).stage g w m v).retire g 1 id

/-- A staged write that stages nothing but still checks its address (R219, R223). -/
def State.stageNothing (s : State) (g : Gctx) (insn : Word) (w : Nat) (ba : Nat) : State :=
  if w < 0x4000 then
    (s.modImgCtx g fun i => { i with addrflt := true }).trap g insn 7 0 (BitVec.ofNat 32 ba)
  else s.retire g 1 id

/-- The mask of bit `n`. -/
def bitMask (n : BitVec 5) : Word := 1#32 <<< n.toNat

/-- A Boolean at bit `n`. -/
def bitVal (b : Bool) (n : BitVec 5) : Word := if b then bitMask n else 0

/-- A word for the bits 0 or 1 of a Boolean. -/
def boolWord (b : Bool) : Word := if b then 1 else 0

/-! ## Memory instructions (R213–R217, R228) -/

/-- Lane data of a memory operation: class of R791, whether it writes, whether it carries operand data. -/
def TxnOp.ctrl : TxnOp → Nat × Bool × Bool
  | .load _ _ => (0, false, false)
  | .store => (0, true, true)
  | .aadd _ => (1, true, true)
  | .aswp _ => (2, true, true)
  | .rsst => (3, true, true)
  | .rsld => (4, false, false)

/-- What a word holds for the leader: queued stores of its compare queue overlay the bank (R247). -/
def queuedMem (m : List Host.Cell) (g : Gctx) : List PairItem → List Host.Cell
  | [] => m
  | i :: r =>
    match i.rel with
    | .store a size d => queuedMem (if i.ctx = g then wrMem m a.toNat (sizeBytes size) d.toNat else m) g r
    | _ => queuedMem m g r

/-- What a load from the own core bank gives the context. -/
def State.cbLoad (s : State) (g : Gctx) (a : Word) (size : BitVec 2) : Word :=
  BitVec.ofNat 32 (rdMem (queuedMem (s.ownerMem (cbOf (coreOf g)) a.toNat) g s.pair[pairOf g].items) a.toNat (sizeBytes size))

/-- Whether an operation is an atomic. -/
def TxnOp.atomic : TxnOp → Bool
  | .aadd _ | .aswp _ => true
  | _ => false

/-- Whether a sub-word write, an atomic or a read of the word at `a` meets an uncorrectable error (R321). -/
def State.readsUe (s : State) (b : BankId) (op : TxnOp) (size : BitVec 2) (a : Nat) : Bool :=
  s.meetsUe b a && !(op.stores && size == 2)

/-- An access to the own core bank through the owner port (R287, R309, R313, R316, R321). -/
def State.ownAccess (s : State) (g : Gctx) (t : Txn) : State × Resp :=
  let b := cbOf (coreOf g)
  let a := t.addr.toNat
  if s.stagingHeld g a then (s, ⟨2, 0⟩)
  else if s.readsUe b t.op t.size a then (s.eccCheck b a (if t.op.atomic then 2 else 0), ⟨6, 0⟩)
  else
    let s := if t.op.stores && t.size == 2 then s else s.eccCheck b a 0
    match t.op with
    | .store | .rsst => (s.cbStore g t.addr t.size t.data, ⟨0, 0⟩)
    | .aadd _ | .aswp _ => let r := s.cbAtomic g t.op t.addr t.data; (r.1, ⟨0, r.2⟩)
    | .load _ _ | .rsld => (s, ⟨0, s.cbLoad g t.addr t.size⟩)

/-- A transaction of `g`, the next of its core (R312); `sent` unless a pair unit holds it first. -/
def State.mkTxn (s : State) (g : Gctx) (insn : Word) (op : TxnOp) (a : Word) (size : BitVec 2) (x : Word) (sent : Bool) : Txn :=
  { op := op, addr := a, size := size, data := x, priv := (s.cx g).regs.priv, insn := insn, issued := s.clk
    ord := s.core[coreOf g].issues, sent := sent }

/-- The transaction `t` is in flight at the port of `g`. -/
def State.putTxn (s : State) (g : Gctx) (t : Txn) : State :=
  (s.modPort g fun p => { p with txn := some t }).modCore (coreOf g) fun c => { c with issues := c.issues + 1 }

/-- The lane item of a memory operation. -/
def State.opItem (s : State) (g : Gctx) (op : TxnOp) (a : Word) (size : BitVec 2) (x : Word) : LaneItem :=
  let c := op.ctrl
  memItem a x c.2.2 size c.2.1 c.1 (s.cx g).regs.priv

/-- A memory operation on the own core bank (R159, R216, R235): it is complete at once. In a paired activation a store
waits in the compare queue, and an atomic until it has been compared, behind the stores before it (R215, R247). -/
def State.cbAccess (s : State) (g : Gctx) (insn : Word) (op : TxnOp) (a : Word) (size : BitVec 2) (x : Word) : State :=
  let item := s.opItem g op a size x
  let paired := (s.cx g).act.paired
  if paired && op.atomic then (s.emit g item .own).putTxn g (s.mkTxn g insn op a size x false)
  else if paired && op.stores && !s.stagingHeld g a.toNat && !s.readsUe (cbOf (coreOf g)) op size a.toNat then
    ((if size = 2 then s else s.eccCheck (cbOf (coreOf g)) a.toNat 0).emit g item (.store a size x)).retire g 1 fun r => r.loaded op size x
  else
    let r := (s.emit g item .none).ownAccess g (s.mkTxn g insn op a size x true)
    if r.2.status = 0 then r.1.retire g 1 fun r' => r'.loaded op size r.2.data else r.1.trap g insn 9 r.2.status a

/-- Whether a paired access leaves before its comparison (R247): loads and RSLD of anything but register blocks. -/
def leavesAtOnce (op : TxnOp) (a : Word) : Bool :=
  !op.ctrl.2.1 && !decide (0x10000000 ≤ a.toNat)

/-- A memory operation on any other target: a fabric transaction is in flight until its response (R215); in a paired
activation it may be held until it has been compared. -/
def State.fabricIssue (s : State) (g : Gctx) (insn : Word) (op : TxnOp) (a : Word) (size : BitVec 2) (x : Word) : State :=
  let hold := (s.cx g).act.paired && !leavesAtOnce op a
  (s.emit g (s.opItem g op a size x) (if hold then .send else .none)).putTxn g (s.mkTxn g insn op a size x (!hold))

/-- A memory instruction after its own checks (R214): ALIGN, the return-stack traps, then the access. -/
def State.memAccess (s : State) (g : Gctx) (insn : Word) (op : TxnOp) (a : Word) (size : BitVec 2) (x : Word) : State :=
  if !aligned size a then s.trap g insn 4 0 a
  else if op = .rsst ∧ (s.cx g).regs.rstack = [] then s.trap g insn 6 0 0
  else if op = .rsld ∧ (s.cx g).regs.rstack.length = 16 then s.trap g insn 5 0 0
  else if inOwnCb g a.toNat ∧ !s.injFor 123 g.val then s.cbAccess g insn op a size x
  else s.fabricIssue g insn op a size x

/-- A memory instruction (R213): sizes the table does not permit raise UNDEF. -/
def opMem (g : Gctx) (major : Nat) (rd ra : Reg) (size : BitVec 2) (off : BitVec 16) (wordOnly : Bool)
    (op : TxnOp) (s : State) : State :=
  let insn := insnM major rd.val ra.val size.toNat off.toNat
  s.run g insn fun s =>
    if size = 3 ∨ (wordOnly ∧ size ≠ 2) then s.trap g insn 3 0 0
    else
      let x := match op with
        | .rsst => (s.cx g).regs.rstack.getLast?.getD 0
        | _ => lowBytes size ((s.cx g).regs.get rd)
      s.memAccess g insn op (effAddr (s.cx g).regs ra off) size x

/-- An immediate addition or comparison of major 04h (R212); a comparison leaves rd unused. -/
def opImmNZCV (g : Gctx) (rd ra : Reg) (sub imm : Nat) (discard : Bool) (f : Word → AddRes) (s : State) : State :=
  s.run g (insnI 4 rd.val ra.val sub imm) fun s =>
    let x := f ((s.cx g).regs.get ra)
    if discard then s.retire g 1 fun r => r.setZNCV x else s.aluZNCV g rd x

/-! ## Image, branch and call forms -/

/-- IRD (R218). -/
def opWordRead (g : Gctx) (rd : Reg) (w : BitVec 15) (s : State) : State :=
  s.run g (insnX 0x10 rd.val 2 w.toNat 0) fun s => s.imgRead g w.toNat (w.toNat * 32) fun r x => r.put rd x

/-- A staged bit write of major 13h (R218, R219): nothing is staged unless `on` holds. -/
def opBitWrite (g : Gctx) (fn : Nat) (w : BitVec 15) (n : BitVec 5) (on : Regs → Bool) (v : Regs → Word) (s : State) : State :=
  let insn := insnX 0x13 0 fn w.toNat n.toNat
  s.run g insn fun s =>
    let r := (s.cx g).regs
    if on r then s.stageWrite g insn w.toNat (bitAddr w n).toNat (bitMask n) (v r)
    else s.stageNothing g insn w.toNat (bitAddr w n).toNat

/-- IWR (R218). -/
def opWordWrite (g : Gctx) (rd : Reg) (w : BitVec 15) (s : State) : State :=
  let insn := insnX 0x14 rd.val 0 w.toNat 0
  s.run g insn fun s => s.stageWrite g insn w.toNat (w.toNat * 32) 0xFFFFFFFF ((s.cx g).regs.get rd)

/-- IWRB (R218). -/
def opWordBitWrite (g : Gctx) (rd : Reg) (w : BitVec 15) (n : BitVec 5) (s : State) : State :=
  let insn := insnX 0x14 rd.val 1 w.toNat n.toNat
  s.run g insn fun s =>
    s.stageWrite g insn w.toNat (bitAddr w n).toNat (bitMask n) (bitVal (((s.cx g).regs.get rd).getLsbD 0) n)

/-- The bit address in a register (R221). -/
def regBit (x : Word) : BitVec 15 × BitVec 5 := (x.extractLsb' 5 15, x.extractLsb' 0 5)

/-- LDLX (R220). -/
def opLdlx (g : Gctx) (ra : Reg) (s : State) : State :=
  s.run g (insnA 3 0 ra.val 0 0) fun s =>
    let wb := regBit ((s.cx g).regs.get ra)
    s.imgRead g wb.1.toNat (bitAddr wb.1 wb.2).toNat fun r x => { r with l := x.getLsbD wb.2.toNat }

/-- IRDX (R220). -/
def opIrdx (g : Gctx) (rd ra : Reg) (s : State) : State :=
  s.run g (insnA 3 rd.val ra.val 0 1) fun s =>
    let w := ((s.cx g).regs.get ra).toNat % 0x8000
    s.imgRead g w (w * 32) fun r x => r.put rd x

/-- STLX (R220). -/
def opStlx (g : Gctx) (ra : Reg) (s : State) : State :=
  let insn := insnA 3 0 ra.val 0 2
  s.run g insn fun s =>
    let wb := regBit ((s.cx g).regs.get ra)
    s.stageWrite g insn wb.1.toNat (bitAddr wb.1 wb.2).toNat (bitMask wb.2) (bitVal (s.cx g).regs.l wb.2)

/-- IWRX (R220, R223). -/
def opIwrx (g : Gctx) (rd ra rb : Reg) (s : State) : State :=
  let insn := insnA 3 rd.val ra.val rb.val 3
  s.run g insn fun s =>
    let r := (s.cx g).regs
    let w := (r.get ra).toNat % 0x8000
    if r.get rb = 0 then s.stageNothing g insn w (w * 32)
    else s.stageWrite g insn w (w * 32) (r.get rb) (r.get rd)

/-- BR (R226). -/
def opBranch (g : Gctx) (cond : BitVec 4) (off : BitVec 22) (s : State) : State :=
  s.run g (insnB 0x30 cond.toNat off.toNat) fun s =>
    let r := (s.cx g).regs
    if r.cond cond then s.retireTo g 2 (branchTarget r.pc off) id else s.retire g 1 id

/-- A call (R227): a full return stack traps, or in WRAP mode loses its bottom entry. -/
def State.call (s : State) (g : Gctx) (insn target : Word) : State :=
  let r := (s.cx g).regs
  if 16 ≤ r.rstack.length ∧ r.rstrap then s.trap g insn 5 0 0
  else s.retireTo g 2 target fun r => { r with rstack := (r.pc + 4) :: r.rstack.take 15 }

/-- CALL (R226, R227). -/
def opCall (g : Gctx) (cond : BitVec 4) (off : BitVec 22) (s : State) : State :=
  let insn := insnB 0x31 cond.toNat off.toNat
  s.run g insn fun s =>
    let r := (s.cx g).regs
    if r.cond cond then s.call g insn (branchTarget r.pc off) else s.retire g 1 id

/-- A code address: the low two bits are 0 (R226). -/
def codeAddr (x : Word) : Word := x &&& 0xFFFFFFFC

/-- JR (R226). -/
def opJr (g : Gctx) (ra : Reg) (s : State) : State :=
  s.run g (insnA 0x32 0 ra.val 0 0) fun s => s.retireTo g 2 (codeAddr ((s.cx g).regs.get ra)) id

/-- CALLR (R226, R227). -/
def opCallr (g : Gctx) (ra : Reg) (s : State) : State :=
  let insn := insnA 0x32 0 ra.val 0 1
  s.run g insn fun s => s.call g insn (codeAddr ((s.cx g).regs.get ra))

/-- RET (R226, R227). -/
def opRet (g : Gctx) (s : State) : State :=
  let insn := insnA 0x32 0 0 0 2
  s.run g insn fun s =>
    match (s.cx g).regs.rstack with
    | [] => s.trap g insn 6 0 0
    | a :: rest => s.retireTo g 2 (codeAddr a) fun r => { r with rstack := rest }

end Sys2Proof.Machine
end

