-- ==== Sys2Proof/Machine/Undef.lean ====
section
/-! DEFINITION. Which instruction words are undefined (R205, R208, R211, R213, R218, R220, R224, R226, R229,
R230, R236). -/

namespace Sys2Proof.Machine

/-- Field of an instruction word. -/
def insnField (w : Word) (p n : Nat) : Nat := bitsOf w.toNat p n

/-- Undefined words of the format A majors 00h–03h and 32h. -/
def undefA (major rd ra rb fn : Nat) : Bool :=
  match major with
  | 0x00 => decide (0x10 < fn)
  | 0x01 =>
    bitsOf fn 12 2 == 3 || bitsOf fn 10 2 != 0 || rb != 0 || decide (32 < bitsOf fn 5 5 + 1 + bitsOf fn 0 5)
  | 0x02 =>
    rb != 0 ||
    (if fn ≤ 6 then rd != 0 || ra != 0
     else if fn = 7 then ra != 0
     else if fn = 8 then rd != 0
     else if 0x10 ≤ fn ∧ fn < 0x20 then rd != 0 || ra != 0
     else true)
  | 0x03 =>
    (match fn with
     | 0 => rd != 0 || rb != 0
     | 1 => rb != 0
     | 2 => rd != 0 || rb != 0
     | 3 => false
     | _ => true)
  | _ =>
    rd != 0 || rb != 0 ||
    (match fn with
     | 0 | 1 => false
     | 2 => ra != 0
     | _ => true)

/-- Undefined words of the format I majors 04h–06h (R212). -/
def undefI (major rd ra sub imm : Nat) : Bool :=
  match major, sub with
  | 4, 1 => rd != 0
  | 6, 0 => ra != 0
  | 6, _ => decide (32 ≤ imm)
  | _, _ => false

/-- Undefined words of the format M majors 20h–26h (R213). -/
def undefM (major rd size : Nat) : Bool :=
  size == 3 || (decide (0x23 ≤ major) && size != 2) || (decide (0x25 ≤ major) && rd != 0)

/-- Undefined words of the format X majors 10h–14h (R218). -/
def undefX (major rd fn bit : Nat) : Bool :=
  match major, fn with
  | 0x10, 2 => bit != 0
  | 0x10, 3 => true
  | 0x12, 3 => true
  | 0x14, 0 => bit != 0
  | 0x14, 1 => false
  | 0x14, _ => true
  | _, _ => rd != 0

/-- Undefined words of the format S major 3Bh (R229, R230). -/
def undefS (sop r imm : Nat) : Bool :=
  match sop with
  | 0 | 1 | 2 | 3 | 0x0A => r != 0 || imm != 0
  | 4 => r != 0 || decide (64 ≤ imm)
  | 5 => imm != 0 || r % 2 == 1 || r == 0
  | 6 => r != 0
  | 8 | 9 => decide (64 ≤ imm)
  | _ => true

/-- Whether a word raises UNDEF (R236). -/
def undefinedInsn (w : Word) : Bool :=
  let major := insnField w 26 6
  let rd := insnField w 22 4
  let ra := insnField w 18 4
  if major ≤ 3 ∨ major = 0x32 then undefA major rd ra (insnField w 14 4) (insnField w 0 14)
  else if major ≤ 6 then undefI major rd ra (insnField w 16 2) (insnField w 0 16)
  else if 0x10 ≤ major ∧ major ≤ 0x14 then undefX major rd (insnField w 20 2) (insnField w 0 5)
  else if 0x20 ≤ major ∧ major ≤ 0x26 then undefM major rd (insnField w 16 2)
  else if major = 0x30 ∨ major = 0x31 then false
  else if major = 0x3B then undefS (insnField w 20 6) (insnField w 16 4) (insnField w 0 16)
  else true

/-- Whether a word spells MFCR, MTCR or RETT, whatever its other fields hold (R164, R229). -/
def privInsn (w : Word) : Bool := insnField w 26 6 == 0x3B && decide (8 ≤ insnField w 20 6 ∧ insnField w 20 6 ≤ 0x0A)

end Sys2Proof.Machine
end

