-- ==== Sys2Proof/Machine/ProgOps.lean ====
section
/-! DEFINITION. Loading a program and the online edit (R281–R305). -/

namespace Sys2Proof.Machine

/-- What a request does and how it is answered: the state, and the refusal if there is one. -/
abbrev Res := State × Option Abort

/-- SRC of the gaffer (R703). -/
def srcGaffer : Nat := 0x50

/-- Updates the program state. -/
def State.modProg (s : State) (f : Prog → Prog) : State := { s with prog := f s.prog }

/-- Updates the edit in work. -/
def State.modEdit (s : State) (f : Edit → Edit) : State := s.modProg fun p => { p with edit := f p.edit }

/-- The number of a slot as an index. -/
def slotIdx (n : Nat) : Fin 2 := if n = 2 then 1 else 0

/-! ## Application objects (R551–R554) -/

/-- Address of an SB-backed object. -/
def AppObj.addr (o : AppObj) : Nat := sbBase + o.loc

/-- Writes an SB-backed object (R553): the generation word moves by two, in between the value and length words. -/
def AppObj.store (o : AppObj) (m : List Host.Cell) (v : List Byte) : List Host.Cell :=
  let n := (o.size + 3) / 4 * 4
  let g := rdMem m o.addr 4
  let m := wrMem m o.addr 4 (g + 1)
  let m := wrBytes m (o.addr + 4) (padTo n v)
  let m := if typeSize o.ty = none then wrMem m (o.addr + 4 + n) 4 v.length else m
  wrMem m o.addr 4 (g + 2)

/-- Reads an SB-backed object: its fixed size, or the length its length word gives (R553). -/
def AppObj.load (o : AppObj) (m : List Host.Cell) : List Byte :=
  let n := (o.size + 3) / 4 * 4
  rdBytes m (o.addr + 4) (if typeSize o.ty = none then min o.size (rdMem m (o.addr + 4 + n) 4) else o.size)

/-- The default of an object: a fixed type in full, STR and OCT without the padding of their default. -/
def AppObj.initial (o : AppObj) : List Byte := o.dflt

/-- Whether two objects are the same entry with the same type and access, so that the value is kept. -/
def AppObj.same (a b : AppObj) : Bool := a.idx == b.idx && a.sub == b.sub && a.ty == b.ty && a.access == b.access

/-- The words that an SB-backed object occupies. -/
def AppObj.words (o : AppObj) : List Nat := (List.range (o.span / 4)).map fun i => o.addr + 4 * i

/-- Whether a word of an object is uncorrectable. -/
def AppObj.lost (o : AppObj) (s : State) : Bool := o.words.any fun a => s.meetsUe 9 a

/-- The reads of an object's words at SB (R320, R321). -/
def State.readObj (s : State) (o : AppObj) : State := o.words.foldl (fun s a => s.eccCheck 9 a 0) s

/-- Writes an object as the gaffer does; the words it writes whole are valid from then on (R321). -/
def State.storeObj (s : State) (o : AppObj) (v : List Byte) : State :=
  { s with mem := o.store s.mem v, errs := clearMarks s.errs o.addr o.span }

/-- The value that an object of a new version starts with: an unchanged object keeps its value where `keep` says so, a persistent one that
was stored takes the stored value, every other its default. A kept value that SB cannot give is free (R321). -/
def State.newValue (s : State) (old : List AppObj) (keep : Bool) (o : AppObj) : List Byte :=
  match old.find? (·.same o) with
  | some p =>
    if keep then (if p.lost s then padTo o.size s.freeBytes else p.load s.mem)
    else if o.persist then s.cfgBytes o.idx o.sub o.initial else o.initial
  | none => if o.persist ∧ !keep then s.cfgBytes o.idx o.sub o.initial else o.initial

/-- Application objects of a new version come into force (R303); every kept value is read before anything is written. -/
def State.takeObjs (s : State) (old new_ : List AppObj) (keep : Bool) : State :=
  let l := new_.filter fun o => !o.inOut
  let kept := if keep then (l.filterMap fun o => old.find? (·.same o)) else []
  let vals := l.map fun o => (o, s.newValue old keep o)
  let s := kept.foldl (fun s o => s.readObj o) s
  let s := if kept.any (·.lost s) then s.draw else s
  vals.foldl (fun s p => s.storeObj p.1 p.2) s

/-! ## Checks of a slot (R277, R282) -/

/-- Step 8 on a version: admission over its tasks (R95). -/
def State.admVer (s : State) (v : Ver) : Option AdmFail := s.admFail s.freqNow (v.tasks.map admOf) v.imap

/-- A refused container: code 2051h and the step of 2300h:05 (R277). -/
def State.refuseProg (s : State) (kind : Nat) (x : ChkFail) : Res :=
  let s := if x.step = 3 then s.injDone 125 else s
  ((((s.modProg fun p => { p with refStep := x.step }).recInj 0x2051 srcGaffer kind x.step x.ctx x.inj)).recClaim x.abort, some x.abort)

/-- A refusal by admission: its report, then as a refused container (R96, R277). -/
def State.refuseAdm (s : State) (kind : Nat) (x : AdmFail) : Res :=
  (s.admRefuse x).refuseProg kind ⟨8, abAdmission x.cond x.ctx, x.ctx, false⟩

/-- The accepted edits of a slot, one after another, on a version. -/
def State.checkEdits (s : State) : Ver → Nat → List (List Byte) → State × Ver × Option Abort
  | v, _, [] => (s, v, none)
  | v, n, c :: r =>
    match s.check v c true n with
    | some x => let q := s.refuseProg 1 x; (q.1, v, q.2)
    | none =>
      let w := editVer v (bodyOf c) (hdrHash c)
      match s.admVer w with
      | some x => let q := s.refuseAdm 1 x; (q.1, v, q.2)
      | none => (s.admPass s.freqNow (w.tasks.map admOf)).checkEdits w (n + 1) r

/-- The checks of R277 on the base program of a slot and its edits (R282). -/
def State.checkSlot (s : State) (slot : Nat) : State × Ver × Option Abort :=
  let sl := s.prog.slots[slotIdx slot]
  let none_ := s.verNow
  match sl.base with
  | none => let q := s.refuseProg 0 ⟨1, abVerify 1, 0xFF, false⟩; (q.1, none_, q.2)
  | some c =>
    match s.check none_ c false 0 with
    | some x => let q := s.refuseProg 0 x; (q.1, none_, q.2)
    | none =>
      let v := baseVer (bodyOf c) (hdrHash c)
      match s.admVer v with
      | some x => let q := s.refuseAdm 0 x; (q.1, none_, q.2)
      | none =>
        match s.tlOver (v.tasks.map (·.2)) with
        | some n => (s.tlRefuse n, none_, some abRange)
        | none => (s.admPass s.freqNow (v.tasks.map admOf)).checkEdits v 0 sl.edits

/-! ## Putting a version in force (R282) -/

/-- Writes blocks into the core banks. -/
def writeBlocks (m : List Host.Cell) (l : List (Nat × List Byte)) : List Host.Cell := l.foldl (fun m p => wrBytes m p.1 p.2) m

/-- Writes blocks as the gaffer's loader does; the words they cover are valid from then on (R321). -/
def State.putBlocks (s : State) (l : List (Nat × List Byte)) : State := l.foldl (fun s p => s.putBytes p.1 p.2) s

/-- Writes consecutive words into the record store, each counted for its sector (R361). -/
def State.nvPut (s : State) (off : Nat) : List Word → State
  | [] => s
  | w :: r => ((s.putWord (nvBase + off) w.toNat).wrote off 1).nvPut (off + 4) r

/-- A context as a load leaves it: its task is that of the program and the counters of R107 start at 0. The spec says of no other part of
CTX_STATE, CTX_USED and CTX_RELTIME, nor of the gather and staging of the context, what a load does to it: they start as at reset, while
the deferred releases and the last response time stay (DESIGN CHOICE, log entry 82). -/
def Ctx.loaded (c : Ctx) (t : Task) : Ctx :=
  { c with
    task := t, next := none, img := { c.img with gather := 0, gaged := false, staged := [], used := 0, dirty := [] }
    port := { c.port with txn := none, held := none }
    act := { Act.blank with deferCnt := c.act.deferCnt, lastResp := c.act.lastResp } }

/-- The task of a context in a set: a paired task occupies the context of the same number on the checker (R56, R238). -/
def taskFor (l : List (Nat × Task)) (g : Nat) : Task :=
  match l.find? fun p => p.1 == g || (p.2.paired && p.1 + 8 == g) with
  | some p => p.2
  | none => .blank

/-- The split table of an image map. -/
def Imap.splitTable (i : Imap) : List SplitEnt := i.splits.map fun e => ⟨e.word, e.ctx, e.mask⟩

/-- The owners of an image map: context plus 1 by word. -/
def Imap.ownTable (i : Imap) : List (Nat × Nat) := i.owners.foldl (fun m e => sset 0 m e.word (e.ctx + 1)) []

/-- Initial values of retained words: what their core's DATA blocks give at their CB addresses, else 0 (R365). -/
def initWords (init : List (Nat × List Byte)) (l : List RetEnt) : List Word :=
  let m := writeBlocks [] init
  (retAddrs l).map fun a => rdWord m a

/-- Raises the program rollback counter to a step (R742). -/
def State.raiseProg (s : State) (n : Nat) : State :=
  let old := s.progCounter
  if old < n then (s.burn (otpOnesMask (8 * 0x138) n)).rec_ 0xB00A srcGaffer 1 n old else s

/-- The image at a load: every output word 0, no forces, the ownership of the program (R132, R148, R282). -/
def Img.loaded (i : Img) (v : Ver) : Img :=
  { i with out := [], forces := [], commits := [], own := v.imap.ownTable, split := v.imap.splitTable, ownNew := [], splitNew := [] }

/-- Discards an edit in work (R301, R303, R304). -/
def State.cancelEdit (s : State) (cause : Nat) : State :=
  if s.prog.edit.st = 0 then s
  else ((s.modProg fun p => { p with edit := .blank }).gateIdle).rec_ 0x2056 srcGaffer s.prog.edit.st cause

/-- The cores that the tasks of a set need (R56, R238). -/
def coresOf (tasks : List (Nat × Task)) (n : CoreId) : Bool :=
  tasks.any fun p => p.1 / 8 == n.val || (p.2.paired && p.1 / 8 + 1 == n.val)

/-- The gaffer powers the islands of the tasks of a set before it loads code into them (R31). -/
def State.powerFor (s : State) (tasks : List (Nat × Task)) : State :=
  { s with core := Vector.ofFn fun (n : Fin 8) => if coresOf tasks n then { s.core[n] with powered := true } else s.core[n] }

/-- The forces that a load clears are recorded (R148, R157). -/
def State.recCleared (s : State) : State :=
  if s.img.forces = [] then s else s.rec_ 0x2043 0x51 0xFFFFFFFF s.img.forces.length

/-- A version comes into force as a load of a slot (R282): islands without a task are gated (R31). At start-up the retained values stay as
recall left them (R285, R302, log entry 21). -/
def State.putVer (s : State) (v : Ver) (slot : Nat) (roll : Nat) (startup : Bool) : State :=
  let s := if s.prog.edit.st ≠ 0 then s.cancelEdit 2 else s
  let s := (s.recCleared.powerFor v.tasks).putBlocks v.place
  let s := if startup then s else s.nvPut (halfOff false) (initWords v.init v.ret)
  let s := { s with
    ctx := Vector.ofFn fun (g : Fin 64) => s.ctx[g].loaded (taskFor v.tasks g.val)
    img := s.img.loaded v
    nv := if startup then s.nv else { s.nv with half := false, queue := [] }
    net := { s.net with gpub := s.net.gpub.map (fun (p : GoosePub) => { p with ran := false }),
                        gsub := s.net.gsub.map fun (g : GooseSub) => { g with acc := false } }
    can := s.can.map (fun (k : Can) => { k with mo := k.mo.map fun (o : Mo) => { o with seqLast := 0 } })
    prog := { s.prog with
      loaded := true, active := slot, hash := v.hash, progid := v.progid, progver := v.progver, editable := v.editable
      upper := v.upper, ret := v.ret, imap := v.imap, objs := v.objs, leave := none } }
  let s := s.gateIdle.takeObjs [] v.objs false
  let s := s.putRt s.freqNow (v.tasks.map admOf)
  let s := (if startup then s else (s.twinWrite 0 0).twinOf 0x2300).rec_ 0x2050 srcGaffer slot v.progid.toNat v.progver.toNat
  s.raiseProg roll

/-- A load that fails after the first core bank has been written (R284): the image store gave a block that does not match its hash (R278) once
`n` blocks stood in their banks. No program is loaded; the slot that was active stays marked active. -/
def State.loadBroken (s : State) (v : Ver) (n : Nat) : State :=
  let s := if s.prog.edit.st ≠ 0 then s.cancelEdit 2 else s
  let s := (s.recCleared.powerFor v.tasks).putBlocks (v.place.take n)
  let s := { s with
    ctx := s.ctx.map fun (c : Ctx) => c.loaded .blank
    img := s.img.loaded { v with imap := ⟨[], [], [], [], []⟩ }
    prog := { s.prog with
      loaded := false, hash := List.replicate 48 0, progid := 0, progver := 0, ret := [], imap := ⟨[], [], [], [], []⟩, objs := [], leave := none } }
  s.gateIdle

/-- ROLLBACK of the newest container of a slot. -/
def Slot.roll (sl : Slot) : Nat := ((sl.base.toList ++ sl.edits).map hdrRollback).foldl max 0

/-- Loads a slot: every check comes before the first CB is written, so a refusal keeps the program in force (R282,
R284). What the image store fails to give is a failed hash check (R278). -/
def State.loadSlot (s : State) (slot : Nat) (startup : Bool) : Res :=
  let q := s.checkSlot slot
  match q.2.2, s.prog.storeFault with
  | some a, _ => (q.1, some a)
  | none, some 0 => q.1.refuseProg 0 ⟨3, abVerify 3, 0xFF, false⟩
  | none, some n => (q.1.loadBroken q.2.1 n).refuseProg 0 ⟨3, abVerify 3, 0xFF, false⟩
  | none, none => (q.1.putVer q.2.1 slot (s.prog.slots[slotIdx slot]).roll startup, none)

/-- LOAD_SLOT (R281): only with the key at STOP and the state STOP. -/
def State.loadReq (s : State) (slot : Nat) : Res :=
  if slot ≠ 1 ∧ slot ≠ 2 then (s, some abRange)
  else if s.op.key ≠ 0 ∨ s.op.st ≠ .stop then (s, some (abState s))
  else s.loadSlot slot false

/-! ## Online edit (R286–R305) -/

/-- The transition set (R288): every task of both versions once; a replaced task takes the larger cost, and its blocking
grows by the migration time of its retained words (R293). -/
def transition (freq : Freq) (v w : Ver) (affected : List Nat) (words : Nat → Nat) : List AdmTask :=
  let new_ := w.tasks.map fun p =>
    match v.tasks.find? (·.1 == p.1) with
    | some q =>
      if affected.contains p.1 then
        { admOf p with minC := (admOf q).cost (freq (q.1 / 8)), block := 2000 + 8 * words p.1 }
      else admOf p
    | none => admOf p
  (new_ ++ (v.tasks.filter fun q => !w.tasks.any (·.1 == q.1)).map admOf).mergeSort fun a b => decide (a.ctx ≤ b.ctx)

/-- The container of the parison of a program slot: its received units in order. -/
def Parison.bytes (p : Parison) : List Byte := p.units.flatMap fun u => u.2.getD []

/-- The parison entry of a program slot. -/
def parOf (slot : Nat) : Fin 3 := if slot = 2 then 2 else 1

/-- The edit in work that a container makes. -/
def State.mkEdit (s : State) (c : List Byte) : Edit :=
  let b := bodyOf c
  let v := s.verNow
  let w := editVer v b (hdrHash c)
  let aff := affectedBy v b
  { Edit.blank with
    st := 1, image := c, tasks := aff.map fun g => (g, (w.tasks.find? (·.1 == g)).map (·.2))
    old := aff.map fun g => (g, (v.tasks.find? (·.1 == g)).map (·.2))
    ret := w.ret, imap := w.imap, objs := w.objs, mig := migOfBody b, hash := w.hash, progid := w.progid, progver := w.progver
    affected := aff, layout := (blockOf b 4).isSome || (blockOf b 7).isSome }

/-- The checks of R277 on an edit, and admission over the new and the transition set (R286, R288, R290). -/
def State.checkEdit (s : State) (c : List Byte) (req : Option Req) : Res :=
  let v := s.verNow
  match s.check v c true (s.prog.slots[slotIdx s.prog.active]).edits.length with
  | some x => s.refuseProg 1 x
  | none =>
    let w := editVer v (bodyOf c) (hdrHash c)
    match s.admVer w with
    | some x => s.refuseAdm 1 x
    | none =>
      let e := s.mkEdit c
      let tr := transition s.freqNow v w e.affected fun g => if e.layout then retOfCtx w.ret g else 0
      match s.admFail s.freqNow tr w.imap with
      | some x => s.refuseAdm 1 x
      | none =>
        match s.tlOver (w.tasks.map (·.2)) with
        | some n => (s.tlRefuse n, some abRange)
        | none =>
          let set := w.tasks.map admOf
          let rt := fun (p : Nat × Option Task) => (p.1, p.2.map fun t => { t with rt := if t.timed then rtNs s.freqNow set (admOf (p.1, t)) else 0 })
          (((s.admPass s.freqNow set).putRt s.freqNow set).modEdit fun _ => { e with req := req, tasks := e.tasks.map rt }, none)

/-- APPLY (R286, R297): the edit that the parison of the active slot holds; LEAD passes it on (R304). -/
def State.applyEdit (s : State) (r : Req) : Res :=
  let p := s.sec.par[parOf s.prog.active]
  if s.op.key ≠ 2 ∨ s.isTrail then (s, some (abState s))
  else if s.prog.edit.st ≠ 0 then (s, some abBusy)
  else if s.cfg 0x2310 3 0 ≠ 0 ∧ !s.time.valid then (s, some abNoTime)
  else if !s.prog.loaded ∨ p.st ≠ 2 ∨ !hdrEdit p.bytes then s.refuseProg 1 ⟨1, abVerify 1, 0xFF, false⟩
  else
    let x := s.checkEdit p.bytes (some r)
    if x.2.isNone ∧ s.leadPaired then ((x.1.modTdm fun t => { t with ready := false }).tlCommand 0 1 (.edit p.bytes), none) else x

/-- Constraints on the switch instant (R289): period and offset in ns, old and new, of every affected cyclic task present
in both versions. -/
def Edit.constraints (e : Edit) : List (Nat × Nat) :=
  e.tasks.flatMap fun p =>
    match p.2, (e.old.find? (·.1 == p.1)).bind (·.2) with
    | some n, some o =>
      if n.kind = .cyclic ∧ o.kind = .cyclic then [(n.period * 1000, n.offset * 1000), (o.period * 1000, o.offset * 1000)] else []
    | _, _ => []

/-- Whether an instant is a release time under every constraint. -/
def releaseTime (cs : List (Nat × Nat)) (t : Nat) : Bool := cs.all fun c => c.1 != 0 && (t + c.1 - c.2 % c.1) % c.1 == 0

/-- The first instant from `t` in steps of `d`, not beyond `hi`, that meets every constraint. -/
def findTs (cs : List (Nat × Nat)) (d hi : Nat) : Nat → Nat → Option Nat
  | 0, _ => none
  | fuel + 1, t => if hi < t then none else if releaseTime cs t then some t else findTs cs d hi fuel (t + d)

/-- The switch instant from ready time `tb` on (R289). -/
def switchInstant (cs : List (Nat × Nat)) (tb notBefore : Nat) : Option Nat :=
  let lo := max (tb + 1000000) notBefore
  let hi := tb + 10000000000
  match cs with
  | [] => if lo ≤ hi then some lo else none
  | c :: _ => if c.1 = 0 then none else findTs cs c.1 hi 600000 (lo + (c.2 % c.1 + c.1 - lo % c.1) % c.1)

/-- Tandem cycle in ns. -/
def State.ttNs (s : State) : Nat := s.cfg 0x7200 3 1000 * 1000

/-- Ts for the edit in work: the ready time in STOP and HALT (R289); with a TRAIL a tandem cycle boundary (R304). -/
def State.chooseTs (s : State) (t : Nat) : Option Nat :=
  let cs : List (Nat × Nat) := if s.inTandem then [(s.ttNs, 0)] else []
  if s.op.st ≠ .run then some (if s.inTandem then (t + s.ttNs - 1) / s.ttNs * s.ttNs else t)
  else switchInstant (cs ++ s.prog.edit.constraints) t (s.cfg 0x2310 3 0)

/-- The time at which a REVERT is taken (R300, R305): in a tandem the start of the cycle, which both units have in common. -/
def State.takenAt (s : State) : Nat :=
  if s.inTandem ∧ s.ttNs ≠ 0 then s.time.tb.toNat / s.ttNs * s.ttNs else s.time.tb.toNat

/-- The edit becomes ARMED at `ts`: the islands of its tasks have power, its blocks stand in the staging halves (R31, R287, R289). -/
def State.armEdit (s : State) (ts : Nat) : State :=
  let s := (s.powerFor (s.prog.edit.tasks.filterMap fun p => p.2.map fun t => (p.1, t))).putBlocks (placement (bodyOf s.prog.edit.image))
  let t : Word64 := BitVec.ofNat 64 ts
  (s.modEdit fun e => { e with st := 2, ts := t, trail := none, req := none }).rec_ 0x2052 srcGaffer (ts % 2 ^ 32) (ts / 2 ^ 32)
    s.prog.edit.affected.length

/-- Retained words of a context: their index in a layout and their CB address. -/
def retWords (l : List RetEnt) (g : Nat) : List (Nat × Nat) :=
  let rec go (i : Nat) : List RetEnt → List (Nat × Nat)
    | [] => []
    | e :: r =>
      (if e.ctx = g then (List.range e.count).map fun j => (i + j, cbBase (e.ctx / 8) + e.off + 4 * j) else []) ++ go (i + e.count) r
  go 0 l

/-- A context is to switch to another task (R291): once the activation in progress is over, else at once. No release time before Ts counts
any more; a held release of a task that is removed is dropped. -/
def Ctx.switched (c : Ctx) (t : Option Task) (ts : Word64) : Ctx :=
  { c with next := some (t.getD .blank), act := { c.act with seen := some (ts - 1), held := c.act.held && t.isSome } }

/-- The contexts of the tasks `l` switch, each with its context on the checker when it or its old task is paired (R238). -/
def State.switchAll (s : State) (l : List (Nat × Option Task)) (ts : Word64) : State :=
  l.foldl (fun s p =>
    if h : p.1 < 64 then
      let g : Gctx := ⟨p.1, h⟩
      let s := s.modCx g fun c => c.switched p.2 ts
      if (s.cx g).inProgress then s else s.takeNext g
    else s) s

/-- Retained words of the tasks that an edit leaves alone, with their last committed values, from the layout and half of one version to those
of the other: commits from the switch on go there (R365, log entry 22). -/
def State.carryWords (s : State) (e : Edit) (src dst : List RetEnt × Bool) : List (Nat × Word) :=
  if e.layout then
    (below 64 fun g => !e.affected.contains g).flatMap fun g =>
      ((retWords src.1 g).zip (retWords dst.1 g)).map fun p => (halfOff dst.2 + 4 * p.2.1, s.committedAt (halfOff src.2 + 4 * p.1.1))
  else []

/-- The layout and half of the version in force, and of the new version of an edit (R365). -/
def State.retHere (s : State) : List RetEnt × Bool := (s.prog.ret, s.nv.half)

/-- The layout and half of the new version of an edit with a layout change. -/
def State.retThere (s : State) (e : Edit) : List RetEnt × Bool := (e.ret, !s.nv.half)

/-- The initial values of the retained words of context `g` in the new layout of an edit: what its DATA blocks give, else 0 (R294). -/
def Edit.initial (e : Edit) (g : Nat) : List (Nat × Nat × Word) :=
  let m := writeBlocks [] (dataPlacement (bodyOf e.image))
  (retWords e.ret g).map fun p => (p.1, p.2, rdWord m p.2)

/-- Retained words take values in their core banks and enter the journal for the half `half` as one commit (R293). -/
def State.putRetained (s : State) (half : Bool) (ws : List (Nat × Nat × Word)) : State :=
  (s.putWords (ws.map fun w => (w.2.1, w.2.2.toNat))).enqueue (ws.map fun w => (halfOff half + 4 * w.1, w.2.2))

/-- The contexts of an edit whose tasks were replaced, or added. -/
def Edit.replaced (e : Edit) (added : Bool) : List Nat :=
  (e.tasks.filter fun p => p.2.isSome && ((e.old.find? (·.1 == p.1)).any fun q => q.2.isSome) != added).map (·.1)

/-- SWITCH_INSTANT (R291): an ARMED edit becomes PENDING at Ts. The new retained words of an added task take their initial values (R294). -/
def State.switchEdit (s : State) : State :=
  let e := s.prog.edit
  let mig := if e.layout then e.replaced false else []
  let carried := s.carryWords e s.retHere (s.retThere e)
  let s := s.switchAll e.tasks e.ts
  let s := s.modImg fun i => { i with ownNew := e.imap.ownTable, splitNew := e.imap.splitTable }
  let s := s.enqueue carried
  let s := if e.layout then (e.replaced true).foldl (fun s g => s.putRetained (!s.nv.half) (e.initial g)) s else s
  let s := (s.takeObjs s.prog.objs e.objs true).modProg fun p => { p with objs := e.objs, edit := { p.edit with objs := p.objs } }
  (s.modEdit fun e => { e with st := 3, acceptAt := s.clk + 600000000000, migrate := mig }).rec_ 0x2053 srcGaffer e.affected.length
    ((mig.map fun g => retOfCtx e.ret g).foldl (· + ·) 0)

/-- The MIGRATION entries that concern context `g`. -/
def Edit.entriesFor (e : Edit) (g : Nat) : List MigEnt := if (migCtxs e.affected (bodyOf e.image)).contains g then e.mig else []

/-- The new values of the retained words of context `g` under an edit (R294); `old` is the layout of the version before it. -/
def State.migrated (s : State) (e : Edit) (old : List RetEnt) (g : Nat) : List (Nat × Nat × Word) :=
  let oldW := retWords old g
  (e.initial g).mapIdx fun j p =>
    (p.1, p.2.1,
      match (e.entriesFor g).find? fun m => decide (m.newOff ≤ j ∧ j < m.newOff + m.count) with
      | some m =>
        if m.op = 0 then (match oldW[m.oldOff + (j - m.newOff)]? with | some q => rdWord s.mem q.2 | none => 0)
        else if m.op = 1 then p.2.2
        else 0
      | none => p.2.2)

/-- The old values of the retained words of context `g` after a revert switch (R300): COPY entries applied in reverse, the others as the half
of the old version holds them. `new_` is the layout of the version left. -/
def State.migratedBack (s : State) (e : Edit) (new_ : List RetEnt) (g : Nat) : List (Nat × Nat × Word) :=
  let newW := retWords new_ g
  (retWords s.prog.ret g).mapIdx fun j p =>
    (p.1, p.2,
      match (e.entriesFor g).find? fun m => m.op == 0 && decide (m.oldOff ≤ j ∧ j < m.oldOff + m.count) with
      | some m => (match newW[m.newOff + (j - m.oldOff)]? with | some q => rdWord s.mem q.2 | none => 0)
      | none => s.committedAt (halfOff s.nv.half + 4 * p.1))

/-- The retained words of a replaced task are migrated and journalled as one commit (R293), once its last activation of the old version has
completed. -/
def State.migrateNow (s : State) (g : Gctx) : State :=
  let e := s.prog.edit
  let ws := s.migrated e s.prog.ret g.val
  (s.putRetained (!s.nv.half) ws).modEdit fun e => { e with migrate := e.migrate.filter (· != g.val), migWords := e.migWords + ws.length }

/-- The same for a context of the version that ACCEPT or the revert switch has left. -/
def State.migrateLeft (s : State) (l : Leave) (g : Gctx) : State :=
  let ws := if l.back then s.migratedBack l.edit l.ret g.val else s.migrated l.edit l.ret g.val
  (s.putRetained s.nv.half ws).modProg fun p => { p with leave := some { l with migrate := l.migrate.filter (· != g.val) } }

/-- MIGRATION (R293). -/
def State.migrate (s : State) (g : Gctx) : State :=
  let e := s.prog.edit
  if s.newVersion ∧ e.migrate.contains g.val then (if !(s.cx g).inProgress || (s.cx g).act.newVer then s.migrateNow g else s)
  else
    match s.prog.leave with
    | some l =>
      if l.migrate.contains g.val ∧ (!(s.cx g).inProgress || !(s.cx g).act.leaving) then s.migrateLeft l g else s
    | none => s

/-- The activations and commits of a version that is left belong to it from now on (R291). -/
def State.leaveVer (s : State) (new_ : Bool) (l : Leave) : State :=
  { s with
    ctx := s.ctx.map fun (c : Ctx) =>
      { c with act := { c.act with leaving := c.act.leaving || (c.inProgress && c.act.newVer == new_), newVer := false } }
    img := { s.img with commits := s.img.commits.map fun c => { c with leaving := c.leaving || c.newVer == new_, newVer := false } }
    prog := { s.prog with leave := some l } }

/-- ACCEPT (R298, R305, R365, R742): what still runs of the old version runs on under it, and retained words still to be migrated follow
(R291, R293; DEDUCED, log entry 84). -/
def State.acceptEdit (s : State) (cause : Nat) : State :=
  let e := s.prog.edit
  let k := slotIdx s.prog.active
  let roll := hdrRollback e.image
  let s := s.leaveVer false { ret := s.prog.ret, half := s.nv.half, own := s.img.own, split := s.img.split, edit := e, back := false, migrate := e.migrate }
  let s := { s with
    img := { s.img with own := e.imap.ownTable, split := e.imap.splitTable, ownNew := [], splitNew := [] }
    nv := { s.nv with half := if e.layout then !s.nv.half else s.nv.half }
    sec := { s.sec with par := s.sec.par.set (parOf s.prog.active) { st := 0, units := [], passed := false, boundary := 0 } }
    prog := { s.prog with
      hash := e.hash, progid := e.progid, progver := e.progver, upper := !s.prog.upper, ret := e.ret, imap := e.imap
      slots := s.prog.slots.set k { s.prog.slots[k] with edits := s.prog.slots[k].edits ++ [e.image] }, edit := .blank } }
  let s := s.twinWrite 0 0
  let s := s.rec_ 0x2054 srcGaffer (s.prog.slots[k]).edits.length cause
  s.raiseProg roll

/-- REVERT (R300): the revert switch is fixed under R289. -/
def State.revertEdit (s : State) : Res :=
  match s.chooseTs s.takenAt with
  | some ts => (s.modEdit fun e => { e with st := 4, ts := BitVec.ofNat 64 ts }, none)
  | none => (s, some abRange)

/-- Retained words still to be migrated of new-version activations that have been released are migrated before the version is left. -/
def State.migrateReleased (s : State) : State :=
  allCtx.foldl (fun s g => if s.prog.edit.migrate.contains g.val ∧ (s.cx g).inProgress ∧ (s.cx g).act.newVer then s.migrateNow g else s) s

/-- The revert switch (R300): the old tasks at their next release, the slot unchanged. What still runs of the new version runs on under it; the
COPY entries of a task whose words were migrated follow in reverse once its last such activation has completed (R291, R293; DEDUCED,
log entry 84). -/
def State.revertSwitch (s : State) : State :=
  let s := s.migrateReleased
  let e := s.prog.edit
  let back := if e.layout then (e.replaced false).filter fun g => !e.migrate.contains g else []
  let carried := s.carryWords e (s.retThere e) s.retHere
  let s := s.leaveVer true { ret := if e.layout then e.ret else s.prog.ret, half := if e.layout then !s.nv.half else s.nv.half
                             own := s.img.ownNew, split := s.img.splitNew, edit := e, back := true, migrate := back }
  let s := (s.switchAll e.old e.ts).enqueue carried
  let s := (s.takeObjs s.prog.objs e.objs true).modProg fun p => { p with objs := e.objs, edit := .blank }
  (s.modImg fun i => { i with ownNew := [], splitNew := [] }).rec_ 0x2055 srcGaffer

/-- A command of 2310h:01 other than APPLY (R297). -/
def State.editCmd (s : State) (cmd : Nat) : Res :=
  let st := s.prog.edit.st
  if s.op.key ≠ 2 then (s, some (abState s))
  else if cmd = 2 ∧ st = 3 then (s.acceptEdit 0, none)
  else if cmd = 3 ∧ st = 3 then s.revertEdit
  else if cmd = 4 ∧ (st = 1 ∨ st = 2) then (s.cancelEdit 0, none)
  else (s, some (abState s))

end Sys2Proof.Machine
end

