-- ==== Sys2Proof/Machine/DictOps.lean ====
section
/-! DEFINITION. Which entries exist, what is kept for them, their serialization and the configuration digest (R540–R549,
R551, R600, R753). -/

namespace Sys2Proof.Machine

/-! ## Which entries exist (R540, R541, R560) -/

/-- An application object as an entry (R551, R552): one backed by output words is read from them. -/
def AppObj.ent (o : AppObj) : Ent :=
  { idx := o.idx, n := 1, sub := o.sub, ty := o.ty, len := o.size, fixed := (typeSize o.ty).isSome, acc := o.access
    cond := .none, role := o.role, pers := b2n o.persist, rng := if o.ty = 1 then .btw 0 1 else .any, dflt := o.initial }

/-- Whether recovery mode serves an index (R753). -/
def recoveryServes (idx : Nat) : Bool :=
  decide (0x1000 ≤ idx ∧ idx < 0x1100) || decide (0xB000 ≤ idx ∧ idx ≤ 0xB008) || idx == 0xB011 || idx == 0xB012 || idx == 0xB030

/-- Recovery mode serves B030h up to :06, and asks no role above ENGINEER (R753). -/
def Ent.inRecovery (e : Ent) (idx : Nat) : Option Ent :=
  if recoveryServes idx ∧ ¬(idx = 0xB030 ∧ 6 < e.sub) then some { e with role := min e.role 2 } else none

/-- Every row in force: the tables and the objects of the program (R541). -/
def State.rows (s : State) : List Ent := entryTable ++ s.prog.objs.map AppObj.ent

/-- The rows of an index. -/
def State.entsOf (s : State) (idx : Nat) : List Ent :=
  let l := s.rows.filter (·.covers idx)
  if s.pwr.phase = .recovery then l.filterMap (·.inRecovery idx) else l

/-- The highest subindex of a list of rows. -/
def highestSub (l : List Ent) : Nat := l.foldl (fun m e => max m e.sub) 0

/-- Subindex 00h of an index (R540). -/
def subZero (idx : Nat) (l : List Ent) : Ent := num_ idx 1 0 2 0 .none 0 0 .any (highestSub l)

/-- The entry at an index and subindex (R540, R541, R22). -/
def State.findEnt (s : State) (idx sub : Nat) : Option Ent :=
  let l := s.entsOf idx
  if 0xF000 ≤ idx ∨ l = [] then none else if sub = 0 then some (subZero idx l) else l.find? (·.sub == sub)

/-- Puts a row in the order of the subindexes. -/
def insertEnt (e : Ent) : List Ent → List Ent
  | [] => [e]
  | x :: r => if e.sub ≤ x.sub then e :: x :: r else x :: insertEnt e r

/-- The entries of an index from a subindex on, ascending, each with its index. -/
def State.entsFrom (s : State) (idx sub : Nat) : List (Nat × Ent) :=
  let l := s.entsOf idx
  if l = [] then [] else ((subZero idx l :: l.foldr insertEnt []).filter fun e => decide (sub ≤ e.sub)).map fun e => (idx, e)

/-- The least index at or after `i` that a row has. -/
def Ent.nextIdx (e : Ent) (i : Nat) : Option Nat := if i < e.idx then some e.idx else if i < e.idx + e.n then some i else none

/-- The least index at or after `i` that exists; 10000h when there is none. -/
def State.nextIdx (s : State) (i : Nat) : Nat := (s.rows.filterMap (·.nextIdx i)).foldl min 0x10000

/-- The entries from index and subindex on until `n` are found, over at most `fuel` indexes. -/
def State.listFrom (s : State) : Nat → Nat → Nat → Nat → List (Nat × Ent)
  | 0, _, _, _ => []
  | fuel + 1, i, sub, n =>
    let k := s.nextIdx i
    if 0xF000 ≤ k then []
    else
      let l := s.entsFrom k (if k = i then sub else 0)
      if n ≤ l.length then l else l ++ s.listFrom fuel (k + 1) 0 (n - l.length)

/-! ## Values kept -/

/-- The default of an entry, where it depends on the unit (R337, R458, R501, R634). -/
def State.dfltOf (s : State) (e : Ent) (idx : Nat) : List Byte :=
  if idx = 0x4010 ∧ e.sub = 1 then [1]
  else if 0xC108 ≤ idx ∧ idx < 0xC10B ∧ e.sub = 1 then [0]
  else if (idx = 0x5002 ∨ idx = 0x5003) ∧ e.sub = 2 ∧ Config.isAF then [4]
  else if idx = 0x7200 ∧ e.sub = 0xC then s.macBase
  else e.dflt

/-- The bytes kept for an entry. -/
def State.stored (s : State) (e : Ent) (idx : Nat) : List Byte := s.cfgBytes idx e.sub (s.dfltOf e idx)

/-! ## Claims and pairs that a value shows (R195, R420) -/

/-- The value of D108h+p:01 (R195). -/
def State.pairSetpt (s : State) (p : Nat) : Nat := if s.setpt (2 * p) = s.setpt (2 * p + 1) then s.setpt (2 * p) else 0

/-- The value of a configuration entry (R549): the set point of a pair and a claimed channel's mode are computed. -/
def State.cfgValue (s : State) (e : Ent) (idx : Nat) : List Byte :=
  if 0xD108 ≤ idx ∧ idx < 0xD10C ∧ e.sub = 1 then leBytes 2 (s.pairSetpt (idx - 0xD108))
  else if 0x3100 ≤ idx ∧ idx < 0x3120 ∧ e.sub = 1 then leBytes 1 (s.modeCfg ⟨(idx - 0x3100) % 32, Nat.mod_lt _ (by decide)⟩)
  else s.stored e idx

/-! ## Serialization and digest (R549, R600) -/

/-- A configuration entry: persistent, with access RW, RWS or RWR (R549). -/
def Ent.isConfig (e : Ent) : Bool := e.pers == 1 && decide (3 ≤ e.acc)

/-- One entry of the serialization: index, subindex, type, length, value. -/
def serial (idx sub ty : Nat) (v : List Byte) : List Byte := leBytes 2 idx ++ leBytes 1 sub ++ leBytes 1 ty ++ leBytes 4 v.length ++ v

/-- The serialization of one index. -/
def State.serialOf (s : State) (idx : Nat) : List Byte :=
  ((s.entsOf idx).foldr insertEnt []).flatMap fun e =>
    if e.isConfig ∧ ¬(idx = 0x7200 ∧ e.sub = 2) then
      serial idx e.sub e.ty (if 0xE000 ≤ idx then s.cfgBytes idx e.sub e.dflt else s.cfgValue e idx)
    else []

/-- The canonical serialization of the configuration entries, 7200h:02 left out (R549, R600). -/
def State.configSerial (s : State) : List Byte := (List.range 0xE000).flatMap fun i => s.serialOf (0x1000 + i)

/-- The program hash in force, or 48 zero bytes (R600). -/
def State.progHash (s : State) : List Byte := if s.prog.loaded then s.prog.hash else List.replicate 48 0

/-- The configuration digest (R600, R601). -/
def State.digest (s : State) : List Byte := Config.sha384 (s.configSerial ++ s.progHash)

end Sys2Proof.Machine
end

