-- ==== Sys2Proof/Machine/RecOps.lean ====
section
/-! DEFINITION. The recorder's writer: records in the ring, limits, start, and its commands (R699–R713). -/

namespace Sys2Proof.Machine

/-- Updates the recorder. -/
def State.modRcd (s : State) (f : Rcd → Rcd) : State := { s with rcd := f s.rcd }

/-- Address of the slot of record index `i` (R699). -/
def recAddr (i : Nat) : Nat := 0x04158000 + i % 32768 * 32

/-- The 32 bytes of a record with index `i` (R700). -/
def Rec.bytes (r : Rec) (i pcyc : Nat) : List Byte :=
  leBytes 2 r.code.toNat ++ [r.src]
    ++ leBytes 1 (fieldAt (severity r.code.toNat) 3 0 + fieldAt (b2n r.inj) 1 3 + fieldAt (bitsOf i 15 4) 4 4)
    ++ leBytes 4 r.p1.toNat ++ leBytes 4 r.p2.toNat ++ leBytes 4 r.p3.toNat ++ leBytes 8 r.time.toNat
    ++ leBytes 6 r.op ++ leBytes 1 pcyc ++ leBytes 1 r.supp

/-- Programs the slot of index `i` with a record (R705). -/
def State.programRec (s : State) (r : Rec) (i : Nat) : State :=
  (s.putBytes (recAddr i) (r.bytes i (ctrVal s.mem 0))).wrote (recAddr i - nvBase) 8

/-- A record takes the next index (R705). -/
def State.writeRec (s : State) (r : Rec) : State :=
  let i := ctrVal s.mem 2
  (s.count 2 1).programRec r i

/-- REC_DONE: every reserved record is programmed. -/
def State.recDone (s : State) : Nat := ctrVal s.mem 2

/-- REC_OLD (R705). -/
def State.recOld (s : State) : Nat := s.recDone - 32768

/-- After a place in the queue has become free: the record of events lost (R708). -/
def State.recLost (s : State) : State :=
  if s.rcd.lostNew = 0 then s
  else (s.modRcd fun r => { r with lostNew := 0 }).recGaffer 0xA004 0x50 s.rcd.lostNew 0 0

/-- Whether the writer has a record to write: it has resumed (R707), and events wait while the gaffer restarts (R749). -/
def State.recWaits (s : State) : Bool := s.rcd.queue != [] && !s.rcd.busy && !s.sup.restarting

/-- RECORD_WRITE (R705): the oldest queued record is written, under a grant to the gaffer (R344). -/
def opRecordWrite (s : State) : State :=
  match s.rcd.queue with
  | r :: q =>
    if s.recWaits ∧ s.nv.granted = some 8 then
      (((s.modNv fun v => { v with granted := none }).modRcd fun x => { x with queue := q }).writeRec r).recLost
    else s
  | [] => s

/-- Writes everything that is queued, unless the writer has not resumed (R707). -/
def State.flushRecs (s : State) : State :=
  if s.rcd.busy then s else (s.rcd.queue.foldl (fun s r => s.writeRec r) s).modRcd fun x => { x with queue := [] }

/-- The record of a code's pending count (R710). -/
def State.recPending (s : State) (code : Nat) : State :=
  let b := s.bucket code
  if b.pend = 0 then s
  else (s.modRcd fun r => { r with buckets := sset ⟨0, 0, 0⟩ r.buckets code { b with pend := 0 } }).recGaffer 0xA003 0x50 code b.pend 0

/-- Every code whose pending count is not 0 (R710, at lehr step 5), each record written as it comes. -/
def State.recAllPending (s : State) : State := s.rcd.buckets.foldl (fun s p => (s.recPending p.1).flushRecs) s

/-- TOKEN_REFILL (R709, R710): one token after each whole refill period; a full bucket reports what is pending. -/
def opTokenRefill (code : Nat) (s : State) : State := { s with rcd := s.refilled code }

/-- Whether the slot of index `i` holds its record (R706). -/
def State.holdsRec (s : State) (i : Nat) : Bool :=
  let w := rdMem s.mem (recAddr i) 4
  !s.nvUe (recAddr i) && w % 65536 != 0 && w / 2 ^ 28 == bitsOf i 15 4

/-- The torn records among the 16 highest reserved indexes (R707). -/
def State.tornRecs (s : State) : List Nat :=
  let n := s.recDone
  ((List.range 16).map fun k => n - 16 + k).filter fun i => decide (n < i + 17 ∧ i < n) && !s.holdsRec i

/-- The reads of the 16 highest slots correct and report errors (R342). -/
def State.checkSlots (s : State) : State :=
  let n := s.recDone
  (((List.range 16).map fun k => n - 16 + k).filter fun i => decide (n < i + 17 ∧ i < n)).foldl (fun s i => s.nvCheck (recAddr i)) s

/-- The writer resumes after recall (R707): torn slots are filled, then code A001h comes first. `lost` counts the events
lost during recall. -/
def State.startRecorder (s : State) : State :=
  let torn := s.tornRecs
  let s := torn.foldl (fun (s : State) i => s.programRec (s.mkRec 0xA002 0xFF (i % 2 ^ 32) (i / 2 ^ 32) 0 false 0) i) s.checkSlots
  let s := s.writeRec (s.mkRec 0xA001 0x50 (ctrVal s.mem 0 % 2 ^ 32) torn.length s.rcd.lostNew false 0)
  s.modRcd fun r => { r with busy := false, torn := torn.length, lostNew := 0 }

/-! ## Meanings -/

/-- RECORD_WRITE (R705). -/
def execRecordWrite (s : State) : Host.Outcome State Fault Refusal := .next (opRecordWrite s)

/-- TOKEN_REFILL (R709). -/
def execTokenRefill (code : BitVec 16) (s : State) : Host.Outcome State Fault Refusal := .next (opTokenRefill code.toNat s)

end Sys2Proof.Machine
end

