-- ==== Sys2Proof/Machine/Answer.lean ====
section
/-! DEFINITION. How the module answers an MDP request, at once or once its action is over (R555, R558, R567, R570, R581). -/

namespace Sys2Proof.Machine

/-- What follows STATUS = 0 in the response to a request that changes an entry (R558). -/
def doneBody : Instr → List Byte
  | .writeBlock _ _ _ _ total _ => leBytes 4 total.toNat
  | _ => []

/-- The response to a request (R555, R558): refused with an abort, or done with a body. -/
def mkResp (r : Req) (op : Nat) (ab : Option Abort) (body : List Byte) : MdpResp :=
  { origin := r.origin, op := BitVec.ofNat 8 (0x80 + op), session := r.session, seq := r.seq, enc := r.enc
    status := match ab with | some a => BitVec.ofNat 32 a.code | none => 0
    body := match ab with | some a => leBytes 4 a.d1 ++ leBytes 4 a.d2 ++ leBytes 4 a.d3 | none => body }

/-- Updates the session with an identifier. -/
def Dict.modSession (d : Dict) (id : Word) (f : Session → Session) : Dict :=
  { d with sessions := d.sessions.map fun x => if x.id = id then f x else x }

/-- The session with an identifier. -/
def State.session (s : State) (id : Word) : Option Session := s.dict.sessions.find? (·.id == id)

/-- The keys of the session, or of the half-open session, with an identifier (R575). -/
def State.keysOf (s : State) (id : Word) : Option Keys :=
  match s.session id with
  | some x => x.keys
  | none => (s.dict.half.find? (·.id == id)).map (·.keys)

/-- The units in which a message leaves on a transport: a datagram (R581), CAN FD frames (R582), a USB frame (R584). -/
def unitsOut (o : Origin) (msg : List Byte) : List (List Byte) :=
  match o with
  | .udp .. => [msg]
  | .can _ => canFrames msg
  | .usb => [usbFrame msg]

/-- A response leaves on the transport of its request (R575, R581, R582, R584); on UDP it is a frame of the interface. -/
def State.sendResp (s : State) (m : MdpResp) : State :=
  let s := s.modDict fun d => { d with sent := some m, wire := unitsOut m.origin (m.bytes (s.keysOf m.session)) }
  match m.origin with
  | .udp f _ _ => s.ownFrame f (.mdp m)
  | .can c => s.canMdp c (unitsOut m.origin (m.bytes (s.keysOf m.session)))
  | .usb => s

/-- Answers a request of a session; the response is stored for a repetition (R567). -/
def State.answer (s : State) (r : Req) (op : Nat) (ab : Option Abort) (body : List Byte) : State :=
  let m := mkResp r op ab body
  (s.modDict fun d => d.modSession r.session fun x => if x.seq = r.seq then { x with resp := some m } else x).sendResp m

/-- Answers a request whose action took its time (R570), if its session still waits for it. -/
def State.answerLate (s : State) (r : Req) (ab : Option Abort) : State :=
  match (s.session r.session).bind (·.last) with
  | some i => s.answer r (opCode i) ab (doneBody i)
  | none => s

/-! ## Work that both units of a tandem do (R305, R618) -/

/-- The first tandem cycle that begins at least `d` ns from now (R618). -/
def State.cycleIn (s : State) (d : Nat) : Nat := if s.ttNs = 0 then 0 else ((s.time.tb.toNat + d + s.ttNs - 1) / s.ttNs) % 2 ^ 32

/-- LEAD queues a write for a tandem cycle and sends it to TRAIL (R618). -/
def State.share (s : State) (i : Instr) (lead : Nat) : State :=
  (s.modTdm fun t => { t with cmds := t.cmds ++ [(s.cycleIn lead, i)] }).tlCommand (s.cycleIn 1000000) 0 (.request i)

end Sys2Proof.Machine
end

