-- ==== Sys2Proof/Machine/Ports.lean ====
section
/-! DEFINITION. The order in which requests are served at the shared port of a bank and at the record store (R311, R312, R344). -/

namespace Sys2Proof.Machine

/-! ## Accesses -/

/-- The address of a port's access. -/
def accAddr : PortAccess → Option Nat
  | .read x | .write x _ _ | .aadd x _ | .aswp x _ => some x.toNat
  | .none | .event _ => none

/-- Whether an access is a write. -/
def accWrites : PortAccess → Bool
  | .write _ _ _ => true
  | _ => false

/-- Whether an access is an atomic. -/
def accAtomic : PortAccess → Bool
  | .aadd _ _ | .aswp _ _ => true
  | _ => false

/-- Whether an access touches the word of `a` (R310). -/
def accTouches (o : PortAccess) (a : Nat) : Bool := ((accAddr o).map (sameWord a)).getD false

/-- The size of an access: an atomic and a read of another master take a word. -/
def accSize : PortAccess → BitVec 2
  | .write _ z _ => z
  | _ => 2

/-- What an access of a core asks of a bank. -/
def Txn.asked (t : Txn) : PortAccess :=
  match t.op with
  | .load _ _ | .rsld => .read t.addr
  | .store | .rsst => .write t.addr t.size t.data
  | .aadd _ => .aadd t.addr t.data
  | .aswp _ => .aswp t.addr t.data

/-- The aligned word that holds `a`. -/
def State.wordAt (s : State) (a : Nat) : Word := rdWord s.mem (a / 4 * 4)

/-! ## Bars of the record store -/

/-- Status of an access to the record store before it is granted (R37, R343, R351, R367): recall and the lehr's step 4 answer NVBUSY. -/
def State.nvBars (s : State) (allowed : Bool) : Nat :=
  if s.nv.inRecall ∨ s.nv.lehr = .step4 ∨ s.nv.lehr = .done then 4 else if allowed then 0 else 3

/-- What a core may do there (R343). -/
def nvAllowed (acc : PortAccess) (off : Nat) : Bool :=
  match acc with
  | .write _ _ _ => decide (0x258000 ≤ off)
  | .read _ => !decide (0x2000 ≤ off ∧ off < 0x4000)
  | _ => false

/-! ## Queues -/

/-- The queue at which a transaction waits: the shared port of IB or SB, or the record store; none where the fabric answers by itself. -/
def Txn.queue (t : Txn) : Option Nat :=
  let a := t.addr.toNat
  if 0x01000000 ≤ a ∧ a < 0x010A0000 then (if t.priv && !t.op.ctrl.2.1 then some 8 else none)
  else if 0x02000000 ≤ a ∧ a < 0x02200000 then some 9
  else if inNv a then (if t.priv then some 11 else none)
  else none

/-- The transaction of `g` that waits at queue `q`, if it has one there. -/
def State.waitsIn (s : State) (q : Nat) (g : Gctx) : Option Txn :=
  match (s.cx g).port.txn with
  | some t => if t.sent && (s.cx g).port.held.isNone && t.queue == some q then some t else none
  | none => none

/-- Whether the request of `g` is the oldest of its core at its queue (R312). -/
def State.oldest (s : State) (g : Gctx) (t : Txn) (q : Nat) : Bool :=
  (ctxsOf (coreOf g)).all fun h => match s.waitsIn q h with | some u => decide (t.ord ≤ u.ord) | none => true

/-- How far position `p` lies in the search that starts after the last grant (R311). -/
def ringDist (last p : Nat) : Nat := (p + 15 - last) % 16

/-- Whether a core waits at the shared port of bank `b`. -/
def State.coreWaits (s : State) (b : BankId) (n : Nat) : Bool := allCtx.any fun g => g.val / 8 == n && (s.waitsIn b.val g).isSome

/-- Whether position `pos` is granted next at the shared port of bank `b` (R311): no core that waits there comes before it. -/
def State.turn (s : State) (b : BankId) (pos : Nat) : Bool :=
  (List.range 8).all fun n => !s.coreWaits b n || decide (ringDist s.bank[b].last pos ≤ ringDist s.bank[b].last n)

end Sys2Proof.Machine
end

