-- ==== Sys2Proof/Machine/SessOps.lean ====
section
/-! DEFINITION. Closing sessions (R579, R587). -/

namespace Sys2Proof.Machine

/-- Closes the sessions that satisfy `p`; each is recorded with its cause. A session's open transfer goes with it (R579). -/
def State.closeWhere (s : State) (p : Session → Bool) (cause : Nat) : State :=
  let gone := s.dict.sessions.filter p
  let s := s.modDict fun d => { d with sessions := d.sessions.filter fun x => !p x }
  gone.foldl (fun s x => s.rec_ 0x1021 0x50 x.id.toNat cause) s

/-- Closes every session, half-open ones with it (R570, R579). -/
def State.closeAll (s : State) (cause : Nat) : State := (s.closeWhere (fun _ => true) cause).modDict fun d => { d with half := [] }

end Sys2Proof.Machine
end

