-- ==== Sys2Proof/Machine/Settle.lean ====
section
/-! DEFINITION. What follows from a change of key position or operating state, wherever it came from: outputs,
publications, CAN requests, the edit, calibration, injections, INTLK (R301, R395, R453, R497, R527, R612, R717). -/

namespace Sys2Proof.Machine

/-- INTLK is released; it changes level, so line 184 is asserted (R177, R612). -/
def State.dropIntlk (s : State) : State :=
  if s.tdm.holds then (s.modTdm fun t => { t with holds := false, freeAt := s.clk }).assertLine 184 else s

/-- Whether the partner TRAIL is healthy (R626). -/
def State.trailHealthy (s : State) : Bool :=
  s.tdm.st == 2 && s.tdm.pHealth.toNat % 64 == 63 &&
    (match s.tdm.pHealthAt with | some t => decide (s.clk < t + 30000000) | none => false)

/-- LEAD gives up its role: it is a TRAIL that is not in step from then on (R611, R612); its MDP sessions close (R579). -/
def State.giveUp (s : State) : State :=
  (s.dropIntlk.modTdm fun t => { t with st := 5, outAt := s.clk, swAt := some s.clk, joinStep := 0 }).closeAll 2

/-- The mismatch action FAILOVER releases INTLK once HALT is entered, on a LEAD with a healthy TRAIL (R256, R612). -/
def State.failover (s : State) : State :=
  let s' := s.modOp fun o => { o with failover := false }
  if s.op.failover ∧ s.op.st = .halt ∧ s.trailHealthy then s'.giveUp else s'

/-- Every injection ends (R717); `rec` says that each is recorded with code A011h, cause 1. -/
def State.endInjections (s : State) : State :=
  let on := s.inj.filter fun p => p.2.st != 0
  let s := { s with inj := (s.inj.map fun p => (p.1, { p.2 with st := 0 })).filter fun p => p.2 != ⟨0, 0, 0, 0⟩ }
  on.foldl (fun s p => s.rec_ 0xA011 srcGaffer p.1 1) s

/-- The key position becomes RUN (R453, R717). -/
def State.keyRun (s : State) : State := (s.calAbort 2).endInjections

/-- Entry to STOP or HALT (R301, R527). -/
def State.notRun (s : State) : State :=
  let s := s.canStop
  if s.prog.edit.st = 1 ∨ s.prog.edit.st = 2 then s.cancelEdit 1 else s

/-- What a change from `s0` to `s` brings with it. -/
def State.settle (s0 s : State) : State :=
  let changed := s0.op.st != s.op.st
  let s := when_ changed (·.gooseState (s0.op.st == .run)) s
  let s := when_ (changed && s.op.st != .run) State.notRun s
  let s := when_ (s0.op.key != 1 && s.op.key == 1) State.keyRun s
  let s := when_ (changed && s.leadPaired) (fun s => s.tlCommand 0 0 (.key s.op.key s.op.st.code s.op.haltCause.toNat)) s
  s.failover.refreshOutputs

/-- An operation with what follows from it. -/
def settled (f : State → State) (s : State) : State := s.settle (f s)

/-- An instruction with what follows from it where it changes the operating state (R168, R262). -/
def settledInsn (f : State → State) (s : State) : State := if (f s).op = s.op then f s else s.settle (f s)

end Sys2Proof.Machine
end

