-- ==== Sys2Proof/Machine/NvCmds.lean ====
section
/-! DEFINITION. Meanings of the commands of the record store and of the lehr (R344–R371). -/

namespace Sys2Proof.Machine

/-! ## Arbitration (R344) -/

/-- Whether an access of `g` to the record store waits for its grant: one that the fabric answers by itself does not. -/
def State.nvAsks (s : State) (g : Gctx) : Bool :=
  match s.waitsIn 11 g with
  | some t => s.nvBars (nvAllowed t.asked (t.addr.toNat - nvBase)) == 0
  | none => false

/-- Whether a fold of the volatile counters is due (R361). -/
def State.foldDue (s : State) : Bool := decide (s.nv.opAt + 1000000000 ≤ s.clk) && s.on

/-- Whether master `n` of the ring waits for the record store: core `n` for an access of one of its contexts or its page program, the gaffer (8)
for a record or a fold. -/
def State.nvWaits (s : State) (n : Nat) : Bool :=
  if h : n < 8 then s.nv.pb[n].prog.isSome || allCtx.any fun g => g.val / 8 == n && s.nvAsks g
  else s.recWaits || s.foldDue

/-- Whether the master that holds the grant still waits to use it. -/
def State.grantHeld (s : State) : Bool :=
  match s.nv.granted with
  | some n => if n = 9 then s.nv.queue != [] else s.nvWaits n
  | none => false

/-- The next waiting position of the ring C0–C7, gaffer, after the one granted last. -/
def State.ringNext (s : State) : Option Nat := ((List.range 9).map fun k => (s.nv.ring + 1 + k) % 9).find? fun n => s.nvWaits n

/-- NV_GRANT (R344): at most two grants in a row to the journal while others wait; in the lehr's step 4 the journal has
every grant (R367). -/
def opNvGrant (s : State) : State :=
  let v := s.nv
  if s.grantHeld ∨ v.inRecall then s
  else
    let others := if v.lehr = .none ∨ v.lehr = .step2 then s.ringNext else none
    match others with
    | some n =>
      if v.queue ≠ [] ∧ v.run < 2 then s.modNv fun v => { v with granted := some 9, run := v.run + 1 }
      else s.modNv fun v => { v with granted := some n, run := 0, ring := n }
    | none => if v.queue ≠ [] then s.modNv fun v => { v with granted := some 9, run := v.run + 1 } else s

/-- JOURNAL_DRAIN (R363): the oldest entry goes into its half. -/
def opJournalDrain (s : State) : State :=
  match s.nv.queue with
  | (off, w) :: r =>
    if s.nv.granted = some 9 ∧ !s.nv.inRecall then
      ((s.modNv fun v => { v with queue := r, drained := v.drained + 1, granted := none }).putWord (nvBase + off) w.toNat).wrote off 1
    else s
  | [] => s

/-! ## Page programs (R346–R349, R374) -/

/-- Updates the page buffer of core `n`. -/
def State.modPb (s : State) (n : CoreId) (f : PageBuf → PageBuf) : State :=
  s.modNv fun v => { v with pb := v.pb.set n (f v.pb[n]) }

/-- A program is refused with a cause (R349). -/
def PageBuf.refuse (p : PageBuf) (c : Nat) : PageBuf := { p with refused := true, cause := c }

/-- Whether a page offset lies in the application region (R345). -/
def inAppRegion (page : Nat) : Bool := decide (0x258000 ≤ page ∧ page + 64 ≤ 0x400000)

/-- A write of NVC_PBCTRLn (R346, R349, R374); `none` is status RULE. -/
def State.pbCtrl (s : State) (n : CoreId) (v : Word) : Option State :=
  let start := bitsOf v.toNat 0 4
  let len := bitsOf v.toNat 4 5
  if len = 0 ∨ 16 < len ∨ 16 < start + len then none
  else
    some (s.modPb n fun p =>
      let p := { p with start := start, len := len }
      if !v.getLsbD 16 then p
      else if !inAppRegion p.page.toNat then p.refuse 1
      else if p.prog.isSome then p.refuse 2
      else if s.nv.inRecall ∨ s.nv.lehr ≠ .none then p.refuse 3
      else { p with prog := some (start, len) })

/-- The words that a program writes: address and value. -/
def PageBuf.words (p : PageBuf) (start len : Nat) : List (Nat × Word) :=
  ((List.range 16).filter fun i => decide (start ≤ i ∧ i < start + len)).map fun i => (nvBase + p.page.toNat + 4 * i, p.data.toList.getD i 0)

/-- A page program completes as a whole (R347). -/
def State.programPage (s : State) (n : CoreId) : State :=
  let p := s.nv.pb[n]
  match p.prog with
  | some (start, len) =>
    let s := s.putWords ((p.words start len).map fun x => (x.1, x.2.toNat))
    ((s.modPb n fun p => { p with prog := none, done := true }).modNv fun v => { v with granted := none }).wrote p.page.toNat len
  | none => s

/-- PAGE_PROGRAM_DONE (R347). -/
def opPageProgramDone (n : CoreId) (s : State) : State := if s.nv.granted = some n.val then s.programPage n else s

/-! ## Folding (R361) -/

/-- Folds the volatile switching counts of the channels. -/
def State.foldSwitching (s : State) : State :=
  let s' := allCh.foldl (fun s c => s.count (4 + c.val) (s.fch c).volSw) s
  s'.modFld fun d => { d with ch := d.ch.map fun c => { c with volSw := 0 } }

/-- Folds the sector write counts as they stood before. -/
def State.foldSectors (s : State) : State :=
  let l := s.nv.secVol
  let s := s.modNv fun v => { v with secVol := [] }
  l.foldl (fun s p => s.count (68 + p.1) p.2) s

/-- Folds the operating time in whole milliseconds. -/
def State.foldTime (s : State) : State :=
  let ms := (s.clk - s.nv.opAt) / 1000000
  (s.count 1 ms).modNv fun v => { v with opAt := v.opAt + ms * 1000000 }

/-- COUNTER_FOLD (R361): each second while powered, under a grant to the gaffer (R344). -/
def opCounterFold (s : State) : State :=
  if s.foldDue ∧ s.nv.granted = some 8 then
    (s.modNv fun v => { v with granted := none }).foldSwitching.foldSectors.foldTime
  else s

/-! ## The lehr (R367–R370) -/

/-- The activations that step 3 abandons: those in progress whose END has not committed (R80). -/
def State.unfinished (s : State) : List Gctx := allCtx.filter fun g => (s.cx g).inProgress && (s.cx g).act.status != .committing true

/-- Step 3 (R367): what still runs is abandoned, page programs complete, the journal has every grant from now on. -/
def State.lehrStep3 (s : State) : State :=
  let n := s.unfinished.length
  let s := s.abandonAll
  let s := (List.finRange 8).foldl (fun s c => s.programPage c) s
  s.modNv fun v => { v with lehr := .step4, abandoned := n, granted := none }

/-- LEHR_STEP_3 (R367): when nothing is in progress any more, at the latest 1 ms after t0. -/
def opLehrStep3 (s : State) : State :=
  if s.nv.lehr = .step2 ∧ (s.inProgress = [] ∨ s.nv.t0 + 1000000 ≤ s.clk) then s.lehrStep3 else s

/-! ## Meanings -/

/-- NV_GRANT (R344). -/
def execNvGrant (s : State) : Host.Outcome State Fault Refusal := .next (opNvGrant s)

/-- JOURNAL_DRAIN (R363). -/
def execJournalDrain (s : State) : Host.Outcome State Fault Refusal := .next (opJournalDrain s)

/-- PAGE_PROGRAM_DONE (R347). -/
def execPageProgramDone (n : CoreId) (s : State) : Host.Outcome State Fault Refusal := .next (opPageProgramDone n s)

/-- COUNTER_FOLD (R361). -/
def execCounterFold (s : State) : Host.Outcome State Fault Refusal := .next (opCounterFold s)

/-- LEHR_STEP_3 (R367). -/
def execLehrStep3 (s : State) : Host.Outcome State Fault Refusal := .next (settled opLehrStep3 s)

end Sys2Proof.Machine
end

