-- ==== Sys2Proof/Machine/PowerOps.lean ====
section
/-! DEFINITION. Device resets: how one is asked for, what runs before it takes effect (R370, R663, R773, R774). -/

namespace Sys2Proof.Machine

/-- Updates supply and start-up. -/
def State.modPwr (s : State) (f : Pwr → Pwr) : State := { s with pwr := f s.pwr }

/-- A device reset with a cause (R370, R773, R777): lehr steps 3 to 6 run before it takes effect, and it takes effect at
once while recall has not completed (R774). INTLK is released (R612). Nothing else is asked for once a lehr runs. -/
def State.requestReset (s : State) (cause : Nat) : State :=
  if s.pwr.resetPend.isSome ∨ s.nv.lehr ≠ .none then s
  else
    let s := s.dropIntlk.modPwr fun p => { p with resetPend := some cause }
    if s.nv.inRecall then s.modNv fun v => { v with lehr := .done }
    else (s.modNv fun v => { v with t0 := s.clk, qAtT0 := v.queue.length }).lehrStep3

end Sys2Proof.Machine
end

