-- ==== Sys2Proof/Machine/BankOps.lean ====
section
/-! DEFINITION. Bank operations: scrubbing, write-backs, marches, repairs, loading core banks (R308–R338). -/

namespace Sys2Proof.Machine

/-- Whether address `a` lies in bank `b`. -/
def inBank (b : BankId) (a : Nat) : Bool := decide (bankBase b ≤ a ∧ a < bankBase b + 4 * bankWords b)

/-- Whether a bank has an owner that is a core, and which. -/
def coreOfBank (b : BankId) : Option CoreId := if h : b.val < 8 then some ⟨b.val, h⟩ else none

/-! ## Scrubber and write-backs (R320, R322) -/

/-- The scrubber goes on to the next word. -/
def Bank.scrubNext (k : Bank) (words : Nat) : Bank :=
  if k.scrub + 1 < words then { k with scrub := k.scrub + 1, last := 14 } else { k with scrub := 0, passes := k.passes + 1, last := 14 }

/-- SCRUB_READ (R322): one word at ring position 14, while no march pauses the scrubber (R329). -/
def opScrubRead (b : BankId) (s : State) : State :=
  if s.bank[b].march.isSome ∨ !s.turn b 14 then s
  else (s.eccCheck b (bankBase b + 4 * s.bank[b].scrub) 1).modBank b fun k => k.scrubNext (bankWords b)

/-- CORRECTED_WRITE_BACK (R320): the oldest corrected word is written back. -/
def opWriteBack (b : BankId) (s : State) : State :=
  match s.bank[b].wb with
  | w :: r =>
    let s := s.modBank b fun k => { k with wb := r }
    { s with errs := if sget 0 s.errs w = 1 then sset 0 s.errs w 0 else s.errs }
  | [] => s

/-- HELD_WRITE (R317): the owner's write that waited is applied. -/
def opHeldWrite (b : BankId) (s : State) : State :=
  match s.bank[b].heldW with
  | some w => (s.modBank b fun k => { k with heldW := none }).bankWrite w.addr.toNat w.size w.data
  | none => s

/-! ## Contents of a bank -/

/-- Memory with bank `b` all zero. -/
def clearBank (m : List Host.Cell) (b : BankId) : List Host.Cell := m.filter fun c => !inBank b c.1

/-- Error marks with those of bank `b` removed. -/
def clearErrs (e : List (Nat × Nat)) (b : BankId) : List (Nat × Nat) := e.filter fun p => !inBank b (4 * p.1)

/-- The error marks of bank `b`: word address / 4 and kind. -/
def State.errsOf (s : State) (b : BankId) : List (Nat × Nat) := s.errs.filter fun p => inBank b (4 * p.1)

/-- `n` words of ones from word address `w`. -/
def fillOnes (m : List Host.Cell) (w : Nat) : Nat → List Host.Cell
  | 0 => m
  | n + 1 => fillOnes (wrMem m (4 * w) 4 0xFFFFFFFF) (w + 1) n

/-- What a destructive march that failed in element `e` at word `w` leaves (R324): the words of the pass up to there
written, the others as the element before left them; the failing word is not known. -/
def State.leftBy (s : State) (b : BankId) (w e : Nat) : List Host.Cell :=
  let m := clearBank s.mem b
  let base := bankBase b / 4
  let n := bankWords b
  let ones := if e = 1 ∨ e = 4 then (base, w) else if e = 2 ∨ e = 3 then (base + w + 1, n - (w + 1)) else (base, 0)
  wrMem (fillOnes m ones.1 ones.2) (bankBase b + 4 * w) 4 s.freeWord.toNat

/-! ## Reloading a core bank (R41, R330, R666) -/

/-- The RUNTIME section of the firmware in force: CB offset and bytes. -/
def State.runtimeSec (s : State) : Nat × List Byte :=
  match (s.sec.fw[(s.sec.active - 1) % 2]'(Nat.mod_lt _ (by decide))).image with
  | some c => (match sectionOf (bodyOf c) 2 with | some x => (x.load, sub_ (bodyOf c) x.off x.len) | none => (0, []))
  | none => (0, [])

/-- The containers of the program as it is loaded: base, accepted edits, and an edit at or past ARMED. -/
def State.loadedImages (s : State) : List (List Byte) :=
  let sl := s.prog.slots[slotIdx s.prog.active]
  if s.prog.loaded then (sl.base.toList ++ sl.edits ++ (if 2 ≤ s.prog.edit.st then [s.prog.edit.image] else [])) else []

/-- Their blocks. -/
def State.loadedBlocks (s : State) : List (Nat × List Byte) := s.loadedImages.flatMap fun c => placement (bodyOf c)

/-- Whether the RUNTIME section in force verifies against its hash (R743). -/
def State.runtimeOk (s : State) : Bool :=
  match (s.sec.fw[(s.sec.active - 1) % 2]'(Nat.mod_lt _ (by decide))).image with
  | some c => (match sectionOf (bodyOf c) 2 with | some x => x.ok (bodyOf c) | none => true)
  | none => true

/-- Whether the RUNTIME section and the blocks verify when they are read from the image store again (R278, R743). -/
def State.blocksOk (s : State) : Bool :=
  s.loadedImages.all (fun c => (chk3 (bodyOf c)).isNone) && s.runtimeOk

/-- Powers core `n` and loads the runtime and the program's blocks of the core into its bank, unless the bank is FAILED (R31, R41, R333). -/
def State.loadCb (s : State) (n : CoreId) : State :=
  if s.bank[cbOf n].failed then s
  else
    let rt := s.runtimeSec
    (s.modCore n fun c => { c with powered := true }).putBlocks
      ((cbBase n.val + rt.1, rt.2) :: s.loadedBlocks.filter fun p => inBank (cbOf n) p.1)

/-- Reloads of core `n` within the last 60 s. -/
def State.recentReloads (s : State) (n : CoreId) : List Nat := s.core[n].reloadAt.filter fun t => s.clk < t + 60000000000

/-- A reload that fails, or one too many (R667). -/
def State.reloadFails (s : State) (n : CoreId) : State :=
  (s.rec_ 0x9004 (0x40 + n.val) n.val (s.recentReloads n).length).requestReset 5

/-! ## Marches (R327–R336) -/

/-- The phase of C103h. -/
def phaseOf (m : March) : Nat := b2n (!m.startup)

/-- A march of `alg` may run on bank `b` on request (R327): 3 algorithm not permitted, 1 owner not quiesced. -/
def State.marchBars (s : State) (b : BankId) (destructive : Bool) : Option Nat :=
  let stop := s.op.st == .stop && s.op.stopping.isNone
  match coreOfBank b with
  | some n => if stop || !s.carries n then none else some 1
  | none => if b.val = 10 ∨ destructive then some 3 else if stop then none else some 1

/-- A march begins. -/
def State.startMarch (s : State) (b : BankId) (destructive startup : Bool) : State :=
  s.modBank b fun k => { k with march := some ⟨destructive, startup, false⟩, alg := b2n destructive, result := 1, cause := 0 }

/-- A request of a core through MEM_MARCHb (R336): ALG and START of the value, 2–3 in ALG being reserved. -/
def State.marchReq (s : State) (g : Gctx) (b : BankId) (v : Word) : Option State :=
  let alg := v.toNat % 4
  let refuse (c : Nat) := s.modBank b fun k => { k with alg := alg, result := 5, cause := c }
  if 2 ≤ alg then none
  else if !v.getLsbD 4 then some (s.modBank b fun k => { k with alg := alg })
  else if s.bank[b].march.isSome then some (s.modBank b fun k => { k with alg := alg, result := 5, cause := 2 })
  else
    match s.marchBars b (alg == 1) with
    | some 3 => some (refuse 3)
    | o =>
      if (coreOf g).val = b.val then some (refuse 4)
      else match o with
        | some c => some (refuse c)
        | none => some (s.startMarch b (alg == 1) false)

/-- A march request through the dictionary (R338). -/
def State.marchCmd (s : State) (b : BankId) (destructive : Bool) : Res :=
  if (s.marchBars b destructive).isSome then (s, some (abState s))
  else if s.bank[b].march.isSome then (s, some abBusy)
  else (s.startMarch b destructive false, none)

/-- A march passes (R324, R326, R331). -/
def State.marchPass (s : State) (b : BankId) (m : March) : State :=
  (s.modBank b fun k => { k with
    march := none, result := if m.repaired then 3 else 2, mfailW := 0xFFFFFFFF, failed := k.failed && !m.destructive }).rec_
      0xC103 (0x60 + b.val) b.val (b2n m.destructive) (phaseOf m)

/-- A march fails finally (R331). -/
def State.marchFail (s : State) (b : BankId) (addr element : Nat) (inj : Bool) : State :=
  (s.modBank b fun k => { k with march := none, result := 4, mfail := true, failed := true, mfailW := BitVec.ofNat 32 addr }).recInj
    0xC104 (0x60 + b.val) b.val addr element inj

/-- The row of a word (R323). -/
def rowOf (w : Nat) : Nat := w / 512

/-- A repair (R331, R332): the row goes to a free slot, the table is written, the march begins again. -/
def State.repair (s : State) (b : BankId) (m : March) (row slot : Nat) : State :=
  let s := s.modBank b fun k => { k with
    rep0 := if slot = 0 then some row else k.rep0, rep1 := if slot = 1 then some row else k.rep1
    march := some { m with repaired := true } }
  (s.twinWrite 3 3).rec_ 0xC105 (0x60 + b.val) b.val row slot

/-- The first free repair slot for a row that is not repaired yet. -/
def Bank.slotFor (k : Bank) (row : Nat) : Option Nat :=
  if k.rep0 = some row ∨ k.rep1 = some row then none
  else if k.rep0.isNone then some 0 else if k.rep1.isNone then some 1 else none

/-- A destructive march that failed in element `e` at word `w`: element 0 wrote every word with valid check bits; what the failing word holds and
whether it reads as an error is not known. -/
def State.failedAt (s : State) (b : BankId) (w e : Nat) : State :=
  { s with mem := s.leftBy b w e, errs := sset 0 (clearErrs s.errs b) (bankBase b / 4 + w) (s.freeWord.toNat % 3) }.draw

/-- A destructive march has run through its elements: every word is zero (R324). -/
def State.zeroed (s : State) (b : BankId) : State := { s with mem := clearBank s.mem b, errs := clearErrs s.errs b }

/-- A core bank that held code is loaded again after a destructive march on request (R330); a block that does not verify ends as a reload that
fails (R278, R667). -/
def State.refill (s : State) (b : BankId) (m : March) : State :=
  match coreOfBank b with
  | some n =>
    if m.destructive && !m.startup && !s.bank[b].failed && s.core[n].powered then (if s.blocksOk then s.loadCb n else s.reloadFails n) else s
  | none => s

/-- The end of a destructive march. -/
def State.endDestructive (s : State) (b : BankId) (m : March) (o : MarchOutcome) : State :=
  match o with
  | .pass => (s.zeroed b).marchPass b m
  | .failAt w e =>
    let w := w % bankWords b
    match s.bank[b].slotFor (rowOf w) with
    | some k => (s.failedAt b w e).repair b m (rowOf w) k
    | none => ((s.failedAt b w e).marchFail b (bankBase b + 4 * w) e false)
  | .failSignature e => (s.zeroed b).marchFail b 0xFFFFFFFF e false

/-- What the signature pass of a transparent march finds (R326): correctable words are corrected and counted,
uncorrectable ones reported. -/
def State.signature (s : State) (b : BankId) : State :=
  (s.errsOf b).foldl (fun s p =>
    if p.2 = 2 then s.reportUe b (4 * p.1) 3 false
    else ({ s with errs := sset 0 s.errs p.1 0 }).modBank b fun k => { k with ce := true, ceCnt := k.ceCnt + 1 }) s

/-- The first word of bank `b` with an uncorrectable error. -/
def State.firstUe (s : State) (b : BankId) : Option Nat := ((s.errsOf b).find? fun p => p.2 == 2).map (·.1)

/-- The end of a transparent march (R325, R326). -/
def State.endTransparent (s : State) (b : BankId) (m : March) (o : MarchOutcome) : State :=
  let ue := s.firstUe b
  let s := s.signature b
  match ue, o with
  | some w, _ => s.marchFail b (4 * w) 0 false
  | none, .pass => s.marchPass b m
  | none, .failAt w e => s.marchFail b (bankBase b + 4 * (w % bankWords b)) e false
  | none, .failSignature e => s.marchFail b 0xFFFFFFFF e false

/-- The end of a march that detector 124 fails (R715): the bank is left as a passing march leaves it. -/
def State.endInjected (s : State) (b : BankId) (m : March) : State :=
  let s := s.injDone 124
  ((if m.destructive then s.zeroed b else s.signature b).marchFail b 0xFFFFFFFF 5 true)

/-- A march ends (R331); a real failure comes before the injected one (R719). -/
def State.marchEnd (s : State) (b : BankId) (o : MarchOutcome) : State :=
  match s.bank[b].march with
  | some m =>
    let real := o != .pass || (!m.destructive && (s.firstUe b).isSome)
    let s' := if s.injFor 124 b.val && !real then s.endInjected b m
      else (if m.destructive then s.endDestructive b m o else s.endTransparent b m o)
    if s'.bank[b].march.isSome then s' else s'.refill b m
  | none => s

/-- Whether a march runs on a core bank that takes one of the blocks (R329). -/
def State.marchUnder (s : State) (l : List (Nat × List Byte)) : Bool :=
  (List.finRange 8).any fun n => s.bank[cbOf n].march.isSome && l.any fun p => inBank (cbOf n) p.1

/-- The blocks of the containers of a program slot. -/
def State.slotBlocks (s : State) (slot : Nat) : List (Nat × List Byte) :=
  let sl := s.prog.slots[slotIdx slot]
  (sl.base.toList ++ sl.edits).flatMap fun c => placement (bodyOf c)

/-- A load that waited for a march runs once none is left under its blocks (R329). -/
def State.waitedLoad (s : State) : State :=
  match s.prog.waitLoad with
  | some (r, slot, fail) =>
    if s.marchUnder (s.slotBlocks slot) then s
    else
      let q := (s.modProg fun p => { p with waitLoad := none, storeFault := fail }).loadReq slot
      (q.1.modProg fun p => { p with storeFault := none }).answerLate r q.2
  | none => s

/-- CLEAR_REPAIRS (R332). -/
def State.clearRepairs (s : State) (b : BankId) : Res :=
  ((s.modBank b fun k => { k with rep0 := none, rep1 := none }).twinWrite 3 3, none)

end Sys2Proof.Machine
end

