-- ==== Sys2Proof/Machine/ImageCmds.lean ====
section
/-! DEFINITION. Meanings of the commands of the process image: commits, held publications, the sweep, forces
(R123–R148, R363, R364). -/

namespace Sys2Proof.Machine

/-! ## Ownership at a commit (R144, R222, R291) -/

/-- The bits of output word `w` that context `g` owns under an ownership table. -/
def ownMask (own : List (Nat × Nat)) (split : List SplitEnt) (g w : Nat) : Word :=
  if reservedWord w then 0
  else if sget 0 own w = g + 1 then 0xFFFFFFFF
  else (split.filter fun e => e.word == w && e.ctx == g).foldl (fun m e => m ||| e.mask) 0

/-- The bits of word `w` that a commit may change (R291). -/
def State.mayChange (s : State) (c : Commit) (w : Nat) : Word :=
  match c.leaving, s.prog.leave with
  | true, some l => ownMask l.own l.split c.ctx.val w
  | _, _ =>
    if c.newVer && s.newVersion then ownMask s.img.ownNew s.img.splitNew c.ctx.val w else ownMask s.img.own s.img.split c.ctx.val w

/-- The entries of a commit that lose bits, with the bits they lose. -/
def State.drops (s : State) (c : Commit) : List (Nat × Word) :=
  c.entries.filterMap fun e =>
    let d := e.mask &&& ~~~(s.mayChange c e.word)
    if d = 0 then none else some (e.word, d)

/-- The output words after a commit (R144). -/
def State.committed (s : State) (c : Commit) : List (Nat × Word) :=
  c.entries.foldl (fun m e =>
    let k := e.mask &&& s.mayChange c e.word
    sset 0 m e.word ((sget 0 m e.word &&& ~~~k) ||| (e.val &&& k))) s.img.out

/-- An ownership drop is reported (R144, R157). -/
def State.reportDrop (s : State) (g : Gctx) (w : Nat) (mask : Word) (inj : Bool) : State :=
  ((s.modImgCtx g fun i => { i with owndrop := true }).modImg fun i => { i with ownviol := true }).recInj
    0x2041 g.val g.val w mask.toNat inj

/-- The drops of a commit, with the one that detector 47 reports (R714, R715). -/
def State.reportDrops (s : State) (c : Commit) : State :=
  let d := s.drops c
  let inj := s.injFor 47 c.ctx.val
  let s := if d.isEmpty && !inj then s else s.modImg fun i => { i with dropCnt := satInc i.dropCnt }
  let s := d.foldl (fun s x => s.reportDrop c.ctx x.1 x.2 false) s
  if inj then
    (if d.isEmpty then (s.injDone 47).reportDrop c.ctx (s.det 47).b.toNat 0 true else s.injDone 47)
  else s

/-! ## The journal at a commit (R363–R365) -/

/-- The retained words of a commit: record-store offset and value. -/
def State.journalOf (s : State) (c : Commit) : List (Nat × Word) :=
  let v := s.retVer c.newVer c.leaving
  let addrs := retAddrs v.1
  c.dirty.filterMap fun i => addrs[i]?.map fun a => (halfOff v.2 + 4 * i, rdWord s.mem a)

/-- Whether the journal has room for a commit (R364). -/
def State.room (s : State) (c : Commit) : Bool := decide ((journalAll s.nv.queue (s.journalOf c)).length ≤ journalMax)

/-- A commit has to wait for journal room (R364). -/
def State.countWait (s : State) : State := s.modNv fun v => { v with qwait := true, waitCnt := satInc v.waitCnt }

/-- The record of a wait, made when it is over (R364, R377). -/
def State.recWait (s : State) (c : Commit) (inj : Bool) : State :=
  s.recInj 0xC006 0x56 c.ctx.val s.nv.queue.length (s.clk - c.waiting.getD s.clk) inj

/-! ## The consumers of the output words (R139, R396, R405, R448, R494, R525) -/

/-- The field-channel controller and the pulse sources take their sample. -/
def State.sampleField (s : State) : State := s.applyPresets.applyPulseCtl.refreshOutputs

/-- Every consumer takes its sample of `words`. -/
def State.sampled (s : State) (words : List Nat) : State := (s.sampleField.gooseCommit words).canCommit words

/-! ## Commits (R68, R71, R80, R137–R142) -/

/-- A background task is released again at once after its END (R66). -/
def State.again (s : State) (g : Gctx) : State :=
  if (s.cx g).taskNow.kind = .background ∧ (s.cx g).act.status = .idle ∧ s.releasing then
    (if (s.cx g).act.owed then s.payOwed g else s.release g)
  else s

/-- COMMIT retires, and an activation to be abandoned meanwhile is abandoned now (R80). -/
def State.commitRetires (s : State) (g : Gctx) : State :=
  let after := (s.cx g).act.after
  let s := ((s.modRegs g fun r => { r with pc := r.pc + 4 }).retired g (s.cx g).regs.pc).setStatus g .ready
  match after with
  | some st => s.abandonTo g st
  | none => s

/-- The committing context goes on: END completes the activation, COMMIT retires. -/
def State.commitEnds (s : State) (c : Commit) : State :=
  if c.byEnd then ((s.complete c.ctx).again c.ctx).stopIfIdle else (s.commitRetires c.ctx).stopIfIdle

/-- A commit is applied as a whole (R138). -/
def State.applyCommit (s : State) (c : Commit) : State :=
  let out := s.committed c
  let words := (c.entries.map (·.word)).filter fun w => sget 0 out w != s.outWord w
  let s := s.reportDrops c
  let s := s.enqueue (s.journalOf c)
  let s := s.modImg fun i => { i with out := out, commits := i.commits.drop 1 }
  ((s.sampled words).commitEnds c)

/-- The commit at the head starts to wait (R364). -/
def State.holdCommit (s : State) (c : Commit) : State :=
  (s.modImg fun i => { i with commits := { c with waiting := some s.clk } :: i.commits.drop 1 }).countWait

/-- COMMIT_COMPLETE (R137): the first commit that arrived, unless it waits for the journal. -/
def opCommitComplete (s : State) : State :=
  match s.img.commits with
  | c :: _ =>
    if c.waiting.isSome then s
    else if s.room c then
      (if s.injFor 121 c.ctx.val then (s.injDone 121).countWait.recWait c true else s).applyCommit c
    else s.holdCommit c
  | [] => s

/-- JOURNAL_ROOM (R364): a commit that waited proceeds. -/
def opJournalRoom (s : State) : State :=
  match s.img.commits with
  | c :: _ => if c.waiting.isSome ∧ s.room c then (s.recWait c false).applyCommit c else s
  | [] => s

/-! ## Publications and the sweep (R123, R129) -/

/-- HELD_PUBLICATION (R123). -/
def opHeldPublication (src : Nat) (s : State) : State :=
  match sget none s.img.heldPub src with
  | some p => if s.pubDue src ∧ !s.isTrail ∧ !s.ibMarches then s.publishNow p else s
  | none => s

/-- The aging marks of a sweep (R129). -/
def State.age (s : State) : State :=
  { s with
    img := { s.img with
      ver := s.img.ver.map fun p => (p.1, ageVersions s.img.epoch p.2), sweep := false, sweepCnt := s.img.sweepCnt + 1 }
    ctx := s.ctx.map fun (c : Ctx) => { c with img := { c.img with gaged := c.img.gaged || farBehind s.img.epoch c.img.gather } } }

/-- SWEEP_COMPLETE (R129). -/
def opSweepComplete (s : State) : State := if s.img.sweep then s.age else s

/-! ## Forces (R145–R148, R156) -/

/-- The forced bits in effect. -/
def State.forceCount (s : State) : Nat := s.img.forces.length

/-- FORCE_SET (R145, R156): the bit and value of 2210h:01 and :02. -/
def State.forceSet (s : State) : Res :=
  let a := s.cfg 0x2210 1 0
  let v := s.cfg 0x2210 2 0
  if s.op.key ≠ 2 then (s, some (abState s))
  else if 2 ^ 20 ≤ a then (s, some abRange)
  else if 512 ≤ s.forceCount ∧ (sget none s.img.forces a).isNone then (s, some abRange)
  else
    (((s.modImg fun i => { i with forces := sset none i.forces a (some (v == 1)) }).rec_ 0x2042 0x51 a v).sampleField, none)

/-- FORCE_CLEAR (R156). -/
def State.forceClear (s : State) : Res :=
  let a := s.cfg 0x2210 1 0
  if s.op.key ≠ 2 then (s, some (abState s))
  else if 2 ^ 20 ≤ a then (s, some abRange)
  else if (sget none s.img.forces a).isNone then (s, none)
  else (((s.modImg fun i => { i with forces := sset none i.forces a none }).rec_ 0x2043 0x51 a 1).sampleField, none)

/-- FORCE_CLEAR_ALL (R156); it is recorded with the number it cleared, 0 included (DEDUCED, log entry 85). -/
def State.forceClearAll (s : State) : Res :=
  if s.op.key ≠ 2 then (s, some (abState s))
  else (((s.modImg fun i => { i with forces := [] }).rec_ 0x2043 0x51 0xFFFFFFFF s.forceCount).sampleField, none)

/-! ## Meanings -/

/-- COMMIT_COMPLETE (R137). -/
def execCommitComplete (s : State) : Host.Outcome State Fault Refusal := .next (settled opCommitComplete s)

/-- JOURNAL_ROOM (R364). -/
def execJournalRoom (s : State) : Host.Outcome State Fault Refusal := .next (settled opJournalRoom s)

/-- HELD_PUBLICATION (R123). -/
def execHeldPublication (src : Nat) (s : State) : Host.Outcome State Fault Refusal := .next (settledInsn (opHeldPublication src) s)

/-- SWEEP_COMPLETE (R129). -/
def execSweepComplete (s : State) : Host.Outcome State Fault Refusal := .next (opSweepComplete s)

end Sys2Proof.Machine
end

