-- ==== Sys2Proof/Machine/Supervise.lean ====
section
/-! DEFINITION. Meanings of the commands of supervision (R662–R690). -/

namespace Sys2Proof.Machine

/-! ## Reload of a core (R666, R667) -/

/-- The contexts whose tasks a reload of core `n` affects (R666): its own, and the paired ones of its pair. -/
def State.affectedBy (s : State) (n : CoreId) : List Gctx :=
  allCtx.filter fun g => coreOf g == n || ((s.cx g).taskNow.paired && pairOf g == pairOfCore n)

/-- Context and control registers of core `n` at their reset values (R775). -/
def State.resetRegs (s : State) (n : CoreId) : State :=
  (ctxsOf n).foldl (fun s g => s.modRegs g fun _ => Regs.blank n.val) s

/-- A reload of core `n` starts (R666). -/
def State.startReload (s : State) (n : CoreId) (cause : Nat) : State :=
  if s.core[n].reload.isSome then s
  else if s.cfg 0x9000 0x0A 3 ≤ (s.recentReloads n).length then s.reloadFails n
  else
    let l := s.affectedBy n
    let s := l.foldl (fun s g => (s.abandon g).unexpect g) s
    (s.resetRegs n).modCore n fun c => { c with reload := some cause, reloadAt := s.clk :: s.recentReloads n, clockOn := false }

/-- Retained words of context `g` in the layout in force: record-store offset and CB address. -/
def State.retainedOf (s : State) (g : Gctx) : List (Nat × Nat) :=
  (retWords s.retNow.1 g.val).map fun p => (halfOff s.retNow.2 + 4 * p.1, p.2)

/-- Whether the journal holds an entry of some of the contexts. -/
def State.journalHolds (s : State) (l : List Gctx) : Bool :=
  l.any fun g => (s.retainedOf g).any fun p => s.nv.queue.any fun e => e.1 == p.1

/-- A task resumes as on entry to RUN at the end of a reload (R87, R666); its skipped releases are recorded. -/
def State.resumeTask (s : State) (g : Gctx) : State :=
  let k := (s.cx g).act.reloadSkip
  let s := if k = 0 then s else s.rec_ 0x2012 g.val g.val k 3
  let s := s.modAct g fun a => { a with reloadSkip := 0, held := false, seen := some (s.time.tb + 999999), armFrom := s.clk + 1000000 }
  { s with sup := { s.sup with expCfg := s.sup.expCfg ||| (s.supervised &&& ctxBit g) } }

/-- Restores one retained word: its record-store offset and its place in a core bank (R342, R666). -/
def State.restoreWord (s : State) (w : Nat × Nat) : State :=
  let q := s.nvGet (nvBase + w.1)
  q.1.putWord w.2 q.2.toNat

/-- The end of a reload (R666 steps 3 to 5). -/
def State.endReload (s : State) (n : CoreId) (cause : Nat) : State :=
  let l := s.affectedBy n
  let s := s.loadCb n
  let s := (l.flatMap fun g => s.retainedOf g).foldl (fun s w => s.restoreWord w) s
  let ms := (s.clk - (s.core[n].reloadAt.head?.getD s.clk)) / 1000000
  let s := s.modCore n fun c => { c with reload := none, reloads := satInc c.reloads, lastRetire := s.clk }
  let s := if s.op.st = .run then l.foldl (fun s g => s.resumeTask g) s else l.foldl (fun s g => s.modAct g fun a => { a with reloadSkip := 0 }) s
  (s.clocks (pairOfCore n)).rec_ 0x9003 (0x40 + n.val) n.val ms cause

/-- CORE_RELOADED (R278, R666, R667): `ok` says that the core came up; the hashes of what is loaded are verified again. -/
def opCoreReloaded (n : CoreId) (ok : Bool) (s : State) : State :=
  match s.core[n].reload with
  | some c =>
    if !ok || !s.blocksOk then s.reloadFails n
    else if s.journalHolds (s.affectedBy n) then s
    else s.endReload n c
  | none => s

/-! ## Progress and core watchdog (R664, R665) -/

/-- Whether detector 8 + core reports for context `g`. -/
def State.injStall (s : State) (g : Gctx) : Bool := s.injFor (8 + g.val / 8) (g.val % 8)

/-- CONTEXT_STALLED (R664): detector 8 + core presents one. -/
def opContextStalled (g : Gctx) (s : State) : State :=
  let real := s.stalled g
  let inj := s.injStall g && (s.cx g).task.kind != .none
  if real || inj then
    let s := if inj then s.injDone (8 + g.val / 8) else s
    let s := s.recInj 0x9001 g.val g.val (s.cx g).regs.pc.toNat 0 (!real)
    let s := s.modSup fun p => { p with progN := sset 0 p.progN g.val (satInc (sget 0 p.progN g.val)), injected := !real }
    (s.abandon g).hardAction g
  else s

/-- Core `n` has a ready context and has retired nothing for 5 ms (R665); a halted context or the lehr stops the count
(R668, R679). -/
def State.coreStuck (s : State) (n : CoreId) : Bool :=
  s.nv.lehr == .none && s.core[n].up && (s.cands n).any (fun h => (s.cx h).act.status == .ready)
    && !(s.cands n).any (fun h => (s.cx h).act.dbgHalt) && decide (s.core[n].lastRetire + 5000000 ≤ s.clk)

/-- The context that runs on core `n`, else one that is ready, else context 0 of the core. -/
def State.runningOr (s : State) (n : CoreId) : Gctx :=
  ((s.runOf n).orElse fun _ => (s.cands n).find? fun h => (s.cx h).act.status == .ready).getD (ctxOf n 0)

/-- CORE_WATCHDOG (R665); detector n presents an expiry. -/
def opCoreWatchdog (n : CoreId) (s : State) : State :=
  let real := s.coreStuck n
  let inj := s.injOn n.val && s.nv.lehr == .none
  if real || inj then
    let s := if inj then s.injDone n.val else s
    let g := s.runningOr n
    let s := s.recInj 0x9002 (0x40 + n.val) n.val g.val (s.cx g).act.lastPc.toNat (!real)
    (s.modCore n fun c => { c with wdExpiries := satInc c.wdExpiries }).startReload n 0
  else s

/-! ## Engine timeouts (R662, R663) -/

/-- Limit of an engine in ns (R662): image engine, record-store controller, crypto engine. -/
def engineLimit (e : Fin 3) : Nat := if e.val = 0 then 1000 else if e.val = 1 then 5000 else 10000000

/-- SRC of the detector of an engine timeout (R662, R703): the engine itself, the gaffer for the crypto engine. -/
def engineSrc (e : Fin 3) : Nat := if e.val = 0 then 0x51 else if e.val = 1 then 0x56 else srcGaffer

/-- Updates the recovery state of an engine. -/
def State.modEngine (s : State) (e : Fin 3) (f : EngineSup → EngineSup) : State :=
  s.modSup fun p => { p with engine := p.engine.set e (f p.engine[e]) }

/-- The core that the failed command of an engine serves, if it serves one. -/
def State.engineCore (s : State) (e : Fin 3) : Option CoreId :=
  if e.val = 0 then (s.img.commits.head?).map fun c => coreOf c.ctx
  else if e.val = 1 then s.nv.granted.bind fun n => if h : n < 8 then some ⟨n, h⟩ else none
  else none

/-- The failed command ends with an error (R663): a commit changes nothing, an access of a core ends with TIMEOUT. -/
def State.failCommand (s : State) (e : Fin 3) : State :=
  if e.val = 0 then
    match s.img.commits with
    | c :: r => ({ s with img := { s.img with commits := r } }).commitEnds { c with entries := [], dirty := [] }
    | [] => s
  else if e.val = 1 then
    let s' := s.modNv fun v => { v with granted := none }
    match s.engineCore e with
    | some n =>
      let s' := s'.modPb n fun p => { p with prog := none }
      (ctxsOf n).foldl (fun s g => s.modPort g fun p =>
        match p.txn with
        | some t => if t.sent && inNv t.addr.toNat then { p with held := some ⟨5, 0⟩ } else p
        | none => p) s'
    | none => s'
  else s

/-- ENGINE_TIMEOUT (R662, R663): a retry, a restart of the engine, then the next step of the ladder. -/
def opEngineTimeout (e : Fin 3) (bad : Bool) (s : State) : State :=
  let inj := s.injOn (71 + e.val)
  let s := s.injDone (71 + e.val)
  let g := s.sup.engine[e]
  if g.step = 1 ∧ s.clk ≤ g.at_ + engineLimit e then
    let recent := s.clk :: g.restarts.filter fun t => s.clk < t + 60000000000
    let c := s.engineCore e
    let s := (s.failCommand e).modEngine e fun _ => { step := 0, restarts := recent, at_ := s.clk }
    if recent.length < 3 ∧ !bad then s.recInj 0x9006 (engineSrc e) e.val 2 0 inj
    else
      match c with
      | some n => (s.recInj 0x9006 (engineSrc e) e.val 3 0 inj).startReload n 2
      | none => (s.recInj 0x9006 (engineSrc e) e.val 4 0 inj).requestReset 5
  else (s.modEngine e fun x => { x with step := 1, at_ := s.clk }).recInj 0x9006 (engineSrc e) e.val 1 0 inj

/-! ## Device watchdog (R670–R680) -/

/-- Ticks of the watchdog oscillator since the window started (R671). -/
def State.wdgTicks (s : State) : Nat := (s.clk - s.sup.winAt) * (950000 + Config.wdgHz.val) / 1000000000

/-- Closed part and open end in force, in ticks (R671, R678). -/
def State.wdgClosed (s : State) : Nat := if s.sup.once then 0 else s.sup.tc * 1000

/-- The open end in ticks. -/
def State.wdgEnd (s : State) : Nat := if s.sup.once then 100000 else s.sup.to_ * 1000

/-- On and not frozen by the lehr, its window not held by a start in progress (R670, R679, R775). -/
def State.wdgRuns (s : State) : Bool := s.sup.on && s.nv.lehr == .none && s.pwr.phase != .steps

/-- One byte of a count. -/
def countByte (l : List (Nat × Nat)) (g : Nat) : Byte := BitVec.ofNat 8 (sget 0 l g)

/-- CTX_STATE.STATE of a context (R111); a paired task shows on both contexts (R238). A context in a commit is running. -/
def State.stateCode (s : State) (g0 : Gctx) : Nat :=
  let g := s.home g0
  match (s.cx g).act.status with
  | .idle => 0
  | .ready => if s.running g then 2 else 1
  | .waitEvent | .waitTime _ => 3
  | .committing _ => 2
  | .stopped => 4

/-- The evidence block (R690). What the gaffer's pcs show is not given, so they are free. -/
def State.evidenceBlock (s : State) (cause : Nat) : List Byte :=
  let p := s.sup
  leBytes 4 cause ++ leBytes 4 p.errcnt ++ leBytes 8 p.servedAt.toNat ++ leBytes 8 s.time.tb.toNat ++ leBytes 4 p.question.toNat
    ++ leBytes 4 p.ltally.toNat ++ leBytes 4 p.cur.tally.toNat ++ leBytes 4 p.cur.num ++ leBytes 4 s.freeWord.toNat
    ++ leBytes 4 (Config.freeWord (s.freeCtr + 1)).toNat ++ leBytes 8 p.cur.exp.toNat ++ leBytes 8 0
    ++ allCtx.flatMap (fun g => leBytes 4 (s.cx g).act.lastPc.toNat)
    ++ allCtx.map (fun g => BitVec.ofNat 8 (s.stateCode g))
    ++ allCtx.map (fun g => countByte p.cur.counts g.val) ++ allCtx.map (fun g => countByte p.lcounts g.val)

/-- Expiry, or the error limit (R674, R680): evidence is captured and the device is reset. -/
def State.wdgExpire (s : State) (cause : Nat) (inj : Bool) : State :=
  ((s.modSup fun p => { p with evidence := some (s.evidenceBlock cause), injected := inj }).draw.draw).requestReset (cause + 1)

/-- WDG_EXPIRED (R671); detector 40 presents an expiry. -/
def opWdgExpired (s : State) : State :=
  let real := decide (s.wdgEnd ≤ s.wdgTicks)
  let inj := s.injOn 40
  if s.wdgRuns && (real || inj) then (if inj then s.injDone 40 else s).wdgExpire 1 (!real) else s

/-- An error of the watchdog is counted and recorded (R673, R674). -/
def State.wdgError (s : State) (code p1 p3 : Nat) (inj : Bool) : State :=
  let n := min 15 (s.sup.errcnt + 1)
  let s := (s.modSup fun p => { p with errcnt := n, injected := inj }).recInj code 0x59 p1 n p3 inj
  if s.cfg 0x9000 4 8 ≤ n then s.wdgExpire 2 inj else s

/-- An accepted service (R673, R675, R676): a new window and a new question. -/
def State.wdgAccepted (s : State) : State :=
  (s.modSup fun p => { p with
    winAt := s.clk, question := s.freeWord, servedAt := s.time.tb, once := false
    tc := match p.next with | some x => x.1 | none => p.tc
    to_ := match p.next with | some x => x.2 | none => p.to_
    next := none }).draw

/-- The correct answer to the question (R675). -/
def State.wdgAnswer (s : State) : Word := crc32c (wordBytes s.sup.question ++ wordBytes s.sup.qTally)

/-- An early service (R673). -/
def State.wdgEarly (s : State) (inj : Bool) : State :=
  s.wdgError 0x9022 (s.wdgTicks * 1000000 / (950000 + Config.wdgHz.val)) 0 inj

/-- A wrong answer in the open part (R673). -/
def State.wdgWrong (s : State) (inj : Bool) : State :=
  s.wdgAccepted.wdgError 0x9021 s.sup.question.toNat s.sup.qTally.toNat inj

/-- The answer that the gaffer computes from the tally it expects (R687). -/
def State.gafferAnswer (s : State) : Word := crc32c (wordBytes s.sup.question ++ wordBytes s.sup.qExp)

/-- A service by the gaffer (R671–R675). -/
def State.wdgService (s : State) (answer : Word) : State :=
  if !s.wdgRuns then s
  else if s.wdgEnd ≤ s.wdgTicks then s.wdgExpire 1 false
  else if s.wdgTicks < s.wdgClosed then s.wdgEarly false
  else if answer = s.wdgAnswer then s.wdgAccepted.modSup fun p => { p with errcnt := p.errcnt - 1 }
  else s.wdgWrong false

/-- Detectors 41 and 42 present a wrong answer and an early service while the watchdog runs (R714, R715). -/
def State.injWatchdog (s : State) : State :=
  let s := if s.wdgRuns && s.injOn 41 then (s.injDone 41).wdgWrong true else s
  if s.wdgRuns && s.injOn 42 then (s.injDone 42).wdgEarly true else s

/-- Values of WDG_CFG that are not reserved (R676). -/
def wdgLegal (tc to_ : Nat) : Bool := decide (tc ≤ 999 ∧ 2 ≤ to_ ∧ to_ ≤ 1000 ∧ tc < to_)

/-- The watchdog turns on (R670, R675). -/
def State.wdgOn (s : State) (tc to_ : Nat) : State :=
  (s.modSup fun p => { p with
    on := true, tc := tc, to_ := to_, next := none, once := false, winAt := s.clk, errcnt := 0, question := s.freeWord }).draw.rec_ 0x9025 0x59 tc to_

/-- The write at the end of start-up step 3 (R670, R775): a watchdog that is on has its window held until then. -/
def State.wdgStart (s : State) : State :=
  let tc := s.cfg 0x9000 2 10
  let to_ := s.cfg 0x9000 3 50
  if s.sup.on then s.modSup fun p => { p with tc := tc, to_ := to_, next := none, once := false, winAt := s.clk, errcnt := 0 }
  else if s.cfg 0x9000 1 1 = 1 then s.wdgOn tc to_ else s

/-- A write of WDG_CFG by the gaffer (R670, R676): in the closed part it is discarded with an error response, as reserved values are. -/
def State.wdgCfg (s : State) (tc to_ : Nat) : State :=
  if !wdgLegal tc to_ then s.toBus 8 ⟨3, 0⟩
  else if !s.sup.on then s.wdgOn tc to_
  else if s.wdgRuns && decide (s.wdgEnd ≤ s.wdgTicks) then s.wdgExpire 1 false
  else if s.wdgTicks < s.wdgClosed then (s.rec_ 0x9023 0x59 tc to_ 2).toBus 8 ⟨3, 0⟩
  else (s.modSup fun p => { p with next := some (tc, to_) }).rec_ 0x9023 0x59 tc to_ (b2n s.sec.hot.isSome)

/-- GAFFER_SELF_WDG (R678): a restart with grace, or a device reset at a second expiry within 10 s. ROM holds it while the gaffer restarts
(R748). -/
def opGafferSelfWdg (pc : Word) (s : State) : State :=
  let inj := s.injOn 43
  if s.sup.restarting then s
  else
  let s := s.injDone 43
  let second := match s.sup.selfAt with | some t => decide (s.clk < t + 10000000000) | none => false
  if second then (s.modSup fun p => { p with selfRec := true, gpc := pc }).requestReset 4
  else
    let s := { s.closeAll 3 with sec := { s.sec with serving := none, hot := none } }
    (s.modSup fun p => { p with selfAt := some s.clk, once := true, winAt := s.clk, restarting := true, gpc := pc }).recInj
      0x9024 srcGaffer pc.toNat 0 0 inj

/-! ## Check-in (R681–R689) -/

/-- The check-in fault action of context `g` (R688). -/
def State.checkinAction (s : State) (g : Gctx) : State :=
  match s.cfg (0x9100 + g.val) 3 0 with
  | 0 => s
  | 1 => s.stopTask g 0
  | 2 => s.halt g 1
  | _ => s.startReload (coreOf g) 1

/-- CHECKIN_FAULT_ACTION (R688); it waits while the gaffer restarts (R749). -/
def opCheckinFault (s : State) : State :=
  if s.sup.restarting then s
  else s.sup.due.foldl (fun s g => s.checkinAction g) (s.modSup fun p => { p with due := [] })

/-- CLEAR_EVIDENCE (R696): a write of 1 to 9010h:03. -/
def State.clearEvidence (s : State) : Res := (((s.putEntry 0x9010 1 []).putEntry 0x9010 2 [0]).twinWrite 5 0x9010, none)

/-! ## Meanings -/

/-- ENGINE_TIMEOUT (R662). -/
def execEngineTimeout (e : Fin 3) (bad : Bool) (s : State) : Host.Outcome State Fault Refusal :=
  .next (settledInsn (whenOn (opEngineTimeout e bad)) s)

/-- CONTEXT_STALLED (R664). -/
def execContextStalled (g : Gctx) (s : State) : Host.Outcome State Fault Refusal := .next (settledInsn (opContextStalled g) s)

/-- CORE_WATCHDOG (R665). -/
def execCoreWatchdog (n : CoreId) (s : State) : Host.Outcome State Fault Refusal := .next (opCoreWatchdog n s)

/-- CORE_RELOADED (R666). -/
def execCoreReloaded (n : CoreId) (ok : Bool) (s : State) : Host.Outcome State Fault Refusal := .next (opCoreReloaded n ok s)

/-- WDG_EXPIRED (R671). -/
def execWdgExpired (s : State) : Host.Outcome State Fault Refusal := .next (opWdgExpired s)

/-- GAFFER_SELF_WDG (R678). -/
def execGafferSelfWdg (pc : Word) (s : State) : Host.Outcome State Fault Refusal := .next (whenOn (opGafferSelfWdg pc) s)

/-- INTERVAL_START (R681). -/
def execIntervalStart (s : State) : Host.Outcome State Fault Refusal := .next (whenOn opIntervalStart s)

/-- INTERVAL_CLOSE (R683). -/
def execIntervalClose (s : State) : Host.Outcome State Fault Refusal := .next (opIntervalClose s)

/-- CHECKIN_FAULT_ACTION (R688). -/
def execCheckinFaultAction (s : State) : Host.Outcome State Fault Refusal := .next (settledInsn opCheckinFault s)

end Sys2Proof.Machine
end

