-- ==== Sys2Proof/Machine/DictRead.lean ====
section
/-! DEFINITION. The values that reads return: live ones entry by entry, and those kept (R113, R155, R195, R270, R306,
R337, R376, R420, R458, R501, R537, R586, R633, R634, R660, R696, R721, R755, R786). -/

namespace Sys2Proof.Machine

/-- An index below a bound, taken modulo it. -/
def fin (n : Nat) (h : 0 < n) (k : Nat) : Fin n := ⟨k % n, Nat.mod_lt _ h⟩

/-- The two's complement of an integer in 64 bits. -/
def i64 (x : Int) : Nat := (x % (2 ^ 64)).toNat

/-- Code of a task kind (R54). -/
def Kind.code : Kind → Nat
  | .none => 0
  | .cyclic => 1
  | .event => 2
  | .background => 3

/-! ## Areas 2000h, D000h (R113, R155, R195, R270, R306) -/

/-- A number of the task of context `g` (R113). A context that holds no task reads the defaults, which are 0 (R115). -/
def State.taskNum (s : State) (g : Gctx) (sub : Nat) : Option Nat :=
  let t := (s.cx g).taskNow
  let a := (s.cx (s.home g)).act
  if t.kind = .none ∧ 1 ≤ sub ∧ sub ≤ 0x14 then some 0
  else match sub with
  | 0x01 => some t.kind.code
  | 0x02 => some t.prio
  | 0x03 => some t.period
  | 0x04 => some t.offset
  | 0x05 => some t.deadline
  | 0x06 => some t.budget
  | 0x07 => some t.action
  | 0x08 => some t.evline
  | 0x09 => some (b2n t.paired)
  | 0x0A => some t.staging
  | 0x0B => some t.retained
  | 0x0C => some t.rt
  | 0x0D => some (s.stateCode g)
  | 0x0E => some a.actCnt
  | 0x0F => some a.ovrCnt
  | 0x10 => some a.missCnt
  | 0x11 => some a.skipCnt
  | 0x12 => some a.deferCnt
  | 0x13 => some a.maxResp
  | 0x14 => some a.maxUsed
  | _ => none

/-- PROGID and PROGVER of the newest container of a slot. -/
def Slot.ids (sl : Slot) : Nat :=
  match (sl.base.toList ++ sl.edits).getLast? with
  | some c => (bodyProgId (bodyOf c)).toNat * 2 ^ 32 + (bodyProgVer (bodyOf c)).toNat
  | none => 0

/-- Seconds left until automatic ACCEPT (R299). -/
def State.secsLeft (s : State) : Nat :=
  if s.prog.edit.st = 3 then (s.prog.edit.acceptAt - s.clk + 999999999) / 1000000000 else 0

/-- The force table (2211h:01). -/
def State.forceTable (s : State) : List Byte :=
  s.img.forces.flatMap fun p => leBytes 4 (p.1 % 2 ^ 20 + (if p.2 = some true then 2 ^ 31 else 0))

/-- Numbers of the program area. -/
def State.progNum (s : State) (idx sub : Nat) : Option Nat :=
  let p := s.prog
  match idx, sub with
  | 0x2000, 1 => some s.op.key.toNat
  | 0x2000, 2 => some s.op.st.code
  | 0x2000, 3 => some (b2n p.loaded)
  | 0x2000, 4 => some s.op.haltCause.toNat
  | 0x2002, 1 => some p.adm.result
  | 0x2002, 2 => some p.adm.ctx
  | 0x2002, 3 => some p.adm.cond
  | 0x2002, 4 => some p.adm.bound
  | 0x2002, 5 => some p.adm.limit
  | 0x2200, 1 => some s.img.epoch.toNat
  | 0x2200, 2 => some s.img.staleCnt
  | 0x2200, 3 => some s.img.dropCnt
  | 0x2200, 4 => some s.img.forces.length
  | 0x2200, 5 => some s.img.coalCnt
  | 0x2300, 1 => some p.active
  | 0x2300, 4 => some (p.progid.toNat * 2 ^ 32 + p.progver.toNat)
  | 0x2300, 5 => some p.refStep
  | 0x2301, 1 => some (b2n p.slots[0].base.isSome)
  | 0x2301, 2 => some p.slots[0].ids
  | 0x2301, 3 => some p.slots[0].edits.length
  | 0x2302, 1 => some (b2n p.slots[1].base.isSome)
  | 0x2302, 2 => some p.slots[1].ids
  | 0x2302, 3 => some p.slots[1].edits.length
  | 0x2310, 2 => some p.edit.st
  | 0x2310, 4 => some (if 2 ≤ p.edit.st then p.edit.ts.toNat else 0)
  | 0x2310, 5 => some s.secsLeft
  | 0xD110, 1 => some 0x100
  | _, _ =>
    if 0x2100 ≤ idx ∧ idx < 0x2140 then s.taskNum (fin 64 (by decide) (idx - 0x2100)) sub
    else if 0xD100 ≤ idx ∧ idx < 0xD108 then
      let n : CoreId := fin 8 (by decide) (idx - 0xD100)
      match sub with
      | 2 => some (s.island n)
      | 3 => some s.core[n].retired
      | 4 => some s.core[n].restarts
      | 5 => some s.core[n].dtraps
      | 6 => some s.core[n].collided
      | _ => none
    else if 0xD120 ≤ idx ∧ idx < 0xD124 then
      let q := s.pair[fin 4 (by decide) (idx - 0xD120)]
      match sub with
      | 1 => some (b2n q.usable)
      | 2 => some q.test
      | 3 => some q.mmCnt
      | 4 => some q.brkCnt
      | 6 => some q.sweeps
      | _ => none
    else if 0xD140 ≤ idx ∧ idx < 0xD180 then some (s.cx (fin 64 (by decide) (idx - 0xD140))).taskNow.mmaction
    else none

/-! ## Areas 3000h, 4000h, C000h (R337, R376, R420, R458) -/

/-- Numbers of the banks and of the record store. -/
def State.memNum (s : State) (idx sub : Nat) : Option Nat :=
  let v := s.nv
  if 0xC100 ≤ idx ∧ idx < 0xC10B then
    let k := s.bank[(fin 11 (by decide) (idx - 0xC100) : BankId)]
    match sub with
    | 2 => some k.result
    | 3 => some k.ceCnt
    | 4 => some k.ueCnt
    | 5 => some k.colCnt
    | 6 => some (k.rep0.getD 0xFFFF)
    | 7 => some (k.rep1.getD 0xFFFF)
    | 10 => some k.passes
    | _ => none
  else if idx = 0xC000 then
    match sub with
    | 1 => some (b2n (!v.inRecall))
    | 2 => some v.recallUs
    | 3 => some (b2n v.lastClean)
    | 4 => some (b2n v.suspect)
    | 5 => some (b2n v.half)
    | 6 => some v.qhigh
    | 7 => some v.waitCnt
    | 8 => some v.ceCnt
    | 9 => some v.ueCnt
    | 10 => some v.conflicts
    | 11 => some v.lostTwins
    | 12 => some (ctrVal s.mem 0 % 2 ^ 32)
    | 13 => some (ctrVal s.mem 1)
    | _ => none
  else if 0xC010 ≤ idx ∧ idx < 0xC030 then some (ctrVal s.mem (68 + (idx - 0xC010)))
  else none

/-- Numbers of the field channels. -/
def State.fieldNum (s : State) (idx sub : Nat) : Option Nat :=
  if idx = 0x3000 ∧ sub = 2 then some s.fld.scans
  else if 0x3010 ≤ idx ∧ idx < 0x3014 then
    let d := s.fld.grp[(fin 4 (by decide) (idx - 0x3010) : Grp)]
    match sub with
    | 1 => some d.vfMean
    | 2 => some d.outMa
    | 3 => some d.lowN
    | 4 => some d.ocN
    | _ => none
  else if 0x3100 ≤ idx ∧ idx < 0x3120 then
    let c : Ch := fin 32 (by decide) (idx - 0x3100)
    match sub with
    | 0x01 => some (s.modeCfg c)
    | 0x0F => some (s.holder c)
    | 0x10 => some (s.chStatus c).toNat
    | 0x11 => some (ctrVal s.mem (4 + c.val))
    | 0x12 => some (ctrVal s.mem (36 + c.val))
    | _ => none
  else none

/-- The instance that a channel's status word shows: the first whose source is on-module. -/
def State.onModuleIns (s : State) : Fin 2 := if s.insSrc 0 ≠ 1 ∧ s.insSrc 1 = 1 then 1 else 0

/-- Numbers of the energy engine; trial values read as the committed ones outside a session (R458). -/
def State.energyNum (s : State) (idx sub : Nat) : Option Nat :=
  if 0x4010 ≤ idx ∧ idx < 0x4012 then (if sub = 8 then some (s.ins (fin 2 (by decide) (idx - 0x4010))).status.toNat else none)
  else if 0x4100 ≤ idx ∧ idx < 0x4108 then
    let ch : Fin 8 := fin 8 (by decide) (idx - 0x4100)
    let c := s.nrg.sess.filter (·.ch == ch)
    match sub with
    | 0x08 => some ((c.map (·.path)).getD 0)
    | 0x09 => some ((c.map (·.gain)).getD (s.coef ch.val false 0)).toNat
    | 0x0A => some ((c.map (·.off)).getD (s.coef ch.val false 1)).toNat
    | 0x0B => some ((c.map (·.phase)).getD (s.coef ch.val false 2)).toNat
    | 0x0C => some 0
    | 0x0E => some (b2n c.isSome)
    | 0x0F => some ((c.map CalSess.rms).getD 0).toNat
    | 0x10 => some ((c.map CalSess.angle).getD 0).toNat
    | 0x11 => some (if h : 4 ≤ ch.val then (s.nrg.switches[ch.val - 4]'(by omega)).toNat else 0)
    | 0x12 => some ((s.ins s.onModuleIns).chStat[ch]).toNat
    | _ => none
  else if 0x4200 ≤ idx ∧ idx < 0x4210 then
    let q := s.nrg.pulse[(fin 16 (by decide) (idx - 0x4200) : Fin 16)]
    match sub with
    | 4 => some q.acc
    | 5 => some q.pend
    | 6 => some q.emitted
    | _ => none
  else none

/-! ## Areas 5000h, 6000h (R501, R537) -/

/-- Numbers of the network. -/
def State.netNum (s : State) (idx sub : Nat) : Option Nat :=
  if 0x5000 ≤ idx ∧ idx < 0x5004 then
    let p := s.net.port[(fin 4 (by decide) (idx - 0x5000) : Fin 4)]
    match sub with
    | 3 => some (b2n p.up)
    | 4 => some p.speed
    | 5 => some (p.rx % 2 ^ 32 + p.tx % 2 ^ 32 * 2 ^ 32)
    | 7 => some p.rxDisc
    | 8 => some p.txDisc
    | _ => none
  else if 0x5008 ≤ idx ∧ idx < 0x500A then
    let q := s.net.pair[(fin 2 (by decide) (idx - 0x5008) : Fin 2)]
    match sub with
    | 3 => some q.dup
    | 4 => some q.fault.toNat
    | 5 => some q.fwdN
    | _ => none
  else if idx = 0x5020 then
    match sub with
    | 8 => some (i64 s.net.ptp.offset)
    | 9 => some (i64 s.net.ptp.delay)
    | 12 => some s.net.ptp.st
    | _ => none
  else if 0x5100 ≤ idx ∧ idx < 0x5200 then
    (if sub = 0x10 then some (s.net.gsub[(fin 256 (by decide) (idx - 0x5100) : Fin 256)]).status.toNat else none)
  else if 0x5300 ≤ idx ∧ idx < 0x5340 then
    let p := s.net.gpub[(fin 64 (by decide) (idx - 0x5300) : Fin 64)]
    (if sub = 14 then some p.stNum.toNat else if sub = 15 then some p.sqNum.toNat else none)
  else if 0x5500 ≤ idx ∧ idx < 0x5504 then
    let r := s.net.ring[(fin 4 (by decide) (idx - 0x5500) : Fin 4)]
    (if sub = 6 then some r.drop else if sub = 8 then some r.disc else none)
  else none

/-- Numbers of the CAN controllers. -/
def State.canNum (s : State) (idx sub : Nat) : Option Nat :=
  if 0x6000 ≤ idx ∧ idx < 0x6002 then
    let k := s.can[(fin 2 (by decide) (idx - 0x6000) : Fin 2)]
    match sub with
    | 0x14 => some k.st
    | 0x15 => some k.counts
    | 0x16 => some k.disc
    | 0x17 => some k.offN
    | 0x18 => some k.delay
    | _ => none
  else if 0x6100 ≤ idx ∧ idx < 0x6300 then
    let c : Fin 2 := if idx < 0x6200 then 0 else 1
    let m : MoId := fin 128 (by decide) (idx % 256)
    match sub with
    | 11 => some (s.moHolder c m)
    | 12 => some (s.mo c m).cnt
    | 13 => some (s.mo c m).lostN
    | _ => none
  else none

/-! ## Areas 1000h, 7000h–B000h (R586, R633, R634, R660, R696, R721, R755, R786) -/

/-- Whether open sessions are forced off: the module is part of a LARGE configuration (R573). -/
def State.large (s : State) : Bool := s.cfg 0x7000 1 0 != 0 && s.cfg 0x7000 3 0 == 1

/-- A worker as the manager keeps it. -/
def State.worker (s : State) (w : Nat) : Worker := ((s.hier.workers.find? (·.1 == w)).map (·.2)).getD .blank

/-- Numbers of identity, power, MDP, time and tandem. -/
def State.sysNum (s : State) (idx sub : Nat) : Option Nat :=
  match idx, sub with
  | 0x1000, 4 => some Config.hwRevision.toNat
  | 0x1000, 5 => some (s.sec.fw[(fin 2 (by decide) (s.sec.active - 1) : Fin 2)]).version.toNat
  | 0x1001, 1 | 0x1001, 2 | 0x1001, 3 | 0x1001, 4 => some (s.freeWord.toNat % 2 ^ 16)
  | 0x1001, 5 => some (ctrVal s.mem 100)
  | 0x1002, 1 => some s.pwr.cause
  | 0x1002, 2 => some s.pwr.durUs
  | 0x1010, 2 => some (b2n s.dict.restoreMarked)
  | 0x1B01, 1 => some s.dict.sessions.length
  | 0x1B01, 2 => some s.dict.opened
  | 0x1B02, 1 => some s.dict.malformed
  | 0x1B02, 2 => some s.dict.badAuth
  | 0x1B10, 4 => some (b2n s.large)
  | 0x7000, 10 => some s.hier.own
  | 0x7001, 1 => some s.hier.malformed
  | 0x7001, 2 => some s.hier.badProt
  | 0x7002, 4 => some s.hier.staged
  | 0x7002, 5 => some s.hier.boundary
  | 0x7200, 4 => some (if s.tdm.st = 0 then 0 else if s.isTrail then 2 else 1)
  | 0x7200, 5 => some s.tdm.st
  | 0x7200, 7 => some s.tdm.pHealth.toNat
  | 0x7200, 8 => some (s.tdm.cycle % 2 ^ 32)
  | 0x7200, 9 => some s.tdm.switches
  | 0x7200, 10 => some s.tdm.inDis
  | 0x7200, 11 => some s.tdm.disc
  | 0x7200, 13 => some s.tdm.readWaits
  | 0x7200, 14 => some s.tdm.differ
  | 0x8000, 2 => some s.time.tb.toNat
  | 0x8000, 4 => some (b2n s.time.valid)
  | 0x8000, 8 => some s.time.steps
  | 0x8010, 1 => some (b2n s.time.rtc.valid)
  | 0x8010, 3 => some (if s.time.rtc.stampV then s.time.rtc.stamp.toNat else 0)
  | 0x8010, 5 => some s.time.rtc.swcnt
  | 0x8010, 6 => some s.time.rtc.vbakMv
  | 0x8010, 7 => some (if s.time.rtc.cal.valid then s.rtcUtc else 0)
  | 0x9000, 7 => some s.sup.errcnt
  | 0x9000, 8 => some (b2n s.sup.on)
  | 0x9000, 9 => some (ctrVal s.mem 3)
  | 0xA000, 1 => some s.recDone
  | 0xA000, 2 => some s.recOld
  | 0xA000, 3 => some s.rcd.torn
  | 0xA000, 4 => some s.rcd.supp
  | 0xA000, 5 => some s.rcd.lost
  | 0xB000, 1 => some (b2n ((List.range 4).any fun k => s.ownerState k != 0))
  | 0xB006, 1 => some s.fwCounter
  | 0xB006, 2 => some s.progCounter
  | 0xB018, 1 => some s.sec.active
  | 0xB018, 2 => some s.sec.boots
  | 0xB018, 4 => some s.sec.dictFmt
  | 0xB060, 1 => some s.sec.recovery
  | _, _ =>
    if 0x7011 ≤ idx ∧ idx < 0x710F then
      let w := s.worker (idx - 0x7010)
      match sub with
      | 5 => some w.st
      | 6 => some w.delivered
      | 7 => some w.lost
      | _ => none
    else if 0x9100 ≤ idx ∧ idx < 0x9140 then
      let g := idx - 0x9100
      match sub with
      | 4 => some (sget 0 s.sup.missN g)
      | 5 => some (sget 0 s.sup.extraN g)
      | 6 => some (sget 0 s.sup.lateN g)
      | 7 => some (sget 0 s.sup.progN g)
      | _ => none
    else if 0x9200 ≤ idx ∧ idx < 0x9208 then
      let c := s.core[(fin 8 (by decide) (idx - 0x9200) : CoreId)]
      match sub with
      | 1 => some c.reloads
      | 2 => some c.wdExpiries
      | 3 => some c.lowCnt
      | 4 => some c.lowMax
      | _ => none
    else if 0xA100 ≤ idx ∧ idx < 0xA180 then
      (if sub = 4 then some (s.det (idx - 0xA100)).st else if sub = 5 then some (s.det (idx - 0xA100)).cnt else none)
    else if 0xB001 ≤ idx ∧ idx < 0xB005 then (if sub = 2 then some (s.ownerState (idx - 0xB001)) else none)
    else if 0xB011 ≤ idx ∧ idx < 0xB013 then
      let f := s.sec.fw[(fin 2 (by decide) (idx - 0xB011) : Fin 2)]
      match sub with
      | 1 => some f.st
      | 2 => some f.version.toNat
      | 3 => some f.rollback
      | 5 => some f.dictfmt
      | _ => none
    else if 0xB030 ≤ idx ∧ idx < 0xB033 then
      let p := s.sec.par[(fin 3 (by decide) (idx - 0xB030) : Fin 3)]
      match sub with
      | 2 => some p.st
      | 3 => some ((p.units.filter fun u => decide (32 ≤ u.1)).foldl (fun n u => n + ((u.2.map List.length).getD 0)) 0)
      | _ => none
    else none

/-- Codes of severity 0 (R704). -/
def infoCodes : List Nat := [0x1001, 0x1020, 0x1021, 0x2031, 0x3002, 0x3014, 0x4002, 0x5023, 0x5031, 0xA001, 0xC001, 0xC102]

/-- Puts a number in ascending order. -/
def insertNat (a : Nat) : List Nat → List Nat
  | [] => [a]
  | x :: r => if a ≤ x then a :: x :: r else x :: insertNat a r

/-- Bytes `[0, n)` of the bitmap of received 16-byte body units (B030h+t:04). -/
def Parison.bitmap (p : Parison) : List Byte :=
  let got := fun i => p.units.any fun u => u.1 == 32 + i
  let n := (hdrBodyLen p.bytes / 16 + 7) / 8
  if p.passed then (List.range n).map fun k => BitVec.ofNat 8 ((List.range 8).foldl (fun m j => if got (8 * k + j) then m + 2 ^ j else m) 0)
  else []

/-- The value of an OCT, STR or DOMAIN entry that is computed. -/
def State.liveBytes (s : State) (idx sub : Nat) : Option (List Byte) :=
  match idx, sub with
  | 0x1000, 2 => some ((if Config.isAF then "SQFJ848-AF" else "SQFJ848-AC").toUTF8.toList.map fun b => BitVec.ofNat 8 b.toNat)
  | 0x1000, 3 => some s.unitSerial
  | 0x1002, 3 => some (padTo 40 (s.pwr.stepUs.flatMap (leBytes 4)))
  | 0x2211, 1 => some s.forceTable
  | 0x2300, 3 => some (padTo 48 s.prog.hash)
  | 0x3000, 3 => some s.claimTable
  | 0x5020, 11 => some s.net.ptp.gm
  | 0x7000, 9 => some s.digest
  | 0xB000, 2 => some s.rootHash
  | 0xB008, 1 => some Config.identityCert
  | 0xB008, 2 => some Config.issuingCert
  | 0xB008, 3 => some s.unitSerial
  | 0xB050, 2 => some s.sec.quote
  | _, _ =>
    if 0x4010 ≤ idx ∧ idx < 0x4012 ∧ sub = 9 then
      some ((s.ins (fin 2 (by decide) (idx - 0x4010))).reg.toList.flatMap fun r => leBytes 8 r.val.toNat)
    else if 0x5000 ≤ idx ∧ idx < 0x5004 ∧ sub = 9 then some (s.macOf (fin 4 (by decide) (idx - 0x5000)))
    else if 0x7011 ≤ idx ∧ idx < 0x710F ∧ sub = 8 then some (s.worker (idx - 0x7010)).digest
    else if 0x7011 ≤ idx ∧ idx < 0x710F ∧ sub = 11 then some (s.worker (idx - 0x7010)).quote
    else if 0xB001 ≤ idx ∧ idx < 0xB005 ∧ sub = 1 then some (s.ownerHash (idx - 0xB001))
    else if 0xB011 ≤ idx ∧ idx < 0xB013 ∧ sub = 4 then some (s.sec.fw[(fin 2 (by decide) (idx - 0xB011) : Fin 2)]).hash
    else if 0xB030 ≤ idx ∧ idx < 0xB033 ∧ sub = 4 then some (s.sec.par[(fin 3 (by decide) (idx - 0xB030) : Fin 3)]).bitmap
    else if 0xB030 ≤ idx ∧ idx < 0xB033 ∧ sub = 5 then
      some (padTo 512 ((List.range 32).flatMap fun k => (sget none (s.sec.par[(fin 3 (by decide) (idx - 0xB030) : Fin 3)]).units k).getD (List.replicate 16 0)))
    else none

/-- A number that an entry shows live. -/
def State.liveNum (s : State) (idx sub : Nat) : Option Nat :=
  if idx < 0x2000 then s.sysNum idx sub
  else if idx < 0x3000 then s.progNum idx sub
  else if idx < 0x4000 then s.fieldNum idx sub
  else if idx < 0x5000 then s.energyNum idx sub
  else if idx < 0x6000 then s.netNum idx sub
  else if idx < 0x7000 then s.canNum idx sub
  else if idx < 0xC000 then s.sysNum idx sub
  else if idx < 0xD000 then s.memNum idx sub
  else s.progNum idx sub

/-- An application object with an address. -/
def State.objAt (s : State) (idx sub : Nat) : Option AppObj := s.prog.objs.find? fun o => o.idx == idx && o.sub == sub

/-- The value of an application object (R552, R553). -/
def State.objValue (s : State) (o : AppObj) : List Byte :=
  if o.inOut then (((List.range ((o.size + 3) / 4)).flatMap fun i => leBytes 4 (s.imgWord (o.loc + i)).toNat).take o.size)
  else o.load s.mem

/-- The value of an entry (R540, R549): computed where it is live, else kept. -/
def State.value (s : State) (e : Ent) (idx : Nat) : List Byte :=
  if e.sub = 0 then e.dflt
  else
    match s.objAt idx e.sub with
    | some o => s.objValue o
    | none =>
      match s.liveBytes idx e.sub with
      | some b => b
      | none =>
        match s.liveNum idx e.sub with
        | some n => leBytes e.len n
        | none => s.cfgValue e idx

/-- Length of the recorder's ring (A001h:01). -/
def ringLen : Nat := 0x100000

/-- The code table as bytes (A004h:01). -/
def codeTable : List Byte :=
  let all := criticalCodes ++ errorCodes ++ warningCodes ++ noticeCodes ++ infoCodes
  (all.foldr insertNat []).flatMap fun c => leBytes 2 c ++ leBytes 1 (severity c) ++ leBytes 1 0

/-- The length of an entry's value. -/
def State.valueLen (s : State) (e : Ent) (idx : Nat) : Nat :=
  if idx = 0xA001 ∧ e.sub = 1 then ringLen else if idx = 0xA004 ∧ e.sub = 1 then codeTable.length else (s.value e idx).length

/-- `n` bytes of an entry's value from `off` on, or fewer at its end (R561, R722). -/
def State.slice (s : State) (e : Ent) (idx off n : Nat) : List Byte :=
  if idx = 0xA001 ∧ e.sub = 1 then rdBytes s.mem (0x04158000 + off) (min n (ringLen - off))
  else if idx = 0xA004 ∧ e.sub = 1 then (codeTable.drop off).take n
  else ((s.value e idx).drop off).take n

end Sys2Proof.Machine
end

