-- ==== Sys2Proof/Machine/Handshake.lean ====
section
/-! DEFINITION. The two phases of authentication, shared by MDP sessions, punty links and the tandem link (R574–R576). The
session keys themselves are not kept: a frame says whether its tag verifies under them. -/

namespace Sys2Proof.Machine

/-- Zero padding to a multiple of 4. -/
def pad4 (b : List Byte) : List Byte := b ++ List.replicate ((4 - b.length % 4) % 4) 0

/-- The phase-1 response payload up to the signature: STATUS, nonce, ephemeral public key, certificate (R574). -/
def phase1Body (nonce key : List Byte) : List Byte :=
  leBytes 4 0 ++ padTo 32 nonce ++ padTo 97 key ++ leBytes 1 0 ++ leBytes 2 Config.identityCert.length ++ pad4 Config.identityCert

/-- The phase-1 response to a request payload, with the identity signature over both (R574). -/
def State.phase1 (s : State) (req1 : List Byte) : List Byte :=
  let b := phase1Body (Config.freeBytes s.freeCtr) (Config.freeBytes (s.freeCtr + 1))
  b ++ padTo 96 (Config.deviceSign (req1 ++ b))

/-- A phase-1 request: nonce, ephemeral public key, reserved bytes (R574). -/
def State.phase1Req (s : State) : List Byte :=
  padTo 32 (Config.freeBytes s.freeCtr) ++ padTo 97 (Config.freeBytes (s.freeCtr + 1)) ++ leBytes 3 0

/-- Certificate and signature that follow a CERTLEN at offset `o`; the certificate starts at offset `c`. -/
def certAt (p : List Byte) (o c : Nat) : List Byte × List Byte :=
  let n := leNat (sub_ p o 2)
  (sub_ p c n, sub_ p (c + (n + 3) / 4 * 4) 96)

/-- The phase-2 request of the module itself: certificate and signature over both phase-1 payloads and it (R574). -/
def phase2Req (req1 resp1 : List Byte) : List Byte :=
  leBytes 2 Config.identityCert.length ++ leBytes 2 0 ++ pad4 Config.identityCert
    ++ padTo 96 (Config.deviceSign (req1 ++ resp1 ++ Config.identityCert))

/-- Whether the signature of a phase-1 response verifies under its certificate. -/
def phase1Signed (req1 resp1 : List Byte) : Bool :=
  let c := certAt resp1 134 136
  Config.ecdsaVerify (Config.certKey c.1) (req1 ++ resp1.take (resp1.length - 96)) c.2

/-- Whether the signature of a phase-2 request verifies under its certificate. -/
def phase2Signed (req1 resp1 p : List Byte) : Bool :=
  let c := certAt p 0 4
  Config.ecdsaVerify (Config.certKey c.1) (req1 ++ resp1 ++ c.1) c.2

/-- The time by which a certificate's validity is judged, when the time base is valid (R576). -/
def State.certTime (s : State) : Option Nat := if s.time.valid then some s.time.tb.toNat else none

end Sys2Proof.Machine
end

