-- ==== Sys2Proof/Machine/SecOps.lean ====
section
/-! DEFINITION. Owner keys, parisons, activation, confirmation, quotes (R604, R605, R724–R754). -/

namespace Sys2Proof.Machine

/-- Updates the trust state. -/
def State.modSec (s : State) (f : Sec → Sec) : State := { s with sec := f s.sec }

/-- Updates parison entry `t`. -/
def State.modPar (s : State) (t : Fin 3) (f : Parison → Parison) : State :=
  s.modSec fun c => { c with par := c.par.set t (f c.par[t]) }

/-- A parison of which nothing is stored. -/
def Parison.empty : Parison := { st := 0, units := [], passed := false, boundary := 0 }

/-! ## Owner keys (R726, R727) -/

/-- Whether every owner slot is EMPTY. -/
def State.unowned (s : State) : Bool := (List.range 4).all fun k => s.ownerState k == 0

/-- Bytes as a mask at a byte offset of the OTP. -/
def otpAt (a : Nat) (b : List Byte) : BitVec 8192 := BitVec.ofNat 8192 (leNat b * 2 ^ (8 * a))

/-- PROVISION_OWNER_KEY (R726): the key's hash goes into the lowest EMPTY slot. -/
def State.provision (s : State) (key : List Byte) : Res :=
  match (List.range 4).find? fun k => s.ownerState k == 0 with
  | some k =>
    ((s.burn (otpAt (0x30 + 0x40 * k) (Config.sha384 key) ||| otpAt (0x60 + 0x40 * k) [1])).rec_ 0xB00B srcGaffer k 0, none)
  | none => (s, some abRange)

/-- Whether slot `k` may be revoked: it is ACTIVE, and not the only one (R727). -/
def State.revocable (s : State) (k : Nat) : Bool :=
  s.ownerState k == 1 && (List.range 4).any fun j => j != k && s.ownerState j == 1

/-- REVOKE_OWNER_SLOT (R727). -/
def State.revoke (s : State) (k : Nat) : Res :=
  if s.revocable k then ((s.burn (otpAt (0x60 + 0x40 * k) [3])).rec_ 0xB00B srcGaffer k 1, none) else (s, some abRange)

/-! ## Header checks (R732) -/

/-- The firmware slot in force and the other one, as indexes. -/
def State.fwActive (s : State) : Fin 2 := if s.sec.active = 2 then 1 else 0
/-- The firmware slot that is not in force. -/
def State.fwOther (s : State) : Fin 2 := if s.sec.active = 2 then 0 else 1

/-- The container of a firmware slot. -/
def State.fwImage (s : State) (k : Fin 2) : List Byte := (s.sec.fw[k].image).getD []

/-- The firmware slot that a parison is written into (R739, R753): in recovery mode slot 1, or the failed slot if only one
failed. -/
def State.fwTarget (s : State) : Fin 2 :=
  if s.pwr.phase = .recovery then (if s.sec.fw[1].st = 4 ∧ s.sec.fw[0].st ≠ 4 then 1 else 0) else s.fwOther

/-- Rounds up to 64 KiB. -/
def up64k (n : Nat) : Nat := (n + 0xFFFF) / 0x10000 * 0x10000

/-- Bytes of program slot `k` that its base program and edits take (R739). -/
def Slot.taken (sl : Slot) : Nat := (sl.base.toList ++ sl.edits).foldl (fun n c => n + up64k c.length) 0

/-- Check 2 of R732. -/
def State.hdrFor (s : State) (t : Fin 3) (h : List Byte) : Bool :=
  if t = 0 then hdrTarget h == 1 else hdrTarget h == 2 && hdrEdit h == (s.prog.active == t.val)

/-- Check 3 of R732. -/
def State.hdrRoom (s : State) (t : Fin 3) (h : List Byte) : Bool :=
  if hdrTarget h = 1 then decide (hdrBodyLen h ≤ 6291456)
  else decide (512 + hdrBodyLen h + (if hdrEdit h then (s.prog.slots[slotIdx t.val]).taken else 0) ≤ 0x1000000)

/-- The first header check that fails, with its refusal (R732). -/
def State.hdrCheck (s : State) (t : Fin 3) (h : List Byte) : Option (Nat × Abort) :=
  firstBad [need (hdrForm h) (1, abVerify 1), need (s.hdrFor t h) (2, abVerify 1), need (s.hdrRoom t h) (3, abVerify 1),
    need (s.hdrKey h) (4, abVerify 1), need (s.hdrSerial h) (5, abVerify 1), need (hdrSig h) (6, abVerify 1),
    need (s.hdrFresh h) (7, s.abOld h)]

/-! ## Receiving a parison (R734–R738) -/

/-- The 16-byte units of a block at an offset. -/
def unitsOf (off : Nat) (data : List Byte) : List (Nat × List Byte) :=
  (List.range ((data.length + 15) / 16)).map fun i => (off / 16 + i, (data.drop (16 * i)).take 16)

/-- Stores units; a later one replaces an earlier one (R562). -/
def putUnits (m : List (Nat × Option (List Byte))) (l : List (Nat × List Byte)) : List (Nat × Option (List Byte)) :=
  l.foldl (fun m u => sset none m u.1 (some u.2)) m

/-- Whether units 0 to `n` − 1 are all there. -/
def hasUnits (m : List (Nat × Option (List Byte))) (n : Nat) : Bool := (List.range n).all fun i => (sget none m i).isSome

/-- Whether a header unit differs from the stored one, other than a unit that this transfer sent itself (R562, R737). -/
def Parison.conflicts (p : Parison) (mine : List Nat) (l : List (Nat × List Byte)) : Bool :=
  l.any fun u => decide (u.1 < 32) && (p.passed || !mine.contains u.1) &&
    (match sget none p.units u.1 with | some b => b != u.2 | none => false)

/-- Whether a first block for entry `t` is refused (R738). A base program for the active slot is known by a header in the
block. -/
def State.parBusy (s : State) (t : Fin 3) (off : Nat) (data : List Byte) : Bool :=
  s.sec.par[t].st == 3 || (t == 0 && s.sec.fw[s.fwActive].st == 3 && s.pwr.phase != .recovery)
    || (t != 0 && s.prog.active == t.val && off == 0 && decide (28 ≤ data.length) && !hdrEdit data)

/-- The firmware slot of a container that is whole. -/
def fwSlotOf (c : List Byte) : FwSlot :=
  { st := 1, version := BitVec.ofNat 32 (hdrVersion c), rollback := hdrRollback c, hash := hdrHash c, dictfmt := hdrDictFmt c, image := some c }

/-- The body begins to arrive: the slot it is written into loses what it held (R735). An edit is written beside the base
program. -/
def State.eraseFor (s : State) (t : Fin 3) (h : List Byte) : State :=
  if t = 0 then s.modSec fun c => { c with fw := c.fw.set s.fwTarget .blank }
  else if hdrEdit h then s
  else s.modProg fun p => { p with slots := p.slots.set (slotIdx t.val) ⟨none, []⟩ }

/-- A container is whole in the image store (R736, R739). -/
def State.storeWhole (s : State) (t : Fin 3) (c : List Byte) : State :=
  if t = 0 then s.modSec fun x => { x with fw := x.fw.set s.fwTarget (fwSlotOf c) }
  else if hdrEdit c then s
  else s.modProg fun p => { p with slots := p.slots.set (slotIdx t.val) ⟨some c, []⟩ }

/-- The last missing byte has arrived (R736). -/
def State.parHash (s : State) (t : Fin 3) : Res :=
  let c := s.sec.par[t].bytes
  if Config.sha384 (bodyOf c) = hdrHash c then
    (((s.modPar t fun p => { p with st := 2 }).storeWhole t c).rec_ 0xB003 srcGaffer t.val (hdrVersion c) (hdrBodyLen c), none)
  else ((s.modPar t fun p => { p with st := 4 }).rec_ 0xB004 srcGaffer t.val (hdrVersion c), some (abVerify 1))

/-- Header bytes complete: R732 decides (R734). -/
def State.parHeader (s : State) (t : Fin 3) : Res :=
  let h := s.sec.par[t].bytes
  match s.hdrCheck t h with
  | some x => ((s.modPar t fun p => { p with st := 4 }).rec_ 0xB002 srcGaffer t.val x.1 (hdrVersion h), some x.2)
  | none => (s.modPar t fun p => { p with passed := true }, none)

/-- A block of a parison (R734–R737); `mine` are the header units that this transfer has sent. A failed parison makes
room for the new one. -/
def State.parBlock (s : State) (t : Fin 3) (mine : List Nat) (off : Nat) (data : List Byte) : Res :=
  let l := unitsOf off data
  let p := s.sec.par[t]
  let fresh := p.st == 4 || p.conflicts mine l
  let p := if fresh then Parison.empty else p
  if !p.passed ∧ 512 < off + data.length then ((if fresh then s.modPar t fun _ => p else s), some (abVerify 1))
  else if p.passed ∧ 512 + hdrBodyLen p.bytes < off + data.length then (s, some abRange)
  else
    let first := p.passed && decide (512 < off + data.length) && !p.units.any fun u => decide (32 ≤ u.1)
    let s := if first then s.eraseFor t p.bytes else s
    let s := s.modPar t fun _ => { p with st := max 1 p.st, units := putUnits p.units l }
    let q := if !p.passed ∧ hasUnits s.sec.par[t].units 32 then s.parHeader t else (s, none)
    match q.2 with
    | some a => (q.1, some a)
    | none =>
      let r := q.1.sec.par[t]
      if r.passed ∧ r.st = 1 ∧ hasUnits r.units (32 + hdrBodyLen r.bytes / 16) then q.1.parHash t else q

/-- Bytes of a parison received so far. -/
def Parison.received (p : Parison) : Nat := p.units.foldl (fun n u => n + ((u.2.map List.length).getD 0)) 0

/-! ## Activation boundaries (R604) -/

/-- The first multiple of `p` at or after `t`. -/
def nextMultiple (p t : Nat) : Nat := if p = 0 then t else (t + p - 1) / p * p

/-- The activation boundary of a unit for a time (R604). -/
def State.boundaryOf (s : State) (tact : Nat) : Nat :=
  let t := if s.cfg 0x7000 1 0 ≠ 0 then nextMultiple (s.cfg 0x7000 6 10000 * 1000) tact else tact
  if s.cfg 0x7200 1 0 = 1 then nextMultiple s.ttNs t else t

/-! ## Activation (R741, R746–R748) -/

/-- The firmware of a COMPLETE parison becomes active as TRIAL; code B006h names the mode. -/
def State.activateFw (s : State) (mode : Nat) : State :=
  let k := s.fwTarget
  let s := s.modSec fun c => { c with
    fw := c.fw.set k { c.fw[k] with st := 3 }, active := k.val + 1, par := c.par.set 0 Parison.empty, serving := none, atReset := false }
  (s.twinWrite 0 1).rec_ 0xB006 srcGaffer (k.val + 1) s.sec.fw[k].version.toNat mode

/-- Whether the parison's RUNTIME hash equals that of the runtime in force (R748). -/
def State.sameRuntime (s : State) : Bool :=
  runtimeHash s.sec.par[0].bytes == runtimeHash (s.fwImage s.fwActive) && (runtimeHash s.sec.par[0].bytes).isSome

/-- Whether a command names a target that it has (R746, R753). -/
def State.modeFits (s : State) (t : Fin 3) (c : Nat) : Bool :=
  if s.pwr.phase = .recovery then c == 1 && t == 0
  else c == 1 || c == 3 || c == 5 || t == 0

/-- Why an activation command is refused, before its parison is looked at (R746). -/
def State.modeBars (s : State) (c : Nat) : Option Abort :=
  if c = 5 ∨ s.pwr.phase = .recovery then none
  else if c = 1 then need (s.op.key == 0 && s.op.st == .stop) (abState s)
  else need (s.op.key == 0 || s.op.key == 2) (abState s)

/-- IMMEDIATE (R746, R753). A load is that of R281. -/
def State.actNow (s : State) (t : Fin 3) : Res :=
  if t = 0 then ((s.activateFw 1).requestReset (if s.pwr.phase = .recovery then 7 else 6), none) else s.loadReq t.val

/-- SCHEDULED (R747, R605). -/
def State.actAt (s : State) (t : Fin 3) : Res :=
  let tact := s.cfg (0xB030 + t.val) 7 0
  if !s.time.valid then (s, some abNoTime)
  else ((s.modPar t fun p => { p with st := 3, boundary := s.boundaryOf tact }).rec_ 0xB005 srcGaffer t.val (tact % 2 ^ 32) (tact / 2 ^ 32), none)

/-- DISCARD (R737, R746). The image that it held is gone, but not a program in force. -/
def State.discard (s : State) (t : Fin 3) : State :=
  let whole := 2 ≤ s.sec.par[t].st ∧ s.sec.par[t].st ≠ 4
  let s := if whole ∧ t = 0 then s.modSec fun c => { c with fw := c.fw.set s.fwTarget .blank, atReset := false }
    else if whole ∧ s.prog.active ≠ t.val then s.modProg fun p => { p with slots := p.slots.set (slotIdx t.val) ⟨none, []⟩ }
    else s
  s.modPar t fun _ => Parison.empty

/-- Why an activation command is refused (R746, R748). -/
def State.activateBars (s : State) (t : Fin 3) (c : Nat) : Option Abort :=
  let whole := s.sec.par[t].st == 2
  firstBad [need (s.modeFits t c) abRange, need (c != 4 || !whole || s.sameRuntime) abRange, s.modeBars c,
    need (whole || c == 5) (abVerify 1)]

/-- An activation command (R746). -/
def State.activate (s : State) (t : Fin 3) (c : Nat) : Res :=
  match s.activateBars t c with
  | some a => (s, some a)
  | none =>
    if c = 1 then s.actNow t
    else if c = 2 then (s.modSec fun x => { x with atReset := true }, none)
    else if c = 3 then s.actAt t
    else if c = 4 then (s.modSec fun x => { x with hot := some (1, s.clk) }, none)
    else (s.discard t, none)

/-! ## Confirmation (R741) -/

/-- The other slot after a confirmation: FAILED when its step is below the counter now. -/
def FwSlot.after (f : FwSlot) (ctr : Nat) : FwSlot := if f.st = 0 then f else { f with st := if f.rollback < ctr then 4 else 1 }

/-- Confirms the firmware in force (R741). -/
def State.confirm (s : State) (cause : Nat) : State :=
  let a := s.fwActive
  let f := s.sec.fw[a]
  if f.st ≠ 3 then s
  else
    let old := s.fwCounter
    let up := max old f.rollback
    let s := s.burn (otpOnesMask (8 * 0x130) up)
    let s := s.modSec fun c => { c with fw := (c.fw.set a { c.fw[a] with st := 2 }).set s.fwOther (c.fw[s.fwOther].after up), serving := none }
    let s := (s.twinWrite 0 1).rec_ 0xB007 srcGaffer (a.val + 1) f.version.toNat cause
    if old < up then s.rec_ 0xB00A srcGaffer 0 up old else s

/-! ## Quotes (R754) -/

/-- A debugger halts some context. -/
def State.anyDebug (s : State) : Bool := allCtx.any fun g => (s.cx g).act.dbgHalt

/-- The signed part of a quote. -/
def State.quoteBody (s : State) (nonce : List Byte) : List Byte :=
  leBytes 4 0x544F5551 ++ leBytes 2 1 ++ leBytes 2 0 ++ padTo 32 nonce ++ padTo 48 s.sec.fw[s.fwActive].hash ++ padTo 48 s.prog.hash
    ++ padTo 48 s.digest ++ leBytes 2 s.fwCounter ++ leBytes 2 s.progCounter ++ leBytes 4 (ctrVal s.mem 0)
    ++ leBytes 8 (if s.time.valid then s.time.tb.toNat else 0) ++ leBytes 8 (ctrVal s.mem 1)
    ++ leBytes 4 (fieldAt (b2n s.time.valid) 1 0 + fieldAt (b2n (s.sec.fw[s.fwActive].st == 3)) 1 1 + fieldAt (b2n s.injActive) 1 2
        + fieldAt (b2n s.anyDebug) 1 3)
    ++ List.replicate 12 0

/-- A quote over a nonce (R754). -/
def State.mkQuote (s : State) (nonce : List Byte) : List Byte :=
  let b := s.quoteBody nonce
  b ++ padTo 96 (Config.deviceSign b)

/-- QUOTE_NONCE (R754). -/
def State.quoteFor (s : State) (nonce : List Byte) : Res := (s.modSec fun c => { c with quote := s.mkQuote nonce }, none)

end Sys2Proof.Machine
end

