-- ==== Sys2Proof/Machine/HierOps.lean ====
section
/-! DEFINITION. Operations of the hierarchy agent: roles, slots, punty frames, links, attestation, worker states
(R588–R603). -/

namespace Sys2Proof.Machine

/-! ## Roles and slots (R588–R591) -/

/-- Updates the hierarchy agent. -/
def State.modHier (s : State) (f : Hier → Hier) : State := { s with hier := f s.hier }

/-- Updates worker `w`. -/
def State.modWorker (s : State) (w : Nat) (f : Worker → Worker) : State :=
  s.modHier fun h => { h with workers := sset Worker.blank h.workers w (f (sget Worker.blank h.workers w)) }

/-- SRC of the hierarchy agent (R703). -/
def srcHier : Nat := 0x58

/-- The hierarchy role: 0 STANDALONE, 1 MANAGER, 2 WORKER. -/
def State.hrole (s : State) : Nat := s.cfg 0x7000 1 0

/-- A LARGE configuration (R589). -/
def State.large_ (s : State) : Bool := s.cfg 0x7000 3 0 == 1

/-- The own node number. -/
def State.node (s : State) : Nat := if s.hrole = 1 then 0 else s.cfg 0x7000 2 1

/-- Tc in ns (R590). -/
def State.tcNs (s : State) : Nat := s.cfg 0x7000 6 10000 * 1000

/-- Whether worker `w` is enabled. -/
def State.wOn (s : State) (w : Nat) : Bool := decide (1 ≤ w ∧ w ≤ 254) && s.cfg (0x7010 + w) 1 0 == 1

/-- The enabled workers in ascending node order. -/
def State.enabled (s : State) : List Nat := (List.range 255).filter s.wOn

/-- Slot length in ns (R590): whole microseconds. -/
def State.slotNs (s : State) : Nat := s.tcNs / 1000 / max 1 s.enabled.length * 1000

/-- Start of the slot of `w` after the cycle start (R590). -/
def State.slotOff (s : State) (w : Nat) : Nat := (s.enabled.filter (· < w)).length * s.slotNs

/-- Whether this unit carries out manager duties (R588, R622). -/
def State.manages (s : State) : Bool := s.hrole == 1 && !s.isTrail && s.pwr.phase == .running

/-- Whether this unit is a worker that runs. -/
def State.works (s : State) : Bool := s.hrole == 2 && s.pwr.phase == .running

/-- Index of the hierarchy cycle of the time base now (R590). -/
def State.hCycle (s : State) : Nat := if s.tcNs = 0 then 0 else s.time.tb.toNat / s.tcNs

/-- When the exchange of `w` in cycle `k` closes (R591): slot end, or cycle end in a LARGE configuration. -/
def State.closeOf (s : State) (w k : Nat) : Nat := if s.large_ then (k + 1) * s.tcNs else k * s.tcNs + s.slotOff w + s.slotNs

/-! ## Links (R597, R598) -/

/-- The link to a node: that of a worker on the manager, the one to the manager on a worker. -/
def State.link (s : State) (w : Nat) : PLink := if s.hrole = 1 then (s.worker w).link else s.hier.link

/-- Updates the link to a node. -/
def State.modLink (s : State) (w : Nat) (f : PLink → PLink) : State :=
  if s.hrole = 1 then s.modWorker w fun x => { x with link := f x.link } else s.modHier fun h => { h with link := f h.link }

/-- Whether the tag of a punty frame of type `kind` verifies under keys (R598). -/
def tagVerifies (k : Option Keys) (kind : Byte) (f : PuntyFrame) : Bool :=
  match k with
  | some k => f.tag == puntyTag k kind f
  | none => false

/-- What a link makes of a protected frame of type `kind` (R598): accepted under its keys, or within the overlap under the old ones. -/
def PLink.accept (l : PLink) (kind : Byte) (f : PuntyFrame) (clk : Nat) : Option PLink :=
  if !l.open_ ∨ !f.flags.getLsbD 0 then none
  else if tagVerifies l.keys kind f ∧ l.rx.toNat < f.seq.toNat then some { l with rx := f.seq }
  else
    match l.old with
    | some (t, r) => if tagVerifies l.oldKeys kind f ∧ clk < t ∧ r.toNat < f.seq.toNat then some { l with old := some (t, f.seq) } else none
    | none => none

/-- A handshake completes: the link opens under new keys, with the worker as client (R597), and the old keys stay for 1 s (R598). -/
def PLink.opened (l : PLink) (clk : Nat) (cert : List Byte) (worker : Bool) : PLink :=
  { l with open_ := true, phase := 0, tx := 0, rx := 0, at_ := clk, cert := cert
           keys := some (deriveKeys infoPunty l.req1 l.resp1 worker), oldKeys := l.keys
           old := if l.open_ then some (clk + 1000000000, l.rx) else none }

/-! ## Sending punty frames (R595, R596) -/

/-- LINK frames go outside the protection of the link that they open. -/
def isLinkKind (kind : Nat) : Bool := decide (0x10 ≤ kind ∧ kind ≤ 0x13)

/-- The interface of the punty links (7000h:04). -/
def State.puntyIface (s : State) : Fin 4 := ⟨s.cfg 0x7000 4 0 % 4, Nat.mod_lt _ (by decide)⟩

/-- UDP transport of punty frames (7000h:05, R595). -/
def State.puntyUdp (s : State) : Bool := s.cfg 0x7000 5 0 == 1

/-- Whether the interface carries punty frames: over UDP it needs an IPv4 address (R473). -/
def State.puntyCarried (s : State) : Bool := !s.puntyUdp || s.ipOf s.puntyIface != 0

/-- The IPv4 address of a node over UDP (7010h + w:04, 7000h:08). -/
def State.puntyIp (s : State) (w : Nat) : Word := BitVec.ofNat 32 (if s.hrole = 1 then s.cfg (0x7010 + w) 4 0 else s.cfg 0x7000 8 0)

/-- A punty frame goes out on its transport (R595): on layer 2 with the VID and PCP of 7000h:0B–0C, over UDP with those of the interface. -/
def State.putPunty (s : State) (w : Nat) (body : Option Word → TxBody) : State :=
  let f := s.puntyIface
  if s.puntyUdp then s.ownFrame f (body (some (s.puntyIp w)))
  else s.sendFrame f (queueOf (s.cfg 0x7000 0xC 6)) (vidOf (s.cfg 0x7000 0xB 0xFFFF)) (body none)

/-- Sends a punty frame to a node, where its interface carries any; `fl` are its FLAGS without ENC. A protected link numbers its own
frames. -/
def State.sendPunty (s : State) (kind fl w : Nat) (cycle : Word) (payload : List Byte) : State :=
  if !s.puntyCarried then s
  else
    let enc := s.large_ && !isLinkKind kind
    let n := sget 0 s.hier.seqOut w + 1
    let seq := if enc then (s.link w).tx + 1 else BitVec.ofNat 32 n
    let b (n : Nat) : Byte := BitVec.ofNat 8 n
    let fl := b (fl + b2n enc)
    let tag := match enc, (s.link w).keys with
      | true, some k =>
        let m := sealed k seq (puntyHeader (b kind) fl (b s.node) (b w) cycle seq (payload.length + 16)) payload
        m.drop (m.length - 16)
      | _, _ => []
    let s := if enc then s.modLink w fun l => { l with tx := l.tx + 1 } else s.modHier fun h => { h with seqOut := sset 0 h.seqOut w n }
    s.putPunty w (.punty (b kind) fl (b s.node) (b w) cycle seq payload tag)

/-- The 32 words of a slice as bytes. -/
def State.sliceFrom (s : State) (w : Nat) : List Byte := (List.range 32).flatMap fun i => leBytes 4 (s.imgWord (w + i)).toNat

/-- Words of bytes, four each. -/
def wordsIn : List Byte → List Word
  | a :: b :: c :: d :: r => BitVec.ofNat 32 (leNat [a, b, c, d]) :: wordsIn r
  | _ => []

/-! ## Receiving punty frames (R593, R596, R598) -/

/-- A frame that R596 refuses is counted. -/
def State.badPunty (s : State) : State := s.modHier fun h => { h with malformed := satInc h.malformed }

/-- A frame that its link refuses is counted; detector 118 does so for a node (R598, R714). -/
def State.badTag (s : State) : State := s.modHier fun h => { h with badProt := satInc h.badProt }

/-- A received frame of length `n` for a module of the given role; what passes the checks goes on to `k`. -/
def State.puntyIn (s : State) (kind : Byte) (mine : Bool) (f : PuntyFrame) (okLen : Bool) (k : State → State) : State :=
  if !mine ∨ !s.puntyCarried ∨ f.dst.toNat ≠ s.node then s
  else if !f.form ∨ !okLen then s.badPunty
  else if !s.large_ then k s
  else if s.injFor 118 f.src.toNat then (s.injDone 118).badTag
  else
    match (s.link f.src.toNat).accept kind f s.clk with
    | some l => k (s.modLink f.src.toNat fun _ => l)
    | none => s.badTag

/-- A received LINK frame: it carries its own signatures. -/
def State.linkIn (s : State) (mine : Bool) (f : PuntyFrame) (okLen : Bool) (k : State → State) : State :=
  if !mine ∨ !s.large_ ∨ !s.puntyCarried ∨ f.dst.toNat ≠ s.node then s
  else if !f.form ∨ !okLen then s.badPunty
  else k s

/-! ## Exchanges on the manager (R591, R592) -/

/-- The exchange of `w` is declared lost. -/
def State.loseExchange (s : State) (w : Nat) : State :=
  s.modWorker w fun x => { x with due := none, lost := (x.lost + 1) % 2 ^ 64, lostUpd := x.lostUpd + 1 }

/-- Every exchange not decided is lost (R592). -/
def State.closeOpen (s : State) : State :=
  s.enabled.foldl (fun s w => if (s.worker w).due.isSome then s.loseExchange w else s) s

/-- HIERARCHY_CYCLE (R590, R594): a cycle begins on the manager. -/
def opHierarchyCycle (s : State) : State :=
  if s.manages ∧ s.hier.cycle ≠ some s.hCycle then
    (s.closeOpen.modHier fun h => { h with cycle := some s.hCycle }).assertLine 187
  else s

/-- SLOT_START (R591): the manager samples the slice of `w` and sends DOWN, or one with ISOLATED (R602). -/
def opSlotStart (b : Byte) (s : State) : State :=
  let w := b.toNat
  let k := s.hCycle
  let x := s.worker w
  let at_ := k * s.tcNs + s.slotOff w
  if s.manages ∧ s.wOn w ∧ s.hier.cycle = some k ∧ x.slotK ≠ some k ∧ at_ ≤ s.time.tb.toNat ∧ s.time.tb.toNat < at_ + s.slotNs then
    let c := BitVec.ofNat 32 k
    let apart := s.cfg 0x7000 7 0 == 1
    if x.st = 2 ∨ (x.st = 3 ∧ !apart) then
      (s.modWorker w fun x => { x with slotK := some k, due := some c, iso := false }).sendPunty 1 0 w c (s.sliceFrom (0x6000 + w * 0x20))
    else if x.st = 3 then (s.modWorker w fun x => { x with slotK := some k, iso := true }).sendPunty 1 2 w c []
    else s
  else s

/-- EXCHANGE_CLOSE (R591): an exchange without UP is lost. Detector 109 makes it report (R714). -/
def opExchangeClose (b : Byte) (s : State) : State :=
  let w := b.toNat
  let x := s.worker w
  let inj := s.injFor 109 w
  match x.slotK with
  | some k =>
    if s.manages ∧ s.wOn w ∧ s.closeOf w k ≤ s.time.tb.toNat ∧ (x.due.isSome ∨ inj) then
      when_ inj (·.injDone 109) (s.loseExchange w)
    else s
  | none => s

/-- UP (R591): the slice of an exchange that is still open. -/
def opUp (f : PuntyFrame) (s : State) : State :=
  s.puntyIn 2 (s.manages && s.wOn f.src.toNat) f (f.payload.length == 128) fun s =>
    let w := f.src.toNat
    let x := s.worker w
    if x.due = some f.cycle ∧ s.time.tb.toNat < s.closeOf w (x.slotK.getD 0) then
      (s.modWorker w fun x => { x with due := none, delivered := (x.delivered + 1) % 2 ^ 64 }).publish
        { src := 0x400 + w, words := wordsFrom (0x2000 + w * 0x20) (wordsIn f.payload), lines := [] }
    else s

/-! ## The worker's side (R591, R593, R594) -/

/-- The worker's link state changes (7014h). -/
def State.ownLink (s : State) (n : Nat) (inj : Bool) : State :=
  if s.hier.own = n then s
  else (s.modHier fun h => { h with own := n }).recInj 0x7014 srcHier n s.hier.own 0 inj

/-- DOWN (R591, R593): a worker publishes its slice, line 187 with it, and answers with UP. -/
def opDown (f : PuntyFrame) (s : State) : State :=
  let apart := f.flags.getLsbD 1
  s.puntyIn 1 (s.works && f.src.toNat == 0) f (f.payload.length == (if apart then 0 else 128)) fun s =>
    if s.hier.lastDown = some f.cycle then s
    else
      let s := s.modHier fun h => { h with lastDown := some f.cycle, downAt := s.clk }
      if apart then s.ownLink 3 false
      else
        let s := (s.modHier fun h => { h with delivered := (h.delivered + 1) % 2 ^ 64 }).ownLink 2 false
        let s := s.publish { src := 0x400, words := wordsFrom 0x2000 (wordsIn f.payload), lines := [187] }
        s.sendPunty 2 0 0 f.cycle (s.sliceFrom 0x6000)

/-- NO_MANAGER (R593): no accepted DOWN for 3 × Tc, or as detector 111 presents it. -/
def opNoManager (s : State) : State :=
  let real := decide (s.hier.downAt + 3 * s.tcNs ≤ s.clk)
  let inj := s.injOn 111
  if s.works ∧ s.hier.own ≠ 0 ∧ (real ∨ inj) then when_ inj (·.injDone 111) (s.ownLink 0 (!real)) else s

/-- Sends LINK1: a handshake begins (R597). -/
def State.sendLink1 (s : State) : State :=
  let q := s.phase1Req
  ((s.draw.draw).modHier fun h => { h with link := { h.link with phase := 1, req1 := q, resp1 := [] } }).sendPunty 0x10 0 0 0 q

/-- Keys and numbers of the link go to a TRAIL (R621). -/
def State.linkToTrail (s : State) : State :=
  if s.leadPaired ∧ s.large_ then s.tlCommand 0 2 (.punty s.hier.link.tx s.hier.link.rx s.hier.link.keys) else s

/-- HEARTBEAT payload (R596). -/
def State.heartbeat (s : State) : List Byte :=
  leBytes 1 s.op.st.code ++ leBytes 1 s.op.key.toNat
    ++ leBytes 1 (b2n s.time.valid + 2 * b2n (s.tdm.st == 2 || s.tdm.st == 4)) ++ leBytes 1 0
    ++ leBytes 4 s.sec.fw[s.fwActive].version.toNat ++ s.digest

/-- HEARTBEAT_TIMER (R596): every 100 ms. CYCLE before any accepted DOWN is open. In a LARGE configuration a worker
whose link is not open sends LINK1 instead (R597). -/
def opHeartbeatTimer (s : State) : State :=
  if s.works ∧ s.hier.hbAt + 99000000 ≤ s.clk then
    let s := s.modHier fun h => { h with hbAt := s.clk }
    if s.large_ ∧ !s.hier.link.open_ then (if s.hier.link.phase = 0 ∨ s.hier.link.at_ + 1000000000 ≤ s.clk then
      (s.modHier fun h => { h with link := { h.link with at_ := s.clk } }).sendLink1 else s)
    else (s.draw.sendPunty 3 0 0 (s.hier.lastDown.getD s.freeWord) s.heartbeat).linkToTrail
  else s

/-! ## Worker states on the manager (R602, R603) -/

/-- A worker changes state (7010h). -/
def State.workerTo (s : State) (w n : Nat) (inj : Bool) : State :=
  let o := (s.worker w).st
  if o = n then s
  else (s.modWorker w fun x => { x with st := n, iso := x.iso && n == 3 }).recInj 0x7010 srcHier w n o inj

/-- Sends QUOTE_REQ with a new nonce (R599). -/
def State.askQuote (s : State) (w : Nat) : State :=
  let nonce := padTo 32 s.freeBytes
  (s.draw.modWorker w fun x => { x with nonce := some nonce, quoteAt := s.clk }).sendPunty 0x14 0 w 0 nonce

/-- The first four bytes of a digest. -/
def head4 (d : List Byte) : Nat := leNat (d.take 4)

/-- The expected digest of a worker. -/
def State.expected (s : State) (w : Nat) : List Byte := s.cfgBytes (0x7010 + w) 2 (List.replicate 48 0)

/-- A heartbeat whose digest is compared (R602). Detector 110 makes it differ. -/
def State.judgeHeartbeat (s : State) (w : Nat) (digest : List Byte) : State :=
  let x := s.worker w
  let inj := s.injFor 110 w
  let same := digest == s.expected w
  if same ∧ !inj then
    (if (x.st = 1 ∧ (!s.large_ ∨ x.attested)) ∨ x.st = 3 then s.workerTo w 2 false else s)
  else if x.st = 2 ∨ (x.st = 1 ∧ !s.large_) then
    let s := when_ inj (·.injDone 110) s
    (s.workerTo w 3 same).recInj 0x7011 srcHier w (head4 (s.expected w)) (head4 digest) same
  else s

/-- HEARTBEAT (R602, R603). It is not compared while the gaffer restarts (R749). -/
def opHeartbeat (f : PuntyFrame) (s : State) : State :=
  s.puntyIn 3 (s.manages && s.wOn f.src.toNat) f (f.payload.length == 56) fun s =>
    let w := f.src.toNat
    let digest := f.payload.drop 8
    let x := s.worker w
    let s := s.modWorker w fun x => { x with hbAt := s.clk, digest := digest }
    if x.st = 0 ∨ x.st = 4 then (if s.large_ then s else s.workerTo w 1 false)
    else if s.sup.restarting || (match x.bound with | some b => olderSeq f.cycle b | none => false) then s
    else s.judgeHeartbeat w digest

/-- SILENT (R602): 300 ms without a heartbeat. -/
def opSilent (b : Byte) (s : State) : State :=
  let x := s.worker b.toNat
  if s.manages ∧ s.wOn b.toNat ∧ x.st ≠ 0 ∧ x.st ≠ 4 ∧ x.hbAt + 300000000 ≤ s.clk then s.workerTo b.toNat 4 false else s

/-! ## Handshake and attestation (R597–R599) -/

/-- LINK1 (R597): the manager answers with LINK2. -/
def opLink1 (f : PuntyFrame) (s : State) : State :=
  s.linkIn (s.manages && s.wOn f.src.toNat) f (f.payload.length == 132) fun s =>
    let w := f.src.toNat
    let p := s.phase1 f.payload
    ((s.draw.draw).modLink w fun l => { l with phase := 2, req1 := f.payload, resp1 := p }).sendPunty 0x11 0 w 0 p

/-- Whether a certificate of the other side is accepted on a link: issued by Crailide, with the serial expected (R597). -/
def State.peerCert (s : State) (cert serial : List Byte) : Bool :=
  Config.certChainOk cert s.rootHash s.certTime && Config.certSerial cert == serial

/-- LINK2 (R597): the worker checks the manager and answers with LINK3. -/
def opLink2 (f : PuntyFrame) (s : State) : State :=
  s.linkIn (s.works && f.src.toNat == 0) f (decide (232 ≤ f.payload.length)) fun s =>
    let l := s.hier.link
    let cert := (certAt f.payload 134 136).1
    if l.phase ≠ 1 then s
    else if s.peerCert cert (s.cfgBytes 0x7000 0xD (List.replicate 20 0)) ∧ phase1Signed l.req1 f.payload then
      (s.modHier fun h => { h with link := { h.link with phase := 3, resp1 := f.payload, cert := cert } }).sendPunty 0x12 0 0 0
        (phase2Req l.req1 f.payload)
    else s.modHier fun h => { h with link := { h.link with phase := 0 } }

/-- The link of a worker opens on the manager: JOINING, and a quote is asked for (R599, R602). -/
def State.linkOpens (s : State) (w : Nat) (cert : List Byte) : State :=
  let s := (s.modLink w fun l => l.opened s.clk cert false).sendPunty 0x13 0 w 0 (leBytes 4 0)
  let st := (s.worker w).st
  if st = 0 ∨ st = 4 then ((s.modWorker w fun x => { x with attested := false, hbAt := s.clk }).workerTo w 1 false).askQuote w else s

/-- LINK3 (R597): the manager checks the worker and answers with LINK4. -/
def opLink3 (f : PuntyFrame) (s : State) : State :=
  s.linkIn (s.manages && s.wOn f.src.toNat) f (decide (100 ≤ f.payload.length)) fun s =>
    let w := f.src.toNat
    let l := (s.worker w).link
    let cert := (certAt f.payload 0 4).1
    let okCert := s.peerCert cert (s.cfgBytes (0x7010 + w) 3 (List.replicate 20 0))
    if l.phase ≠ 2 then s
    else if okCert ∧ phase2Signed l.req1 l.resp1 f.payload then s.linkOpens w cert
    else
      ((s.modLink w fun l => { l with phase := 0 }).sendPunty 0x13 0 w 0 (leBytes 4 0x80000008)).rec_ 0x7015 srcHier w
        (if okCert then 2 else 1)

/-- LINK4 (R597): the worker's link opens when STATUS is 0. -/
def opLink4 (f : PuntyFrame) (s : State) : State :=
  s.linkIn (s.works && f.src.toNat == 0) f (f.payload.length == 4) fun s =>
    if s.hier.link.phase ≠ 3 then s
    else if leNat f.payload = 0 then
      let s := s.modHier fun h => { h with link := h.link.opened s.clk h.link.cert true, downAt := s.clk }
      (if s.hier.own = 0 then s.ownLink 1 false else s).linkToTrail
    else s.modHier fun h => { h with link := { h.link with phase := 0 } }

/-- QUOTE_REQ (R599): a worker answers with a quote (R754). -/
def opQuoteReq (f : PuntyFrame) (s : State) : State :=
  s.puntyIn 0x14 (s.works && s.large_ && f.src.toNat == 0) f (f.payload.length == 32) fun s => s.sendPunty 0x15 0 0 0 (s.mkQuote f.payload)

/-- The firmware hashes that the manager accepts (R599). -/
def State.fwAccepted (s : State) (h : List Byte) : Bool :=
  let l := s.cfgBytes 0x7000 0xE []
  if l = [] then h == padTo 48 s.sec.fw[s.fwActive].hash else (List.range (l.length / 48)).any fun i => sub_ l (48 * i) 48 == h

/-- The first check of a quote that fails (R599): 2 signature, 3 nonce, 4 firmware, 5 digest; 0 for none. -/
def State.quoteFault (s : State) (w : Nat) (nonce q : List Byte) : Nat :=
  if !Config.ecdsaVerify (Config.certKey (s.worker w).link.cert) (q.take 224) (q.drop 224) then 2
  else if sub_ q 8 32 ≠ nonce then 3
  else if !s.fwAccepted (sub_ q 40 48) then 4
  else if sub_ q 136 48 ≠ s.expected w then 5
  else 0

/-- QUOTE (R599). -/
def opQuote (f : PuntyFrame) (s : State) : State :=
  s.puntyIn 0x15 (s.manages && s.large_ && s.wOn f.src.toNat) f (f.payload.length == 320) fun s =>
    let w := f.src.toNat
    match (s.worker w).nonce with
    | none => s
    | some n =>
      let c := s.quoteFault w n f.payload
      let s := s.modWorker w fun x => { x with nonce := none, quote := f.payload, attested := x.attested || c == 0 }
      if c = 0 then s else s.rec_ 0x7015 srcHier w c

/-- QUOTE_REPEAT (R599): a JOINING worker whose check failed is asked again after 60 s. -/
def opQuoteRepeat (b : Byte) (s : State) : State :=
  let w := b.toNat
  let x := s.worker w
  if s.manages ∧ s.large_ ∧ s.wOn w ∧ x.st = 1 ∧ !x.attested ∧ x.link.open_ ∧ x.quoteAt + 60000000000 ≤ s.clk then s.askQuote w else s

/-- LINK_RENEWAL (R598): a worker opens a new link. The handshake starts with a worker's LINK1, so the manager's side of a
renewal is the worker's. -/
def opLinkRenewal (b : Byte) (s : State) : State :=
  if b.toNat = 0 ∧ s.works ∧ s.large_ ∧ s.hier.link.open_ then s.sendLink1 else s

/-- KEY_OVERLAP_END (R598): the old keys are accepted no longer. -/
def opKeyOverlapEnd (b : Byte) (s : State) : State :=
  match (s.link b.toNat).old with
  | some (t, _) => if s.large_ ∧ t ≤ s.clk then s.modLink b.toNat fun l => { l with old := none } else s
  | none => s

/-- A quote is asked of an ACTIVE worker (R599). -/
def State.quoteOf (s : State) (w : Nat) : Option Abort × State :=
  if s.manages ∧ s.large_ ∧ (s.worker w).st = 2 then (none, s.askQuote w) else (some (abState s), s)

end Sys2Proof.Machine
end

