-- ==== Sys2Proof/Machine/Cores.lean ====
section
/-! DEFINITION. Meanings of the commands of the core islands: set points and supply (R25–R29, R173–R176, R195, R669). -/

namespace Sys2Proof.Machine

/-- The cores of a set-point target (R195): core n, or both cores of pair p as 8 + p. -/
def tgtCores (t : Fin 12) : List CoreId :=
  if h : t.val < 8 then [⟨t.val, h⟩] else [⟨2 * (t.val - 8), by omega⟩, ⟨2 * (t.val - 8) + 1, by omega⟩]

/-- The core whose state keeps the pending change of a target. -/
def tgtHead (t : Fin 12) : CoreId := if h : t.val < 8 then ⟨t.val, h⟩ else ⟨2 * (t.val - 8), by omega⟩

/-- The pending change of a target. -/
def State.pendOf (s : State) (t : Fin 12) : Option SpPend :=
  s.core[tgtHead t].spPend.bind fun p => if p.pairw = decide (8 ≤ t.val) then some p else none

/-- Whether a cyclic release time of context `g` falls within `d` ns from now (R58, R175). -/
def State.releaseNear (s : State) (g : Gctx) (d : Nat) : Bool :=
  let t := (s.cx g).taskNow
  t.kind == .cyclic && (passed (t.period * 1000) (t.offset * 1000) s.time.tb.toNat (s.time.tb.toNat + d)).isSome

/-- Whether core `n` leaves a gap for a switch (R175): nothing ready, nothing running, no release within 50 µs. -/
def State.gap (s : State) (n : CoreId) : Bool :=
  !s.clockWanted n && (ctxsOf n).all fun g => !s.releaseNear g 50000

/-- Whether the change may be applied now: a gap, STOP or HALT, or cores without a task. -/
def State.mayApply (s : State) (t : Fin 12) : Bool :=
  s.op.st != .run || (tgtCores t).all fun n => s.gap n || !s.carries n

/-- A supply-low interval of `us` µs is counted and recorded (R669). -/
def State.reportLow (s : State) (n : CoreId) (us : Nat) (inj : Bool) : State :=
  (s.modCore n fun c => { c with lowSince := none, lowCnt := satInc c.lowCnt, lowMax := max c.lowMax (satAdd 0xFFFFFFFF us 0) }).recInj
    0x9005 (0x40 + n.val) n.val us (s.setpt n.val) inj

/-- A supply-low interval that is open ends. -/
def State.endLow (s : State) (n : CoreId) (inj : Bool) : State :=
  match s.core[n].lowSince with
  | some t => s.reportLow n ((s.clk - t) / 1000) inj
  | none => s

/-- A switch starts: the clock of each core stands still (R176), and no cycle is lengthened any more, which ends an open supply-low interval (R27,
R669). -/
def State.startSwitch (s : State) (l : List CoreId) (mhz : Nat) : State :=
  l.foldl (fun s n => (s.endLow n false).modCore n fun c => { c with sw := some mhz, spPend := none, clockOn := false }) s

/-- SETPOINT_APPLY (R175). -/
def opSetpointApply (t : Fin 12) (s : State) : State :=
  match s.pendOf t with
  | some p =>
    if s.mayApply t ∧ s.clk < p.since + 100000000 then (s.startSwitch (tgtCores t) p.mhz).answerLate p.req none else s
  | none => s

/-- The set point of core `n` becomes that of its switch (R176, R196, R548). -/
def State.endSwitch (s : State) (n : CoreId) : State :=
  match s.core[n].sw with
  | some mhz =>
    let old := s.setpt n.val
    let s := (s.putEntry (0xD100 + n.val) 1 (leBytes 2 mhz)).twinWrite 5 (0xD100 + n.val)
    ((s.modCore n fun c => { c with sw := none }).clocks (pairOfCore n)).rec_ 0xD001 (0x40 + n.val) n.val mhz old
  | none => s

/-- SETPOINT_CHANGED (R176). -/
def opSetpointChanged (t : Fin 12) (s : State) : State := (tgtCores t).foldl (fun s n => s.endSwitch n) s

/-- SETPOINT_REFUSED (R175): no gap within 100 ms. -/
def opSetpointRefused (t : Fin 12) (s : State) : State :=
  match s.pendOf t with
  | some p =>
    if p.since + 100000000 ≤ s.clk then
      ((s.modCore (tgtHead t) fun c => { c with spPend := none }).rec_ 0xD002 srcGaffer t.val p.mhz 2).answerLate p.req (some abBusy)
    else s
  | none => s

/-- SUPPLY_BELOW_BAND (R27): cycles lengthen from now on; in a switch the clock stands still (R176). -/
def opSupplyBelow (n : CoreId) (s : State) : State :=
  s.modCore n fun c => { c with lowSince := if c.sw.isSome then c.lowSince else some (c.lowSince.getD s.clk) }

/-- ISLAND_SUPPLY_LOW (R669): the interval has ended; detector 75 + n presents one of no length. -/
def opIslandLow (n : CoreId) (s : State) : State :=
  match s.core[n].lowSince with
  | some t => (s.injDone (75 + n.val)).reportLow n ((s.clk - t) / 1000) false
  | none => if s.injOn (75 + n.val) then (s.injDone (75 + n.val)).reportLow n 0 true else s

/-! ## Meanings -/

/-- SETPOINT_APPLY (R175). -/
def execSetpointApply (tgt : Fin 12) (s : State) : Host.Outcome State Fault Refusal := .next (opSetpointApply tgt s)

/-- SETPOINT_CHANGED (R176). -/
def execSetpointChanged (tgt : Fin 12) (s : State) : Host.Outcome State Fault Refusal := .next (opSetpointChanged tgt s)

/-- SETPOINT_REFUSED (R175). -/
def execSetpointRefused (tgt : Fin 12) (s : State) : Host.Outcome State Fault Refusal := .next (opSetpointRefused tgt s)

/-- SUPPLY_BELOW_BAND (R27). -/
def execSupplyBelowBand (n : CoreId) (s : State) : Host.Outcome State Fault Refusal := .next (whenOn (opSupplyBelow n) s)

/-- ISLAND_SUPPLY_LOW (R669). -/
def execIslandSupplyLow (n : CoreId) (s : State) : Host.Outcome State Fault Refusal := .next (whenOn (opIslandLow n) s)

end Sys2Proof.Machine
end

