-- ==== Sys2Proof/Machine/SysInsn.lean ====
section
/-! DEFINITION. Meanings of the system instructions of S32 and of undefined words (R229–R236). -/

namespace Sys2Proof.Machine

/-! ## Control registers (R190–R194, R232) -/

/-- CTXID (R190). -/
def ctxid (g : Gctx) (paired : Bool) : Word :=
  BitVec.ofNat 32 (fieldAt (g.val % 8) 3 0 + fieldAt (g.val / 8) 3 3 + fieldAt (b2n paired) 1 6)

/-- Word `k` of a 256-bit mask. -/
def word256 (x : BitVec 256) (k : Nat) : Word := x.extractLsb' (32 * k) 32

/-- A 256-bit mask with its word `k` replaced. -/
def setWord256 (x : BitVec 256) (k : Nat) (w : Word) : BitVec 256 :=
  (x &&& ~~~((0xFFFFFFFF#256) <<< (32 * k))) ||| ((w.zeroExtend 256) <<< (32 * k))

/-- Reads a control register; a reserved number reads 0. -/
def readCr (c : Ctx) (g : Gctx) (cr : Nat) : Word :=
  let r := c.regs
  match cr with
  | 0x00 => r.cstat
  | 0x01 => ctxid g c.act.paired
  | 0x02 => r.trapcause
  | 0x03 => r.trappc
  | 0x04 => r.trapinsn
  | 0x05 => r.trapaddr
  | 0x06 => r.trapvec
  | 0x07 => r.trapsave
  | 0x08 => r.coladdr
  | 0x09 => BitVec.ofNat 32 r.colcnt
  | 0x20 => r.evlocal
  | _ =>
    if 0x10 ≤ cr ∧ cr < 0x18 then word256 r.evmask (cr - 0x10)
    else if 0x18 ≤ cr ∧ cr < 0x20 then word256 r.evpend (cr - 0x18)
    else 0

/-- Writes a control register under its access code; RO and reserved numbers ignore it. -/
def writeCr (r : Regs) (cr : Nat) (x : Word) : Regs :=
  match cr with
  | 0x00 => r.putCstat x
  | 0x03 => { r with trappc := x }
  | 0x06 => { r with trapvec := x }
  | 0x07 => { r with trapsave := x }
  | 0x20 => r.putEvlocal x
  | _ =>
    if 0x10 ≤ cr ∧ cr < 0x18 then { r with evmask := setWord256 r.evmask (cr - 0x10) x }
    else if 0x18 ≤ cr ∧ cr < 0x20 then
      { r with evpend := setWord256 r.evpend (cr - 0x18) (word256 r.evpend (cr - 0x18) &&& ~~~x) }
    else r

/-- Whether a write places a reserved value (R191). -/
def crReserved (g : Gctx) (cr : Nat) (x : Word) : Bool := cr == 6 && !inOwnCb g x.toNat

/-! ## Operations -/

/-- The extra cycles of an instruction in a paired activation (R248). -/
def State.pairExtra (s : State) (g : Gctx) : Nat := if (s.cx g).act.paired then 2 else 0

/-- END and COMMIT (R68, R229, R247): the commit leaves at once, or after its comparison. -/
def opCommit (g : Gctx) (sop : Nat) (byEnd : Bool) (s : State) : State :=
  s.run g (insnS sop 0 0) fun s =>
    let p := (s.cx g).act.paired
    let s := s.modAct g (·.spend (1 + s.pairExtra g))
    let s := if byEnd then s.retired g (s.cx g).regs.pc else s
    if p then s.emit g (sysItem (if byEnd then 1 else 2) 0) (.commit byEnd) else s.sendCommit g byEnd

/-- The stall of a paired context that waits while its compare queue holds stores, up to 2 cycles (R248, R250): how many is open. -/
def State.drainStall (s : State) (g : Gctx) : State :=
  if s.pair[pairOf g].items.any fun i => i.ctx == g && i.rel.isStore then (s.modAct g (·.spend (s.freeWord.toNat % 3))).draw else s

/-- WFE (R182). -/
def opWfe (g : Gctx) (s : State) : State :=
  s.run g (insnS 3 0 0) fun s =>
    let s := s.emit g (sysItem 4 0) .none
    if (s.cx g).regs.wakes then s.retire g 1 id
    else ((s.drainStall g).modAct g (·.spend 1)).setStatus g .waitEvent

/-- SEV (R181): the line is asserted once SEV has retired, and been compared when paired (R247). -/
def opSev (g : Gctx) (line : BitVec 6) (s : State) : State :=
  s.run g (insnS 4 0 line.toNat) fun s =>
    let p := (s.cx g).act.paired
    let s := (s.emit g (sysItem 3 line.toNat) (.sev line.toNat)).retire g 1 id
    if p then s else s.assertLine (192 + line.toNat)

/-- The register pair of WAITT (R230). -/
def waitValue (r : Regs) (i : Reg) : Word64 :=
  (r.get ⟨(i.val + 1) % 16, Nat.mod_lt _ (by decide)⟩) ++ (r.get i)

/-- The time that WAITT compares with: the time base, on a TRAIL less 40 µs (R615). -/
def State.waitNow (s : State) : Nat := if s.isTrail then s.time.tb.toNat - 40000 else s.time.tb.toNat

/-- The wait of WAITT: it ends at once when the time base has reached the value (R183). -/
def State.waitTime (s : State) (g : Gctx) (v : Word64) : State :=
  if v.toNat ≤ s.waitNow then s.retire g 1 id
  else (s.modAct g (·.spend 1)).setStatus g (.waitTime v)

/-- WAITT (R183, R230). -/
def opWaitt (g : Gctx) (i : Reg) (s : State) : State :=
  let insn := insnS 5 i.val 0
  s.run g insn fun s =>
    if i.val % 2 = 1 ∨ i.val = 0 then s.trap g insn 3 0 0
    else
      let v := waitValue (s.cx g).regs i
      if (s.cx g).act.paired then
        let item := { sysItem 5 i.val with addr := some (v.extractLsb' 32 32), wdata := some (v.extractLsb' 0 32) }
        (if v.toNat ≤ s.waitNow then s else s.drainStall g).emit g item (.waitTime v)
      else s.waitTime g v

/-- MFCR (R164, R232). -/
def opMfcr (g : Gctx) (i : Reg) (cr : BitVec 6) (s : State) : State :=
  let insn := insnS 8 i.val cr.toNat
  s.run g insn fun s =>
    if !(s.cx g).regs.priv then s.trap g insn 2 0 0
    else
      let x := readCr (s.cx g) g cr.toNat
      s.retire g 1 fun r => r.put i x

/-- MTCR (R164, R232): a reserved value raises BUS_ERR with status RULE; the spec gives TRAPADDR no value there. -/
def opMtcr (g : Gctx) (cr : BitVec 6) (i : Reg) (s : State) : State :=
  let insn := insnS 9 i.val cr.toNat
  s.run g insn fun s =>
    if !(s.cx g).regs.priv then s.trap g insn 2 0 0
    else
      let x := (s.cx g).regs.get i
      if crReserved g cr.toNat x then s.draw.trap g insn 9 3 s.freeWord
      else s.retire g 1 fun r => writeCr r cr.toNat x

/-- RETT (R163, R231, R233). -/
def opRett (g : Gctx) (s : State) : State :=
  let insn := insnS 0x0A 0 0
  s.run g insn fun s =>
    if !(s.cx g).regs.priv then s.trap g insn 2 0 0
    else ((s.modRegs g Regs.rett).modAct g (·.spend 3)).retired g (s.cx g).regs.pc

/-- An undefined word (R236); a defined word is no such step. At U, PRIV comes before UNDEF (R167). -/
def opUndef (g : Gctx) (insn : Word) (s : State) : State :=
  if undefinedInsn insn then
    s.run g insn fun s => s.trap g insn (if privInsn insn && !(s.cx g).regs.priv then 2 else 3) 0 0
  else s

/-- WAITT of `g` completes once the time base has reached its value (R183). -/
def opWaittWake (g : Gctx) (s : State) : State :=
  match (s.cx g).act.status with
  | .waitTime v =>
    if v.toNat ≤ s.waitNow then s.waitEnds g else s
  | _ => s

/-! ## Meanings -/

/-- NOP (R229). -/
def execNop (g : Gctx) (s : State) : Host.Outcome State Fault Refusal :=
  .next (settledInsn (fun s => s.run g (insnS 0 0 0) (fun s => s.retire g 1 id)) s)

/-- END: commits and completes the activation (R68, R71, R229). -/
def execEnd_ (g : Gctx) (s : State) : Host.Outcome State Fault Refusal := .next (settledInsn (opCommit g 1 true) s)

/-- COMMIT: commits and goes on (R68, R140, R229). -/
def execCommit (g : Gctx) (s : State) : Host.Outcome State Fault Refusal := .next (settledInsn (opCommit g 2 false) s)

/-- WFE (R182, R229). -/
def execWfe (g : Gctx) (s : State) : Host.Outcome State Fault Refusal := .next (settledInsn (opWfe g) s)

/-- SEV (R181, R229). -/
def execSev (g : Gctx) (line : BitVec 6) (s : State) : Host.Outcome State Fault Refusal := .next (settledInsn (opSev g line) s)

/-- WAITT (R183, R229, R230). -/
def execWaitt (g : Gctx) (r : Reg) (s : State) : Host.Outcome State Fault Refusal := .next (settledInsn (opWaitt g r) s)

/-- TRAP (R229). -/
def execTrap (g : Gctx) (imm : BitVec 16) (s : State) : Host.Outcome State Fault Refusal :=
  .next (settledInsn (fun s => s.run g (insnS 6 0 imm.toNat) (fun s => s.trap g (insnS 6 0 imm.toNat) 11 0 0)) s)

/-- MFCR (R229, R232). -/
def execMfcr (g : Gctx) (r : Reg) (cr : BitVec 6) (s : State) : Host.Outcome State Fault Refusal := .next (settledInsn (opMfcr g r cr) s)

/-- MTCR (R229, R232). -/
def execMtcr (g : Gctx) (cr : BitVec 6) (r : Reg) (s : State) : Host.Outcome State Fault Refusal := .next (settledInsn (opMtcr g cr r) s)

/-- RETT (R229, R231). -/
def execRett (g : Gctx) (s : State) : Host.Outcome State Fault Refusal := .next (settledInsn (opRett g) s)

/-- UNDEF (R236). -/
def execUndef (g : Gctx) (insn : Word) (s : State) : Host.Outcome State Fault Refusal := .next (settledInsn (opUndef g insn) s)

end Sys2Proof.Machine
end

