-- ==== Sys2Proof/Machine/PairCmds.lean ====
section
/-! DEFINITION. Meanings of the commands of the pair units: comparison, the background test, the debugger
(R246–R270). -/

namespace Sys2Proof.Machine

/-! ## Lanes (R246, R269) -/

/-- The lanes of an item, lane 0 first. -/
def lanesOf (i : LaneItem) : List (Option Nat) :=
  [i.addr.map (·.toNat), i.wdata.map (·.toNat), i.ctrl.map (·.toNat), i.iaddr.map (·.toNat), i.smask.map (·.toNat),
   i.sval.map (·.toNat), i.sys.map (·.toNat)]

/-- Widths of the lanes. -/
def laneBits : List Nat := [32, 32, 8, 20, 32, 32, 16]

/-- The lowest bit in which two values differ, 0 when they do not. -/
def lowestDiff (a b : Nat) : Nat := ((List.range 32).find? fun k => bitOf a k != bitOf b k).getD 0

/-- The value on a lane; a missing item counts as zeros. -/
def laneVal (i : Option LaneItem) (k : Nat) : Nat := ((i.map lanesOf).getD []).getD k none |>.getD 0

/-- The lanes that an item uses. -/
def lanesUsed (i : Option LaneItem) : List Nat :=
  match i with
  | some x => (List.range 7).filter fun k => ((lanesOf x).getD k none).isSome
  | none => []

/-- LANE of R269: between items that use the same lanes the lowest lane on which they differ, otherwise the lowest lane
that the leader's item uses, or the checker's when the leader has none. -/
def mmLane (a b : Option LaneItem) : Nat :=
  let ua := lanesUsed a
  let ub := lanesUsed b
  if ua = ub then (ua.find? fun k => laneVal a k != laneVal b k).getD 0
  else if ua.isEmpty then ub.headD 0 else ua.headD 0

/-- BIT of R269. -/
def mmBit (a b : Option LaneItem) : Nat := lowestDiff (laneVal a (mmLane a b)) (laneVal b (mmLane a b))

/-! ## Comparison (R247, R253) -/

/-- What leaves the pair once an item of `g` has been compared (R247). -/
def State.leave (s : State) (g : Gctx) : Release → State
  | .none => s
  | .store a size d => s.cbStore g a size d
  | .send => s.modPort g fun p => { p with txn := p.txn.map fun (t : Txn) => { t with sent := true } }
  | .own =>
    match (s.cx g).port.txn with
    | some t => let r := s.ownAccess g t; r.1.deliverResp g t r.2 false
    | none => s
  | .trap insn cause status addr => s.trapNow g insn cause status addr
  | .badFetch => s
  | .commit byEnd => s.sendCommit g byEnd
  | .sev l => s.assertLine (192 + l)
  | .waitEvent => s
  | .waitTime v => s.waitTime g v

/-- A mismatch of context `g` on pair `p` (R253–R258): nothing of the item leaves, the task's action applies. -/
def State.mismatch (s : State) (p : PairId) (g : Gctx) (lane bit : Nat) (pc : Word) (inj : Bool) : State :=
  let s := s.modPair p fun q => { (q.forget g) with
    mismatch := true, injected := inj, mmLane := lane, mmBit := bit, mmCtx := g.val, mmPc := pc, mmCnt := satInc q.mmCnt }
  let s := s.recInj 0xD010 (0x48 + p.val) g.val (lane * 256 + bit) pc.toNat inj
  if (s.cx g).act.broken then s else ((s.abandon g).mismatchAction g false).stopIfIdle

/-- Whether detector 32 + p reports for context `g` (R714). -/
def State.mmInjected (s : State) (p : PairId) (g : Gctx) : Bool := s.injFor (32 + p.val) (g.val % 8)

/-- The item of FETCH (R167, R791), which the checker presents for a word that it cannot fetch. -/
def fetchItem : LaneItem := sysItem 6 1

/-- The leader's item of the instruction whose word the checker cannot fetch, if it has one. -/
def itemAfter (i : PairItem) : List PairItem → Option LaneItem
  | j :: _ => if j.ctx = i.ctx ∧ j.pc = i.pc then some j.item else none
  | [] => none

/-- CHECKER_COMPARE (R246): the oldest item of the leader against the checker's copy. -/
def opCheckerCompare (p : PairId) (item : Option LaneItem) (s : State) : State :=
  match s.pair[p].items with
  | i :: rest =>
    if i.rel = .badFetch then
      let a := itemAfter i rest
      s.mismatch p i.ctx (mmLane a (some fetchItem)) (mmBit a (some fetchItem)) i.pc false
    else if item ≠ some i.item then s.mismatch p i.ctx (mmLane (some i.item) item) (mmBit (some i.item) item) i.pc false
    else if s.mmInjected p i.ctx then
      let b := (s.det (32 + p.val)).b.toNat
      (s.injDone (32 + p.val)).mismatch p i.ctx (b / 256) (b % 256) i.pc true
    else (s.modPair p fun q => { q with items := rest }).leave i.ctx i.rel
  | [] =>
    match item, s.pairRuns p with
    | some _, some g => s.mismatch p g (mmLane none item) (mmBit none item) (s.cx g).regs.pc false
    | _, _ => s

/-! ## The comparator test (R259–R263) -/

/-- Lane and bit of step `k` of the 172 steps, from a list of lane widths. -/
def stepAt : List Nat → Nat → Nat → Nat × Nat
  | [], _, _ => (7, 0)
  | w :: r, lane, k => if k < w then (lane, k) else stepAt r (lane + 1) (k - w)

/-- What step `k` must report: nothing for step 0, else its lane and bit (R259). -/
def stepWants (k : Nat) : Option (Nat × Nat) := if k = 0 then none else some (stepAt laneBits 0 (k - 1))

/-- Parameter 2 of D013h for step `k`. -/
def stepParam (k : Nat) : Nat :=
  match stepWants k with
  | some lb => lb.1 * 256 + lb.2
  | none => 0xFFFF

/-- A comparator failed: the pair is unusable (R260, R262). -/
def State.compFail (s : State) (p : PairId) (param phase : Nat) (inj : Bool) : State :=
  (s.modPair p fun q => { q with usable := false, testfail := true, injected := inj }).recInj 0xD013 (0x48 + p.val) p.val param phase inj

/-- The mismatch action is due for every paired task of the pair (R262, R266). -/
def State.oweAll (s : State) (p : PairId) : State :=
  { s with ctx := Vector.ofFn fun (g : Fin 64) =>
      let c := s.ctx[g]
      if g.val / 16 = p.val ∧ g.val % 16 < 8 ∧ c.task.paired ∧ !c.act.broken then { c with act := { c.act with owed := true } } else c }

/-- A passed background step (R261). -/
def Pair.stepped (q : Pair) : Pair :=
  if q.step = 172 then { q with step := 0, sweeps := q.sweeps + 1 } else { q with step := q.step + 1 }

/-- COMPARATOR_STEP (R261, R262), in a cycle in which no paired context runs on the pair. -/
def opComparatorStep (p : PairId) (found : Option (Nat × Nat)) (s : State) : State :=
  let q := s.pair[p]
  if (s.cfg (0xD120 + p.val) 5 1 = 0 ∧ s.tdm.st < 3) ∨ (s.pairRuns p).isSome ∨ q.test = 2 then s
  else if found ≠ stepWants q.step then (s.compFail p (stepParam q.step) 1 false).oweAll p
  else if s.injOn (36 + p.val) then
    ((s.injDone (36 + p.val)).compFail p (s.det (36 + p.val)).b.toNat 1 true).oweAll p
  else s.modPair p Pair.stepped

/-- REPEAT_COMPARATOR_TEST (R263): only in STOP. What the comparator's circuits do is free. -/
def State.repeatTest (s : State) (p : PairId) : Res :=
  let inj := s.injOn (36 + p.val)
  let bad := !s.freeBool
  let step := s.freeWord.toNat % 173
  if s.op.st ≠ .stop then (s, some (abState s))
  else if bad ∨ inj then
    (((if inj then s.injDone (36 + p.val) else s).draw.compFail p
        (if bad then stepParam step else (s.det (36 + p.val)).b.toNat) 2 (!bad)).modPair p fun q => { q with test := 1 }, none)
  else (s.draw.modPair p fun q => { q with usable := true, test := 0 }, none)

/-! ## The debugger (R264–R266) -/

/-- DEBUG_HALT (R264): the leader's copy halts; what waits for its comparison leaves without it, and a broken context owes no mismatch
action (R266). A context that is broken already halts as one that runs alone. -/
def opDebugHalt (g0 : Gctx) (s : State) : State :=
  let g := s.home g0
  let p := pairOf g
  if (s.cx g).act.dbgHalt then s
  else if (s.cx g).task.paired && !(s.cx g).act.broken then
    let its := s.pair[p].items.filter fun i => i.ctx == g
    let s := s.modPair p fun q => { (q.forget g) with brokenF := true, brkCnt := satInc q.brkCnt }
    let s := s.modAct g fun a => { a with broken := true, dbgHalt := true, dbgAt := s.clk, paired := false, owed := false }
    let s := its.foldl (fun s i => s.leave g i.rel) s
    ((s.rec_ 0xD011 (0x48 + p.val) g.val (s.cx g).regs.pc.toNat).excuseHalted g).clocks p
  else (s.modAct g fun a => { a with dbgHalt := true, dbgAt := s.clk }).excuseHalted g

/-- An instant of the last retired instruction after a halt from `from_` to `clk`, which counts toward no limit (R664, R668). -/
def pastHalt (x from_ clk : Nat) : Nat := if x ≤ from_ then x + (clk - from_) else clk

/-- DEBUG_RESUME (R265): the context goes on, on the leader alone. -/
def opDebugResume (g0 : Gctx) (s : State) : State :=
  let g := s.home g0
  if (s.cx g).act.dbgHalt then
    let t := (s.cx g).act.dbgAt
    let s := s.modAct g fun a => { a with dbgHalt := false, retiredAt := pastHalt a.retiredAt t s.clk }
    (s.modCore (coreOf g) fun c => { c with lastRetire := pastHalt c.lastRetire t s.clk }).clocks (pairOf g)
  else s

/-! ## Meanings -/

/-- CHECKER_COMPARE (R246). -/
def execCheckerCompare (p : PairId) (item : Option LaneItem) (s : State) : Host.Outcome State Fault Refusal :=
  .next (settledInsn (opCheckerCompare p item) s)

/-- COMPARATOR_STEP (R261). -/
def execComparatorStep (p : PairId) (found : Option (Nat × Nat)) (s : State) : Host.Outcome State Fault Refusal :=
  .next (whenOn (opComparatorStep p found) s)

/-- DEBUG_HALT (R264). -/
def execDebugHalt (g : Gctx) (s : State) : Host.Outcome State Fault Refusal := .next (whenOn (opDebugHalt g) s)

/-- DEBUG_RESUME (R265). -/
def execDebugResume (g : Gctx) (s : State) : Host.Outcome State Fault Refusal := .next (opDebugResume g s)

end Sys2Proof.Machine
end

