-- ==== Sys2Proof/Machine/Inject.lean ====
section
/-! DEFINITION. The injection commands (R714–R717). -/

namespace Sys2Proof.Machine

/-- Detectors of kind C report a condition that lasts (R714). -/
def condDet (d : Nat) : Bool :=
  decide (75 ≤ d ∧ d ≤ 82) || decide (84 ≤ d ∧ d ≤ 87)
    || [92, 93, 95, 96, 97, 98, 99, 100, 102, 103, 105, 106, 108, 110, 111, 112, 113, 115, 119].contains d

/-- A lane and bit of the compare lanes as lane × 256 + bit (R246, R714). -/
def laneLegal (b : Nat) : Bool := decide (b / 256 < 7) && decide (b % 256 < laneBits.getD (b / 256) 0)

/-- Whether an address lies in bank `k` of detectors 48 to 69. -/
def inBankNo (k a : Nat) : Bool := if h : k < 11 then decide (bankBase ⟨k, h⟩ ≤ a ∧ a < bankBase ⟨k, h⟩ + 4 * bankWords ⟨k, h⟩) else false

/-- Bound of target A where it is a number below a bound and B must be 0 (R714); 0 where A must be 0. -/
def targetBound (d : Nat) : Nat :=
  if 8 ≤ d ∧ d ≤ 31 then 8
  else if d = 44 ∨ d = 45 ∨ d = 121 then 64
  else if d = 92 ∨ (94 ≤ d ∧ d ≤ 97) ∨ d = 112 ∨ d = 113 then 32
  else if (98 ≤ d ∧ d ≤ 100) ∨ d = 107 ∨ d = 108 then 2
  else if d = 101 ∨ d = 106 then 16
  else if d = 102 ∨ d = 117 then 4
  else if d = 105 then 256
  else if d = 109 ∨ d = 110 ∨ d = 118 then 255
  else if d = 124 then 11
  else if d = 125 then 65536
  else 1

/-- Whether target A and value B lie inside the table of R714. -/
def targetLegal (d a b : Nat) : Bool :=
  if 32 ≤ d ∧ d ≤ 35 then decide (a < 8) && laneLegal b
  else if 36 ≤ d ∧ d ≤ 39 then a == 0 && laneLegal b
  else if d = 46 ∨ d = 47 then decide (a < 64 ∧ b < 0x8000)
  else if 48 ≤ d ∧ d ≤ 58 then inBankNo (d - 48) a && b == 0
  else if 59 ≤ d ∧ d ≤ 69 then inBankNo (d - 59) a && b == 0
  else if d = 70 then inNv a && b == 0
  else if d = 74 then decide (a ≤ 8 ∧ b < 65536)
  else if d = 93 then decide (a < 32 ∧ b < 2)
  else if d = 103 then decide (a < 2 ∧ b < 2)
  else if d = 104 then a == 0 && decide (b < 2)
  else if d = 122 then decide (a < 64 ∧ 1 ≤ b ∧ b ≤ 0x0B)
  else if d = 123 then decide (a < 64 ∧ 1 ≤ b ∧ b ≤ 7)
  else decide (a < targetBound d) && b == 0

/-- Target and value of detector `d` as its entries hold them now. -/
def State.injArgs (s : State) (d : Nat) : Nat × Nat := (s.cfg (0xA100 + d) 2 0, s.cfg (0xA100 + d) 3 0)

/-- Why an injection command is refused (R715, R716), in the session's role. -/
def State.injBars (s : State) (d : Nat) (role : Nat) (hold : Bool) : Option Abort :=
  firstBad [need (s.op.key != 1) (abState s), need (s.op.key != 2 || role == 3) (abAuth 3 role), need (decide (d < 126)) abRange,
    need (!hold || condDet d) abRange, need (targetLegal d (s.injArgs d).1 (s.injArgs d).2) abRange,
    need (!(decide (40 ≤ d ∧ d ≤ 42)) || s.sup.on) (abState s)]

/-- An accepted ONCE or HOLD. -/
def State.arm (s : State) (d : Nat) (st : Nat) : State :=
  let x := s.injArgs d
  let det : Det := { st := st, a := BitVec.ofNat 32 x.1, b := BitVec.ofNat 32 x.2, cnt := satInc (s.det d).cnt }
  { s with inj := sset ⟨0, 0, 0, 0⟩ s.inj d det }.rec_ 0xA010 srcGaffer d x.1 x.2

/-- ONCE (R715). -/
def State.injOnce (s : State) (d : Fin 128) (role : Nat) : Res :=
  match s.injBars d.val role false with
  | some a => (s, some a)
  | none => (s.arm d.val 1, none)

/-- HOLD (R715). -/
def State.injHold (s : State) (d : Fin 128) (role : Nat) : Res :=
  match s.injBars d.val role true with
  | some a => (s, some a)
  | none => (s.arm d.val 2, none)

/-- A held condition is withdrawn. -/
def State.withdraw (s : State) (d : Nat) : State :=
  if (s.det d).st = 2 then
    { s with inj := sset ⟨0, 0, 0, 0⟩ s.inj d { s.det d with st := 0 } }.rec_ 0xA011 srcGaffer d 0
  else s

/-- RELEASE (R715). -/
def State.injRelease (s : State) (d : Fin 128) (role : Nat) : Res :=
  match s.injBars d.val role false with
  | some a => (s, some a)
  | none => (s.withdraw d.val, none)

end Sys2Proof.Machine
end

