-- ==== Sys2Proof/Machine/Programs.lean ====
section
/-! DEFINITION. Meanings of the commands of an online edit that come from the module itself (R289–R305). -/

namespace Sys2Proof.Machine

/-- The request that waits for the edit's ready time is answered. -/
def State.answerEdit (s : State) (ab : Option Abort) : State :=
  match s.prog.edit.req with
  | some r => (s.modEdit fun e => { e with req := none }).answerLate r ab
  | none => s

/-- Every check has passed on every unit: Ts is chosen, or the edit is refused (R289). -/
def State.readyEdit (s : State) : State :=
  match s.chooseTs s.time.tb.toNat with
  | some ts =>
    let s := (s.answerEdit none).armEdit ts
    if s.leadPaired then s.tlCommand 0 1 (.armed (BitVec.ofNat 32 (ts / s.ttNs))) else s
  | none =>
    let s := ((s.answerEdit (some abRange)).modProg fun p => { p with edit := .blank }).gateIdle
    if s.leadPaired then s.tlCommand 0 1 .drop else s

/-- READY_TIME (R289, R304): LEAD waits for TRAIL when it is not ready yet; TRAIL tells LEAD. Staging waits for a march on
a bank that takes blocks of the edit (R329). -/
def opReadyTime (s : State) : State :=
  if s.prog.edit.st ≠ 1 ∨ s.marchUnder (placement (bodyOf s.prog.edit.image)) then s
  else if s.isTrail then (if s.tdm.ready then s else (s.modTdm fun t => { t with ready := true }).tlCommand 0 1 .ready)
  else if s.leadPaired ∧ !s.tdm.ready then
    (if s.prog.edit.trail.isSome then s else s.modEdit fun e => { e with trail := some s.clk })
  else s.readyEdit

/-- SWITCH_INSTANT (R291). -/
def opSwitchInstant (s : State) : State :=
  if s.prog.edit.st = 2 ∧ s.prog.edit.ts.toNat ≤ s.time.tb.toNat then s.switchEdit else s

/-- MIGRATION (R293). -/
def opMigration (g : Gctx) (s : State) : State := s.migrate g

/-- REVERT_SWITCH (R300). -/
def opRevertSwitch (s : State) : State :=
  if s.prog.edit.st = 4 ∧ s.prog.edit.ts.toNat ≤ s.time.tb.toNat then s.revertSwitch else s

/-- AUTOMATIC_ACCEPT (R299): 10 minutes after Ts. In a tandem LEAD names the cycle at which both units accept (R305). -/
def opAutomaticAccept (s : State) : State :=
  if s.prog.edit.st ≠ 3 ∨ s.clk < s.prog.edit.acceptAt ∨ s.isTrail then s
  else if s.leadPaired then (if s.tdm.cmds.any fun c => c.2 == .automaticAccept then s else s.share .automaticAccept 1000000)
  else s.acceptEdit 1

/-- TRAIL_READY_TIMEOUT (R304). -/
def opTrailReadyTimeout (s : State) : State :=
  match s.prog.edit.trail with
  | some t =>
    if s.prog.edit.st = 1 ∧ t + 2000000000 ≤ s.clk then
      let s := (s.answerEdit (some abBusy)).cancelEdit 3
      if s.leadPaired then s.tlCommand 0 1 .cancel else s
    else s
  | none => s

/-! ## Meanings -/

/-- READY_TIME (R289). -/
def execReadyTime (s : State) : Host.Outcome State Fault Refusal := .next (opReadyTime s)

/-- SWITCH_INSTANT (R291). -/
def execSwitchInstant (s : State) : Host.Outcome State Fault Refusal := .next (opSwitchInstant s)

/-- MIGRATION (R293). -/
def execMigration (g : Gctx) (s : State) : Host.Outcome State Fault Refusal := .next (opMigration g s)

/-- REVERT_SWITCH (R300). -/
def execRevertSwitch (s : State) : Host.Outcome State Fault Refusal := .next (opRevertSwitch s)

/-- AUTOMATIC_ACCEPT (R299). -/
def execAutomaticAccept (s : State) : Host.Outcome State Fault Refusal := .next (opAutomaticAccept s)

/-- TRAIL_READY_TIMEOUT (R304). -/
def execTrailReadyTimeout (s : State) : Host.Outcome State Fault Refusal := .next (opTrailReadyTimeout s)

end Sys2Proof.Machine
end

