-- ==== Sys2Proof/Machine/Tasks.lean ====
section
/-! DEFINITION. Meanings of the commands of tasks and operating state: releases, overruns, the key (R58–R114). -/

namespace Sys2Proof.Machine

/-! ## Releases (R58–R66) -/

/-- Whether a context can be released: not during a reload, its activation over, its task not stopped. -/
def State.free (s : State) (g : Gctx) : Bool := !(s.cx g).inProgress && (s.cx g).act.status != .stopped

/-- What takes place at the release time `r` of a cyclic task (R58, R60, R61, R65, R77, R262, R666): `extra` release times before
it were passed. Under SKIP a release time that finds the overrunning activation unfinished is skipped with cause 0, and the next one that
finds it finished is still skipped with cause 1 (DEDUCED, log entry 79). -/
def State.cyclicAt (s : State) (g : Gctx) (r : Word64) (extra : Nat) : State :=
  let a := (s.cx g).act
  let s := (s.modAct g fun a => { a with seen := some r }).skip g extra 2
  if a.status = .stopped then s
  else if s.reloading g then
    s.modAct g fun a => { a with reloadSkip := a.reloadSkip + 1, skipCnt := a.skipCnt + 1, fSkipped := true }
  else if (s.cx g).inProgress then s.skip g 1 0
  else if a.owed then s.payOwed g
  else if a.skipNext then (s.modAct g fun a => { a with skipNext := false }).skip g 1 1
  else (s.modAct g fun a => { a with last := some r }).releaseAs g r false

/-- CYCLIC_RELEASE (R58–R61, R65): the latest release time that has passed, and the ones before it as skipped. -/
def opCyclicRelease (g : Gctx) (s : State) : State :=
  let t := (s.cx g).taskNow
  if s.releasing ∧ t.kind = .cyclic ∧ !s.isChecker g then
    match passed (t.period * 1000) (t.offset * 1000) (s.releaseFloor g) s.time.tb.toNat with
    | some (r, n) => s.cyclicAt g (BitVec.ofNat 64 r) (n - 1)
    | none => s
  else s

/-- HELD_RELEASE (R63): once the inter-arrival time has passed and the previous activation has completed. -/
def opHeldRelease (g : Gctx) (s : State) : State :=
  if s.releasing ∧ (s.cx g).act.held ∧ s.free g ∧ !s.tooSoon g ∧ !s.reloading g then
    if (s.cx g).act.owed then (s.modAct g fun a => { a with held := false }).payOwed g
    else if (s.cx g).act.skipNext then (s.modAct g fun a => { a with skipNext := false, held := false }).skip g 1 1
    else s.release g
  else s

/-- BACKGROUND_RELEASE (R66, R87). -/
def opBackgroundRelease (g : Gctx) (s : State) : State :=
  if s.releasing ∧ (s.cx g).taskNow.kind = .background ∧ s.free g ∧ s.op.enterClk + 1000000 ≤ s.clk
      ∧ !s.reloading g ∧ (s.cx g).act.armFrom ≤ s.clk then s.release g else s

/-- EVENT_LINES_ARMED (R87). -/
def opEventLinesArmed (s : State) : State :=
  if s.op.st = .run ∧ s.op.enterClk + 1000000 ≤ s.clk then s.modOp fun o => { o with armed := true } else s

/-- A forwarded release on a TRAIL (R615): LEAD's release time and gather epoch. -/
def State.laggedAt (s : State) (g : Gctx) (f : Fwd) : State :=
  let cyc := (s.cx g).taskNow.kind == .cyclic
  let s := s.modAct g fun a => { a with seen := if cyc then some f.time else a.seen }
  if s.op.st ≠ .run ∨ (s.cx g).act.status = .stopped ∨ (s.cx g).taskNow.kind = .none then s
  else if (s.cx g).inProgress then s.skip g 1 0
  else if (s.cx g).act.owed then s.payOwed g
  else ((s.modAct g fun a => { a with last := if cyc then some f.time else a.last }).releaseAs g f.time false).modImgCtx g fun i => { i with gather := f.epoch }

/-- The first forwarded release of a context. -/
def State.fwdOf (s : State) (g : Gctx) : Option Fwd := s.tdm.rel.find? fun f => f.ctx == g.val

/-- LAGGED_RELEASE (R615): 40 µs after LEAD's release time. -/
def opLaggedRelease (g : Gctx) (s : State) : State :=
  match s.fwdOf g with
  | some f =>
    if s.inStep ∧ f.time.toNat + 40000 ≤ s.time.tb.toNat then
      (s.modTdm fun t => { t with rel := t.rel.erase f }).laggedAt g f
    else s
  | none => s

/-! ## Overruns and misses (R77–R79, R88) -/

/-- An overrun is reported (R77): flag, count, code 2010h. -/
def State.reportOverrun (s : State) (g : Gctx) (inj : Bool) : State :=
  (s.modAct g fun a => { a with overran := true, fOverrun := true, ovrCnt := satInc a.ovrCnt }).recInj
    0x2010 g.val g.val (s.cx g).task.budget (s.cx g).task.action inj

/-- The overrun of `g` is due: the budget is used up before END, or detector 16 + core reports it (R714). It waits for the items that the
pair unit still holds, since a mismatch on one goes ahead (R254), and gives way to a progress fault (R664). -/
def State.overrunDue (s : State) (g : Gctx) : Bool :=
  let c := s.cx g
  c.task.kind != .background && c.inProgress && !c.act.overran && (c.act.status != .committing true)
    && (decide (c.task.budget ≤ c.act.used) || s.injFor (16 + g.val / 8) (g.val % 8)) && !s.pairBusy g && !s.stalled g

/-- BUDGET_OVERRUN (R77, R88). -/
def opBudgetOverrun (g : Gctx) (s : State) : State :=
  if s.overrunDue g then
    let real := decide ((s.cx g).task.budget ≤ (s.cx g).act.used)
    let code := (s.cx g).task.action
    let s := (if real then s else s.injDone (16 + g.val / 8)).reportOverrun g (!real)
    if s.op.stopping.isSome then (s.abandon g).stopIfIdle else s.overrunAction g code
  else s

/-- Time since the release of `g` in ns (R71, R78). -/
def State.elapsed (s : State) (g : Gctx) : Nat := nsSince s.time.tb (s.cx g).act.rel

/-- A deadline of `g` has passed (R72), and no item of it waits for its comparison (R254), or detector 24 + core reports it (R714). -/
def State.missDue (s : State) (g : Gctx) : Bool :=
  let c := s.cx g
  c.task.kind != .background && c.inProgress && !c.act.missed
    && (decide (c.act.rel.toNat + c.task.deadline * 1000 < s.time.tb.toNat) || s.injFor (24 + g.val / 8) (g.val % 8)) && !s.pairBusy g

/-- DEADLINE_MISS (R78, R79, R88). -/
def opDeadlineMiss (g : Gctx) (s : State) : State :=
  if s.missDue g then
    let real := decide ((s.cx g).act.rel.toNat + (s.cx g).task.deadline * 1000 < s.time.tb.toNat)
    let was := (s.cx g).act.overran
    let code := (s.cx g).task.action
    let s := if real then s else s.injDone (24 + g.val / 8)
    let s := (s.modAct g fun a => { a with missed := true, fMiss := true, missCnt := satInc a.missCnt }).recInj 0x2011 g.val g.val
      (s.elapsed g) ((s.cx g).task.deadline * 1000) (!real)
    if was then s else (s.overrunAction g code).stopIfIdle
  else s

/-! ## Key and operating state (R83–R91) -/

/-- The key position of two contacts, `true` closed (R83). -/
def keyCode (a b : Bool) : BitVec 2 := BitVec.ofNat 2 (b2n a + 2 * b2n b)

/-- KEY_INPUT_CHANGE (R83): debouncing starts anew. -/
def opKeyInput (a b : Bool) (s : State) : State :=
  if a = s.op.rawA ∧ b = s.op.rawB then s else s.modOp fun o => { o with rawA := a, rawB := b, debounce := some s.clk }

/-- The first start condition that fails, 0 for none (R86, R260). -/
def State.startFails (s : State) : Nat :=
  if !s.prog.loaded then 1
  else if allCtx.any (fun g => (s.cx g).task.paired && !s.pair[pairOf g].usable) then 2
  else if s.nv.inRecall then 3
  else if s.isTrail ∧ s.tdm.leadSt ≠ 1 then 4
  else 0

/-- The key asks for RUN (R85, R771). -/
def State.tryRun (s : State) (cause : Nat) : State :=
  if s.startFails = 0 then s.enterRun cause else s.rec_ 0x2023 srcGaffer s.startFails

/-- What a key position that takes effect does to the operating state (R85, R91). -/
def State.keyActs (s : State) (k : BitVec 2) : State :=
  if s.pwr.phase ≠ .running then s
  else if s.isTrail then (if k = s.tdm.leadKey then s else s.rec_ 0x2024 srcGaffer k.toNat s.tdm.leadKey.toNat)
  else if k = 0 ∨ k = 3 then s.toStop 0
  else if k = 1 ∧ s.op.st = .stop then s.tryRun 0
  else s

/-- KEY_CHANGE (R83–R85): the inputs have been unchanged for 20 ms. Start-up reads the position at step 10 (R771). -/
def opKeyChange (s : State) : State :=
  match s.op.debounce with
  | some t =>
    if t + 20000000 ≤ s.clk ∧ (s.pwr.phase = .running ∨ s.pwr.phase = .recovery) then
      let k := keyCode s.op.rawA s.op.rawB
      let old := s.op.key
      let s' := s.modOp fun o => { o with debounce := none, key := k }
      if k = old then s'
      else
        let s' := s'.rec_ 0x2020 srcGaffer k.toNat old.toNat
        let s' := if k = 3 then s'.rec_ 0x2021 srcGaffer else s'
        let s' := if s'.leadPaired then s'.tlCommand 0 0 (.key k s'.op.st.code s'.op.haltCause.toNat) else s'
        s'.keyActs k
    else s
  | none => s

/-- STOP_LIMIT (R88): 1 ms after RUN was left. -/
def opStopLimit (s : State) : State :=
  match s.op.stopping with
  | some t => if t + 1000000 ≤ s.clk then s.finishStop else s
  | none => s

/-- START (R85): run command 1. -/
def State.startReq (s : State) : Res :=
  if s.op.key = 2 ∧ s.op.st ≠ .run ∧ s.startFails = 0 ∧ !s.isTrail ∧ s.pwr.phase = .running then (s.enterRun 1, none)
  else (s, some (abState s))

/-- STOP (R85): run command 2. -/
def State.stopReq (s : State) : Res :=
  if s.op.key = 2 ∧ s.op.st ≠ .stop ∧ !s.isTrail then (s.toStop 1, none) else (s, some (abState s))

/-- A restarted task (R82): it follows its normal release rule from now on. A release that was held when STOP_TASK stopped it is dropped:
a stopped task is not released again until it is restarted (DESIGN CHOICE, log entry 81). -/
def State.restartTask (s : State) (g : Gctx) : State :=
  let s := (s.modAct g fun a => { a with seen := some s.time.tb, held := false }).setStatus g .idle
  let s := if s.cfg (0x9100 + g.val) 1 0 = 1 then s.modSup fun p => { p with expCfg := p.expCfg ||| ctxBit g } else s
  if (s.cx g).task.kind = .background ∧ s.releasing then s.release g else s

/-- RESTART_TASK (R82, R114): in REM, for a stopped task. -/
def State.restartReq (s : State) (g : Gctx) : Res :=
  if s.op.key = 2 ∧ (s.cx g).act.status = .stopped ∧ s.op.st = .run then (s.restartTask g, none) else (s, some (abState s))

/-! ## Meanings -/

/-- CYCLIC_RELEASE (R58). -/
def execCyclicRelease (g : Gctx) (s : State) : Host.Outcome State Fault Refusal := .next (settled (opCyclicRelease g) s)

/-- HELD_RELEASE (R63). -/
def execHeldRelease (g : Gctx) (s : State) : Host.Outcome State Fault Refusal := .next (settled (opHeldRelease g) s)

/-- BACKGROUND_RELEASE (R66). -/
def execBackgroundRelease (g : Gctx) (s : State) : Host.Outcome State Fault Refusal := .next (opBackgroundRelease g s)

/-- EVENT_LINES_ARMED (R87). -/
def execEventLinesArmed (s : State) : Host.Outcome State Fault Refusal := .next (opEventLinesArmed s)

/-- LAGGED_RELEASE (R615). -/
def execLaggedRelease (g : Gctx) (s : State) : Host.Outcome State Fault Refusal := .next (opLaggedRelease g s)

/-- BUDGET_OVERRUN (R77). -/
def execBudgetOverrun (g : Gctx) (s : State) : Host.Outcome State Fault Refusal := .next (settled (opBudgetOverrun g) s)

/-- DEADLINE_MISS (R78). -/
def execDeadlineMiss (g : Gctx) (s : State) : Host.Outcome State Fault Refusal := .next (settled (opDeadlineMiss g) s)

/-- KEY_INPUT_CHANGE (R83). -/
def execKeyInputChange (keya keyb : Bool) (s : State) : Host.Outcome State Fault Refusal := .next (opKeyInput keya keyb s)

/-- KEY_CHANGE (R85). -/
def execKeyChange (s : State) : Host.Outcome State Fault Refusal := .next (settled opKeyChange s)

/-- STOP_LIMIT (R88). -/
def execStopLimit (s : State) : Host.Outcome State Fault Refusal := .next (settled opStopLimit s)

/-- WAITT_WAKE (R183). -/
def execWaittWake (g : Gctx) (s : State) : Host.Outcome State Fault Refusal := .next (opWaittWake g s)

end Sys2Proof.Machine
end

