-- ==== Sys2Proof/Machine/TandemOps.lean ====
section
/-! DEFINITION. Operations of the tandem agent: INTLK, frames, stepping, agreement, checks, health, joining, switch-over
(R608–R632). -/

namespace Sys2Proof

/-- The data of a COPY frame. -/
opaque Config.copyEncode : Machine.TlCopy → List Byte
/-- What the payload of a COPY frame says: region, offset and data. -/
opaque Config.copyDecode : List Byte → Machine.TlCopy
/-- The region code of a COPY frame (R631). -/
opaque Config.copyRegion : Machine.TlCopy → Nat
/-- The offset of a COPY frame (R631). -/
opaque Config.copyOffset : Machine.TlCopy → Nat

end Sys2Proof

namespace Sys2Proof.Machine

/-- SRC of the tandem agent (R703). -/
def srcTdm : Nat := 0x57

/-! ## Joining and leaving (R611, R624, R625, R629) -/

/-- Forwarded work of an earlier membership is dropped. -/
def Tdm.fresh (t : Tdm) : Tdm :=
  { t with rel := [], lines := [], netseq := [], waitTx := [], waiting := 0, ownCrc := [], peerCrc := [], crcRun := 0, pend := none
           cmds := [], dis := 0, copied := none, joinCyc := none }

/-- A unit begins to join as TRAIL (R611, R629): it authenticates. -/
def State.beginJoin (s : State) : State :=
  let q := s.phase1Req
  let s := s.draw.draw.modTdm fun t => { t.fresh with st := 3, joinStep := 1, joinAt := s.clk, authed := 0, rxSeq := none, keys := none, aReq := q, aResp := [] }
  s.tlSend 0xA q

/-- TRAIL becomes OUT_OF_STEP (R625). -/
def State.outOfStep (s : State) (cause : Nat) (inj : Bool) : State :=
  if s.tdm.st = 4 then
    (s.modTdm fun t => { t.fresh with st := 5, outAt := s.clk, joinStep := 0 }).recInj 0x7035 srcTdm s.tdm.cycle cause 0 inj
  else s

/-- A join fails (R629). -/
def State.joinFails (s : State) (step cause : Nat) : State :=
  (s.modTdm fun t => { t.fresh with st := 5, outAt := s.clk, joinStep := 0 }).rec_ 0x7036 srcTdm step cause

/-- The first thing that join step 1 or 2 finds wrong: step and cause (R629). -/
def State.joinBars (s : State) (p : PartnerId) : Option (Nat × Nat) :=
  firstBad [need p.certOk (1, 1), need (p.version == s.sec.fw[s.fwActive].version) (2, 2), need (p.digest == s.digest) (2, 3),
    need (p.program == s.progHash) (2, 4)]

/-- The operating state of a TRAIL becomes LEAD's (R91, R629): `cause` is 0 by the key, 1 by a command. -/
def State.takeState (s : State) (n hc cause : Nat) : State :=
  if n = s.op.st.code then s
  else if n = 1 then s.tryRun cause
  else if n = 0 then s.toStop cause
  else s.draw.halt ⟨s.freeWord.toNat % 64, Nat.mod_lt _ (by decide)⟩ hc

/-- A difference between LEAD's key position and TRAIL's (R91). -/
def State.keyDiffers (s : State) (pos : BitVec 2) : State :=
  if pos ≠ s.op.key then s.rec_ 0x2024 srcGaffer s.op.key.toNat pos.toNat else s

/-- TRAIL's operating state follows LEAD's, in step or not (R91, R629). -/
def State.followLead (s : State) (pos : BitVec 2) (n hc : Nat) : State :=
  let byKey := s.tdm.leadKey != pos
  let s := s.modTdm fun t => { t with leadKey := pos, leadSt := n, leadHc := hc }
  let s := if byKey then s.keyDiffers pos else s
  s.takeState n hc (b2n (!byKey))

/-- Whether everything is copied and the tandem cycle that LEAD named has begun (R629 step 5). -/
def State.joinReady (s : State) : Bool :=
  s.tdm.authed == 2 && decide (3 ≤ s.tdm.joinStep)
    && (match s.tdm.joinCyc with | some c => !olderSeq (BitVec.ofNat 32 s.tdm.cycle) c | none => false)

/-- Join step 5 (R629): TRAIL is IN_STEP, in the operating state of LEAD (R91). -/
def State.joined (s : State) : State :=
  let s := (s.modTdm fun t => { t.fresh with st := 4, joinStep := 0, lastEpoch := s.img.epoch, cycleAt := s.clk }).rec_ 0x7036 srcTdm 0 0
  (s.keyDiffers s.tdm.leadKey).takeState s.tdm.leadSt s.tdm.leadHc 1

/-- JOIN (R629): the steps go as far as they can. Steps 1 and 2 compare the partner; step 5 ends the join. -/
def opJoin (p : PartnerId) (s : State) : State :=
  if s.tdm.st ≠ 3 ∨ !s.tdm.presIn ∨ s.tdm.joinAt + 2000000000 < s.clk then s
  else
    match s.joinBars p with
    | some x => s.joinFails x.1 x.2
    | none => if s.joinReady then s.joined else s

/-- JOIN_TIMEOUT (R629): 2 s have passed. Steps 3 and 4 fail for want of convergence. -/
def opJoinTimeout (s : State) : State :=
  if s.tdm.st = 3 ∧ s.tdm.joinAt + 2000000000 ≤ s.clk then
    s.joinFails s.tdm.joinStep (if s.tdm.joinStep = 1 then 1 else if 3 ≤ s.tdm.joinStep then 5 else 0)
  else s

/-- REJOIN_TIMER (R625): 10 s after OUT_OF_STEP or a failed join. -/
def opRejoinTimer (s : State) : State :=
  if s.tdm.st = 5 ∧ s.tdm.presIn ∧ s.tdm.outAt + 10000000000 ≤ s.clk then s.beginJoin else s

/-- CYCLE_TIMEOUT (R625): no CYCLE for 3 × Tt. -/
def opCycleTimeout (s : State) : State :=
  if s.tdm.st = 4 ∧ s.tdm.cycleAt + 3 * s.ttNs ≤ s.clk then s.outOfStep 2 false else s

/-! ## INTLK and presence (R610–R612, R627) -/

/-- The states of the workers that the old LEAD published last (R628, R632), on a manager pair. -/
def State.takeWorkers (s : State) : State :=
  s.enabled.foldl (fun s w =>
    let x := s.imgWord (0x300 + w)
    s.modWorker w fun y => { y with st := x.toNat % 8, iso := x.getLsbD 3, hbAt := s.clk, slotK := some s.hCycle, due := none }) s

/-- The exchanges of the current hierarchy cycle that were not yet sent are lost (R628). -/
def State.loseUnsent (s : State) : State :=
  s.enabled.foldl (fun s w =>
    if ((s.worker w).st = 2 ∨ ((s.worker w).st = 3 ∧ s.cfg 0x7000 7 0 ≠ 1)) ∧ s.time.tb.toNat < s.hCycle * s.tcNs + s.slotOff w then s.loseExchange w
    else s) s

/-- Manager duties on a manager pair (R622, R627, R628): taken up at the next hierarchy cycle start. -/
def State.takeManager (s : State) : State :=
  if s.hrole = 1 then (s.takeWorkers.loseUnsent).modHier fun h => { h with cycle := some s.hCycle } else s

/-- What a TRAIL that takes the LEAD does at once (R627): pending forwarded releases and assertions, and cyclic releases
whose RELEASE has not arrived. -/
def State.takeOver (s : State) : State :=
  let rel := s.tdm.rel
  let lines := s.tdm.lines
  let s := s.modTdm fun t => { t.fresh with cmds := t.cmds }
  let s := rel.foldl (fun (s : State) f => if h : f.ctx < 64 then s.laggedAt ⟨f.ctx, h⟩ f else s) s
  let s := lines.foldl (fun (s : State) l => s.forwardedLine l.1) s
  (allCtx.foldl (fun s g => opCyclicRelease g s) s).takeManager

/-- The unit holds INTLK from now on and is LEAD (R611, R627). One that waited for INTLK since its start decides on RUN now
(R771). -/
def State.becomeLead (s : State) : State :=
  let was := s.tdm.st
  let s := (s.modTdm fun t => { t with holds := true, st := 1, joinStep := 0 }).assertLine 184
  if was < 3 then (if s.op.key = 1 ∧ s.op.st = .stop ∧ s.pwr.phase = .running then s.tryRun 0 else s)
  else
    let s := (s.modTdm fun t => { t with switches := satInc t.switches, swAt := some s.clk }).rec_ 0x7031 srcTdm s.tdm.cycle s.tdm.lastEpoch.toNat
    if was = 4 then s.takeOver else s.modTdm Tdm.fresh

/-- INTLK_RELEASED (R611, R627): INTLK becomes free; an IN_STEP TRAIL takes it at once. -/
def opIntlkReleased (s : State) : State :=
  if !s.tdm.busy then s
  else
    let s := (s.modTdm fun t => { t with busy := false, freeAt := s.clk }).assertLine 184
    if s.tdm.st = 4 then s.becomeLead else s

/-- INTLK_HELD (R177, R611): INTLK is pulled low by another. -/
def opIntlkHeld (s : State) : State :=
  if s.tdm.busy ∨ s.tdm.holds then s else (s.modTdm fun t => { t with busy := true }).assertLine 184

/-- How long INTLK must have been free before this unit claims it, in ns (R611). -/
def State.claimWait (s : State) : Nat :=
  if s.tdm.st = 4 then 0 else if 3 ≤ s.tdm.st then 100000000 else if s.cfg 0x7200 2 0 = 0 then 0 else 5000000

/-- INTLK_CLAIM (R611). -/
def opIntlkClaim (s : State) : State :=
  if s.tdm.st ≠ 0 ∧ !s.tdm.holds ∧ !s.tdm.busy ∧ s.pwr.phase = .running ∧ s.tdm.freeAt + s.claimWait ≤ s.clk then s.becomeLead else s

/-- PRES_IN_CHANGE (R610): without PRES_IN the unit is SOLO; with it a unit that finds INTLK held joins. -/
def opPresInChange (high : Bool) (s : State) : State :=
  if s.tdm.presIn = high then s
  else
    let s := s.modTdm fun t => { t with presIn := high, rxSeq := none }
    if s.tdm.st = 0 then s
    else if !high then s.modTdm fun t => { t.fresh with st := 1, joinStep := 0, pHealthAt := none, cmds := if t.holds then t.cmds else [] }
    else if !s.tdm.holds ∧ s.tdm.busy ∧ s.pwr.phase = .running then s.beginJoin
    else s

/-- SWITCHOVER (R612). -/
def State.switchover (s : State) : Res :=
  if s.op.key = 2 ∧ s.trailHealthy then (s.giveUp, none) else (s, some (abState s))

/-- REJOIN (R625): the unit itself when it is a TRAIL, else its partner. -/
def State.rejoinReq (s : State) : Res :=
  if s.tdm.st = 0 ∨ !s.tdm.presIn then (s, some (abState s))
  else if s.tdm.st = 5 then (s.beginJoin, none)
  else if s.isTrail then (s, none)
  else (s.tlCommand 0 3 .rejoin, none)

/-- Tandem operation is enabled (R608): the unit claims INTLK, or joins where it is held. -/
def State.tandemUp (s : State) : State :=
  let s := s.modTdm fun t => { t.fresh with st := 1, holds := false, freeAt := s.clk }
  if s.tdm.busy ∧ s.tdm.presIn then s.beginJoin else s

/-- Tandem operation is disabled: INTLK is released. -/
def State.tandemDown (s : State) : State := s.dropIntlk.modTdm fun t => { t.fresh with st := 0, joinStep := 0 }

/-! ## Receiving frames (R630) -/

/-- A received frame of type `ty`: discarded and counted, or taken by `k`. A unit without PRES_IN ignores TL. -/
def State.tlIn (s : State) (ty : Nat) (f : TdmFrame) (k : State → State) : State :=
  if s.tdm.st = 0 ∨ !s.tdm.presIn then s
  else
    let follows : Bool := match s.tdm.rxSeq with | some n => f.seq == n + 1 | none => true
    let inj := s.injOn 116
    let s := s.modTdm fun t => { t with rxSeq := some f.seq }
    let sound := f.check == tlCheck s.tdm.keys ty f
    if sound && follows && !inj then k s
    else
      let s := (when_ inj (·.injDone 116) s).modTdm fun t => { t with disc := satInc t.disc }
      if ty = 2 then s.outOfStep 3 (sound && follows) else s

/-- A U32 of a payload. -/
def tlU32 (p : List Byte) (o : Nat) : Nat := leNat (sub_ p o 4)

/-! ## Stepping (R613–R618) -/

/-- CYCLE (R613): TRAIL takes the cycle number and disciplines its time base; a frame that still waits for NETSEQ is
discarded. How long the frame was under way is open below the bound of R609. -/
def opCycle (f : TdmFrame) (s : State) : State :=
  s.tlIn 1 f fun s =>
    if s.tdm.st < 3 then s
    else
      let t0 := leNat (f.payload.take 8)
      let a := s.sampleNo
      let s := s.modTime fun t => { t with tb := BitVec.ofNat 64 (t0 + s.freeWord.toNat % 4421), slew := 0 }
      let s := { s with fld := s.fld.moved a s.sampleNo }
      s.draw.modTdm fun t => { t with cycle := f.tcycle.toNat, cycleAt := s.clk, waitTx := [] }

/-- Runs of a PUBLISH payload: first words and counts. -/
def runHeads : Nat → List Byte → List (Nat × Nat)
  | 0, _ => []
  | n + 1, b => (leNat (b.take 2), leNat (sub_ b 2 2)) :: runHeads n (b.drop 4)

/-- The words of a PUBLISH payload (R631). -/
def publishWords (p : List Byte) : List (Nat × Word) :=
  let n := leNat (sub_ p 6 2)
  let ix := (runHeads n (p.drop 8)).flatMap fun r => (List.range r.2).map (r.1 + ·)
  ix.zip (wordsIn (p.drop (8 + 4 * n)))

/-- PUBLISH (R614, R625): TRAIL publishes the set under LEAD's epoch; an epoch left out puts it out of step. Lines come by
RELEASE (R615). -/
def opPublish (f : TdmFrame) (s : State) : State :=
  s.tlIn 2 f fun s =>
    let e : Word := BitVec.ofNat 32 (tlU32 f.payload 0)
    if s.tdm.st ≠ 4 then s
    else if e ≠ s.tdm.lastEpoch + 1 then s.outOfStep 3 false
    else
      let set : PubSet := { src := leNat (sub_ f.payload 4 2), words := publishWords f.payload, lines := [] }
      let s := s.modTdm fun t => { t with lastEpoch := e }
      s.modImg fun i => ({ i with epoch := e - 1 }).published set s.clk

/-- TANDEM_RELEASE (R615). -/
def opTandemRelease (f : TdmFrame) (s : State) : State :=
  s.tlIn 4 f fun s =>
    let p := f.payload
    let n := (p.getD 1 0).toNat
    let t : Word64 := BitVec.ofNat 64 (leNat (sub_ p 8 8))
    if s.tdm.st ≠ 4 then s
    else if (p.getD 0 0).toNat = 0 then s.modTdm fun x => { x with rel := x.rel ++ [⟨n, BitVec.ofNat 32 (tlU32 p 4), t⟩] }
    else s.modTdm fun x => { x with lines := x.lines ++ [(n, t)] }

/-- The numbers that LEAD used go on from here after a switch-over (R627). -/
def State.noteSeq (s : State) (n : NetSeq) : State :=
  let p : Fin 4 := ⟨n.iface % 4, Nat.mod_lt _ (by decide)⟩
  if s.pairMode (npair p) = 0 then s else s.modNetPair (npair p) fun q => { q with seq := BitVec.ofNat 16 (n.seq.toNat + 1) }

/-- NETSEQ (R621): a frame that waits goes out, else the numbers wait for it. -/
def opNetseq (f : TdmFrame) (s : State) : State :=
  s.tlIn 5 f fun s =>
    let p := f.payload
    let n : NetSeq := ⟨(p.getD 0 0).toNat, (p.getD 1 0).toNat, BitVec.ofNat 32 (tlU32 p 4), BitVec.ofNat 32 (tlU32 p 8),
      BitVec.ofNat 32 (tlU32 p 12), BitVec.ofNat 32 (tlU32 p 16)⟩
    if s.tdm.st ≠ 4 then s
    else
      let s := s.noteSeq n
      match s.tdm.waitTx.find? (·.1 == n.iface) with
      | some w => (s.modTdm fun t => { t with waitTx := t.waitTx.erase w }).sendCopy ⟨n.iface % 4, Nat.mod_lt _ (by decide)⟩ w.2 n
      | none => s.modTdm fun t => { t with netseq := t.netseq ++ [n] }

/-! ## Input agreement (R619, R620) -/

/-- A bit of LEAD's and of TRAIL's word under a policy, with the safe value. -/
def agree (policy : Nat) (safe a b : Bool) : Bool :=
  match policy with
  | 1 => a && b
  | 2 => a || b
  | 3 => if a = b then a else safe
  | _ => a

/-- A word of 32 channel bits. -/
def chWord (f : Nat → Bool) : Word := (List.range 32).foldl (fun w k => if f k then w ||| (1#32 <<< k) else w) 0

/-- The agreed word of two units (R619). -/
def State.agreed (s : State) (a b : Word) : Word :=
  chWord fun k => agree (s.cfg (0x7210 + k) 1 0) (s.cfg (0x7210 + k) 3 0 == 1) (a.getLsbD k) (b.getLsbD k)

/-- Value of word `w` of a set. -/
def wordIn (l : List (Nat × Word)) (w : Nat) : Word := ((l.find? (·.1 == w)).map (·.2)).getD 0

/-- A word of a set replaced. -/
def putIn (l : List (Nat × Word)) (w : Nat) (x : Word) : List (Nat × Word) := l.map fun p => if p.1 = w then (w, x) else p

/-- A channel disagrees at a scan (R620): counted, shown, and recorded when it agreed before. -/
def State.disagrees (s : State) (k : Nat) (a8 aA b8 bA : Word) (real : Bool) : State :=
  let first := !s.tdm.dis.getLsbD k
  let s := s.modTdm fun t => { t with inDis := satInc t.inDis, inBits := t.inBits ||| (1#32 <<< k), dis := t.dis ||| (1#32 <<< k) }
  if first then
    s.recInj 0x7032 srcTdm k (b2n (a8.getLsbD k) + 2 * b2n (aA.getLsbD k)) (b2n (b8.getLsbD k) + 2 * b2n (bA.getLsbD k)) (!real)
  else s

/-- LEAD's field words meet TRAIL's (R619, R620): the agreed bits are published. Detector 112 presents a disagreement. -/
def State.agreeScan (s : State) (set : PubSet) (theirs : List Word) : State :=
  let a8 := wordIn set.words 8
  let aA := wordIn set.words 10
  let b8 := theirs.getD 8 0
  let bA := theirs.getD 10 0
  let s := s.modTdm fun t => { t with pend := none }
  let s := (List.range 32).foldl (fun s k =>
    let real := a8.getLsbD k != b8.getLsbD k || aA.getLsbD k != bA.getLsbD k
    if real then s.disagrees k a8 aA b8 bA true
    else if s.injFor 112 k then (s.injDone 112).disagrees k a8 aA b8 bA false
    else s.modTdm fun t => { t with dis := t.dis &&& ~~~(1#32 <<< k) }) s
  s.publish { set with words := putIn (putIn set.words 8 (s.agreed a8 b8)) 10 (s.agreed aA bA) }

/-- The scan instant of a set. -/
def scanInstant (set : PubSet) : Nat := (wordIn set.words 1).toNat + (wordIn set.words 2).toNat * 2 ^ 32

/-- SCAN (R619). -/
def opScan (f : TdmFrame) (s : State) : State :=
  s.tlIn 3 f fun s =>
    match s.tdm.pend with
    | some set => if s.leadPaired ∧ leNat (f.payload.take 8) = scanInstant set then s.agreeScan set (wordsIn (f.payload.drop 8)) else s
    | none => s

/-- SCAN_TIMEOUT (R619): 20 µs after the scan instant LEAD uses its own values. -/
def opScanTimeout (s : State) : State :=
  match s.tdm.pend with
  | some set =>
    if scanInstant set + 20000 ≤ s.time.tb.toNat then (s.modTdm fun t => { t with pend := none, inDis := satInc t.inDis }).publish set else s
  | none => s

/-! ## Checks and health (R625, R626) -/

/-- CRC-32C over the committed output words 4000h–7FFFh (R625). -/
def State.outCrc (s : State) : Word := crc32c ((List.range 0x4000).flatMap fun i => leBytes 4 (s.outWord (0x4000 + i)).toNat)

/-- The CRCs of one cycle meet: three mismatches in consecutive cycles put TRAIL out of step (R625). Detector 114 makes the
mismatch report. -/
def State.meetCrc (s : State) (c : Nat) : State :=
  match s.tdm.ownCrc.find? (·.1 == c), s.tdm.peerCrc.find? (·.1 == c) with
  | some a, some b =>
    let inj := s.injOn 114
    let n := if a.2 = b.2 then 0 else s.tdm.crcRun + 1
    let s := s.modTdm fun t => { t with
      crcRun := n, ownCrc := t.ownCrc.filter fun (x : Nat × Word) => x.1 != c, peerCrc := t.peerCrc.filter fun (x : Nat × Word) => x.1 != c }
    if 3 ≤ n ∨ inj then (when_ inj (·.injDone 114) s).outOfStep 1 (n < 3) else s
  | _, _ => s

/-- The unit's own CRC of cycle `c` is computed and sent (R625, R631). -/
def State.sendCheck (s : State) (c : Nat) : State :=
  let x := s.outCrc
  let s := s.modTdm fun t => { t with ownCrc := (c, x) :: t.ownCrc.take 3 }
  (s.tlSend 6 (leBytes 4 c ++ leBytes 4 x.toNat)).meetCrc c

/-- CHECK (R625). -/
def opCheck (f : TdmFrame) (s : State) : State :=
  s.tlIn 6 f fun s =>
    let c := tlU32 f.payload 0
    (s.modTdm fun t => { t with peerCrc := (c, BitVec.ofNat 32 (tlU32 f.payload 4)) :: t.peerCrc.take 3 }).meetCrc c

/-- HEALTH (R626, R638): bit 5 of TRAIL's word tells LEAD whether it is IN_STEP. A word sent before the cycle of the join says nothing of
it. -/
def opHealth (f : TdmFrame) (s : State) : State :=
  s.tlIn 7 f fun s =>
    let h : Word := BitVec.ofNat 32 (tlU32 f.payload 0)
    let s := s.modTdm fun t => { t with pHealth := h, pHealthAt := some s.clk }
    if s.isTrail then s
    else if !h.getLsbD 5 && (match s.tdm.joinCyc with | some c => olderSeq f.tcycle c | none => false) then s
    else s.modTdm fun t => { t with st := if h.getLsbD 5 then 2 else 1, pend := if h.getLsbD 5 then t.pend else none }

/-- What the module's own state says of the health bits 0 to 2 and 4 to 5 (R638): no core bank failed its marches, no comparator test
failed, no island supply is low, no UE met the recall, and the unit is IN_STEP or LEAD. The clocks it does not know. -/
def State.healthNow (s : State) : Nat :=
  b2n ((s.bank.toList.take 8).all fun b => !b.failed) + 2 * b2n (s.pair.toList.all fun p => p.usable || p.test == 2)
    + 4 * b2n (s.core.toList.all fun c => c.lowSince.isNone || c.sw.isSome) + 8 + 16 * b2n (!s.nv.inRecall && !s.nv.ue)
    + 32 * b2n (s.tdm.st == 4 || s.tdm.holds)

/-- HEALTH_TIMER (R626, R638): every 10 ms. `bits` is what the self-test's own checks of marches, comparators, supplies and clocks found; the
count of marches is open. -/
def opHealthTimer (bits : Word) (s : State) : State :=
  if s.tdm.st = 0 ∨ s.clk < s.tdm.healthAt + 10000000 then s
  else
    let h : Word := (bits ||| 0xFFFFFFF0) &&& BitVec.ofNat 32 s.healthNow
    let sweeps := s.pair.toList.foldl (fun n p => n + p.sweeps) 0
    let s' := s.draw.modTdm fun t => { t with health := h, healthAt := s.clk }
    if s.tdm.presIn then s'.tlSend 7 (leBytes 4 h.toNat ++ leBytes 4 s.freeWord.toNat ++ leBytes 4 sweeps) else s'

/-- PARTNER_HEALTH_LOST (R626, R662): the last HEALTH is 30 ms old, or detector 115 presents that. An IN_STEP TRAIL takes
INTLK when it is free. -/
def opPartnerHealthLost (s : State) : State :=
  match s.tdm.pHealthAt with
  | some t =>
    let real := decide (t + 30000000 ≤ s.clk)
    if real ∨ s.injOn 115 then
      let s := (when_ (!real) (·.injDone 115) s).modTdm fun x => { x with pHealthAt := none }
      if s.tdm.st = 4 ∧ !s.tdm.busy then s.becomeLead else s
    else s
  | none => s

/-! ## Output agreement (R623) -/

/-- OUTPUT_DISAGREE (R623): the latest `n` samples found the partner's driven state and the node as given. Once the driven states, or the
node and their OR, have differed for 100 µs, the bit is set, and the code recorded once; detector 113 presents that. -/
def opOutputDisagree (ch : Ch) (partner node : Bool) (n : Nat) (s : State) : State :=
  let f := s.fch ch
  let back := s.cfg (0x7210 + ch.val) 2 0xFF != 0xFF
  if (s.tdm.st ≠ 2 ∧ s.tdm.st ≠ 4) ∨ (f.mode ≠ 2 ∧ f.mode ≠ 3) then s
  else
    let was := f.dis.held true 100
    let s := s.modCh ch fun f => { f with dis := f.dis.feed (f.driven != partner || (back && node != (f.driven || partner))) n s.sampleNo }
    let real := (s.fch ch).dis.held true 100
    let inj := s.injFor 113 ch.val
    if !real ∧ !inj then s
    else
      let s := (when_ inj (·.injDone 113) s).modTdm fun t => { t with outBits := t.outBits ||| (1#32 <<< ch.val) }
      if was ∧ !inj then s
      else s.recInj 0x7034 srcTdm ch.val (b2n f.driven * 2 + b2n partner) (b2n node) (!real)

/-! ## Commands of LEAD (R91, R304, R618, R621, R625) -/

/-- An edit that LEAD passes on is checked as LEAD checks it (R304). -/
def State.trailEdit (s : State) (c : List Byte) : State :=
  if s.tdm.st ≠ 4 ∨ s.prog.edit.st ≠ 0 then s else ((s.checkEdit c none).1).modTdm fun t => { t with ready := false }

/-- LEAD hears that TRAIL is ready: with its own ready time past, the switch instant is chosen (R304). -/
def State.trailReady (s : State) : State :=
  let s := s.modTdm fun t => { t with ready := true }
  if s.prog.edit.st = 1 ∧ s.prog.edit.trail.isSome then s.readyEdit else s

/-- The start of tandem cycle number `c` near the present one (R304). -/
def State.cycleStart (s : State) (c : Word) : Nat :=
  let k := s.time.tb.toNat / s.ttNs
  (Int.toNat ((k : Int) + (c - BitVec.ofNat 32 k).toInt)) * s.ttNs

/-- COMMAND (R618). A request waits for the cycle it names. -/
def opCommand (f : TdmFrame) (s : State) : State :=
  s.tlIn 8 f fun s =>
    match Config.tlDecode (f.payload.drop 5) with
    | .request i => if s.tdm.st = 4 then s.modTdm fun t => { t with cmds := t.cmds ++ [(tlU32 f.payload 0, i)] } else s
    | .key pos n hc => if s.isTrail then s.followLead pos n hc else s
    | .edit c => if s.isTrail then s.trailEdit c else s
    | .ready => if s.leadPaired then s.trailReady else s
    | .armed c => if s.tdm.st = 4 ∧ s.prog.edit.st = 1 then s.armEdit (s.cycleStart c) else s
    | .cancel => if s.isTrail ∧ (s.prog.edit.st = 1 ∨ s.prog.edit.st = 2) then s.cancelEdit 3 else s
    | .drop => if s.isTrail ∧ s.prog.edit.st = 1 then (s.modProg fun p => { p with edit := .blank }).gateIdle else s
    | .punty tx rx k =>
      if s.isTrail then s.modHier fun h => { h with link := { h.link with open_ := true, phase := 0, tx := tx, rx := rx, keys := k } } else s
    | .restart => s.modTdm fun t => { t with pHealthAt := some (s.clk + 70000000) }
    | .rejoin => if s.tdm.st = 5 then s.beginJoin else s
    | .join c => if s.tdm.st = 3 ∧ 3 ≤ s.tdm.joinStep then s.modTdm fun t => { t with joinStep := 4, joinCyc := some c } else s

/-! ## Authentication and copying (R629) -/

/-- Addresses that are copied: the core banks and the retained halves of the record store (R345). Code blocks are among
them; both units hold the same ones. -/
def copiedAddr (a : Nat) : Bool :=
  decide (a < 0x400000) || decide (nvBase + 0x58000 ≤ a ∧ a < nvBase + 0x158000)

/-- What LEAD copies to a joining TRAIL (R629 step 3). -/
def State.copies (s : State) : List TlCopy :=
  [.input s.img.epoch s.img.ver, .output s.img.out, .forces s.img.forces, .memory (s.mem.filter fun c => copiedAddr c.1),
   .energy s.nrg.inst s.nrg.pulse, .counters (Vector.ofFn fun k => s.net.pair[k].seq) (s.net.gpub.toList.map fun g => (g.stNum, g.sqNum)),
   .edit s.prog (s.prog.edit.acceptAt - s.clk) (s.ctx.toList.map fun c => (c.task, c.next)) s.img.own s.img.ownNew s.img.split s.img.splitNew,
   .network ((List.range 4).flatMap fun f => (List.range 5).filterMap fun k =>
      (s.entry (0x5010 + f) (k + 1)).map fun v => (dkey (0x5010 + f) (k + 1), v)),
   .punty s.hier.link (s.hier.workers.map fun w => (w.1, w.2.link))]

/-- The payload of a COPY frame (R631): region, three reserved bytes, offset, data. -/
def copyPayload (c : TlCopy) : List Byte :=
  leBytes 1 (Config.copyRegion c) ++ leBytes 3 0 ++ leBytes 4 (Config.copyOffset c) ++ Config.copyEncode c

/-- Bytes that changed or were cleared since the copy `old` of memory. -/
def cellsSince (old new : List Host.Cell) : List Host.Cell :=
  (new.filter fun c => !old.contains c) ++ (old.filter fun c => !new.any fun d => d.1 == c.1).map fun c => (c.1, 0)

/-- The memory that a copy carries. -/
def TlCopy.mem? : TlCopy → Option (List Host.Cell)
  | .memory m => some m
  | _ => none

/-- What is marked of a copy since `old` was sent (R629 step 3). -/
def TlCopy.since (old : List TlCopy) : TlCopy → List TlCopy
  | .memory m =>
    let d := cellsSince ((old.findSome? TlCopy.mem?).getD []) m
    if d.isEmpty then [] else [.cells d]
  | c => if old.contains c then [] else [c]

/-- The time that copies take on TL, in ns: 8 a byte, with header and tag (R609, R630). -/
def copyTime (l : List TlCopy) : Nat := (l.map fun c => 8 * ((copyPayload c).length + 32)).sum

/-- Copies go out as COPY frames. -/
def State.sendCopyOf (s : State) (l : List TlCopy) : State := l.foldl (fun (s : State) c => s.tlSend 9 (copyPayload c)) s

/-- LEAD's part of join steps 4 and 5 at the start of tandem cycle `n` (R629): what is marked goes out again; once it fits one cycle the next
one is named, and in that one the remainder goes out and LEAD counts its partner as IN_STEP. -/
def State.copyMarked (s : State) (n : Nat) : State :=
  match s.tdm.copied with
  | none => s
  | some old =>
    let all := s.copies
    let rest := all.flatMap (TlCopy.since old)
    if s.tdm.joinCyc = some (BitVec.ofNat 32 n) then (s.sendCopyOf rest).modTdm fun t => { t with copied := none, st := 2 }
    else
      let s := (s.sendCopyOf rest).modTdm fun t => { t with copied := some all }
      if copyTime rest ≤ s.ttNs then
        (s.modTdm fun t => { t with joinCyc := some (BitVec.ofNat 32 (n + 1)) }).tlCommand 0 0 (.join (BitVec.ofNat 32 (n + 1)))
      else s

/-- LEAD sends its copies, with its key position and state. -/
def State.sendCopies (s : State) : State :=
  ((s.sendCopyOf s.copies).modTdm fun t => { t with copied := some s.copies, joinCyc := none }).tlCommand 0 0 (.key s.op.key s.op.st.code s.op.haltCause.toNat)

/-- AUTH on LEAD (R629 step 1): it answers phase 1, and phase 2 with a status; then it copies. -/
def State.authLead (s : State) (p : List Byte) : State :=
  if p.length = 132 then
    let r := s.phase1 p
    (s.draw.draw.modTdm fun t => { t with aReq := p, aResp := r, authed := 1, keys := none, copied := none }).tlSend 0xA r
  else if s.tdm.authed ≠ 1 then s
  else
    let c := (certAt p 0 4).1
    if Config.certChainOk c s.rootHash s.certTime ∧ phase2Signed s.tdm.aReq s.tdm.aResp p then
      ((s.modTdm fun t => { t with authed := 2, keys := some (deriveKeys infoTandem t.aReq t.aResp false) }).tlSend 0xA (leBytes 4 0)).sendCopies
    else (s.modTdm fun t => { t with authed := 0 }).tlSend 0xA (leBytes 4 0x80000008)

/-- AUTH on the joining unit (R629 step 1). -/
def State.authTrail (s : State) (p : List Byte) : State :=
  if p.length = 4 then
    (if leNat p = 0 then s.modTdm fun t => { t with authed := 2, joinStep := 2, keys := some (deriveKeys infoTandem t.aReq t.aResp true) } else s.joinFails 1 1)
  else if s.tdm.authed ≠ 0 then s
  else if Config.certChainOk (certAt p 134 136).1 s.rootHash s.certTime ∧ phase1Signed s.tdm.aReq p then
    (s.modTdm fun t => { t with authed := 1, aResp := p }).tlSend 0xA (phase2Req s.tdm.aReq p)
  else s.joinFails 1 1

/-- AUTH (R629). -/
def opAuth (f : TdmFrame) (s : State) : State :=
  s.tlIn 0xA f fun s => if s.tdm.st = 3 then s.authTrail f.payload else if s.isTrail then s else s.authLead f.payload

/-- The program of LEAD with its edit on the joining unit (R305): the unit keeps what is its own business, the other slot and its own requests. -/
def Prog.copied (q p : Prog) (clk left : Nat) : Prog :=
  let k := slotIdx p.active
  { p with
    adm := q.adm, waitLoad := none, storeFault := none, lostEdit := none, refStep := q.refStep, slots := q.slots.set k p.slots[k]
    edit := { p.edit with req := none, trail := none, acceptAt := clk + left } }

/-- The tasks of LEAD's contexts on the joining unit, whose cores are powered for them (R31). -/
def State.copyTasks (s : State) (l : List (Task × Option Task)) : State :=
  let s := { s with ctx := Vector.ofFn fun (g : Fin 64) =>
    match l[g.val]? with
    | some t => { s.ctx[g] with task := t.1, next := t.2 }
    | none => s.ctx[g] }
  { s with core := Vector.ofFn fun (n : Fin 8) => { s.core[n] with powered := s.core[n].powered || s.carries n } }

/-- A copied piece of state takes effect on the joining unit (R629). -/
def State.applyCopy (s : State) : TlCopy → State
  | .input e v => s.modImg fun i => { i with epoch := e, ver := v }
  | .output o => s.modImg fun i => { i with out := o }
  | .forces f => s.modImg fun i => { i with forces := f }
  | .memory cs => { s with
      mem := cs.foldl (fun m (c : Host.Cell) => sset 0 m c.1 c.2) (s.mem.filter fun c => !copiedAddr c.1)
      errs := s.errs.filter fun p => !copiedAddr (4 * p.1) }
  | .cells cs => { s with
      mem := cs.foldl (fun m (c : Host.Cell) => if copiedAddr c.1 then sset 0 m c.1 c.2 else m) s.mem
      errs := s.errs.filter fun p => !cs.any fun (c : Host.Cell) => c.1 / 4 == p.1 }
  | .energy i p => { s with nrg := { s.nrg with
      inst := Vector.ofFn fun (k : Fin 2) => { s.nrg.inst[k] with reg := i[k].reg }
      pulse := Vector.ofFn fun (k : Fin 16) => { s.nrg.pulse[k] with acc := p[k].acc } } }
  | .counters q g => s.modNet fun n => { n with
      pair := Vector.ofFn fun (k : Fin 2) => { n.pair[k] with seq := q[k] }
      gpub := Vector.ofFn fun (k : Fin 64) => { n.gpub[k] with stNum := (g.getD k.val (0, 0)).1, sqNum := (g.getD k.val (0, 0)).2 } }
  | .edit p left ts o on sp spn =>
    ((s.modProg fun q => q.copied p s.clk left).modImg fun i => { i with own := o, ownNew := on, split := sp, splitNew := spn }).copyTasks ts
  | .network l => ((l.map fun p => p.1 / 256).eraseDups).foldl (fun s i => s.twinOf i) (s.modDict fun d => d.replaced (fun _ => false) l)
  | .punty l ws => s.modHier fun h => { h with
      link := l, workers := ws.foldl (fun m w => sset Worker.blank m w.1 { sget Worker.blank m w.1 with link := w.2 }) h.workers }

/-- COPY (R629): a joining TRAIL takes what LEAD copies. -/
def opCopy (f : TdmFrame) (s : State) : State :=
  s.tlIn 9 f fun s => if s.tdm.st = 3 then (s.applyCopy (Config.copyDecode f.payload)).modTdm fun t => { t with joinStep := max 3 t.joinStep } else s

end Sys2Proof.Machine
end

