-- ==== Sys2Proof/Machine/DictRules.lean ====
section
/-! DEFINITION. The checks of a dictionary write in the order of R569: value ranges, states, claims, admission (R386–R422,
R433, R445–R463, R481, R493–R502, R507–R538, R569–R597, R635, R660, R689, R697, R721). -/

namespace Sys2Proof.Machine

/-- The state with a value kept for an entry, as a check looks at it. -/
def State.withVal (s : State) (idx sub : Nat) (v : List Byte) : State :=
  s.modDict fun d => { d with vals := sset none d.vals (dkey idx sub) (some v) }

/-! ## Ranges (R543, R558 step 7 of R569) -/

/-- Whether a number lies in a range. -/
def Rng.has (r : Rng) (n : Nat) : Bool :=
  match r with
  | .any => true
  | .btw lo hi => decide (lo ≤ n ∧ n ≤ hi)
  | .oneOf l => l.contains n
  | .orFF hi => decide (n ≤ hi) || n == 0xFF
  | .vid => decide (1 ≤ n ∧ n ≤ 4094) || n == 0 || n == 0xFFFF

/-- A NaN or an infinity (R543). -/
def notFinite (ty n : Nat) : Bool := (ty == 10 && bitsOf n 23 8 == 0xFF) || (ty == 11 && bitsOf n 52 11 == 0x7FF)

/-- An element of a table of `w` bytes each. -/
def rowsOf (w : Nat) (b : List Byte) : List (List Byte) := (List.range (b.length / w)).map fun i => sub_ b (w * i) w

/-- The image words that a member map entry of a GOOSE configuration covers (R492). -/
def MapEnt.words (e : MapEnt) : Nat := if e.ty = 6 ∨ e.ty = 7 then 2 else 1

/-- Whether a member map is well formed for a window of `n` words (R492, R493). -/
def mapOk (b : List Byte) (n : Nat) : Bool :=
  b.length % 8 == 0 && decide (b.length ≤ 8 * 128) && (mapEnts b).all fun e =>
    decide (e.ty ≤ 8) && (e.ty == 0 || (decide (e.word + e.words ≤ n)
      && (e.ty != 1 || decide (e.bit < 32)) && (e.ty != 2 || decide (1 ≤ e.width ∧ e.bit + e.width ≤ 32))))

/-- The configuration of a subscription (R493). -/
def State.subOk (s : State) (k : Nat) : Bool :=
  let b := s.cfg (0x5100 + k) 9 0x500
  let n := s.cfg (0x5100 + k) 0xA 1
  decide (0x500 ≤ b ∧ b + n ≤ 0x1000 ∧ n ≤ 256) && mapOk (s.cfgBytes (0x5100 + k) 0xF []) n
    && (below 256 fun j => j != k && s.cfg (0x5100 + j) 1 0 == 1
        && decide (s.cfg (0x5100 + j) 9 0x500 < b + n ∧ b < s.cfg (0x5100 + j) 9 0x500 + s.cfg (0x5100 + j) 0xA 1)).isEmpty

/-- The nominal and data bit rates and jump widths of a controller, its transmitter delay compensation and its wake mode
(R507, R508, R531); rates in units of 1 / (80 MHz). -/
def State.canOk (s : State) (c : Nat) : Bool :=
  let x := fun sub d => s.cfg (0x6000 + c) sub d
  let nom := x 2 2 * (1 + x 3 63 + x 4 16)
  let dat := x 6 1 * (1 + x 7 15 + x 8 4)
  decide (80 ≤ nom ∧ nom ≤ 8000 ∧ 10 ≤ dat ∧ dat ≤ 160 ∧ dat ≤ nom ∧ x 5 16 ≤ x 4 16 ∧ x 9 4 ≤ x 8 4)
    && (x 0xA 1 == 0 || decide (x 6 1 ≤ 2)) && (x 0x10 1 != 2 || x 0x11 0xFF != 0xFF)
    && (x 0x11 0xFF == 0xFF || s.cfg (moAt (128 * c + x 0x11 0xFF % 128)) 1 0 == 1)

/-- Whether MDP over CAN reserves an identifier of controller `c` (R513). -/
def State.mdpTakes (s : State) (c id : Nat) : Bool :=
  let d := s.cfg (0x6000 + c) 0x13 0
  d != 0 && (id == 0x1A4E0000 + d || id == 0x1A4F0000 + d)

/-- Whether the window of the `k`th object overlaps that of another (R538). -/
def State.winClash (s : State) (k : Nat) : Bool :=
  let b := s.cfg (moAt k) 7 0
  let n := s.cfg (moAt k) 8 8
  b != 0 && !(below 256 fun j => j != k && s.cfg (moAt j) 7 0 != 0
      && decide (s.cfg (moAt j) 7 0 < b + n ∧ b < s.cfg (moAt j) 7 0 + s.cfg (moAt j) 8 8)).isEmpty

/-- The configuration of the `k`th message object (R512, R513, R517, R519, R525, R538). -/
def State.moOk (s : State) (k : Nat) : Bool :=
  let x := fun sub d => s.cfg (moAt k) sub d
  let base := if x 1 0 = 2 then 0x4C00 else 0x1000
  (x 3 0 == 1 || decide (x 2 0 ≤ 0x7FF)) && (x 0xA 0xFF == 0xFF || x 7 0 != 0)
    && (x 7 0 == 0 || (x 7 0 % 8 == 0 && decide (base ≤ x 7 0 ∧ x 7 0 + x 8 8 ≤ base + 0x400))) && !s.winClash k
    && (x 1 0 == 0 || x 3 0 == 0 || !s.mdpTakes (k / 128) (x 2 0))
    && (x 1 0 != 1 || (below 128 fun j => 128 * (k / 128) + j != k && s.cfg (moAt (128 * (k / 128) + j)) 1 0 == 1
          && s.cfg (moAt (128 * (k / 128) + j)) 2 0 == x 2 0 && s.cfg (moAt (128 * (k / 128) + j)) 3 0 == x 3 0).isEmpty)

/-- Whether message object `k` may be changed: it is neither pending nor in transmission (R538). -/
def State.moStill (s : State) (k : Nat) : Bool :=
  let o := s.mo ⟨k / 128 % 2, Nat.mod_lt _ (by decide)⟩ ⟨k % 128, Nat.mod_lt _ (by decide)⟩
  !o.txreq && !o.intx

/-- The number of an object entry: 128 × controller + object. -/
def moNo (idx : Nat) : Nat := (idx - 0x6100) / 256 * 128 + idx % 256

/-- What R589 and R590 ask of the hierarchy configuration; a STANDALONE module is in none. -/
def State.hierOk (s : State) : Bool :=
  let n := s.enabled.length
  let f : Fin 4 := ⟨s.cfg 0x7000 4 0 % 4, Nat.mod_lt _ (by decide)⟩
  (n == 0 || decide (15 ≤ s.cfg 0x7000 6 10000 / n))
    && (s.hrole == 0 || s.large_ || (decide (n ≤ 16) && s.cfg 0x7000 5 0 == 0 && s.pairMode (npair f) != 0))

/-- The largest deadline of a supervised task in ms, rounded up, and whether a context is supervised without a task
(R689). -/
def State.supOk (s : State) : Bool :=
  let l := allCtx.filter fun g => s.cfg (0x9100 + g.val) 1 0 == 1
  let grace := s.cfg 0x9000 6 20
  decide (grace < s.cfg 0x9000 5 100) && (!s.prog.loaded || l.all fun g =>
    (s.cx g).taskNow.kind != .none && (!(s.cx g).taskNow.timed || decide ((s.cx g).taskNow.deadline ≤ grace * 1000)))

/-- Interfaces in service: those with an enabled port (R481). -/
def State.ifacesUp (s : State) : Nat :=
  ((List.finRange 4).filter fun f => s.ifaceUp f && (s.portsOf f).any fun p => s.cfg (0x5000 + p.val) 1 1 == 1).length

/-- Line modes that the ordering code offers for a port (R463). -/
def lineModeOk (pt n : Nat) : Bool := if Config.isAF ∧ 2 ≤ pt then decide (4 ≤ n) else decide (n ≤ 3)

/-- Trial coefficients (R450). -/
def trialOk (sub n : Nat) : Bool :=
  if sub = 9 then decide (mkRat 1 2 ≤ f32Rat (BitVec.ofNat 32 n) ∧ f32Rat (BitVec.ofNat 32 n) ≤ 2)
  else if sub = 0xA then decide (mkRat (-5) 100 ≤ f32Rat (BitVec.ofNat 32 n) ∧ f32Rat (BitVec.ofNat 32 n) ≤ mkRat 5 100)
  else let i := (BitVec.ofNat 32 n).toInt; decide (-200000 ≤ i ∧ i ≤ 200000)

/-- Ladder of a publication (R501). -/
def ladderOk (b : List Byte) : Bool := (u16s b).all (fun n => decide (n ≤ 60000)) && (u16s b).head? != some 0

/-- An SV stream that an energy instance can take (R433). -/
def State.svFits (s : State) (k : Nat) : Bool :=
  (s.cfg (0x5400 + k) 8 4000 == 4000 || s.cfg (0x5400 + k) 8 4000 == 4800) && s.cfg (0x5400 + k) 9 1 == 1 && s.cfg (0x5400 + k) 0xA 8 == 8

/-- What the rules of an entry ask of a value beside its table, seen in the state `t` that the write would leave; `n` is the
value as a number, `v` its bytes, and `s` the state before. -/
def State.fits (s t : State) (idx sub n : Nat) (v : List Byte) : Bool :=
  if idx < 0x2000 then
    (if idx = 0x1B21 ∧ sub = 1 then v.length % 24 == 0 && decide (v.length ≤ 24 * 64) && (rowsOf 24 v).all fun r => decide ((r.getD 20 0).toNat ≤ 3)
     else true)
  else if idx = 0x2210 ∧ sub = 3 then n == 3 || decide (s.cfg 0x2210 1 0 < 2 ^ 20)
  else if idx = 0x3000 ∧ sub = 1 then t.cfg 0x7200 1 0 == 0 || decide (100 ≤ n)
  else if 0x3100 ≤ idx ∧ idx < 0x3120 then
    (if sub = 3 then n != 0 || t.modeCfg ⟨(idx - 0x3100) % 32, Nat.mod_lt _ (by decide)⟩ == 4
     else if sub = 0xE then n == 0 || idx % 2 == 0 else true)
  else if idx = 0x4010 ∨ idx = 0x4011 then (if sub = 1 ∧ n = 2 then t.svFits (t.cfg idx 2 0) else true)
  else if 0x4100 ≤ idx ∧ idx < 0x4108 then (if 9 ≤ sub ∧ sub ≤ 0xB then trialOk sub n else true)
  else if 0x5000 ≤ idx ∧ idx < 0x5004 then (if sub = 2 then lineModeOk (idx - 0x5000) n else true)
  else if idx = 0x5008 ∨ idx = 0x5009 then t.hierOk
  else if idx = 0x5020 then (if sub = 1 ∧ n = 3 then decide (2 ≤ t.ifacesUp) else true)
  else if 0x5100 ≤ idx ∧ idx < 0x5200 then (if [1, 9, 0xA, 0xF].contains sub then t.subOk (idx - 0x5100) else true)
  else if 0x5300 ≤ idx ∧ idx < 0x5340 then (if sub = 0xB then ladderOk v else if sub = 0xD then mapOk v 32 else true)
  else if 0x5500 ≤ idx ∧ idx < 0x5504 then
    (if sub = 2 ∨ sub = 4 then n % 64 == 0 && decide (n + 64 + 1536 * t.cfg idx (sub + 1) 1 ≤ 0x200000)
     else if sub = 3 ∨ sub = 5 then decide (t.cfg idx (sub - 1) 0 + 64 + 1536 * n ≤ 0x200000) else true)
  else if idx = 0x6000 ∨ idx = 0x6001 then
    t.canOk (idx - 0x6000) && (sub != 0x13 || (below 128 fun m => s.cfg (moAt (128 * (idx - 0x6000) + m)) 1 0 != 0
        && s.cfg (moAt (128 * (idx - 0x6000) + m)) 3 0 == 1 && t.mdpTakes (idx - 0x6000) (s.cfg (moAt (128 * (idx - 0x6000) + m)) 2 0)).isEmpty)
  else if 0x6100 ≤ idx ∧ idx < 0x6300 then t.moOk (moNo idx) && s.moStill (moNo idx)
  else if idx = 0x7000 then t.hierOk && (sub != 0xE || (v.length % 48 == 0 && decide (v.length ≤ 192)))
  else if 0x7010 < idx ∧ idx < 0x710F then (sub != 1 || t.hierOk)
  else if idx = 0x7200 then
    (sub != 2 || !s.tdm.presIn || n == s.cfg 0x7200 2 0) && (sub != 1 || n == 0 || decide (100 ≤ t.cfg 0x3000 1 1000))
  else if idx = 0x9000 then
    (if sub = 2 ∨ sub = 3 then decide (t.cfg 0x9000 2 10 < t.cfg 0x9000 3 50) else if sub = 5 ∨ sub = 6 then t.supOk else true)
  else if 0x9100 ≤ idx ∧ idx < 0x9140 then (sub != 1 || n == 0 || t.supOk)
  else if idx = 0xA003 then
    v.length % 4 == 0 && decide (v.length ≤ 1024) && (rowsOf 4 v).all fun r => (r.getD 3 0).toNat != 0
  else if 0xA100 ≤ idx ∧ idx < 0xA180 then
    (if sub = 1 then
      let d := idx - 0xA100
      decide (d < 126) && (n != 2 || condDet d) && targetLegal d (s.injArgs d).1 (s.injArgs d).2
     else true)
  else if 0xB030 ≤ idx ∧ idx < 0xB033 then
    (if sub = 6 then
      let k : Fin 3 := ⟨(idx - 0xB030) % 3, Nat.mod_lt _ (by decide)⟩
      s.modeFits k n && (n != 4 || s.sec.par[k].st != 2 || s.sameRuntime)
     else true)
  else true

/-! ## Roles and states (R544–R547, R92–R94, R414, R451, R502) -/

/-- The role that a write needs (R547): an injection in REM needs SECURITY (R716), the first owner key none (R726). -/
def State.roleOf (s : State) (e : Ent) (idx : Nat) (usb open_ : Bool) : Nat :=
  if 0xA100 ≤ idx ∧ idx < 0xA180 ∧ e.sub = 1 ∧ s.op.key = 2 then 3
  else if idx = 0xB005 ∧ e.sub = 1 ∧ s.unowned ∧ usb ∧ open_ ∧ s.op.key = 0 then 0
  else e.role

/-- Whether the key position permits a write (R544–R546). -/
def State.keyOk (s : State) (e : Ent) : Bool :=
  (match e.acc with
   | 4 => s.op.key == 0
   | 5 => s.op.key == 0 || s.op.key == 2
   | _ => true)
    && (match e.cond with
        | .rem => s.op.key == 2
        | .stop => s.op.key == 0
        | .remStop => s.op.key == 0 || s.op.key == 2
        | _ => true)

/-- Whether a claim on a channel may change now (R414): in STOP, or while it is an input, DISABLED, or at its safe value. -/
def State.claimFree (s : State) (c : Ch) : Bool :=
  s.op.st == .stop || !outputMode (s.fch c).mode || s.safeRow c

/-- Whether the claim changes that a write brings may take place now (R414). -/
def State.claimTime (s : State) (idx sub n : Nat) : Bool :=
  let ch (k : Nat) : Ch := ⟨k % 32, Nat.mod_lt _ (by decide)⟩
  if 0x3100 ≤ idx ∧ idx < 0x3120 ∧ (sub = 1 ∨ sub = 0xE) then
    let c := ch (idx - 0x3100)
    s.claimFree c && ((sub == 1 && (s.quadOf c).isNone) || s.claimFree (mate c))
  else if 0x4200 ≤ idx ∧ idx < 0x4210 ∧ sub = 1 then
    let old := s.cfg idx 1 0xFF
    (old == 0xFF || s.claimFree (ch old)) && (n == 0xFF || s.claimFree (ch n))
  else if 0x6100 ≤ idx ∧ idx < 0x6300 then
    let c : Fin 2 := ⟨moNo idx / 128 % 2, Nat.mod_lt _ (by decide)⟩
    let m : MoId := ⟨moNo idx % 128, Nat.mod_lt _ (by decide)⟩
    s.op.st == .stop || s.moHolder c m == 0 || s.moHolder c m == (s.withVal idx sub (leBytes 2 n)).moHolder c m
  else if (idx = 0x6000 ∨ idx = 0x6001) ∧ sub = 0x11 then
    let c : Fin 2 := ⟨(idx - 0x6000) % 2, Nat.mod_lt _ (by decide)⟩
    s.op.st == .stop || n == 0xFF || s.moHolder c ⟨n % 128, Nat.mod_lt _ (by decide)⟩ == 0
  else true

/-- Whether an enabled subscription, publication or stream lets an entry be written (R502). -/
def State.liveOk (s : State) (idx sub : Nat) : Bool :=
  if (0x5100 ≤ idx ∧ idx < 0x5200) ∨ (0x5300 ≤ idx ∧ idx < 0x5340) then s.cfg idx 1 0 == 0 || [1, 0xB, 0xC].contains sub
  else if 0x5400 ≤ idx ∧ idx < 0x5410 then s.cfg idx 1 0 == 0 || [1, 0xB, 0xC, 8].contains sub
  else true

/-- Whether the owning function is in a state that permits the write (R115, R444, R451, R546). -/
def State.phaseOk (s : State) (idx sub : Nat) : Bool :=
  if 0x2100 ≤ idx ∧ idx < 0x2140 then (s.cx ⟨(idx - 0x2100) % 64, Nat.mod_lt _ (by decide)⟩).task.kind != .none
  else if 0x4100 ≤ idx ∧ idx < 0x4108 ∧ 8 ≤ sub ∧ sub ≤ 0xB then
    (match s.nrg.sess with | some c => c.ch.val == idx - 0x4100 && !c.commit | none => false)
  else if (idx = 0x4010 ∨ idx = 0x4011) ∧ sub = 0xB then s.op.st == .stop
  else true

/-- Whether a write is permitted in the present key position and operating state (R92–R94). -/
def State.stateOk (s : State) (e : Ent) (idx n : Nat) : Bool :=
  s.keyOk e && s.liveOk idx e.sub && s.phaseOk idx e.sub && s.claimTime idx e.sub n

/-! ## Claims (R410–R413, R445, R531, R636) -/

/-- A declared bit of the loaded program that state `t` no longer serves (R413): the resource with its writer. -/
def State.broken (t : State) : Option Abort :=
  t.imapNow.writes.findSome? fun e =>
    (t.unheld e.word e.mask).map fun r => abClaimed r 1 (lowest (t.imapNow.writers e.word e.mask))

/-- Why a write is refused for a claim. -/
def State.claimBars (s t : State) (idx sub n : Nat) : Option Abort :=
  let ch (k : Nat) : Ch := ⟨k % 32, Nat.mod_lt _ (by decide)⟩
  if 0x3100 ≤ idx ∧ idx < 0x3120 ∧ (sub = 1 ∨ sub = 0xE) then
    (if 5 ≤ s.modeCfg (ch (idx - 0x3100)) then some (s.abHeld (0x1000 + (idx - 0x3100))) else t.broken)
  else if 0x4200 ≤ idx ∧ idx < 0x4210 ∧ sub = 1 ∧ n ≠ 0xFF then
    (if s.cfg idx 1 0xFF = n ∨ s.modeCfg (ch n) = 0 then none else some (s.abHeld (0x1000 + n)))
  else if 0x7210 ≤ idx ∧ idx < 0x7230 ∧ sub = 2 ∧ n ≠ 0xFF then
    (if s.cfg idx 2 0xFF = n ∨ s.modeCfg (ch n) = 0 then none else some (s.abHeld (0x1000 + n)))
  else if ((0x5100 ≤ idx ∧ idx < 0x5200 ∧ sub = 0xC) ∨ (0x5400 ≤ idx ∧ idx < 0x5410 ∧ sub = 0xB)
      ∨ (0x6100 ≤ idx ∧ idx < 0x6300 ∧ sub = 0xA)) ∧ n ≠ 0xFF then
    (if s.cfg idx sub 0xFF = n ∨ (s.claim (0x5060 + n)).1 = 0 then none else some (s.abHeld (0x5060 + n)))
  else if (idx = 0x6000 ∨ idx = 0x6001) ∧ sub = 0x11 ∧ n ≠ 0xFF then
    (let r := 0x3000 + 0x1000 * (idx - 0x6000) + n
     if (s.claim r).1 = 1 then some (s.abHeld r) else none)
  else if 0x6100 ≤ idx ∧ idx < 0x6300 then
    (let r := 0x3000 + 0x1000 * (moNo idx / 128) + moNo idx % 128
     let o : MoId := ⟨moNo idx % 128, Nat.mod_lt _ (by decide)⟩
     let w := t.moWin ⟨moNo idx / 128 % 2, Nat.mod_lt _ (by decide)⟩ o
     if (s.claim r).1 = 7 ∧ ((s.cfg idx 1 0 = 1 ∧ sub = 1 ∧ n ≠ 1) ∨ ((sub = 7 ∨ sub = 8)
         ∧ imapUses t.imapNow (moRes ⟨moNo idx / 128 % 2, Nat.mod_lt _ (by decide)⟩ o) w.1 w.2)) then some (s.abHeld r) else none)
  else none

/-! ## Admission (R95, R422, R459, R502, R520, R617) -/

/-- Entries that set a publication interval (R124). -/
def isInterval (idx sub : Nat) : Bool :=
  (idx == 0x3000 && sub == 1) || ((idx == 0x4010 || idx == 0x4011) && sub == 4) || (decide (0x5100 ≤ idx ∧ idx < 0x5200) && sub == 0xB)
    || (decide (0x5400 ≤ idx ∧ idx < 0x5410) && sub == 8) || (decide (0x6100 ≤ idx ∧ idx < 0x6300) && sub == 9)
    || (idx == 0x7000 && sub == 6) || (idx == 0x7200 && sub == 1)

/-- Entries that change the load of the tandem link (R617). -/
def isSource (idx sub : Nat) : Bool :=
  isInterval idx sub || ((idx == 0x4010 || idx == 0x4011) && sub == 1) || (decide (0x5100 ≤ idx ∧ idx < 0x5200) && (sub == 1 || sub == 0xA))
    || (decide (0x5400 ≤ idx ∧ idx < 0x5410) && sub == 1) || (decide (0x6100 ≤ idx ∧ idx < 0x6300) && (sub == 1 || sub == 7 || sub == 8))
    || (idx == 0x7000 && sub == 1) || (decide (0x7010 < idx ∧ idx < 0x710F) && sub == 1)

/-- Admission over the state that a write would leave: what it records and why it refuses. -/
def State.admits (s t : State) (idx sub : Nat) : Res :=
  if isSource idx sub then
    match t.tlOver (t.taskSet.map (·.2)) with
    | some n => (s.tlRefuse n, some abRange)
    | none =>
      if isInterval idx sub ∧ s.prog.loaded then
        match t.admFail t.freqNow (t.taskSet.map admOf) t.prog.imap with
        | some x => (s.admRefuse x, some (abAdmission x.cond x.ctx))
        | none => ((s.admPass t.freqNow (s.taskSet.map admOf)), none)
      else (s, none)
  else (s, none)

end Sys2Proof.Machine
end

