-- ==== Sys2Proof/Machine/TimeCmds.lean ====
section
/-! DEFINITION. Meanings of the commands of the time base, the RTC domain (R639–R657). -/

namespace Sys2Proof.Machine

/-! ## Discipline by PPS (R640–R643) -/

/-- PPS_IN disciplines the time base now (R640). -/
def State.ppsUsed (s : State) : Bool := !s.isTrail && (s.tbSource == 2 || (s.tbSource == 3 && s.net.ptp.st != 3))

/-- The correction to the nearest second; half a second may go either way. -/
def State.ppsError (s : State) : Int :=
  let r := s.time.tb.toNat % 1000000000
  if r < 500000000 ∨ (r = 500000000 ∧ s.freeBool) then -(r : Int) else 1000000000 - (r : Int)

/-- PPS_EDGE (R640, R642). -/
def opPpsEdge (s : State) : State :=
  let d := s.ppsError
  let s := (s.modTime fun t => { t with ppsAt := s.clk }).draw
  if s.ppsUsed then s.disciplined d else s

/-- PPS_TIMEOUT (R642, R789): 1.5 s without an edge, counted from the last change of source at the earliest. -/
def opPpsTimeout (s : State) : State :=
  if s.ppsUsed ∧ max s.time.ppsAt s.time.srcAt + 1500000000 ≤ s.clk then s.beginHoldover else s

/-- HOLDOVER_LIMIT (R643). -/
def opHoldoverLimit (s : State) : State :=
  match s.time.holdover with
  | some t => if t + s.limitNs < s.clk then s.setValid false 3 else s
  | none => s

/-- LISTENING_LIMIT (R643). -/
def opListeningLimit (s : State) : State :=
  if (s.tbSource = 1 ∨ s.tbSource = 3) ∧ s.net.ptp.st = 1 ∧ max s.net.ptp.listenAt s.time.srcAt + s.limitNs < s.clk then
    s.setValid false 3
  else s

/-- PPS_OUT (R645): the output rises at a whole second. -/
def opPpsOut (s : State) : State :=
  if s.time.valid ∧ s.time.tb.toNat % 1000000000 < 20 then s.modTime fun t => { t with ppsHigh := some s.clk } else s

/-- The level of PPS_OUT (R645): high for 100 ms, low while the time is not valid. -/
def State.ppsOut (s : State) : Bool :=
  s.time.valid && (match s.time.ppsHigh with | some t => decide (s.clk < t + 100000000) | none => false)

/-! ## Setting the time (R643, R657) -/

/-- SET_TIME (R643): a write of 8000h:07. -/
def State.setTime (s : State) (tai : Word64) : Res :=
  if s.net.ptp.st = 3 ∧ (s.tbSource = 1 ∨ s.tbSource = 3) then (s, some (abState s))
  else
    let d : Int := (tai.toNat : Int) - (s.time.tb.toNat : Int)
    (((s.stepTime d).setValid true 2).writeRtc (s.utcOf tai.toNat) 1, none)

/-- SET_RTC (R657): a write of 8010h:08. -/
def State.setRtc (s : State) (utc : Word64) : Res := (s.writeRtc utc.toNat 2, none)

/-- CLEAR_STAMP (R649): a write of 1 to 8010h:04. -/
def State.clearStamp (s : State) : Res := (s.modRtc fun r => { r with stampV := false }, none)

/-- A change of source to `n` (R789); the crystal alone has no corrected rate (R640). -/
def State.setSource (s : State) (n : Nat) : State :=
  s.modTime fun t => { t with srcAt := s.clk, holdover := if n = 0 then none else t.holdover, rate := if n = 0 then 0 else t.rate }

/-- RESYNC (R657): whether RTC and time base less the offset differ by more than 100 ms. -/
def State.drifted (s : State) : Bool := decide (100000000 < ((s.rtcUtc : Int) - (s.utcOf s.time.tb.toNat : Int)).natAbs)

/-- The source is a LOCKED PTP or a PPS that delivers. -/
def State.sourceLocked (s : State) : Bool :=
  ((s.tbSource == 1 || s.tbSource == 3) && s.net.ptp.st == 3) ||
    ((s.tbSource == 2 || s.tbSource == 3) && decide (s.clk < max s.time.ppsAt s.time.srcAt + 1500000000))

/-- RESYNC (R657): every 600 s. -/
def opResync (s : State) : State :=
  if s.time.resyncAt + 600000000000 ≤ s.clk then
    let s := s.modTime fun t => { t with resyncAt := s.clk }
    if s.time.valid && s.sourceLocked && s.drifted then s.writeRtc (s.utcOf s.time.tb.toNat) 0 else s
  else s

/-! ## Seeding (R644) -/

/-- Seed of the time base in ns (R644). -/
def State.seedNs (s : State) : Nat :=
  (s.time.rtc.cal.seconds + epoch2000 + s.cfg 0x8000 3 37) * 1000000000 + s.presc * 1000000000 / 32768

/-- Start-up step 2 seeds the time base, or leaves it at 0 with its cause recorded (R644). -/
def State.seed (s : State) : State :=
  let r := s.time.rtc
  if r.valid ∧ r.cal.valid then (s.modTime fun t => { t with tb := BitVec.ofNat 64 s.seedNs }).setValid true 0
  else
    ((s.modTime fun t => { t with tb := 0 }).setValid false 0).rec_ 0x8002 0x50 (if r.valid then 2 else 1) r.cal.word1.toNat r.cal.word0.toNat

/-! ## The RTC domain (R648–R654) -/

/-- The switch of supply in a mode (R648): to VBAK, and back. -/
def toVbak (compat : Bool) (main vbak : Nat) : Bool := if compat then decide (main < vbak) else decide (main < 2700)

/-- Back to the main rail. -/
def toMain (compat : Bool) (main vbak : Nat) : Bool := if compat then decide (vbak + 50 < main) else decide (2900 < main)

/-- A switch to VBAK (R648, R649). -/
def Rtc.toBackup (r : Rtc) : Rtc :=
  let take := r.mode && !r.stampV
  { r with onBak := true, swcnt := min 255 (r.swcnt + 1), stampV := r.stampV || take, stamp := if take then r.cal.stamp else r.stamp }

/-- The supplies as they are after a switch; a domain below 1.6 V on the supply it has clears TIMEVALID (R650). -/
def Rtc.supplies (r : Rtc) (main vbak : Nat) : Rtc :=
  { r with mainMv := main, vbakMv := vbak, valid := r.valid && decide (1600 ≤ if r.onBak then vbak else main) }

/-- RTC_SWITCH (R648, R649). -/
def opRtcSwitch (main vbak : Nat) (s : State) : State :=
  s.modRtc fun r => (if !r.onBak && toVbak r.mode main vbak then r.toBackup else r).supplies main vbak

/-- RTC_SWITCH_BACK (R648). -/
def opRtcSwitchBack (main vbak : Nat) (s : State) : State :=
  s.modRtc fun r => (if r.onBak && toMain r.mode main vbak then { r with onBak := false } else r).supplies main vbak

/-- RTC_SUPPLY_LOSS (R650); detector 120 presents the same loss. -/
def opRtcSupplyLoss (s : State) : State := (s.injDone 120).modRtc fun r => { r with valid := false }

/-- The load edge as a number of edges since the prescaler was 0 (R654): the first at least 30.5 µs after the write. -/
def loadEdge (base at_ : Nat) : Nat := ((at_ + 30500 - base) * 32768 + 999999999) / 1000000000

/-- The pending SEC and the number of its load edge. -/
def Rtc.loadDue (r : Rtc) : Option (Nat × Nat) := r.load.map fun l => (l.1, loadEdge r.base l.2)

/-- CALENDAR_LOAD (R654, R655). -/
def opCalendarLoad (s : State) : State :=
  match s.time.rtc.loadDue with
  | some (sec, k) =>
    if k ≤ rtcEdges (s.clk - s.time.rtc.base) then
      s.modRtc fun r => { r with
        cal := calOfWords r.stg0 r.stg1 sec, valid := true, load := none, base := r.base + k * 1000000000 / 32768 }
    else s
  | none => s

/-- CALENDAR_ADVANCE (R652): at the wrap of the prescaler, unless that edge or one before it is a load edge. -/
def opCalendarAdvance (s : State) : State :=
  let r := s.time.rtc
  let loads := match r.loadDue with | some (_, k) => decide (k ≤ 32768) | none => false
  if 32768 ≤ rtcEdges (s.clk - r.base) ∧ !loads then
    s.modRtc fun r => { r with cal := r.cal.advance, base := r.base + 1000000000 }
  else s

/-! ## Meanings -/

/-- PPS_EDGE (R640). -/
def execPpsEdge (s : State) : Host.Outcome State Fault Refusal := .next (whenOn opPpsEdge s)

/-- PPS_TIMEOUT (R642). -/
def execPpsTimeout (s : State) : Host.Outcome State Fault Refusal := .next (opPpsTimeout s)

/-- HOLDOVER_LIMIT (R643). -/
def execHoldoverLimit (s : State) : Host.Outcome State Fault Refusal := .next (opHoldoverLimit s)

/-- LISTENING_LIMIT (R643). -/
def execListeningLimit (s : State) : Host.Outcome State Fault Refusal := .next (opListeningLimit s)

/-- PPS_OUT (R645). -/
def execPpsOut (s : State) : Host.Outcome State Fault Refusal := .next (opPpsOut s)

/-- TIME_MATCH (R647). -/
def execTimeMatch (k : Fin 8) (s : State) : Host.Outcome State Fault Refusal := .next (settledInsn (opTimeMatch k) s)

/-- RTC_SWITCH (R648). -/
def execRtcSwitch (mainMv vbakMv : Nat) (s : State) : Host.Outcome State Fault Refusal := .next (opRtcSwitch mainMv vbakMv s)

/-- RTC_SWITCH_BACK (R648). -/
def execRtcSwitchBack (mainMv vbakMv : Nat) (s : State) : Host.Outcome State Fault Refusal :=
  .next (opRtcSwitchBack mainMv vbakMv s)

/-- RTC_SUPPLY_LOSS (R650). -/
def execRtcSupplyLoss (s : State) : Host.Outcome State Fault Refusal := .next (opRtcSupplyLoss s)

/-- CALENDAR_ADVANCE (R652). -/
def execCalendarAdvance (s : State) : Host.Outcome State Fault Refusal := .next (opCalendarAdvance s)

/-- CALENDAR_LOAD (R654). -/
def execCalendarLoad (s : State) : Host.Outcome State Fault Refusal := .next (opCalendarLoad s)

/-- RESYNC (R657). -/
def execResync (s : State) : Host.Outcome State Fault Refusal := .next (whenOn opResync s)

end Sys2Proof.Machine
end

