-- ==== Sys2Proof/Machine/DictWrite.lean ====
section
/-! DEFINITION. What a permitted write does: configuration values and their effects, set points, commands, and the way a
write takes in tandem (R85, R114, R145, R175, R263, R282, R286–R300, R332, R338, R386, R420, R444, R451, R510, R529, R548,
R550, R573, R599, R606, R612, R618, R643, R649, R657, R696, R715, R726, R741, R746, R754, R773). -/

namespace Sys2Proof.Machine

/-- How a write ended: done, refused, or answered later. -/
inductive Verdict where
  | done
  | refused (a : Abort)
  | later
  deriving DecidableEq, Repr

/-- The verdict of an operation that ends at once. -/
def ofRes (q : Res) : State × Verdict := (q.1, match q.2 with | none => .done | some a => .refused a)

/-- The verdict of an operation that is answered later unless it is refused. -/
def lateRes (q : Res) : State × Verdict := (q.1, match q.2 with | none => .later | some a => .refused a)

/-- A request of nobody, for what the module does without one. -/
def noReq : Req := { origin := .usb, session := 0, seq := 0, enc := false, tag := [], form := true, usbLen := 0, usbCrc := true }

/-- An index taken into a range. -/
def ix (n : Nat) (h : 0 < n) (k : Nat) : Fin n := ⟨k % n, Nat.mod_lt _ h⟩

/-! ## Values kept (R548) -/

/-- Keeps a value, and its twin record when it is persistent. -/
def State.keep (s : State) (idx sub pers : Nat) (v : List Byte) : State :=
  let s := s.putEntry idx sub v
  if pers = 1 then s.twinOf idx else s

/-- A mode change of a channel whose filter limit is 0 sets the limit to 1 unless the mode is COUNTER (R386). -/
def State.modeWritten (s : State) (idx n : Nat) : State :=
  if n ≠ 4 ∧ s.cfg idx 3 1000 = 0 then s.keep idx 3 1 (leBytes 2 1) else s

/-- The hierarchy agent begins anew in another role; its counts stay. -/
def State.hierAnew (s : State) : State :=
  s.modHier fun h => { Hier.blank with malformed := h.malformed, badProt := h.badProt, staged := h.staged, armed := h.armed, boundary := h.boundary }

/-- PTP follows its clock mode (R480, R485). -/
def State.ptpMode (s : State) (n : Nat) : State :=
  if n = 0 then s.ptpState 0 else if s.net.ptp.st = 0 then s.ptpState 1 else s

/-- A publication that is enabled in RUN sends its first frame. -/
def State.pubEnabled (s : State) (p : Fin 64) (n : Nat) : State :=
  if n = 0 then s.modPub p fun g => { g with nextAt := none }
  else if s.net.gpub[p].ran ∧ s.op.st = .run then s.gooseChange p else s

/-- A port that is disabled has no link. -/
def State.portEnabled (s : State) (p : Fin 4) (n : Nat) : State :=
  if n = 0 ∧ s.net.port[p].up then s.linkIs p false 0 false else s

/-- The image while a source of publications is disabled: its `n` words from `w` read 0, and no set of it is held. -/
def Img.silenced (i : Img) (src w n : Nat) : Img :=
  { i with ver := pubWords i.ver i.epoch (wordsFrom w (List.replicate n 0)), heldPub := sset none i.heldPub src none }

/-- An instance starts anew on another source (R439); while it is disabled its image words read 0 and nothing of it is held (R432). -/
def State.newSource (s : State) (i : Fin 2) : State :=
  let s := s.modInst i fun n => { n with
    cycles := [], lastAn := [], lastCyc := [], lost := none, wasLost := false, good := 0, miss := 0, small := Vector.replicate 4 0
    noref := false, refLost := false, foor := false, foorNow := false, svhold := false, subst := false, ovr := 0 }
  if s.insSrc i ≠ 0 then s
  else { s.modInst i (fun n => { n with status := 0, chStat := Vector.replicate 8 0 }) with
    img := s.img.silenced (1 + i.val) (insBase i) 128 }

/-- What else a value of a configuration entry brings about; `n` is its number. -/
def State.effect (s : State) (idx sub n : Nat) : State :=
  if 0x3100 ≤ idx ∧ idx < 0x3120 then
    (if sub = 1 then s.modeWritten idx n
     else if sub = 5 ∧ n = 0 then s.modCh (ix 32 (by decide) (idx - 0x3100)) fun c => { c with broken := false }
     else s)
  else if idx = 0x3000 ∧ sub = 1 then s.modFld fun d => { d with scanK := some (s.time.tb.toNat / (n * 1000)) }
  else if (idx = 0x4010 ∨ idx = 0x4011) ∧ (sub = 1 ∨ sub = 2) then
    s.newSource (ix 2 (by decide) (idx - 0x4010))
  else if 0x5000 ≤ idx ∧ idx < 0x5004 ∧ sub = 1 then s.portEnabled (ix 4 (by decide) (idx - 0x5000)) n
  else if idx = 0x5020 ∧ sub = 1 then s.ptpMode n
  else if 0x5100 ≤ idx ∧ idx < 0x5200 ∧ sub = 1 then s.modSub (ix 256 (by decide) (idx - 0x5100)) fun _ => Net.blank.gsub[0]
  else if 0x5300 ≤ idx ∧ idx < 0x5340 ∧ sub = 1 then s.pubEnabled (ix 64 (by decide) (idx - 0x5300)) n
  else if 0x5400 ≤ idx ∧ idx < 0x5410 ∧ sub = 1 then s.modSv (ix 16 (by decide) (idx - 0x5400)) fun _ => { Net.blank.sv[0] with lastAt := s.clk }
  else if (idx = 0x6000 ∨ idx = 0x6001) ∧ sub = 1 then s.canEnable (ix 2 (by decide) (idx - 0x6000)) (n == 1)
  else if (idx = 0x6000 ∨ idx = 0x6001) ∧ sub = 0xE ∧ n = 0 then s.canRecover (ix 2 (by decide) (idx - 0x6000))
  else if idx = 0x7000 ∧ (sub = 1 ∨ sub = 2 ∨ sub = 3 ∨ sub = 4) then s.hierAnew
  else if 0x7010 < idx ∧ idx < 0x710F ∧ sub = 1 then
    s.modHier fun h => { h with workers := sset Worker.blank h.workers (idx - 0x7010) Worker.blank }
  else if idx = 0x7200 ∧ sub = 1 then (if n = 1 then s.tandemUp else s.tandemDown)
  else if idx = 0x8000 ∧ sub = 1 then s.setSource n
  else if idx = 0x8010 ∧ sub = 2 then s.modRtc fun r => { r with mode := n == 1 }
  else s

/-- A trial write of a calibration session (R451); one of committed coefficients ends nothing. -/
def CalSess.take (c : CalSess) (sub : Nat) (v : List Byte) (now : Nat) : CalSess :=
  let w : Word := BitVec.ofNat 32 (leNat v)
  let c := { c with at_ := now }
  match sub with
  | 8 => { c with path := leNat v }
  | 9 => { c with gain := w }
  | 0xA => { c with off := w }
  | _ => { c with phase := w }

/-- Whether an entry is a trial value of a calibration session. -/
def isTrial (idx sub : Nat) : Bool := decide (0x4100 ≤ idx ∧ idx < 0x4108 ∧ 8 ≤ sub ∧ sub ≤ 0xB)

/-- A value takes the place of an entry's; an equal one changes nothing. Open sessions close when the module becomes part of a
LARGE configuration (R573). -/
def State.applyCfg (s : State) (e : Ent) (idx : Nat) (v : List Byte) : State :=
  if isTrial idx e.sub then { s with nrg := { s.nrg with sess := s.nrg.sess.map fun c => c.take e.sub v s.clk } }
  else if s.value e idx = v then s
  else
    let s' := (s.keep idx e.sub e.pers v).effect idx e.sub (leNat v)
    if s'.large && !s.large then s'.closeWhere (fun x => !x.auth) 4 else s'

/-- A write of an application object backed by SB (R553), with its reads of the generation (R321); a persistent one is kept. -/
def State.applyObj (s : State) (o : AppObj) (v : List Byte) : State :=
  let s := (s.eccCheck 9 o.addr 0).storeObj o v
  if o.persist then s.keep o.idx o.sub 1 v
  else s.modDict fun d => { d with gens := sset 0 d.gens (dkey o.idx o.sub) ((sget 0 d.gens (dkey o.idx o.sub) + 1) % 2 ^ 32) }

/-! ## Set points (R174, R175, R195) -/

/-- The target of a set-point entry: D100h + n is core n, D108h + p pair p. -/
def spTarget (idx : Nat) : Option (Fin 12) := if h : 0xD100 ≤ idx ∧ idx < 0xD10C then some ⟨idx - 0xD100, by omega⟩ else none

/-- Whether a change of some target core is still in work. -/
def State.spBusy (s : State) (t : Fin 12) : Bool := (tgtCores t).any fun n => s.core[n].sw.isSome || s.core[n].spPend.isSome

/-- Set points with a target changed. -/
def State.freqWith (s : State) (t : Fin 12) (mhz : Nat) : Freq := fun n => if (tgtCores t).any (fun c => c.val == n) then mhz else s.setpt n

/-- Admission with the new set point, when a core of the target carries tasks (R95). -/
def State.spAdmit (s : State) (t : Fin 12) (mhz : Nat) : Res :=
  if (tgtCores t).any s.carries then s.admitNow (s.freqWith t mhz) else (s, none)

/-- A set-point write (R175). -/
def State.writeSetpt (s : State) (r : Req) (t : Fin 12) (mhz : Nat) : State × Verdict :=
  if s.spBusy t then (s, .refused abBusy)
  else if (tgtCores t).all fun n => s.setpt n.val == mhz then (s, .done)
  else
    match s.spAdmit t mhz with
    | (q, some a) => (q.rec_ 0xD002 srcGaffer t.val mhz 1, .refused a)
    | (q, none) =>
      if s.op.st ≠ .run ∨ !(tgtCores t).any s.carries then (q.startSwitch (tgtCores t) mhz, .done)
      else (q.modCore (tgtHead t) fun c => { c with spPend := some ⟨mhz, decide (8 ≤ t.val), s.clk, r⟩ }, .later)

/-! ## Staged configuration (R549, R605–R607) -/

/-- A parsed entry of a serialization: index, subindex, type, value. -/
abbrev Staged := Nat × Nat × Nat × List Byte

/-- The entries of a serialization (R549); none when it does not end with an entry. -/
def parseSerial : Nat → List Byte → Option (List Staged)
  | _, [] => some []
  | 0, _ => none
  | fuel + 1, b =>
    let n := leNat (sub_ b 4 4)
    if b.length < 8 + n then none
    else (parseSerial fuel (b.drop (8 + n))).map fun l => (leNat (b.take 2), (b.getD 2 0).toNat, (b.getD 3 0).toNat, sub_ b 8 n) :: l

/-- The state with a staged entry kept; one for a pair sets both cores. -/
def State.withStaged (s : State) (x : Staged) : State :=
  match spTarget x.1 with
  | some t => (tgtCores t).foldl (fun (s : State) n => s.withVal (0xD100 + n.val) 1 x.2.2.2) s
  | none => s.withVal x.1 x.2.1 x.2.2.2

/-- The state that a set of entries leaves. -/
def State.withAll (s : State) (l : List Staged) : State := l.foldl State.withStaged s

/-- Why a write is refused before admission (R569 steps 2 to 11), seen against the state `t` that it would leave; `ty` is
none for a block. -/
def State.writeBars (s t : State) (role : Nat) (usb open_ : Bool) (idx sub : Nat) (ty : Option Nat) (v : List Byte) : Option Abort :=
  match s.findEnt idx sub with
  | none => some (abNoObj idx sub)
  | some e =>
    let n := leNat v
    firstBad [need (decide (s.roleOf e idx usb open_ ≤ role)) (abAuth (s.roleOf e idx usb open_) role),
      need (e.acc != 0 && e.acc != 1) (abAccess e.acc),
      need (match ty with | some k => k == e.ty && e.ty != 15 | none => true) (abType e.ty),
      need (if e.fixed then v.length == e.len else decide (v.length ≤ e.len)) (abLen e.len),
      need (ty.isNone || decide (v.length ≤ 1016)) (abLen 1016),
      need ((!e.fixed || e.rng.has n) && !notFinite e.ty n && s.fits t idx sub n v) abRange,
      need (s.stateOk e idx n) (abState s),
      need (!(e.pers == 1 && (s.nv.inRecall || s.nv.lehr != .none))) abNvBusy,
      s.claimBars t idx sub n]

/-- Why a set is refused: the first entry that fails (R606). -/
def State.setBars (s t : State) (role : Nat) (usb open_ : Bool) : List Staged → Option Abort
  | [] => none
  | x :: l =>
    match s.findEnt x.1 x.2.1 with
    | some e =>
      if !e.isConfig then some (abAccess e.acc)
      else (match s.writeBars t role usb open_ x.1 x.2.1 (if e.ty = 15 then none else some x.2.2.1) x.2.2.2 with
        | some a => some a
        | none => s.setBars t role usb open_ l)
    | none => some (abNoObj x.1 x.2.1)

/-- Admission run once over what a set leaves. -/
def State.admitsSet (s t : State) (l : List Staged) : Res :=
  match (if l.any fun x => isSource x.1 x.2.1 then t.tlOver (t.taskSet.map (·.2)) else none) with
  | some n => (s.tlRefuse n, some abRange)
  | none =>
    if s.prog.loaded ∧ l.any (fun x => isInterval x.1 x.2.1 || (spTarget x.1).isSome) then
      match t.admFail t.freqNow (t.taskSet.map admOf) t.prog.imap with
      | some x => (s.admRefuse x, some (abAdmission x.cond x.ctx))
      | none => (s.admPass t.freqNow (s.taskSet.map admOf), none)
    else (s, none)

/-- ARM (R605, R606). -/
def State.armSet (s : State) (role : Nat) (usb open_ : Bool) : Res :=
  let b := s.cfgBytes 0x7002 1 []
  match parseSerial b.length b with
  | none => (s, some (abLen 0))
  | some l =>
    let t := s.withAll l
    match s.setBars t role usb open_ l with
    | some a => (s.recClaim a, some a)
    | none =>
      let q := s.admitsSet t l
      if q.2.isSome then q
      else if !s.time.valid then (q.1, some abNoTime)
      else
        let tact := s.cfg 0x7002 2 0
        ((q.1.modHier fun h => { h with staged := 1, armed := l, boundary := s.boundaryOf tact }).rec_ 0x7020 srcHier (tact % 2 ^ 32)
          (tact / 2 ^ 32) l.length, none)

/-- CANCEL of an ARMED set (R606). -/
def State.cancelSet (s : State) : State :=
  if s.hier.staged = 1 then (s.modHier fun h => { h with staged := 3, armed := [] }).rec_ 0x7022 srcHier 0 2 else s

/-- One entry of a set takes effect. A set point in RUN waits for its gap (R175). -/
def State.applyStaged (s : State) (x : Staged) : State :=
  match spTarget x.1 with
  | some t => (s.writeSetpt noReq t (leNat x.2.2.2)).1
  | none =>
    match s.findEnt x.1 x.2.1 with
    | some e => (match s.objAt x.1 x.2.1 with | some o => if s.sbMarches then s else s.applyObj o x.2.2.2 | none => s.applyCfg e x.1 x.2.2.2)
    | none => s

/-- Whether the key position permits every entry of a set (R606). -/
def State.keyPermits (s : State) (l : List Staged) : Bool :=
  l.all fun x => match s.findEnt x.1 x.2.1 with | some e => s.keyOk e | none => false

/-! ## Commands -/

/-- RESET_REGISTERS (R444). -/
def State.resetRegisters (s : State) (i : Fin 2) : Res :=
  if s.op.st ≠ .stop then (s, some (abState s))
  else
    let s := s.modInst i fun n => { n with reg := Inst.blank.reg, accLost := false, accSusp := false }
    let s := (List.finRange 8).foldl (fun (s : State) a => s.modPulse (pulseOf i a) fun q => { q with acc := 0, pend := 0 }) s
    ((s.saveEnergy i).rec_ 0x4021 srcEnergy i.val, none)

/-- The session that BEGIN opens (R451, R452): trial values from the committed ones, the last cycle before it to replay. -/
def State.newSess (s : State) (ch : Fin 8) : CalSess :=
  { ch := ch, path := 0, gain := s.coef ch.val false 0, off := s.coef ch.val false 1, phase := s.coef ch.val false 2, at_ := s.clk
    commit := false, rms := 0, angle := 0, replay := Vector.ofFn fun (i : Fin 2) => (s.ins i).lastCyc }

/-- CAL_BEGIN (R451). -/
def State.calBegin (s : State) (ch : Fin 8) : Res :=
  match s.nrg.sess with
  | some c => (s, some (if c.ch = ch then abState s else abBusy))
  | none => ({ s with nrg := { s.nrg with sess := some (s.newSess ch) } }.rec_ 0x4010 srcEnergy ch.val, none)

/-- CAL_COMMIT (R451): at the next line-cycle boundary. -/
def State.calCommit (s : State) (ch : Fin 8) : Res :=
  match s.nrg.sess with
  | some c =>
    if c.ch = ch ∧ !c.commit then ({ s with nrg := { s.nrg with sess := some { c with commit := true, at_ := s.clk } } }, none)
    else (s, some (abState s))
  | none => (s, some (abState s))

/-- CAL_ABORT (R451). -/
def State.calStop (s : State) (ch : Fin 8) : Res :=
  match s.nrg.sess with
  | some c => if c.ch = ch then (s.calAbort 0, none) else (s, some (abState s))
  | none => (s, some (abState s))

/-- A CAN command (R510, R529, R530). -/
def State.canCmd (s : State) (c : Fin 2) (n : Nat) : State :=
  if n = 1 then s.canSleep c else if n = 2 then s.canWakes c 3 else s.canRecover c

/-- Marks or cancels a restore of defaults (R550). -/
def State.markRestore (s : State) (n : Nat) : State :=
  if n = 1 then ((s.modDict fun d => { d with restoreMarked := true }).twinOf 0x1010).rec_ 0x1024 0x50 0
  else if s.dict.restoreMarked then ((s.modDict fun d => { d with restoreMarked := false }).twinOf 0x1010).rec_ 0x1024 0x50 2
  else s

/-- LOAD_SLOT (R281–R284, R329): it waits for a march on a bank that takes its blocks. -/
def State.loadCmd (s : State) (r : Req) (slot : Nat) : State × Verdict :=
  if s.marchUnder (s.slotBlocks slot) ∧ s.op.key = 0 ∧ s.op.st = .stop then (s.modProg fun p => { p with waitLoad := some (r, slot, s.prog.storeFault) }, .later) else ofRes (s.loadReq slot)

/-- An activation command (R746); that of a program is a load. -/
def State.activateCmd (s : State) (r : Req) (t : Fin 3) (n : Nat) : State × Verdict :=
  if n = 1 ∧ t ≠ 0 ∧ (s.activateBars t n).isNone then s.loadCmd r t.val else ofRes (s.activate t n)

/-- An edit command (R286–R300): APPLY is answered at the ready time. -/
def State.editReq (s : State) (r : Req) (n : Nat) : State × Verdict := if n = 1 then lateRes (s.applyEdit r) else ofRes (s.editCmd n)

/-- Commands of areas 1000h to 2FFFh. -/
def State.runLow (s : State) (r : Req) (idx sub n : Nat) : State × Verdict :=
  if idx = 0x1003 then (s.requestReset 8, .done)
  else if idx = 0x1010 then (s.markRestore n, .done)
  else if idx = 0x2001 then ofRes (if n = 1 then s.startReq else s.stopReq)
  else if idx = 0x2210 ∧ sub = 3 then ofRes (if n = 1 then s.forceSet else if n = 2 then s.forceClear else s.forceClearAll)
  else if idx = 0x2300 then s.loadCmd r n
  else if idx = 0x2310 then s.editReq r n
  else ofRes (s.restartReq (ix 64 (by decide) (idx - 0x2100)))

/-- Commands of areas 4000h to 8FFFh. -/
def State.runMid (s : State) (role : Nat) (usb open_ : Bool) (idx sub n : Nat) (v : List Byte) : State × Verdict :=
  if idx < 0x4100 then ofRes (s.resetRegisters (ix 2 (by decide) (idx - 0x4010)))
  else if idx < 0x5000 then
    ofRes (let ch := ix 8 (by decide) (idx - 0x4100)
      if n = 1 then s.calBegin ch else if n = 2 then s.calCommit ch else s.calStop ch)
  else if idx < 0x7000 then (s.canCmd (ix 2 (by decide) (idx - 0x6000)) n, .done)
  else if idx = 0x7002 then (if n = 1 then ofRes (s.armSet role usb open_) else (s.cancelSet, .done))
  else if idx < 0x710F then (let q := s.quoteOf (idx - 0x7010); ofRes (q.2, q.1))
  else if idx = 0x7200 then ofRes (if n = 1 then s.switchover else s.rejoinReq)
  else if idx = 0x8000 then ofRes (s.setTime (BitVec.ofNat 64 (leNat v)))
  else if sub = 4 then ofRes s.clearStamp
  else ofRes (s.setRtc (BitVec.ofNat 64 (leNat v)))

/-- Commands of areas 9000h to DFFFh. -/
def State.runHigh (s : State) (r : Req) (role : Nat) (idx sub n : Nat) (v : List Byte) : State × Verdict :=
  if idx < 0xA000 then ofRes s.clearEvidence
  else if idx < 0xB000 then
    (let d := ix 128 (by decide) (idx - 0xA100)
     ofRes (if n = 1 then s.injOnce d role else if n = 2 then s.injHold d role else s.injRelease d role))
  else if idx = 0xB005 then ofRes (if sub = 1 then s.provision v else s.revoke n)
  else if idx = 0xB018 then (s.confirm 0, .done)
  else if idx < 0xB040 then s.activateCmd r (ix 3 (by decide) (idx - 0xB030)) n
  else if idx = 0xB050 then ofRes (s.quoteFor v)
  else if idx < 0xD000 then
    (let b : BankId := ix 11 (by decide) (idx - 0xC100)
     ofRes (if sub = 8 then s.marchCmd b (n == 2) else s.clearRepairs b))
  else ofRes (s.repeatTest (ix 4 (by decide) (idx - 0xD120)))

/-- A command by the entry it is written to. -/
def State.runCmd (s : State) (r : Req) (role : Nat) (usb open_ : Bool) (idx sub : Nat) (v : List Byte) : State × Verdict :=
  let n := leNat v
  if idx < 0x3000 then s.runLow r idx sub n
  else if idx < 0x9000 then s.runMid role usb open_ idx sub n v
  else s.runHigh r role idx sub n v

/-! ## Performing a write -/

/-- What a write does once its checks have passed. -/
def State.perform (s : State) (r : Req) (role : Nat) (usb open_ : Bool) (e : Ent) (idx : Nat) (v : List Byte) : State × Verdict :=
  match s.objAt idx e.sub with
  | some o => if s.sbMarches && !o.inOut then (s, .refused abBusy) else (s.applyObj o v, .done)
  | none =>
    if e.acc = 2 then s.runCmd r role usb open_ idx e.sub v
    else match spTarget idx with
      | some t => s.writeSetpt r t (leNat v)
      | none => (s.applyCfg e idx v, .done)

/-! ## Tandem (R618, R750) -/

/-- Whether cycle `c` has come, modulo 2^32. -/
def State.cycleDue (s : State) (c : Nat) : Bool := decide ((s.tdm.cycle + 2 ^ 32 - c % 2 ^ 32) % 2 ^ 32 < 2 ^ 31)

/-- Whether a write goes to both units of a tandem: not the unit's own number, not commands about the tandem itself, and not
APPLY, which goes its own way (R304, R305). -/
def isShared (idx sub n : Nat) : Bool := !(idx == 0x7200 && (sub == 2 || sub == 6)) && !(idx == 0x2310 && n == 1)

/-- HOT applies on LEAD 100 ms after TRAIL (R750). -/
def leadDelay (idx sub n : Nat) : Nat := if idx = 0xB030 ∧ sub = 6 ∧ n = 4 then 101000000 else 1000000

/-! ## A write request (R559, R569) -/

/-- A write with every check in the order of R569; `i` is the request as it goes to TRAIL. -/
def State.doWrite (s : State) (r : Req) (role : Nat) (usb open_ : Bool) (idx sub : Nat) (ty : Option Nat) (v : List Byte) (i : Instr) :
    State × Verdict :=
  let e := (s.findEnt idx sub).getD (subZero idx [])
  let t := s.withVal idx sub v
  match s.writeBars t role usb open_ idx sub ty v with
  | some a => (s.recClaim a, .refused a)
  | none =>
    match s.admits t idx sub with
    | (q, some a) => (q, .refused a)
    | (q, none) =>
      if q.leadPaired ∧ isShared idx sub (leNat v) then (q.share i (leadDelay idx sub (leNat v)), .later)
      else q.perform r role usb open_ e idx v

/-- The answer to a request that has been dealt with. -/
def State.conclude (q : State × Verdict) (r : Req) (op : Nat) (body : List Byte) : State :=
  match q.2 with
  | .done => q.1.answer r op none body
  | .refused a => q.1.answer r op (some a) []
  | .later => q.1

/-- A shared write applies on this unit at its cycle (R618); LEAD answers then. -/
def State.applyShared (s : State) (i : Instr) (answers : Bool) : State :=
  match i with
  | .write r idx sub _ v =>
    let q := s.perform r 3 false false ((s.findEnt idx.toNat sub.toNat).getD (subZero idx.toNat [])) idx.toNat v
    if !answers then q.1
    else match q.2 with
      | .done => q.1.answerLate r none
      | .refused a => q.1.answerLate r (some a)
      | .later => q.1
  | .automaticAccept => if s.prog.edit.st = 3 then s.acceptEdit 1 else s
  | .writeBlock _ idx _ off _ v => if answers then s else (s.parBlock (ix 3 (by decide) (idx.toNat - 0xB030)) [] off.toNat v).1
  | _ => s

/-- A step of TRAIL under LEAD's key position (R91). -/
def State.asLead (s : State) (f : State → State) : State :=
  (f (s.modOp fun o => { o with key := s.tdm.leadKey })).modOp fun o => { o with key := s.op.key }

/-- The commands whose cycle has come apply (R618). -/
def State.runDue (s : State) (answers : Bool) : State :=
  let due := s.tdm.cmds.filter fun c => s.cycleDue c.1
  let s := s.modTdm fun t => { t with cmds := t.cmds.filter fun (c : Nat × Instr) => !due.contains c }
  due.foldl (fun (s : State) c => if answers then s.applyShared c.2 true else s.asLead fun s => s.applyShared c.2 false) s

end Sys2Proof.Machine
end

