-- ==== Sys2Proof/Machine/RegRead.lean ====
section
/-! DEFINITION. Reads of the register blocks by an application core at S (R47, R105–R112, R151–R154, R189, R267–R269,
R334–R336, R372–R375, R532–R536, R658–R659, R693–R695, R712–R713). -/

namespace Sys2Proof.Machine

/-- A register from fields: value, width, position. -/
def mkReg (l : List (Nat × Nat × Nat)) : Word := BitVec.ofNat 32 ((l.map fun f => fieldAt f.1 f.2.1 f.2.2).foldl (· + ·) 0)

/-- Context number `n`, if there is one. -/
def ctxNo (n : Nat) : Option Gctx := if h : n < 64 then some ⟨n, h⟩ else none

/-! ## SCH_ (R105–R112) -/

/-- SCH_OPSTATE (R108). -/
def State.schOpstate (s : State) : Word :=
  mkReg [(s.op.key.toNat, 2, 0), (s.op.st.code, 2, 4), (s.op.haltCause.toNat, 8, 8), (b2n s.op.rawA, 1, 16), (b2n s.op.rawB, 1, 17),
    (b2n s.op.debounce.isSome, 1, 18), (b2n s.isTrail, 1, 19)]

/-- A mask with one bit per context of core `n`. -/
def State.coreMask (s : State) (n : CoreId) (p : Ctx → Bool) : Nat :=
  ((List.finRange 8).map fun k => if p (s.cx (s.home (ctxOf n k))) then 2 ^ k.val else 0).foldl (· + ·) 0

/-- SCH_COREn (R109). -/
def State.schCore (s : State) (n : CoreId) : Word :=
  let r := s.runShown n
  mkReg [((r.map fun g => g.val % 8).getD 0, 3, 0), (b2n r.isSome, 1, 3), (b2n ((r.map fun g => (s.cx g).act.paired).getD false), 1, 4),
    (s.coreMask n (fun c => c.act.status == .ready || c.inCommit), 8, 8), (s.coreMask n (·.act.demoted), 8, 16)]

/-- CTX_CFG (R110). -/
def Task.cfgReg (t : Task) : Word :=
  mkReg [(match t.kind with | .none => 0 | .cyclic => 1 | .event => 2 | .background => 3, 2, 0), (t.prio, 4, 4), (b2n t.paired, 1, 8),
    (t.action, 2, 9), (t.evline, 8, 16)]

/-- CTX_STATE (R111). -/
def State.ctxState (s : State) (g : Gctx) : Word :=
  let a := (s.cx g).act
  mkReg [(s.stateCode g, 3, 0), (b2n a.demoted, 1, 3), (b2n a.held, 1, 4), (b2n a.fOverrun, 1, 8), (b2n a.fMiss, 1, 9),
    (b2n a.fSkipped, 1, 10), (b2n a.fDeferred, 1, 11), (b2n a.fCoal, 1, 12)]

/-- A register of a context at offset `o` of its 40h bytes (R105, R238); CTX_RELTIME is read apart. -/
def State.ctxReg (s : State) (g0 : Gctx) (o : Nat) : Word :=
  let g := s.home g0
  let c := s.cx g
  let a := c.act
  match o / 4 with
  | 0 => c.task.cfgReg
  | 1 => mkReg [(c.task.period, 24, 0)]
  | 2 => mkReg [(c.task.offset, 24, 0)]
  | 3 => mkReg [(c.task.deadline, 24, 0)]
  | 4 => BitVec.ofNat 32 c.task.budget
  | 5 => s.ctxState g
  | 6 => BitVec.ofNat 32 a.used
  | 7 => BitVec.ofNat 32 a.maxUsed
  | 8 => BitVec.ofNat 32 a.actCnt
  | 9 => BitVec.ofNat 32 a.ovrCnt
  | 10 => BitVec.ofNat 32 a.missCnt
  | 11 => mkReg [(min 0xFFFF a.skipCnt, 16, 0), (min 0xFFFF a.coalCnt, 16, 16)]
  | 12 => a.rel.extractLsb' 0 32
  | 13 => a.rel.extractLsb' 32 32
  | 14 => BitVec.ofNat 32 a.lastResp
  | 15 => BitVec.ofNat 32 a.maxResp
  | _ => 0

/-- SCH_EVLINEl (R112). -/
def State.evLine (s : State) (l : Nat) : Word :=
  let b := s.bound l
  mkReg [((b.map (·.val)).getD 0, 6, 0), (b2n b.isSome, 1, 6), ((s.evCount.toList.getD l 0).toNat, 16, 16)]

/-- A read of SCH_ that latches nothing. -/
def State.schRead (s : State) (o : Nat) : Word :=
  if o = 0 then s.schOpstate
  else if 0x10 ≤ o ∧ o < 0x30 then (if h : (o - 0x10) / 4 < 8 then s.schCore ⟨(o - 0x10) / 4, h⟩ else 0)
  else if 0x100 ≤ o ∧ o < 0x1100 then (match ctxNo ((o - 0x100) / 0x40) with | some g => s.ctxReg g ((o - 0x100) % 0x40) | none => 0)
  else if 0x2000 ≤ o ∧ o < 0x2400 then s.evLine ((o - 0x2000) / 4)
  else 0

/-! ## IMG_ (R151–R154) and PAIR_ (R267–R269) -/

/-- Registers of context `g` in IMG_. -/
def State.imgCtxReg (s : State) (g : Gctx) (o : Nat) : Word :=
  let i := (s.cx g).img
  match o / 4 with
  | 0 => i.gather
  | 1 => mkReg [(b2n i.stale, 1, 0), (b2n i.gaged, 1, 1), (b2n i.ovf, 1, 2), (b2n i.addrflt, 1, 3), (b2n i.owndrop, 1, 4)]
  | 2 => mkReg [(i.staleW, 15, 0), (min 0xFFFF i.staleN, 16, 16)]
  | 3 => mkReg [(i.used, 9, 0), ((s.cx g).task.staging, 9, 16)]
  | _ => 0

/-- A read of IMG_. -/
def State.imgBlkRead (s : State) (o : Nat) : Word :=
  let i := s.img
  if o = 0 then i.epoch
  else if o = 4 then mkReg [(b2n i.sweep, 1, 0), (b2n i.ownviol, 1, 1), (b2n (i.forces != []), 1, 2)]
  else if o = 8 then mkReg [(i.lastSrc, 12, 0), (i.lastSize, 10, 16)]
  else if o = 0x0C then mkReg [(i.forces.length, 10, 0)]
  else if o = 0x10 then BitVec.ofNat 32 i.sweepCnt
  else if o = 0x14 then BitVec.ofNat 32 i.coalCnt
  else if 0x100 ≤ o ∧ o < 0x500 then (match ctxNo ((o - 0x100) / 0x10) with | some g => s.imgCtxReg g ((o - 0x100) % 0x10) | none => 0)
  else 0

/-- A register of pair `p` (R267–R269). -/
def State.pairReg (s : State) (p : PairId) (o : Nat) : Word :=
  let q := s.pair[p]
  let r := s.pairRuns p
  match o / 4 with
  | 0 => mkReg [(b2n q.usable, 1, 0), (b2n r.isSome, 1, 1), ((r.map fun g => g.val % 8).getD 0, 3, 2), (if s.mirrors then s.cfg (0xD120 + p.val) 5 1 else 0, 1, 5),
      (b2n q.mismatch, 1, 8), (b2n q.brokenF, 1, 9), (b2n q.testfail, 1, 10), (b2n q.injected, 1, 11)]
  | 1 => mkReg [(q.mmLane, 3, 0), (q.mmBit, 5, 8), (q.mmCtx, 6, 16)]
  | 2 => q.mmPc
  | 3 => BitVec.ofNat 32 q.mmCnt
  | 4 => BitVec.ofNat 32 q.brkCnt
  | 5 => BitVec.ofNat 32 q.sweeps
  | 6 => BitVec.ofNat 32 q.actCnt
  | _ => 0

/-- A read of PAIR_. -/
def State.pairBlkRead (s : State) (o : Nat) : Word := if h : o / 0x20 < 4 then s.pairReg ⟨o / 0x20, h⟩ (o % 0x20) else 0

/-! ## WDG_ check-in part (R693–R695) -/

/-- WDG_CISTAT (R694). -/
def State.ciStat (s : State) : Word :=
  let p := s.sup
  mkReg [(b2n p.cur.excused, 1, 0), (b2n p.lexcused, 1, 1), (b2n p.lfault, 1, 2), (b2n p.on, 1, 3), (b2n p.closing.isSome, 1, 4),
    (p.errcnt, 4, 8), (b2n p.injected, 1, 16)]

/-- WDG_CNTg (R695). -/
def State.wdgCnt (s : State) (g : Nat) : Word :=
  let p := s.sup
  mkReg [(p.cur.count g, 8, 0), ((p.closing.map fun i => i.count g).getD 0, 8, 8), (sget 0 p.lcounts g, 8, 16), (b2n (p.cur.expects g), 1, 24)]

/-- A read of the check-in part. -/
def State.wdgRead (s : State) (o : Nat) : Word :=
  let p := s.sup
  let lo (m : BitVec 64) : Word := m.extractLsb' 0 32
  let hi (m : BitVec 64) : Word := m.extractLsb' 32 32
  if 0x100 ≤ o then (if o < 0x200 then s.wdgCnt ((o - 0x100) / 4) else 0)
  else
    match o / 4 with
    | 1 => s.ciStat
    | 2 => BitVec.ofNat 32 p.cur.num
    | 3 => p.ltally
    | 4 => p.cur.tally
    | 5 => (p.closing.map (·.tally)).getD 0
    | 6 => lo p.cur.exp
    | 7 => hi p.cur.exp
    | 8 => lo p.miss
    | 9 => hi p.miss
    | 10 => lo p.extra
    | 11 => hi p.extra
    | 12 => lo p.late
    | 13 => hi p.late
    | _ => 0

/-! ## RTC_ (R658, R659) and REC_ (R712, R713), without the latches -/

/-- TM_CTRLk (R659). -/
def TmUnit.ctrl (u : TmUnit) : Word := mkReg [(b2n u.armed, 1, 0), (b2n u.hit, 1, 1), (u.skip, 16, 16)]

/-- A register of match unit `k`. -/
def TmUnit.reg (u : TmUnit) (o : Nat) : Word :=
  match o / 4 with
  | 0 => u.value.extractLsb' 0 32
  | 1 => u.value.extractLsb' 32 32
  | 2 => u.per
  | 3 => u.ctrl
  | _ => 0

/-- A read of RTC_ that takes no snapshot, with the snapshot held for the context (R653). -/
def State.rtcRead (s : State) (c : CalSnap) (o : Nat) : Word :=
  if 0x40 ≤ o then (if h : (o - 0x40) / 0x10 < 8 then s.time.tm[(o - 0x40) / 0x10].reg (o % 0x10) else 0)
  else
    match o / 4 with
    | 2 => s.tbStat
    | 5 => c.cal1
    | 6 => mkReg [(c.presc.toNat, 15, 0)]
    | 7 => s.time.rtc.stg0
    | 8 => s.time.rtc.stg1
    | 10 => s.time.rtc.status s.clk
    | 11 => s.time.rtc.stamp
    | _ => 0

/-- REC_STATUS (R713). -/
def State.recStatus (s : State) : Word := mkReg [(b2n s.rcd.busy, 1, 0), (s.rcd.torn, 8, 8), (s.rcd.queue.length, 9, 16)]

/-- A read of REC_ that latches nothing. -/
def State.recRead (s : State) (o : Nat) : Word :=
  match o / 4 with
  | 0 => s.recStatus
  | 5 => 0x04158000
  | 6 => BitVec.ofNat 32 s.rcd.supp
  | 7 => BitVec.ofNat 32 s.rcd.lost
  | _ => 0

/-! ## NVC_ (R372–R375) and MEM_ (R334–R336) -/

/-- NVC_STATUS (R373). -/
def State.nvcStatus (s : State) : Word :=
  let v := s.nv
  mkReg [(b2n v.inRecall, 1, 0), (b2n (v.lehr != .none), 1, 1), (b2n v.suspect, 1, 2), (b2n v.half, 1, 3), (b2n v.ue, 1, 4),
    (b2n v.qwait, 1, 5), (v.queue.length, 15, 16)]

/-- A register of a page buffer (R372, R374, R375). -/
def PageBuf.reg (p : PageBuf) (o : Nat) : Word :=
  if 0x40 ≤ o then p.data.toList.getD ((o - 0x40) / 4) 0
  else
    match o / 4 with
    | 0 => p.page
    | 1 => mkReg [(p.start, 4, 0), (p.len, 5, 4)]
    | 2 => mkReg [(b2n p.prog.isSome, 1, 0), (b2n p.done, 1, 1), (b2n p.refused, 1, 2), (p.cause, 4, 4)]
    | _ => 0

/-- A read of NVC_. -/
def State.nvcRead (s : State) (o : Nat) : Word :=
  let v := s.nv
  if 0x100 ≤ o then (if h : (o - 0x100) / 0x80 < 8 then v.pb[(o - 0x100) / 0x80].reg ((o - 0x100) % 0x80) else 0)
  else
    match o / 4 with
    | 0 => s.nvcStatus
    | 1 => mkReg [(v.qhigh, 15, 0)]
    | 2 => mkReg [(min 0xFFFF v.ceCnt, 16, 0), (min 0xFFFF v.ueCnt, 16, 16)]
    | 3 => v.eccAddr
    | 4 => BitVec.ofNat 32 v.drained
    | 5 => BitVec.ofNat 32 v.waitCnt
    | _ => 0

/-- A register of a bank (R334–R336). -/
def Bank.reg (k : Bank) (o : Nat) : Word :=
  match o / 4 with
  | 0 => mkReg [(b2n k.coll, 1, 0), (b2n k.ce, 1, 1), (b2n k.ue, 1, 2), (b2n k.mfail, 1, 3), (b2n k.failed, 1, 4), (b2n k.march.isSome, 1, 5),
      (b2n k.rep0.isSome + b2n k.rep1.isSome, 2, 8), (k.lastPos, 4, 16)]
  | 1 => k.colAddr
  | 2 => BitVec.ofNat 32 k.colCnt
  | 3 => mkReg [(min 0xFFFF k.ceCnt, 16, 0), (min 0xFFFF k.ueCnt, 16, 16)]
  | 4 => k.eccAddr
  | 5 => BitVec.ofNat 32 k.atomCnt
  | 6 => mkReg [(k.alg, 2, 0), (k.result, 3, 8), (k.cause, 4, 12)]
  | 7 => k.mfailW
  | _ => 0

/-- A read of MEM_. -/
def State.memBlkRead (s : State) (o : Nat) : Word := if h : o / 0x20 < 11 then s.bank[o / 0x20].reg (o % 0x20) else 0

/-! ## CANn_ (R532–R536) -/

/-- Operation mode: a unit that does not hold INTLK runs restricted (R528). -/
def State.canMode (s : State) (c : Fin 2) : Nat := if s.canHolder then s.canCfg c 0xC 0 else 2

/-- CANn_STATUS (R533). -/
def State.canStatus (s : State) (c : Fin 2) : Word :=
  let k := s.can[c]
  mkReg [(k.st, 3, 0), (s.canMode c, 2, 3), (k.lec.toNat, 3, 8), (b2n (decide (96 ≤ k.tec ∨ 96 ≤ k.rxec)), 1, 11), (b2n k.woken, 1, 12),
    (b2n k.tdcerr, 1, 13), (b2n k.busoff, 1, 14)]

/-- One bit per object of a group of 32. -/
def State.moBits (s : State) (c : Fin 2) (k : Nat) (p : Mo → Bool) : Word :=
  BitVec.ofNat 32 (((List.range 32).map fun b => if h : 32 * k + b < 128 then (if p (s.mo c ⟨32 * k + b, h⟩) then 2 ^ b else 0) else 0).foldl (· + ·) 0)

/-- CANn_MOCFGm (R534). -/
def State.moCfgReg (s : State) (c : Fin 2) (m : MoId) : Word :=
  let w := s.moWin c m
  mkReg [(s.moDir c m, 2, 0), (s.moCfg c m 3 0, 1, 2), (s.moCfg c m 4 0, 1, 3), (s.moCfg c m 5 0, 1, 4), (s.moCfg c m 6 0, 1, 5),
    (s.moHolder c m, 3, 8), (w.1 % 0x400 / 8, 7, 16), (b2n (w.2 == 16), 1, 23), (b2n (w.1 != 0), 1, 24)]

/-- CANn_MOSTATm (R536). -/
def Mo.stat (o : Mo) : Word :=
  mkReg [(b2n o.newdat, 1, 0), (b2n o.lost, 1, 1), (b2n o.txok, 1, 2), (b2n o.arblost, 1, 3), (b2n o.txerr, 1, 4), (b2n o.aborted, 1, 5),
    (b2n o.intx, 1, 6), (o.rxdlc.toNat, 4, 8), (b2n o.rxfdf, 1, 12), (b2n o.rxbrs, 1, 13), (b2n o.rxesi, 1, 14)]

/-- A register of object `m`. -/
def State.moReg (s : State) (c : Fin 2) (m : MoId) (o : Nat) : Word :=
  let x := s.mo c m
  if 0x40 ≤ o then x.data.toList.getD ((o - 0x40) / 4) 0
  else
    match o / 4 with
    | 0 => s.moCfgReg c m
    | 1 => mkReg [(s.moCfg c m 2 0, 29, 0)]
    | 2 => if s.moDir c m = 1 then 0 else mkReg [(x.dlc.toNat, 4, 0), (b2n x.txreq, 1, 8)]
    | 3 => x.stat
    | 4 => x.time
    | 5 => BitVec.ofNat 32 x.cnt
    | _ => 0

/-- A read of CANn_. -/
def State.canRead (s : State) (c : Fin 2) (o : Nat) : Word :=
  let k := s.can[c]
  if 0x1000 ≤ o then (if h : (o - 0x1000) / 0x80 < 128 then s.moReg c ⟨(o - 0x1000) / 0x80, h⟩ ((o - 0x1000) % 0x80) else 0)
  else if 0x10 ≤ o ∧ o < 0x20 then s.moBits c ((o - 0x10) / 4) (·.newdat)
  else if 0x20 ≤ o ∧ o < 0x30 then s.moBits c ((o - 0x20) / 4) (·.txreq)
  else
    match o / 4 with
    | 0 => s.canStatus c
    | 1 => mkReg [(k.tec, 9, 0), (k.rxec, 8, 16)]
    | 2 => mkReg [(k.delay, 7, 0), (k.ssp, 7, 8)]
    | 3 => BitVec.ofNat 32 k.disc
    | _ => 0

/-! ## Reads that latch (R106, R653, R712) -/

/-- The value that context `g` reads is kept as its last one. -/
def State.latched (s : State) (g : Gctx) (v : Word) (f : Port → Port) : State × Word :=
  (s.modPort g fun p => { f p with lastRead := v }, v)

/-- A read of CTX_RELTIME_LO of context `h` by context `g` (R106, R238). -/
def State.readRelLo (s : State) (g h : Gctx) : State × Word :=
  let t := (s.cx (s.home h)).act.rel
  s.latched g (t.extractLsb' 0 32) fun p => { p with relLatch := sset none p.relLatch h.val (some (t.extractLsb' 32 32)) }

/-- A read of CTX_RELTIME_HI: the latched half once, else the present one (R106). -/
def State.readRelHi (s : State) (g h : Gctx) : State × Word :=
  let t := (s.cx (s.home h)).act.rel
  let v := (sget none (s.cx g).port.relLatch h.val).getD (t.extractLsb' 32 32)
  s.latched g v fun p => { p with relLatch := sset none p.relLatch h.val none }

/-- A read of RTC_TBLO (R653). -/
def State.readTbLo (s : State) (g : Gctx) : State × Word :=
  s.latched g (s.time.tb.extractLsb' 0 32) fun p => { p with tbLatch := some (s.time.tb.extractLsb' 32 32) }

/-- A read of RTC_TBHI (R653). -/
def State.readTbHi (s : State) (g : Gctx) : State × Word :=
  s.latched g ((s.cx g).port.tbLatch.getD (s.time.tb.extractLsb' 32 32)) fun p => { p with tbLatch := none }

/-- A read of RTC_CAL0 takes a snapshot (R653). -/
def State.readCal0 (s : State) (g : Gctx) : State × Word :=
  let c := s.time.rtc.cal
  s.latched g c.word0 fun p => { p with cal := ⟨c.word0, c.word1, BitVec.ofNat 15 s.presc⟩ }

/-- A read of REC_DONELO (R712). -/
def State.readDoneLo (s : State) (g : Gctx) : State × Word :=
  s.latched g (BitVec.ofNat 32 s.recDone) fun p => { p with doneLatch := some (BitVec.ofNat 32 (s.recDone / 2 ^ 32)) }

/-- A read of REC_DONEHI (R712). -/
def State.readDoneHi (s : State) (g : Gctx) : State × Word :=
  s.latched g ((s.cx g).port.doneLatch.getD (BitVec.ofNat 32 (s.recDone / 2 ^ 32))) fun p => { p with doneLatch := none }

/-- A read of REC_OLDLO (R712). -/
def State.readOldLo (s : State) (g : Gctx) : State × Word :=
  s.latched g (BitVec.ofNat 32 s.recOld) fun p => { p with oldLatch := some (BitVec.ofNat 32 (s.recOld / 2 ^ 32)) }

/-- A read of REC_OLDHI (R712). -/
def State.readOldHi (s : State) (g : Gctx) : State × Word :=
  s.latched g ((s.cx g).port.oldLatch.getD (BitVec.ofNat 32 (s.recOld / 2 ^ 32))) fun p => { p with oldLatch := none }

/-- Offset and number of a CTX_RELTIME register, if `o` of SCH_ is one. -/
def relTimeOf (o : Nat) : Option (Gctx × Bool) :=
  if 0x100 ≤ o ∧ o < 0x1100 then
    (ctxNo ((o - 0x100) / 0x40)).bind fun h =>
      if (o - 0x100) % 0x40 = 0x30 then some (h, false) else if (o - 0x100) % 0x40 = 0x34 then some (h, true) else none
  else none

/-- A read of a register by the gaffer, for which no read latches; what the map of a block that only the dictionary describes holds is not given
(R47). -/
def State.regReadGaffer (s : State) (b o : Nat) : State × Word :=
  if [8, 9, 10, 13, 14, 16].contains b then (s.draw, s.freeWord)
  else if b = 5 ∧ o = 0x10 then (s, s.time.rtc.cal.word0)
  else if b = 5 ∧ (o = 0x14 ∨ o = 0x18) then (s, s.rtcRead ⟨s.time.rtc.cal.word0, s.time.rtc.cal.word1, BitVec.ofNat 15 s.presc⟩ o)
  else if b = 5 ∧ o < 8 then (s, s.time.tb.extractLsb' (8 * o) 32)
  else if b = 6 ∧ 4 ≤ o ∧ o < 0x0C then (s, BitVec.ofNat 32 (s.recDone / 2 ^ (8 * (o - 4))))
  else if b = 6 ∧ 0x0C ≤ o ∧ o < 0x14 then (s, BitVec.ofNat 32 (s.recOld / 2 ^ (8 * (o - 0x0C))))
  else
    match b, relTimeOf o with
    | 1, some (h, hi) => (s, (s.cx (s.home h)).act.rel.extractLsb' (if hi then 32 else 0) 32)
    | 0, _ => (s, if o = 0x10 then 0x100 else 0)
    | 1, none => (s, s.schRead o)
    | 2, _ => (s, s.imgBlkRead o)
    | 3, _ => (s, s.pairBlkRead o)
    | 4, _ => (s, s.wdgRead o)
    | 5, _ => (s, s.rtcRead ⟨0, 0, 0⟩ o)
    | 6, _ => (s, s.recRead o)
    | 7, _ => (s, s.nvcRead o)
    | 11, _ => (s, s.canRead 0 o)
    | 12, _ => (s, s.canRead 1 o)
    | 15, _ => (s, s.memBlkRead o)
    | _, _ => (s, 0)

/-- A read of a register by context `g` at S: block `b`, offset `o`; a reserved offset reads 0 (R18). -/
def State.regRead (s : State) (g : Gctx) (b o : Nat) : State × Word :=
  match b with
  | 0 => (s, if o = 0x10 then 0x100 else 0)
  | 1 =>
    match relTimeOf o with
    | some (h, false) => s.readRelLo g h
    | some (h, true) => s.readRelHi g h
    | none => (s, s.schRead o)
  | 2 => (s, s.imgBlkRead o)
  | 3 => (s, s.pairBlkRead o)
  | 4 => (s, s.wdgRead o)
  | 5 =>
    if o = 0 then s.readTbLo g else if o = 4 then s.readTbHi g else if o = 0x10 then s.readCal0 g
    else (s, s.rtcRead (s.cx g).port.cal o)
  | 6 =>
    if o = 4 then s.readDoneLo g else if o = 8 then s.readDoneHi g else if o = 0x0C then s.readOldLo g
    else if o = 0x10 then s.readOldHi g else (s, s.recRead o)
  | 7 => (s, s.nvcRead o)
  | 11 => (s, s.canRead 0 o)
  | 12 => (s, s.canRead 1 o)
  | 15 => (s, s.memBlkRead o)
  | _ => (s, 0)

end Sys2Proof.Machine
end

