-- ==== Sys2Proof/Machine/RegBlocks.lean ====
section
/-! DEFINITION. Writes of the register blocks and the register commands with rows of their own (R10–R20, R47, R48, R106, R336,
R346, R521, R524, R647, R653–R656, R712). -/

namespace Sys2Proof.Machine

/-- A W1C bit: each 1 clears it (R11). -/
def w1c (b : Bool) (v : Word) (p : Nat) : Bool := b && !v.getLsbD p

/-- The W1C bits of the register at offset `o` of block `b` (R11). -/
def w1cBits (b o : Nat) : Word :=
  match b with
  | 1 => if 0x100 ≤ o ∧ o < 0x1100 ∧ o % 0x40 = 0x14 then 0x1F00 else 0
  | 2 => if o = 4 then 2 else if 0x100 ≤ o ∧ o < 0x500 ∧ o % 0x10 = 4 then 0x1D else 0
  | 3 => if o < 0x80 ∧ o % 0x20 = 0 then 0xF00 else 0
  | 4 => if 0x20 ≤ o ∧ o < 0x38 then 0xFFFFFFFF else 0
  | 5 => if o = 0x28 then 0x10 else if 0x40 ≤ o ∧ o % 0x10 = 0x0C then 2 else 0
  | 7 => if o = 0 then 0x30 else if 0x100 ≤ o ∧ o % 0x80 = 8 then 6 else 0
  | 11 | 12 => if o = 0 then 0x7000 else if 0x1000 ≤ o ∧ o % 0x80 = 0x0C then 0x3F else 0
  | 15 => if o % 0x20 = 0 then 0xF else 0
  | _ => 0

/-- What a write clears of the W1C bits when the hardware sets the bits `ev` of the register in the same cycle: those end set (R13). -/
def beside (b o : Nat) (v ev : Word) : Word := v &&& ~~~(ev &&& w1cBits b o)

/-- A write to context `g` in SCH_ (R105). -/
def State.ctxWrite (s : State) (g0 : Gctx) (o : Nat) (v : Word) : State :=
  s.modAct (s.home g0) fun a =>
    match o / 4 with
    | 5 => { a with
        fOverrun := w1c a.fOverrun v 8, fMiss := w1c a.fMiss v 9, fSkipped := w1c a.fSkipped v 10
        fDeferred := w1c a.fDeferred v 11, fCoal := w1c a.fCoal v 12 }
    | 7 => { a with maxUsed := v.toNat }
    | 15 => { a with maxResp := v.toNat }
    | _ => a

/-- A write to SCH_. -/
def State.schWrite (s : State) (o : Nat) (v : Word) : State :=
  if 0x100 ≤ o ∧ o < 0x1100 then (match ctxNo ((o - 0x100) / 0x40) with | some g => s.ctxWrite g ((o - 0x100) % 0x40) v | none => s) else s

/-- A write to IMG_ (R152, R154). -/
def State.imgBlkWrite (s : State) (o : Nat) (v : Word) : State :=
  if o = 4 then s.modImg fun i => { i with ownviol := w1c i.ownviol v 1 }
  else if 0x100 ≤ o ∧ o < 0x500 ∧ o % 0x10 = 4 then
    match ctxNo ((o - 0x100) / 0x10) with
    | some g => s.modImgCtx g fun i => { i with
        stale := w1c i.stale v 0, ovf := w1c i.ovf v 2, addrflt := w1c i.addrflt v 3, owndrop := w1c i.owndrop v 4 }
    | none => s
  else s

/-- A write to PAIR_ (R268). -/
def State.pairBlkWrite (s : State) (o : Nat) (v : Word) : State :=
  if h : o / 0x20 < 4 then
    if o % 0x20 = 0 then
      s.modPair ⟨o / 0x20, h⟩ fun q => { q with
        mismatch := w1c q.mismatch v 8, brokenF := w1c q.brokenF v 9, testfail := w1c q.testfail v 10, injected := w1c q.injected v 11 }
    else s
  else s

/-- A write to the check-in part (R693); `g` is the writing context, if it is one. -/
def State.wdgWrite (s : State) (g : Option Gctx) (o : Nat) (v : Word) : State :=
  let lo (m : BitVec 64) : BitVec 64 := m &&& ~~~(v.zeroExtend 64)
  let hi (m : BitVec 64) : BitVec 64 := m &&& ~~~(v.zeroExtend 64 <<< 32)
  match o / 4 with
  | 0 => (match g with | some g => s.checkin g v | none => s)
  | 8 => s.modSup fun p => { p with miss := lo p.miss }
  | 9 => s.modSup fun p => { p with miss := hi p.miss }
  | 10 => s.modSup fun p => { p with extra := lo p.extra }
  | 11 => s.modSup fun p => { p with extra := hi p.extra }
  | 12 => s.modSup fun p => { p with late := lo p.late }
  | 13 => s.modSup fun p => { p with late := hi p.late }
  | _ => s

/-- A write to match unit `k` (R647, R659). -/
def State.tmWrite (s : State) (k : Fin 8) (o : Nat) (v : Word) : State :=
  match o / 4 with
  | 0 => s.modTm k fun u => { u with value := u.value.extractLsb' 32 32 ++ v }
  | 1 => s.tmHiWrite k v
  | 2 => s.modTm k fun u => { u with per := v }
  | 3 => s.modTm k fun u => { u with armed := v.getLsbD 0, hit := w1c u.hit v 1 }
  | _ => s

/-- A write of RTC_STG0 or RTC_STG1; reserved values are refused (R20, R651). -/
def State.stgWrite (s : State) (k : Nat) (v : Word) : Option State :=
  if stgReserved k v then none
  else some (s.modRtc fun r => if k = 0 then { r with stg0 := v &&& 0x071F3F00 } else { r with stg1 := v &&& 0x007F0F1F })

/-- A write to RTC_; `none` is status RULE. -/
def State.rtcWrite (s : State) (o : Nat) (v : Word) : Option State :=
  if 0x40 ≤ o then some (if h : (o - 0x40) / 0x10 < 8 then s.tmWrite ⟨(o - 0x40) / 0x10, h⟩ (o % 0x10) v else s)
  else
    match o / 4 with
    | 7 => s.stgWrite 0 v
    | 8 => s.stgWrite 1 v
    | 9 => some (s.setSec v)
    | 10 => some (s.modRtc fun r => { r with stampV := w1c r.stampV v 4 })
    | _ => some s

/-- A write to the page buffer of core `n` (R346, R349, R375); `none` is status RULE. -/
def State.pbWrite (s : State) (n : CoreId) (o : Nat) (v : Word) : Option State :=
  let busy := s.nv.pb[n].prog.isSome
  if 0x40 ≤ o then
    (if busy then none else some (s.modPb n fun p => { p with data := p.data.setIfInBounds ((o - 0x40) / 4) v }))
  else
    match o / 4 with
    | 0 => if busy then none else some (s.modPb n fun p => { p with page := v &&& 0x003FFFC0 })
    | 1 => s.pbCtrl n v
    | 2 => some (s.modPb n fun p => { p with done := w1c p.done v 1, refused := w1c p.refused v 2 })
    | _ => some s

/-- A write to NVC_. -/
def State.nvcWrite (s : State) (o : Nat) (v : Word) : Option State :=
  if 0x100 ≤ o then (if h : (o - 0x100) / 0x80 < 8 then s.pbWrite ⟨(o - 0x100) / 0x80, h⟩ ((o - 0x100) % 0x80) v else some s)
  else if o = 0 then some (s.modNv fun x => { x with ue := w1c x.ue v 4, qwait := w1c x.qwait v 5 })
  else some s

/-- A write to MEM_ by context `g`, if it is one (R335, R336). -/
def State.memBlkWrite (s : State) (g : Option Gctx) (o : Nat) (v : Word) : Option State :=
  if h : o / 0x20 < 11 then
    match o % 0x20 / 4 with
    | 0 => some (s.modBank ⟨o / 0x20, h⟩ fun k => { k with
        coll := w1c k.coll v 0, ce := w1c k.ce v 1, ue := w1c k.ue v 2, mfail := w1c k.mfail v 3 })
    | 6 => (match g with | some g => s.marchReq g ⟨o / 0x20, h⟩ v | none => some s)
    | _ => some s
  else some s

/-- A write to object `m` of CANc_ (R535, R536). -/
def State.moWrite (s : State) (c : Fin 2) (m : MoId) (o : Nat) (v : Word) (done : Bool) : Option State :=
  if 0x40 ≤ o then (if h : (o - 0x40) / 4 < 16 then s.modata c m ⟨(o - 0x40) / 4, h⟩ v else some s)
  else
    match o / 4 with
    | 2 => s.moctrl c m v done
    | 3 => some (s.modMo c m fun x => { x with
        newdat := w1c x.newdat v 0, lost := w1c x.lost v 1, txok := w1c x.txok v 2, arblost := w1c x.arblost v 3
        txerr := w1c x.txerr v 4, aborted := w1c x.aborted v 5 })
    | _ => some s

/-- A write to CANc_ (R533). -/
def State.canWrite (s : State) (c : Fin 2) (o : Nat) (v : Word) (done : Bool) : Option State :=
  if 0x1000 ≤ o then (if h : (o - 0x1000) / 0x80 < 128 then s.moWrite c ⟨(o - 0x1000) / 0x80, h⟩ ((o - 0x1000) % 0x80) v done else some s)
  else if o = 0 then some (s.modCan c fun k => { k with woken := w1c k.woken v 12, tdcerr := w1c k.tdcerr v 13, busoff := w1c k.busoff v 14 })
  else some s

/-- A write of a register: block `b`, offset `o`; `g` is the writing context, if it is one, and `ev` the bits of the register that the hardware
sets or clears in the same cycle (R13, R14). What is RO or reserved ignores it (R11, R19); `none` is status RULE (R20). -/
def State.regWrite (s : State) (g : Option Gctx) (b o : Nat) (val ev : Word) : Option State :=
  let v := beside b o val ev
  match b with
  | 1 => some (s.schWrite o v)
  | 2 => some (s.imgBlkWrite o v)
  | 3 => some (s.pairBlkWrite o v)
  | 4 => some (s.wdgWrite g o v)
  | 5 => s.rtcWrite o v
  | 7 => s.nvcWrite o v
  | 11 => s.canWrite 0 o v (ev.getLsbD 8)
  | 12 => s.canWrite 1 o v (ev.getLsbD 8)
  | 15 => s.memBlkWrite g o v
  | _ => some s

/-- Whether the fabric denies context `g` at S a register (R47, R48, R346, R656, R672, R712). -/
def regDenied (g : Gctx) (b o : Nat) : Bool :=
  decide (0x10 ≤ b) || [8, 9, 10, 13, 14].contains b || (b == 4 && decide (0x200 ≤ o)) || (b == 5 && decide (0x1C ≤ o ∧ o < 0x28))
    || (b == 6 && decide (0x20 ≤ o))
    || (b == 7 && decide (0x100 ≤ o ∧ o < 0x500) && (o - 0x100) / 0x80 != g.val / 8)

/-- Block number and offset of a register address. -/
def regAt (a : Nat) : Nat × Nat := ((a - 0x10000000) / 0x10000, a % 0x10000)

/-! ## Accesses by masters (R10, R37, R46–R48) -/

/-- An access of `size` at address `a` of the register blocks by context `g` at privilege `priv`: `f` gives the effect and the word read,
`none` for status RULE. -/
def State.regServe (s : State) (g : Gctx) (priv : Bool) (a : Nat) (size : BitVec 2) (f : State → Option (State × Word)) : State × Resp :=
  let x := regAt a
  if 0x10200000 ≤ a then (s, ⟨1, 0⟩)
  else if !priv || regDenied g x.1 x.2 then (s, ⟨2, 0⟩)
  else if size ≠ 2 ∨ a % 4 ≠ 0 then (s, ⟨3, 0⟩)
  else
    match f s with
    | some r => (r.1, ⟨0, r.2⟩)
    | none => (s, ⟨3, 0⟩)

/-- Whether the access that a register command of `g` stands for is that of its transaction in flight. -/
def Port.asks (p : Port) (a : Nat) : Bool :=
  match p.txn with
  | some t => t.sent && p.held.isNone && t.addr.toNat == a
  | none => false

/-- The response of a register access reaches `g`: it ends the instruction whose transaction it answers, and an error without one is a bus error
of the instruction that `g` is at, whose word is not given. -/
def State.answerCore (s : State) (g : Gctx) (a : Nat) (q : Resp) : State :=
  match (s.cx g).port.txn with
  | some t => if (s.cx g).port.asks a then s.deliverResp g t q false else s
  | none => if q.status ≠ 0 ∧ s.running g then s.draw.trap g s.freeWord 9 q.status (BitVec.ofNat 32 a) else s

/-- A register access that context `g` makes, with its response. -/
def State.coreReg (s : State) (g : Gctx) (a : Nat) (size : BitVec 2) (f : State → Option (State × Word)) : State :=
  let priv := if (s.cx g).port.asks a then ((s.cx g).port.txn.map (·.priv)).getD false else (s.cx g).regs.priv
  let r := s.regServe g priv a size f
  r.1.answerCore g a r.2

/-- A register access by the gaffer: an error goes into its error register. -/
def State.gafferReg (s : State) (a : Nat) (size : BitVec 2) (f : State → Option (State × Word)) : State × Resp :=
  if 0x10200000 ≤ a then (s, ⟨1, 0⟩)
  else if 0x10110000 ≤ a then (s, ⟨2, 0⟩)
  else if size ≠ 2 ∨ a % 4 ≠ 0 then (s, ⟨3, 0⟩)
  else
    match f s with
    | some r => (r.1, ⟨0, r.2⟩)
    | none => (s, ⟨3, 0⟩)

/-- A write that gives no word. -/
def noWord (o : Option State) : Option (State × Word) := o.map fun s => (s, 0)

/-- REGISTER_WRITE (R9–R20): a write by a master; what is denied or breaks a rule changes nothing and ends with an error response. -/
def opRegisterWrite (m : Master) (addr : Word) (size : BitVec 2) (v ev : Word) (s : State) : State :=
  let a := addr.toNat
  let x := regAt a
  if a < 0x10000000 then s
  else
    match m with
    | .core g => s.coreReg g a size fun s => noWord (s.regWrite (some g) x.1 x.2 v ev)
    | .gaffer => let r := s.gafferReg a size (fun s => noWord (s.regWrite none x.1 x.2 v ev)); r.1.toBus 8 r.2
    | .engine p => s.toBus p.val ⟨if 0x10200000 ≤ a then 1 else 2, 0⟩

/-- TM_HI_WRITE (R647). -/
def opTmHiWrite (g : Gctx) (k : Fin 8) (v : Word) (s : State) : State :=
  s.coreReg g (0x10050044 + 0x10 * k.val) 2 fun s => some (s.tmHiWrite k v, 0)

/-- RTC_SETSEC_WRITE (R654–R656): only the gaffer's write takes effect, the others' are denied. -/
def opSetsecWrite (m : Master) (v : Word) (s : State) : State :=
  match m with
  | .core g => s.coreReg g 0x10050024 2 fun s => some (s, 0)
  | .gaffer => s.setSec v
  | .engine p => s.toBus p.val ⟨2, 0⟩

/-- The address of `g`'s access to the gaffer's part of the WDG_ block, whose offsets are not given: that of its transaction in flight there,
else a free one (R672). -/
def State.wdgAddr (s : State) (g : Gctx) : Nat :=
  let a := ((s.cx g).port.txn.map (·.addr.toNat)).getD 0
  if 0x10040200 ≤ a ∧ a < 0x10050000 then a else 0x10040200 + s.freeWord.toNat % 0x3F80 * 4

/-- An access to the gaffer's part of the WDG_ block (R48, R672): `f` is the gaffer's; other masters are denied. -/
def State.wdgReserved (s : State) (m : Master) (f : State → State) : State :=
  match m with
  | .core g => s.draw.coreReg g (s.wdgAddr g) 2 fun s => some (s, 0)
  | .gaffer => f s
  | .engine p => s.toBus p.val ⟨2, 0⟩

/-- WDG_SERVICE (R671–R675, R687). -/
def opWdgService (m : Master) (answer : Option Word) (s : State) : State := s.wdgReserved m fun s => s.wdgService (answer.getD s.gafferAnswer)

/-- WDG_Q_READ (R675): a read by the gaffer latches the tally. -/
def opWdgQRead (m : Master) (s : State) : State :=
  s.wdgReserved m fun s => s.modSup fun p => { p with qTally := p.ltally, qExp := p.lexp }

/-- WDG_CFG_WRITE (R670, R676). -/
def opWdgCfgWrite (m : Master) (tc to_ : Nat) (s : State) : State := s.wdgReserved m fun s => s.wdgCfg tc to_

/-- WDG_CHKIN (R46, R682): a check-in at S. -/
def opWdgChkin (g : Gctx) (key : Word) (s : State) : State := s.coreReg g 0x10040000 2 fun s => some (s.checkin g key, 0)

/-- MARCH_START (R327, R336). -/
def opMarchStart (g : Gctx) (b : BankId) (v : Word) (s : State) : State :=
  s.coreReg g (0x100F0018 + 0x20 * b.val) 2 fun s => noWord (s.marchReq g b v)

/-- PAGE_PROGRAM (R346, R349, R374). -/
def opPageProgram (g : Gctx) (v : Word) (s : State) : State :=
  s.coreReg g (0x10070104 + 0x80 * (coreOf g).val) 2 fun s => noWord (s.pbCtrl (coreOf g) v)

/-- A write of CANc_MOCTRLm by `g`. -/
def State.coreMoctrl (s : State) (g : Gctx) (c : Fin 2) (m : MoId) (v : Word) (done : Bool) : State :=
  s.coreReg g (0x100B1008 + 0x10000 * c.val + 0x80 * m.val) 2 fun s => noWord (s.moctrl c m v done)

/-- TXREQ (R14, R521): `done` says that the controller clears TXREQ in this cycle. -/
def opTxreq (g : Gctx) (c : Fin 2) (m : MoId) (v : Word) (done : Bool) (s : State) : State := s.coreMoctrl g c m v done

/-- CAN_ABORT (R524): a write of ABORT alone, with the DLC as it stands. -/
def opCanAbort (g : Gctx) (c : Fin 2) (m : MoId) (s : State) : State :=
  s.coreMoctrl g c m (0x200 ||| (s.mo c m).dlc.zeroExtend 32) false

/-- A read that latches, by `g`. -/
def opLatchRead (g : Gctx) (a : Nat) (f : State → State × Word) (s : State) : State := s.coreReg g a 2 fun s => some (f s)

/-! ## Meanings -/

/-- CTX_RELTIME_LO_READ (R106). -/
def execCtxReltimeLoRead (g h : Gctx) (s : State) : Host.Outcome State Fault Refusal :=
  .next (settledInsn (opLatchRead g (0x10010130 + 0x40 * h.val) fun s => s.readRelLo g h) s)

/-- RTC_CAL0_READ (R653). -/
def execRtcCal0Read (g : Gctx) (s : State) : Host.Outcome State Fault Refusal :=
  .next (settledInsn (opLatchRead g 0x10050010 fun s => s.readCal0 g) s)

/-- RTC_TBLO_READ (R653). -/
def execRtcTbloRead (g : Gctx) (s : State) : Host.Outcome State Fault Refusal :=
  .next (settledInsn (opLatchRead g 0x10050000 fun s => s.readTbLo g) s)

/-- REC_DONELO_READ (R712). -/
def execRecDoneloRead (g : Gctx) (s : State) : Host.Outcome State Fault Refusal :=
  .next (settledInsn (opLatchRead g 0x10060004 fun s => s.readDoneLo g) s)

/-- REC_OLDLO_READ (R712). -/
def execRecOldloRead (g : Gctx) (s : State) : Host.Outcome State Fault Refusal :=
  .next (settledInsn (opLatchRead g 0x1006000C fun s => s.readOldLo g) s)

/-- TM_HI_WRITE (R647). -/
def execTmHiWrite (g : Gctx) (k : Fin 8) (v : Word) (s : State) : Host.Outcome State Fault Refusal :=
  .next (settledInsn (opTmHiWrite g k v) s)

/-- RTC_SETSEC_WRITE (R654–R656). -/
def execRtcSetsecWrite (m : Master) (v : Word) (s : State) : Host.Outcome State Fault Refusal :=
  .next (settledInsn (opSetsecWrite m v) s)

/-- WDG_SERVICE (R672). -/
def execWdgService (m : Master) (answer : Option Word) (s : State) : Host.Outcome State Fault Refusal :=
  .next (settledInsn (whenOn (opWdgService m answer)) s)

/-- WDG_Q_READ (R675). -/
def execWdgQRead (m : Master) (s : State) : Host.Outcome State Fault Refusal := .next (settledInsn (whenOn (opWdgQRead m)) s)

/-- WDG_CFG_WRITE (R676). -/
def execWdgCfgWrite (m : Master) (tc tmo : Nat) (s : State) : Host.Outcome State Fault Refusal :=
  .next (settledInsn (whenOn (opWdgCfgWrite m tc tmo)) s)

/-- WDG_CHKIN (R682). -/
def execWdgChkin (g : Gctx) (key : Word) (s : State) : Host.Outcome State Fault Refusal := .next (settledInsn (whenOn (opWdgChkin g key)) s)

/-- MARCH_START (R327, R336). -/
def execMarchStart (g : Gctx) (b : BankId) (v : Word) (s : State) : Host.Outcome State Fault Refusal :=
  .next (settledInsn (opMarchStart g b v) s)

/-- PAGE_PROGRAM (R346, R349, R374): context `g` writes NVC_PBCTRL of its core. -/
def execPageProgram (g : Gctx) (v : Word) (s : State) : Host.Outcome State Fault Refusal :=
  .next (settledInsn (opPageProgram g v) s)

/-- TXREQ (R521). -/
def execTxreq (g : Gctx) (c : Fin 2) (m : Fin 128) (v : Word) (done : Bool) (s : State) : Host.Outcome State Fault Refusal :=
  .next (settledInsn (opTxreq g c m v done) s)

/-- CAN_ABORT (R524). -/
def execCanAbort (g : Gctx) (c : Fin 2) (m : Fin 128) (s : State) : Host.Outcome State Fault Refusal :=
  .next (settledInsn (opCanAbort g c m) s)

/-- REGISTER_WRITE (R11). -/
def execRegisterWrite (m : Master) (addr : Word) (size : BitVec 2) (v ev : Word) (s : State) : Host.Outcome State Fault Refusal :=
  .next (settledInsn (opRegisterWrite m addr size v ev) s)

end Sys2Proof.Machine
end

