-- ==== Sys2Proof/Machine/Fabric.lean ====
section
/-! DEFINITION. Fabric transactions: what the two ports of a bank and the other targets do, and the response (R33–R48, R170–R172,
R308–R321, R340–R344, R790). -/

namespace Sys2Proof.Machine

/-! ## The two ports of a bank (R309, R313–R321) -/

/-- One access at bank `b`, by itself (R316, R319–R321). -/
def State.portAccess (s : State) (b : BankId) (o : PortAccess) : State × Resp :=
  match o with
  | .read x => (s.eccCheck b x.toNat 0, if s.meetsUe b x.toNat then ⟨6, 0⟩ else ⟨0, s.wordAt x.toNat⟩)
  | .write x size d =>
    if size = 2 then (s.bankWrite x.toNat 2 d, ⟨0, 0⟩)
    else if s.meetsUe b x.toNat then (s.eccCheck b x.toNat 0, ⟨6, 0⟩)
    else ((s.eccCheck b x.toNat 0).bankWrite x.toNat size d, ⟨0, 0⟩)
  | .aadd x _ | .aswp x _ =>
    if s.meetsUe b x.toNat then (s.eccCheck b x.toNat 2, ⟨6, 0⟩)
    else (((s.eccCheck b x.toNat 0).countAtom b).bankWrite x.toNat 2 (portAtomicVal o (s.wordAt x.toNat)), ⟨0, s.wordAt x.toNat⟩)
  | .none | .event _ => (s, ⟨0, 0⟩)

/-- Ring position of the engine that owns IB, SB or GB (R40, R311). -/
def ownerPos (b : BankId) : Nat := if b.val = 8 then 9 else if b.val = 9 then 10 else 8

/-- The owner's access on IB or SB, with its response (R309): the owners of these banks issue no atomics (R319). -/
def State.ownerPort (s : State) (b : BankId) (o : PortAccess) : State :=
  match o with
  | .aadd _ _ | .aswp _ _ => s.toBus (ownerPos b) ⟨3, 0⟩
  | .none | .event _ => s
  | .read _ | .write _ _ _ => let r := s.portAccess b o; r.1.toBus (ownerPos b) r.2

/-- The owner's write that waits behind a shared-port atomic (R317). -/
def State.holdWrite (s : State) (b : BankId) (o : PortAccess) : State :=
  match o with
  | .write x z d => s.modBank b fun k => { k with heldW := some ⟨x, z, d⟩ }
  | _ => s

/-- The shared port's access `acc` of position `pos` at IB or SB beside the owner's access `own` of the same bank cycle (R313): of two writes to
one word the owner's stays, a write of the owner follows an atomic by one cycle, and every read has the value from before the cycle. -/
def State.sharedPort (s : State) (b : BankId) (pos : Nat) (acc own : PortAccess) : State × Resp :=
  let a := (accAddr acc).getD 0
  let s := s.modBank b fun k => { k with last := pos }
  if accWrites own && accTouches own a then
    if accWrites acc then ((s.ownerPort b own).bankCollide b pos a, ⟨7, 0⟩)
    else
      let r := s.portAccess b acc
      (if accAtomic acc then r.1.holdWrite b own else r.1.ownerPort b own, r.2)
  else (s.ownerPort b own).portAccess b acc

/-- The part of a word that an access of `size` at `a` reads. -/
def partOf (x : Word) (a : Nat) (size : BitVec 2) : Word := lowBytes size (x >>> (8 * (a % 4)))

/-- The gaffer's access through the shared port of a core bank (R46): the bank notes it, so that an instruction of the owner in the same bank cycle
meets it (R313). -/
def State.cbShared (s : State) (b : BankId) (acc : PortAccess) : State × Resp :=
  let a := (accAddr acc).getD 0
  let r := (s.modBank b fun k => { k with last := 8 }).portAccess b acc
  (if r.2.status = 0 then
      r.1.modBank b fun k => { k with sh := some ⟨s.clk, 8, acc, BitVec.ofNat 32 a, s.wordAt a, s.errAt a⟩ }
    else r.1, r.2)

/-- A word read through the IB window (R790): what it holds is not specified. -/
def State.hideWord (r : State × Resp) (size : BitVec 2) : State × Resp :=
  if r.2.status = 0 then (r.1.draw, ⟨0, lowBytes size r.1.freeWord⟩) else r

/-! ## The record store (R340–R344, R351, R367) -/

/-- An access to the record store by the master `who`, whose grant it takes (R340, R342, R344). -/
def State.nvServe (s : State) (who : Nat) (acc : PortAccess) : State × Resp :=
  let s := s.modNv fun v => { v with granted := if v.granted = some who then none else v.granted }
  match acc with
  | .read x =>
    let a := x.toNat
    if s.nvUe a then (s.nvReportUe a 0, ⟨6, 0⟩) else (s.nvCorrect a, ⟨0, s.recWord a⟩)
  | .write x size d =>
    let a := x.toNat
    if size ≠ 2 ∧ s.nvUe a then (s.nvReportUe a 1, ⟨6, 0⟩)
    else (((if size = 2 then s else s.nvCorrect a).bankWrite a size d).wrote (a - nvBase) 1, ⟨0, 0⟩)
  | _ => (s, ⟨3, 0⟩)

/-! ## The fabric (R37, R45–R48) -/

/-- An access of `g` to a register block (R10, R47, R48); `ev` is what the hardware does to the register in the same cycle. -/
def State.regAccess (s : State) (g : Gctx) (t : Txn) (own : PortAccess) : State × Resp :=
  let x := regAt t.addr.toNat
  let ev : Word := match own with | .event e => e | _ => 0
  s.regServe g t.priv t.addr.toNat t.size fun s =>
    if t.op.atomic then none
    else if t.op.stores then noWord (s.regWrite (some g) x.1 x.2 t.data ev)
    else some (s.regRead g x.1 x.2)

/-- A transaction of context `g` at its target, with what the owner port does in the same cycle: UNMAPPED before DENIED before
the rules of the target (R37). -/
def State.access (s : State) (g : Gctx) (t : Txn) (own : PortAccess) : State × Resp :=
  let a := t.addr.toNat
  let pos := g.val / 8
  let part (r : State × Resp) : State × Resp := if t.op.ctrl.2.1 then r else (r.1, ⟨r.2.status, partOf r.2.data a t.size⟩)
  if !mapped a then (s, ⟨1, 0⟩)
  else if a < 0x400000 then
    if !inOwnCb g a then (s, ⟨2, 0⟩)
    else if s.bank[cbOf (coreOf g)].march.isSome then (s, ⟨3, 0⟩) else s.ownAccess g t
  else if a < 0x02000000 then
    if !t.priv || t.op.ctrl.2.1 then (s, ⟨2, 0⟩)
    else if s.bank[8].march.isSome then (s, ⟨3, 0⟩) else State.hideWord (s.sharedPort 8 pos t.asked own) t.size
  else if a < 0x03000000 then
    if s.bank[9].march.isSome then (s, ⟨3, 0⟩) else part (s.sharedPort 9 pos t.asked own)
  else if a < 0x04000000 then (s, ⟨2, 0⟩)
  else if a < 0x0F000000 then
    if !t.priv then (s, ⟨2, 0⟩)
    else
      match s.nvBars (nvAllowed t.asked (a - nvBase)) with
      | 0 => part (s.nvServe pos t.asked)
      | q => (s, ⟨q, 0⟩)
  else if a < 0x10000000 then (s, ⟨2, 0⟩)
  else s.regAccess g t own

/-- A register access of the gaffer. -/
def State.gafferRegs (s : State) (acc own : PortAccess) : State × Resp :=
  let a := (accAddr acc).getD 0
  let x := regAt a
  let ev : Word := match own with | .event e => e | _ => 0
  s.gafferReg a (accSize acc) fun s =>
    match acc with
    | .write _ _ d => noWord (s.regWrite none x.1 x.2 d ev)
    | .read _ => some (s.regReadGaffer x.1 x.2)
    | _ => none

/-- Whether an address lies in a retained half (R345): the part of the record store that the image engine reaches (R343). -/
def inRetained (a : Nat) : Bool := decide (nvBase + 0x58000 ≤ a ∧ a < nvBase + 0x158000)

/-- An access of the master at ring position `pos` other than a core (R44, R46, R319, R343): the gaffer (8), the image engine (9) and the other
engines (10–13). -/
def State.otherAccess (s : State) (pos : Nat) (acc own : PortAccess) : State × Resp :=
  let a := (accAddr acc).getD 0
  let barred (b : BankId) : Bool := s.bank[b].march.isSome || (accAtomic acc && pos != 8)
  if !mapped a then (s, ⟨1, 0⟩)
  else if a < 0x400000 then
    (if pos ≠ 8 then (s, ⟨2, 0⟩)
     else match bankAt a with
       | some b => if barred b then (s, ⟨3, 0⟩) else s.cbShared b acc
       | none => (s, ⟨1, 0⟩))
  else if a < 0x02000000 then
    if pos = 9 then (if barred 8 then (s, ⟨3, 0⟩) else State.hideWord (s.portAccess 8 acc) 2)
    else if pos = 8 then (if barred 8 then (s, ⟨3, 0⟩) else State.hideWord (s.sharedPort 8 pos acc own) 2)
    else (s, ⟨2, 0⟩)
  else if a < 0x03000000 then
    if barred 9 then (s, ⟨3, 0⟩) else if pos = 10 then s.portAccess 9 acc else s.sharedPort 9 pos acc own
  else if a < 0x04000000 then
    if pos ≠ 8 then (s, ⟨2, 0⟩) else if barred 10 then (s, ⟨3, 0⟩) else s.portAccess 10 acc
  else if a < 0x0F000000 then
    if pos = 8 ∨ (pos = 9 ∧ inRetained a) then
      match s.nvBars (!accAtomic acc) with
      | 0 => s.nvServe pos acc
      | q => (s, ⟨q, 0⟩)
    else (s, ⟨2, 0⟩)
  else if a < 0x10000000 then
    match acc with
    | .read _ => if pos = 8 then (s.draw, ⟨0, s.freeWord⟩) else (s, ⟨2, 0⟩)
    | _ => (s, ⟨2, 0⟩)
  else if pos = 8 then s.gafferRegs acc own
  else (s, ⟨2, 0⟩)

/-- The access with detector 123 in place of the response (R714): an error response changes nothing. -/
def State.respond (s : State) (g : Gctx) (t : Txn) (own : PortAccess) : State × Resp × Bool :=
  if s.injFor 123 g.val then (s.injDone 123, ⟨(s.det 123).b.toNat, 0⟩, true)
  else
    let r := s.access g t own
    (r.1, r.2, false)

/-! ## Whether a target serves a request (R311, R312, R344) -/

/-- Whether the record store has been granted to the core of `g` for its access: its page program goes first (R344, R348). -/
def State.nvGranted (s : State) (g : Gctx) : Bool := s.nv.granted == some (g.val / 8) && s.nv.pb[coreOf g].prog.isNone

/-- Whether the target of the transaction of `g` serves it now. -/
def State.ready (s : State) (g : Gctx) (t : Txn) : Bool :=
  match t.queue with
  | some 11 => s.oldest g t 11 && (s.nvGranted g || s.nvBars (nvAllowed t.asked (t.addr.toNat - nvBase)) != 0)
  | some 8 => s.oldest g t 8 && s.turn 8 (g.val / 8)
  | some 9 => s.oldest g t 9 && s.turn 9 (g.val / 8)
  | _ => true

/-- Whether the target serves the master at `pos` now: the shared ports of IB and SB in ring order, the record store when it is granted to
it, or when nobody else waits for it. -/
def State.otherReady (s : State) (pos : Nat) (acc : PortAccess) : Bool :=
  match accAddr acc with
  | some a =>
    if 0x01000000 ≤ a ∧ a < 0x010A0000 then pos == 9 || s.turn 8 pos
    else if 0x02000000 ≤ a ∧ a < 0x02200000 then pos == 10 || s.turn 9 pos
    else if inNv a then s.nv.granted == some pos || (s.nv.granted.isNone && s.ringNext.isNone)
    else true
  | none => false

/-! ## Responses and timeouts (R35–R39) -/

/-- Whether the transaction of `g` is in flight and can be answered: a mismatch of an item before it goes ahead (R254). -/
def State.inFlight (s : State) (g : Gctx) (t : Txn) : Bool := t.sent && (s.cx g).port.held.isNone && !s.pairBusy g

/-- The 2 µs bound ends a transaction (R35): a case that comes before it in R37 gives the status, and whether a write took effect is open
(R38). -/
def State.expire (s : State) (g : Gctx) (t : Txn) : State × Resp :=
  let r := s.access g t .none
  if 1 ≤ r.2.status ∧ r.2.status ≤ 4 then r
  else (if t.op.ctrl.2.1 && s.freeBool then r.1.draw else s.draw, ⟨5, 0⟩)

/-- FABRIC_RESPONSE to a core (R215); past the bound the transaction has ended by expiry (R35, R39). -/
def State.coreResponse (s : State) (g : Gctx) (own : PortAccess) : State :=
  match (s.cx g).port.txn with
  | some t =>
    if !s.inFlight g t then s
    else if t.issued + 2000 < s.clk then let r := s.expire g t; r.1.deliverResp g t r.2 false
    else if s.ready g t then let r := s.respond g t own; r.1.deliverResp g t r.2.1 r.2.2
    else s
  | none => s

/-- FABRIC_RESPONSE (R215): positions above 13 make no accesses of their own (R311). -/
def opFabricResponse (m : Requester) (own : PortAccess) (s : State) : State :=
  match m with
  | .core g => s.coreResponse g own
  | .other pos acc =>
    if s.on ∧ 8 ≤ pos.val ∧ pos.val < 14 ∧ s.otherReady pos.val acc then
      let r := s.otherAccess pos.val acc own
      r.1.toBus pos.val r.2
    else s

/-- FABRIC_TIMEOUT (R35, R37, R38): 2 µs after its issue; whether a write took effect is open. -/
def opFabricTimeout (m : Requester) (s : State) : State :=
  match m with
  | .core g =>
    match (s.cx g).port.txn with
    | some t =>
      if s.inFlight g t ∧ t.issued + 2000 ≤ s.clk then let r := s.expire g t; r.1.deliverResp g t r.2 false else s
    | none => s
  | .other pos acc =>
    if 8 ≤ pos.val ∧ pos.val < 14 ∧ (accAddr acc).isSome then
      let r := s.otherAccess pos.val acc .none
      if 1 ≤ r.2.status ∧ r.2.status ≤ 4 then r.1.toBus pos.val r.2
      else (if !s.freeBool then s.draw else r.1.draw).toBus pos.val ⟨5, 0⟩
    else s

/-! ## Meanings -/

/-- FABRIC_RESPONSE (R215). -/
def execFabricResponse (m : Requester) (own : PortAccess) (s : State) : Host.Outcome State Fault Refusal :=
  .next (settledInsn (opFabricResponse m own) s)

/-- FABRIC_TIMEOUT (R35). -/
def execFabricTimeout (m : Requester) (s : State) : Host.Outcome State Fault Refusal := .next (settledInsn (opFabricTimeout m) s)

end Sys2Proof.Machine
end

