-- ==== Sys2Proof/Machine/Power.lean ====
section
/-! DEFINITION. Power fail, lehr, resets: what each leaves, and their commands (R367–R371, R757–R776). -/

namespace Sys2Proof.Machine

/-! ## What a reset leaves (R775) -/

/-- The dictionary after a reset: the persistent values, and the mark of a restore of defaults (R550). -/
def Dict.after (d : Dict) (dev : Bool) : Dict :=
  { Dict.blank with
    vals := d.vals.filter fun p => keptKey p.1, restoreMarked := d.restoreMarked, opened := if dev then d.opened else 0 }

/-- The record-store controller after a reset: what is in the record store, and after a device reset what counts since
power-on reset (R352, R376). -/
def Nv.after (v : Nv) (dev : Bool) (now : Nat) : Nv :=
  { Nv.blank with
    half := v.half, twins := v.twins, listed := v.listed, clean := v.clean, suspect := dev && v.suspect
    qhigh := if dev then v.qhigh else 0, secVol := if dev then v.secVol else []
    conflicts := if dev then v.conflicts else 0, lostTwins := if dev then v.lostTwins else 0, opAt := if dev then v.opAt else now }

/-- Programs after a reset: the slots, and what was cut off of an edit (R302). -/
def Prog.after (p : Prog) : Prog :=
  { Prog.blank with
    active := p.active, slots := p.slots
    lostEdit := if p.edit.st = 0 then p.lostEdit else some (p.edit.st, p.edit.layout) }

/-- Supervision after a device reset: the watchdog stays as it was, and the evidence is kept (R690, R775). -/
def Sup.after (p : Sup) : Sup :=
  { Sup.blank with
    on := p.on, tc := p.tc, to_ := p.to_, question := p.question, servedAt := p.servedAt, evidence := p.evidence
    selfRec := p.selfRec, gpc := p.gpc }

/-- An energy instance after a reset: its twin record, and after a device reset what counts since power-on reset. -/
def Inst.after (n : Inst) (dev : Bool) : Inst :=
  { Inst.blank with
    saved := n.saved, updates := if dev then n.updates else 0, accLost := dev && n.accLost, accSusp := dev && n.accSusp }

/-- The energy engine after a reset. -/
def Energy.after (e : Energy) (dev : Bool) : Energy :=
  { Energy.blank with
    inst := e.inst.map fun (n : Inst) => n.after dev
    pulse := e.pulse.map fun (q : Pulse) => { acc := 0, pend := 0, ovf := false, on := false, start := none, w := 0, emitted := if dev then q.emitted else 0, cut := false }
    switches := if dev then e.switches else Energy.blank.switches }

/-- Injections after a reset: none, but their counts since power-on reset (R717, R721). -/
def injAfter (l : List (Nat × Det)) (dev : Bool) : List (Nat × Det) :=
  if dev then (l.map fun (p : Nat × Det) => (p.1, { st := 0, a := 0, b := 0, cnt := p.2.cnt })).filter fun p => p.2 != ⟨0, 0, 0, 0⟩ else []

/-- Trust state after a reset: what the boot record and the image store hold (R736, R737, R744). -/
def Sec.after (c : Sec) : Sec := { c with hot := none, serving := none, quote := List.replicate 320 0 }

/-- The state that a power-on reset, or with `dev` a device reset, leaves (R775): the OTP, the record store, the image
store and the RTC domain are kept, and the levels on the inputs are what they are. Bank contents are 0 from the march of
step 6 on (R328). -/
def State.fresh (s : State) (dev : Bool) : State :=
  { State.reset with
    pending := s.pending, clk := s.clk, freeCtr := s.freeCtr, otp := s.otp
    mem := s.mem.filter fun c => decide (nvBase ≤ c.1), errs := s.errs.filter fun p => decide (nvBase ≤ 4 * p.1)
    nv := s.nv.after dev s.clk, prog := s.prog.after, dict := s.dict.after dev
    time := { Time.blank with rtc := s.time.rtc, steps := if dev then s.time.steps else 0 }
    sup := if dev then s.sup.after else .blank
    nrg := s.nrg.after dev, inj := injAfter s.inj dev, sec := s.sec.after
    img := { Img.blank with staleCnt := if dev then s.img.staleCnt else 0 }
    fld := { Field.blank with scans := if dev then s.fld.scans else 0 }
    tdm := { Tdm.blank with presIn := s.tdm.presIn, busy := s.tdm.busy, switches := if dev then s.tdm.switches else 0 }
    op := { Op.blank with rawA := s.op.rawA, rawB := s.op.rawB } }

/-! ## Power-on reset and off (R763, R765, R768) -/

/-- A power-on reset at start-up step 1; PFW_N is low until step 2 (R765). -/
def State.porStart (s : State) : State := (s.fresh false).modPwr fun p => { p with onAt := s.clk }

/-- The module holds every island stopped with PFW_N low (R763): what its registers held is lost. -/
def State.turnOff (s : State) : State := (s.fresh false).modPwr fun p => { p with phase := .off }

/-- POWER_ON_RESET (R760, R763, R369): VIN rises above the start threshold, at once while the module is stopped, after the
lehr while one runs. -/
def opPowerOnReset (mv : Nat) (s : State) : State :=
  if mv ≤ 4400 then s
  else if s.pwr.phase = .off then s.porStart
  else if s.nv.powerFail then s.modPwr fun p => { p with rose := true }
  else s

/-! ## Power fail (R367, R761, R762) -/

/-- Step 1 of the lehr: PFW_N, line 185, held releases discarded, INTLK released (R367, R612). -/
def State.lehrStep1 (s : State) (inj : Bool) : State :=
  let s := s.dropIntlk.modNv fun v => { v with lehr := .step2, t0 := s.clk, qAtT0 := v.queue.length, powerFail := true, lehrInj := inj }
  let s := { s with ctx := s.ctx.map fun (c : Ctx) => { c with act := { c.act with held := false } } }
  s.assertLine 185

/-- A power fail (R367, R370, R762): before recall has completed the module stops at once; while a device reset runs its
lehr steps these go on, and no start follows; else the lehr begins. Slot 100 counts it. VIN has not fallen where an injection presents the
warning, so that a start follows (R369). -/
def State.powerFails (s : State) (inj : Bool) : State :=
  if s.pwr.phase = .off then s
  else if s.nv.powerFail then (if inj then s else s.modPwr fun p => { p with rose := false })
  else if s.nv.inRecall then s.turnOff
  else
    let s := (s.count 100 1).modPwr fun p => { p with pfwLow := true, rose := inj }
    if s.nv.lehr = .none then s.lehrStep1 inj
    else if s.nv.lehr = .done then s.turnOff
    else s.modNv fun v => { v with powerFail := true }

/-- POWER_FAIL (R760, R761). -/
def opPowerFail (mv : Nat) (s : State) : State := if mv < 4200 then s.powerFails false else s

/-! ## The end of the lehr (R367–R369, R443, R763) -/

/-- Steps 5 and 6 (R367, R443, R710): pending counts and code C007h are written, counters and energies saved, the marker set
clean. -/
def State.lehrEnd (s : State) : State :=
  let us := (s.clk - s.nv.t0) / 1000
  let s := (s.flushRecs.recAllPending.recInj 0xC007 srcGaffer s.nv.qAtT0 s.nv.abandoned us s.nv.lehrInj).flushRecs
  let s := s.foldSwitching.foldSectors.foldTime.saveEnergies
  (s.modNv fun v => { v with clean := true, lehr := .done }).twinWrite 0 0

/-- What follows a lehr that a power fail began: a start when VIN has risen meanwhile, else the module is stopped (R369,
R763). -/
def State.lehrThen (s : State) : State :=
  if !s.nv.powerFail then s else if s.pwr.rose then s.porStart else s.turnOff

/-- LEHR_STEP_5 (R367): once the journal is empty and the commits that had reached the image engine are complete (R80). -/
def opLehrStep5 (s : State) : State := if s.nv.lehr = .step4 ∧ s.nv.queue = [] ∧ s.img.commits = [] then s.lehrEnd.lehrThen else s

/-- Contents of a retained half, 512 KiB, that nothing specifies (R345, R371). -/
def State.spoil (s : State) (b : Bool) : State :=
  ({ s with mem := wrBytes s.mem (nvBase + halfOff b) (padTo 0x80000 s.freeBytes) }).draw

/-- HOLDUP_EXHAUSTED (R371, R763, R765): the module is off; a lehr that has not ended leaves both retained halves
unspecified and the marker not clean. -/
def opHoldupExhausted (s : State) : State :=
  if s.pwr.phase = .off then s.modPwr fun p => { p with pfwLow := false }
  else if s.nv.powerFail then ((s.spoil false).spoil true).turnOff.modPwr fun p => { p with pfwLow := false }
  else s

/-! ## Device reset (R370, R773–R777) -/

/-- The start-up step that a reset cuts off, 0 when none is in progress (R787). -/
def Phase.step (p : Phase) : Nat := match p with | .step1 => 1 | .steps => 2 | .step10 => 10 | _ => 0

/-- DEVICE_RESET (R370, R775, R680, R744): takes effect after the lehr steps, counts in slot 3, and as a failed boot when
start-up had not completed. -/
def opDeviceReset (s : State) : State :=
  match s.pwr.resetPend with
  | some c =>
    if s.nv.lehr ≠ .done then s
    else
      let failed := s.pwr.phase != .running && s.pwr.phase != .recovery
      let step := s.pwr.phase.step
      let s := s.count 3 1
      let s := if failed then (s.modSec fun x => { x with boots := min 255 (x.boots + 1) }).twinWrite 0 1 else s
      (s.fresh true).modPwr fun p => { p with phase := .steps, pfwLow := false, cause := c, reached := step, onAt := s.clk }
  | none => s

/-- RESET_N_LOW (R776): ignored from lehr step 1 until the next start. -/
def opResetNLow (ticks : Nat) (s : State) : State :=
  if 8 ≤ ticks ∧ s.nv.lehr = .none ∧ s.pwr.phase ≠ .off ∧ s.pwr.phase ≠ .step1 then s.requestReset 1 else s

/-- VIN_HIGH (R759): above 18 V for 1 ms. -/
def opVinHigh (mv ms : Nat) (s : State) : State := if 18000 < mv ∧ 1 ≤ ms then s.rec_ 0x1004 srcGaffer mv ms else s

/-! ## Meanings -/

/-- LEHR_STEP_5 (R367). -/
def execLehrStep5 (s : State) : Host.Outcome State Fault Refusal := .next (opLehrStep5 s)

/-- POWER_FAIL (R761). -/
def execPowerFail (mv : Nat) (s : State) : Host.Outcome State Fault Refusal := .next (opPowerFail mv s)

/-- HOLDUP_EXHAUSTED (R763). -/
def execHoldupExhausted (s : State) : Host.Outcome State Fault Refusal := .next (opHoldupExhausted s)

/-- DEVICE_RESET (R370). -/
def execDeviceReset (s : State) : Host.Outcome State Fault Refusal := .next (opDeviceReset s)

/-- POWER_ON_RESET (R768). -/
def execPowerOnReset (mv : Nat) (s : State) : Host.Outcome State Fault Refusal := .next (opPowerOnReset mv s)

/-- RESET_N_LOW (R776). -/
def execResetNLow (ticks : Nat) (s : State) : Host.Outcome State Fault Refusal := .next (settled (opResetNLow ticks) s)

/-- VIN_HIGH (R759). -/
def execVinHigh (mv ms : Nat) (s : State) : Host.Outcome State Fault Refusal := .next (opVinHigh mv ms s)

end Sys2Proof.Machine
end

