-- ==== Sys2Proof/Machine/Startup.lean ====
section
/-! DEFINITION. Start-up: steps 2 to 9, step 10 (R259, R285, R302, R350–R357, R743–R753, R768–R777). -/

namespace Sys2Proof.Machine

/-- PRES_OUT is high from start-up step 2 until a device reset or loss of power (R610, R770). -/
def State.presOut (s : State) : Bool := s.pwr.phase == .step10 || s.pwr.phase == .running || s.pwr.phase == .recovery

/-! ## Step 2 (R644, R765, R772, R777) -/

/-- A slow step 1 is recorded (R772); the store's voltage is free. -/
def State.recSlow (s : State) : State :=
  if s.pwr.phase = .step1 ∧ 150000000 < s.clk - s.pwr.onAt then
    (s.rec_ 0x1003 srcGaffer ((s.clk - s.pwr.onAt) / 1000000) (s.freeWord.toNat % 2 ^ 16)).draw
  else s

/-- Durations of steps 1 to 9: the first is known, the others are free. -/
def State.stepTimes (s : State) : List Nat :=
  (if s.pwr.phase = .step1 then (s.clk - s.pwr.onAt) / 1000 else 0)
    :: (List.range 8).map (fun k => (Config.freeWord (s.freeCtr + k)).toNat) ++ [0]

/-- Step 2: PFW_N is released, the cause recorded, the time base seeded, and the key's debounce begins. -/
def State.step2 (s : State) : State :=
  let s := s.recSlow
  let l := s.stepTimes
  let s := { s with
    freeCtr := s.freeCtr + 8
    pwr := { s.pwr with phase := .steps, pfwLow := false, startAt := s.clk, stepUs := l }
    op := { s.op with debounce := some s.clk } }
  (s.rec_ 0x1002 srcGaffer s.pwr.cause s.pwr.reached (ctrVal s.mem 3 % 2 ^ 32)).seed

/-! ## Step 3: recall (R350–R357) -/

/-- The error marks of the directory and counter regions: word address / 4 and kind (R342, R345, R350). -/
def State.recallErrs (s : State) : List (Nat × Nat) :=
  s.errs.filter fun p => decide (nvBase ≤ 4 * p.1 ∧ 4 * p.1 < nvBase + 0x2000)

/-- Recall step 1 corrects single-bit errors and reports uncorrectable ones (R342, R350). -/
def State.scanNv (s : State) : State :=
  s.recallErrs.foldl (fun (s : State) p => if p.2 = 2 then s.nvReportUe (4 * p.1) 2 else s.nvCorrect (4 * p.1)) s

/-- The counter slots whose update stands at its commit point (R359). -/
def State.openCounters (s : State) : List Nat := (List.range 128).filter fun k => rdMem s.mem (slotAddr k + 16) 4 == cvMark

/-- The error marks within the copies of record `k` are met as it is read; those of the directory region have been met in the scan
(R342, R350). -/
def State.readCopies (s : State) (k : Nat) : State :=
  let t := s.twin k
  let hit (p : Nat × Nat) : Bool := (t.a.any fun c => c.covers k false (4 * p.1)) || (t.b.any fun c => c.covers k true (4 * p.1))
  if k < 65536 then s else (s.errs.filter hit).foldl (fun (s : State) p => s.nvCheck (4 * p.1)) s

/-- The loss of record `k` is recorded (R355, R788) with the code of its own chapter (R332, R443, R454). -/
def State.twinLost (s : State) (k : Nat) : State :=
  let id := k % 65536
  let s := (s.modNv fun v => { v with lostTwins := satInc v.lostTwins }).rec_ 0xC004 srcGaffer (k / 65536) id
  if k / 65536 ≠ 3 then s
  else if id = 0 then s.rec_ 0x4013 srcEnergy
  else if id = 3 then s.rec_ 0xC106 srcGaffer
  else (s.modInst (if id = 1 then 0 else 1) fun n => { n with accLost := true }).rec_ 0x4022 srcEnergy (id - 1)

/-- The conflict of two valid copies is recorded with the sequence number of copy A (R355, R377). -/
def State.recConflict (s : State) (k : Nat) (t : Twin) : State :=
  if t.conflict then
    (s.modNv fun v => { v with conflicts := satInc v.conflicts }).rec_ 0xC003 srcGaffer (k / 65536) (k % 65536)
      (match t.a with | some a => a.seq.toNat | none => 0)
  else s

/-- The first resolution of record `k` after start (R355, R357): the copy taken takes effect and the other copy becomes equal to it; with
neither valid its defaults do, and the loss of a listed record is recorded (R788). -/
def State.resolve (s : State) (k : Nat) : State :=
  let s := s.readCopies k
  let t := s.validTwin k
  match t.taken with
  | some c =>
    let s := (s.recConflict k t).takeData k c.data
    if t.a = t.b then s else s.putCopy k t.takesA c
  | none =>
    let s := s.takeData k (dataDefault k)
    if s.nv.listed.contains k then s.twinLost k else s

/-- The directory is resolved (R350); when it is lost, it is written again with half A, a marker that is not clean, and every
record that has a valid copy (R788). -/
def State.resolveDir (s : State) : State :=
  let s := s.resolve dirKey
  if (s.validTwin dirKey).taken.isSome then s
  else
    let l := (s.nv.twins.map (·.1)).filter fun k => k != dirKey && (s.validTwin k).taken.isSome
    ((s.modNv fun v => { v with listed := l }).twinLost dirKey).writeTwin dirKey

/-- The registers and pulse accumulators of an instance are restored (R443). -/
def State.restoreEnergy (s : State) (i : Fin 2) : State :=
  let v := (s.ins i).saved
  let s := s.modInst i fun n => { n with reg := Vector.ofFn fun (a : Fin 8) => ⟨v[a].1, 0⟩ }
  let s := (List.finRange 8).foldl (fun (s : State) a => s.modPulse (pulseOf i a) fun q => { q with acc := v[a].2 }) s
  if s.nv.suspect ∧ !s.nv.lastClean ∧ s.insSrc i ≠ 0 then
    (s.modInst i fun n => { n with accSusp := true }).rec_ 0x4023 srcEnergy i.val (ctrVal s.mem 0 % 2 ^ 32)
  else s

/-- The shutdown marker is checked and written as not clean (R350, R352). -/
def State.checkMarker (s : State) : State :=
  let clean := s.nv.clean
  let s := if clean then s else (s.modNv fun v => { v with suspect := true }).rec_ 0xC002 srcGaffer (ctrVal s.mem 0 % 2 ^ 32)
  (s.modNv fun v => { v with lastClean := clean, clean := false }).writeTwin dirKey

/-- The evidence of a watchdog expiry is written (R690), and a second self-watchdog expiry recorded (R678). -/
def State.reportWatchdog (s : State) : State :=
  let s := match s.sup.evidence with
    | some b =>
      ((((s.putEntry 0x9010 1 b).putEntry 0x9010 2 [1]).twinOf 0x9010).modSup fun p => { p with evidence := none }).rec_ 0x9020 srcGaffer
        (leNat (sub_ b 0 4)) (leNat (sub_ b 4 4)) (leNat (sub_ b 36 4))
    | none => s
  if s.sup.selfRec then (s.rec_ 0x9024 srcGaffer s.sup.gpc.toNat 1).modSup fun p => { p with selfRec := false } else s

/-- The twin records other than the directory that hold a copy or are listed. -/
def State.recKeys (s : State) : List Nat :=
  (s.nv.listed ++ (s.nv.twins.map (·.1)).filter fun k => !s.nv.listed.contains k).filter (· != dirKey)

/-- Recall (R350), then the other twin records; how long it takes is free. -/
def State.recallAll (s : State) : State :=
  let ce := (s.recallErrs.filter fun p => p.2 == 1).length
  let s := s.scanNv
  let s := s.resolveDir
  let open_ := s.openCounters
  let s := open_.foldl (fun (s : State) k => { s with mem := ctrReconcile s.mem k }.wrote 0x1000 3) s
  let s := (s.count 0 1).checkMarker
  let s := s.recKeys.foldl State.resolve s
  let us := s.freeWord.toNat % 1601
  (s.modNv fun v => { v with inRecall := false, recallUs := us }).draw.rec_ 0xC001 srcGaffer us ce open_.length

/-- Step 3 with what follows recall: the recorder resumes, energies and coefficients are restored, the watchdog starts
(R443, R454, R670, R707). -/
def State.step3 (s : State) : State :=
  let s := s.recallAll.startRecorder
  let s := (s.restoreEnergy 0).restoreEnergy 1
  let s := { s with nrg := { s.nrg with calValid := (s.validTwin (twinKey 3 0)).taken.isSome, recAt := s.clk } }
  s.reportWatchdog.wdgStart

/-! ## Steps 5 and 6 (R259, R327, R328) -/

/-- The comparator test of pair `p` with the first failing lane and bit, if any (R259, R260). -/
def State.compTest (s : State) (comp : List (PairId × Nat × Nat)) (p : PairId) : State :=
  match comp.find? fun x => x.1 == p with
  | some x => (s.compFail p (x.2.1 * 256 + x.2.2) 0 false).modPair p fun q => { q with test := 1 }
  | none => s.modPair p fun q => { q with usable := true, test := 0 }

/-- The start-up march mode of a bank (R327, R337). -/
def State.marchMode (s : State) (b : BankId) : Nat := s.cfg (0xC100 + b.val) 1 (if b.val < 8 then 2 else 0)

/-- The start-up march of a bank with what it finds; what is not listed passes (R327, R328). -/
def State.startMarches (s : State) (l : List (BankId × MarchOutcome)) (b : BankId) : State :=
  let s := s.zeroed b
  if s.marchMode b = 0 then s
  else
    let s := s.startMarch b (s.marchMode b == 2) true
    ((l.filter fun x => x.1 == b).foldl (fun (s : State) x => s.marchEnd b x.2) s).marchEnd b .pass

/-- A failed IB, SB or GB (R333). -/
def State.recFailed (s : State) (b : BankId) : State := if 8 ≤ b.val ∧ s.bank[b].failed then s.rec_ 0xC107 srcGaffer b.val else s

/-- Steps 5 and 6 over all pairs and banks. -/
def State.tests (s : State) (marches : List (BankId × MarchOutcome)) (comp : List (PairId × Nat × Nat)) : State :=
  let s := (List.finRange 4).foldl (fun (s : State) p => s.compTest comp p) s
  let s := (List.finRange 11).foldl (fun (s : State) b => s.startMarches marches b) s
  (List.finRange 11).foldl (fun (s : State) b => s.recFailed b) s

/-! ## Step 7: which firmware (R743–R745, R752) -/

/-- Recovery mode (R752). -/
def State.enterRecovery (s : State) (cause : Nat) : State :=
  ((s.modPwr fun p => { p with phase := .recovery }).modSec fun c => { c with recovery := cause }).rec_ 0xB00C srcGaffer cause s.sec.boots

/-- The other firmware slot becomes active (R744). -/
def State.fallback (s : State) (cause : Nat) : State :=
  let a := s.fwActive
  let o := s.fwOther
  (s.modSec fun c => { c with active := o.val + 1 }).rec_ 0xB008 srcGaffer (a.val + 1) (o.val + 1) cause

/-- The choice of firmware (R744). -/
def State.chooseFw (s : State) (recover : Bool) : State :=
  let other := s.fwVerifies (s.fwImage s.fwOther)
  if recover then s.enterRecovery 1
  else if 3 ≤ s.sec.boots then s.enterRecovery 3
  else if s.sec.fw[s.fwActive].st = 3 ∧ 1 ≤ s.sec.boots then
    let s := s.modSec fun c => { c with fw := c.fw.set s.fwActive { c.fw[s.fwActive] with st := 4 } }
    if other then s.fallback 1 else s.enterRecovery 2
  else if s.fwVerifies (s.fwImage s.fwActive) then s
  else if other then s.fallback 2
  else s.enterRecovery 2

/-- The GAFFER section goes into GB (R743). -/
def State.loadGaffer (s : State) : State :=
  let b := bodyOf (s.fwImage s.fwActive)
  match sectionOf b 1 with
  | some x => s.putBytes (bankBase 10 + x.load) (x.bytes b)
  | none => s

/-- Step 7 (R743, R744, R746): a firmware that waits for a reset becomes active first. -/
def State.step7 (s : State) (recover : Bool) : State :=
  let s := if s.sec.atReset then s.activateFw 2 else s
  let s := (s.chooseFw recover).twinWrite 0 1
  if s.pwr.phase = .recovery then s else s.loadGaffer

/-! ## Steps 8 and 9 (R41, R282, R285, R302, R333, R550, R751, R770) -/

/-- Whether a restore of defaults takes the value kept for a key (R550). -/
def restoredKey (k : Nat) : Bool :=
  decide (0xE000 ≤ k / 256) ||
    (!(decide (0xB000 ≤ k / 256 ∧ k / 256 < 0xC000)) && entryTable.any fun e => e.covers (k / 256) && e.sub == k % 256 && e.isConfig)

/-- Every configuration entry and every persistent application object takes its default (R550). -/
def State.restoreDefaults (s : State) : State :=
  let gone := ((s.dict.vals.filter fun p => restoredKey p.1 && keptKey p.1).map fun p => p.1 / 256).eraseDups
  gone.foldl (fun s i => s.twinOf i) (s.modDict fun d => { d with vals := d.vals.filter fun p => !restoredKey p.1 })

/-- A marked restore is applied (R550). -/
def State.applyMark (s : State) : State :=
  if s.dict.restoreMarked then
    (((s.restoreDefaults).modDict fun d => { d with restoreMarked := false }).twinOf 0x1010).rec_ 0x1024 srcGaffer 1
  else s

/-- A firmware of another major dictionary format restores defaults (R751). -/
def State.applyFormat (s : State) : State :=
  let new_ := s.sec.fw[s.fwActive].dictfmt
  let old := s.sec.dictFmt
  let s := s.modSec fun c => { c with dictFmt := new_ }
  if old / 256 = new_ / 256 then s else s.restoreDefaults.rec_ 0xB009 srcGaffer old new_

/-- The subsystems that come up at the end of step 8 (R770). -/
def State.bringUp (s : State) : State :=
  let s := (List.finRange 2).foldl (fun (s : State) c => if s.cfg (0x6000 + c.val) 1 0 = 1 then s.canEnable c true else s) s
  if s.cfg 0x5020 1 0 = 0 then s else s.ptpState 1

/-- An edit that the restart cut off (R302). -/
def State.recLostEdit (s : State) : State :=
  match s.prog.lostEdit with
  | some x => (s.modProg fun p => { p with lostEdit := none }).rec_ 0x2057 srcGaffer x.1 (b2n x.2)
  | none => s

/-- Step 9 (R285, R302): the active slot is loaded; a refused load leaves no program. -/
def State.step9 (s : State) : State :=
  let s := s.recLostEdit
  if s.prog.active = 0 then s else (s.loadSlot s.prog.active true).1

/-- Steps 8 and 9. -/
def State.steps89 (s : State) : State :=
  let s := (List.finRange 8).foldl (fun (s : State) n => s.loadCb n) s
  (s.applyMark.applyFormat.bringUp.step9.gateIdle).modPwr fun p => { p with phase := .step10 }

/-- START_STEP_2 (R768): steps 2 to 9, once step 1 or a reset ends, and RESET_N has been high for 10 µs (R776). A RUNTIME section that does
not verify ends the start with a device reset (R743). -/
def opStartStep2 (recover : Bool) (marches : List (BankId × MarchOutcome)) (comp : List (PairId × Nat × Nat)) (s : State) : State :=
  if s.pwr.phase ≠ .step1 ∧ s.pwr.phase ≠ .steps ∨ s.nv.lehr ≠ .none then s
  else
    let s := (s.step2.step3.tests marches comp).step7 recover
    if s.pwr.phase = .recovery then s else if s.runtimeOk then s.steps89 else s.requestReset 5

/-! ## Step 10 (R90, R611, R745, R771) -/

/-- The key position as debounced since step 2 (R83, R771). -/
def State.readKey (s : State) : State :=
  match s.op.debounce with
  | some t => if t + 20000000 ≤ s.clk then s.modOp fun o => { o with key := keyCode o.rawA o.rawB, debounce := none } else s
  | none => s

/-- Step 10 begins: no boot has failed now, firmware serves, INTLK is claimed (R611, R741, R745). -/
def State.serve (s : State) : State :=
  let s := s.readKey.modPwr fun p => { p with phase := .running }
  let s := if s.sec.boots = 0 then s else (s.modSec fun c => { c with boots := 0 }).twinWrite 0 1
  let s := s.modSec fun c => { c with serving := some s.clk }
  if s.cfg 0x7200 1 0 = 1 then opIntlkClaim s.tandemUp else s

/-- Step 10 has completed (R771): code 1001h; how long step 10 took is free. -/
def State.started10 (s : State) : State :=
  let us := (s.clk - s.pwr.onAt) / 1000
  let s := (s.modPwr fun p => { p with durUs := us, stepUs := p.stepUs.set 9 s.freeWord.toNat }).draw
  s.rec_ 0x1001 srcGaffer us s.pwr.cause s.op.st.code

/-- START_STEP_10 (R771): no earlier than 20 ms after step 2. A tandem unit decides on RUN when it has INTLK. -/
def opStartStep10 (s : State) : State :=
  if s.pwr.phase = .step10 ∧ s.pwr.startAt + 20000000 ≤ s.clk then
    let s := s.serve
    (if s.op.key = 1 ∧ s.tdm.st = 0 then s.tryRun 0 else s).started10
  else s

/-! ## Meanings -/

/-- START_STEP_2 (R768). -/
def execStartStep2 (recover : Bool) (marches : List (BankId × MarchOutcome)) (comp : List (PairId × Nat × Nat)) (s : State) :
    Host.Outcome State Fault Refusal := .next (opStartStep2 recover marches comp s)

/-- START_STEP_10 (R771). -/
def execStartStep10 (s : State) : Host.Outcome State Fault Refusal := .next (settled opStartStep10 s)

end Sys2Proof.Machine
end

