-- ==== Sys2Proof/Machine/Activation.lean ====
section
/-! DEFINITION. Activation boundaries, gaffer restarts, automatic confirmation (R604–R607, R741, R747–R750). -/

namespace Sys2Proof.Machine

/-! ## Activation boundary (R604–R607, R747) -/

/-- An activation is cancelled at its boundary (R605, R606, R747). -/
def State.cancelled (s : State) (cause : Nat) : State := s.rec_ 0x7022 srcHier 0 cause

/-- The pending digest of worker `w` replaces the expected one (R603, R607). -/
def State.takeDigest (s : State) (w : Nat) : State :=
  let d := s.cfgBytes (0x7010 + w) 9 []
  if d.all (· == 0) then s
  else
    ((s.keep (0x7010 + w) 2 1 d).keep (0x7010 + w) 9 1 (List.replicate 48 0)).modWorker w fun x => { x with
      bound := some (BitVec.ofNat 32 (if s.tcNs = 0 then 0 else s.hier.boundary / s.tcNs)) }

/-- The pending digests of the manager's workers (R607). -/
def State.takeDigests (s : State) : State :=
  if s.hrole = 1 then ((List.range 254).map (· + 1)).foldl (fun (s : State) w => s.takeDigest w) s else s

/-- The staged set at its boundary (R605–R607): cancelled without valid time, refused whole when the key does not permit an
entry, else applied in one step. -/
def State.stagedDue (s : State) : State :=
  let h := s.hier
  if h.staged ≠ 1 ∨ s.time.tb.toNat < h.boundary then s
  else if !s.time.valid then (s.modHier fun h => { h with staged := 3, armed := [] }).cancelled 1
  else if !s.keyPermits h.armed then (s.modHier fun h => { h with staged := 3, armed := [] }).cancelled 3
  else
    let s := h.armed.foldl (fun (s : State) x => s.applyStaged x) s
    ((s.takeDigests).modHier fun h => { h with staged := 2, armed := [] }).rec_ 0x7021 srcHier (h.boundary % 2 ^ 32)
      (h.boundary / 2 ^ 32) h.armed.length

/-- The mode that an activation resolves to (R747): 4 HOT for a firmware with the runtime in force, else 1 IMMEDIATE. -/
def State.resolved (s : State) (t : Fin 3) : Nat := if t = 0 ∧ s.sameRuntime then 4 else 1

/-- An ARMED parison at its boundary (R605, R747). -/
def State.parDue (s : State) (t : Fin 3) : State :=
  let p := s.sec.par[t]
  if p.st ≠ 3 ∨ s.time.tb.toNat < p.boundary then s
  else
    let m := s.resolved t
    let s := s.modPar t fun p => { p with st := 2 }
    if !s.time.valid then s.cancelled 1
    else if (s.modeBars m).isSome then s.cancelled 3
    else if m = 4 then s.modSec fun x => { x with hot := some (1, s.clk) }
    else if t = 0 then (s.actNow t).1
    else (s.loadCmd noReq t.val).1

/-- What is due at the boundary: the configuration first, then the activations (R606). -/
def State.boundaryDue (s : State) : State := (List.finRange 3).foldl (fun (s : State) t => s.parDue t) s.stagedDue

/-- ACTIVATION_BOUNDARY (R604–R607, R747); TRAIL acts under LEAD's key position (R91). -/
def opActivationBoundary (s : State) : State := if s.inStep then s.asLead State.boundaryDue else s.boundaryDue

/-! ## Gaffer restart (R748–R750) -/

/-- Step 1 of R748 has been done: the window is 0 to 200 ms, or the watchdog is off. -/
def State.windowOpen (s : State) : Bool := !s.sup.on || (s.sup.tc == 0 && s.sup.to_ == 200)

/-- Step 2 of R748: sessions close, the slot becomes active as TRIAL, the gaffer stops; in tandem the partner is told. -/
def State.restartBegins (s : State) : State :=
  let s := ((s.closeAll 3).activateFw 4).modSup fun p => { p with restarting := true }
  let s := s.modSec fun c => { c with hot := some (2, s.clk) }
  if s.leadPaired || s.inStep then s.tlCommand 0 2 .restart else s

/-- Step 4 of R748: the firmware in force serves; after HOT its ten minutes begin (R741). -/
def State.restartEnds (s : State) : State :=
  (s.loadGaffer.modSup fun p => { p with restarting := false }).modSec fun c => { c with
    hot := none, serving := match c.hot with | some (2, _) => some s.clk | _ => c.serving }

/-- GAFFER_RESTART (R678, R748): its beginning after the due service; its end once ROM has verified the slot. A firmware that
does not verify leaves the gaffer stopped, and the watchdog's window runs out. A lehr abandons the restart (R749). -/
def opGafferRestart (s : State) : State :=
  if s.nv.lehr ≠ .none then s
  else if s.sup.restarting then (if s.fwVerifies (s.fwImage s.fwActive) then s.restartEnds else s)
  else match s.sec.hot with
    | some (1, _) => if s.sec.par[0].st ≠ 2 then s.modSec fun c => { c with hot := none } else if s.windowOpen then s.restartBegins else s
    | _ => s

/-! ## Automatic confirmation (R741) -/

/-- AUTO_CONFIRM (R741): 10 minutes after the firmware began serving. -/
def opAutoConfirm (s : State) : State :=
  match s.sec.serving with
  | some t => if t + 600000000000 ≤ s.clk then s.confirm 1 else s
  | none => s

/-! ## Meanings -/

/-- ACTIVATION_BOUNDARY (R604). -/
def execActivationBoundary (s : State) : Host.Outcome State Fault Refusal := .next (settled opActivationBoundary s)

/-- GAFFER_RESTART (R748). -/
def execGafferRestart (s : State) : Host.Outcome State Fault Refusal := .next (opGafferRestart s)

/-- AUTO_CONFIRM (R741). -/
def execAutoConfirm (s : State) : Host.Outcome State Fault Refusal := .next (opAutoConfirm s)

end Sys2Proof.Machine
end

