-- ==== Sys2Proof/Machine/Alu.lean ====
section
/-! DEFINITION. Meanings of the integer instructions of S32: ALU, BITF and immediate (R210–R212). -/

namespace Sys2Proof.Machine

/-- ADD: g[rd] = a + b; flags ZNCV (R210). -/
def execAdd (g : Gctx) (rd ra rb : Reg) (s : State) : Host.Outcome State Fault Refusal :=
  .next (settledInsn (opZNCV g rd ra rb 0 (fun a b _ => addWith a b false)) s)

/-- ADDC: g[rd] = a + b + C; flags ZNCV (R210). -/
def execAddc (g : Gctx) (rd ra rb : Reg) (s : State) : Host.Outcome State Fault Refusal :=
  .next (settledInsn (opZNCV g rd ra rb 1 (fun a b c => addWith a b c)) s)

/-- SUB: g[rd] = a - b; C = 1 means no borrow; flags ZNCV (R210). -/
def execSub (g : Gctx) (rd ra rb : Reg) (s : State) : Host.Outcome State Fault Refusal :=
  .next (settledInsn (opZNCV g rd ra rb 2 (fun a b _ => subWith a b true)) s)

/-- SUBC: g[rd] = a + ~b + C; flags ZNCV (R210). -/
def execSubc (g : Gctx) (rd ra rb : Reg) (s : State) : Host.Outcome State Fault Refusal :=
  .next (settledInsn (opZNCV g rd ra rb 3 (fun a b c => subWith a b c)) s)

/-- AND; flags ZN (R210). -/
def execAnd_ (g : Gctx) (rd ra rb : Reg) (s : State) : Host.Outcome State Fault Refusal :=
  .next (settledInsn (opZN g rd ra rb 4 (fun a b => a &&& b)) s)

/-- OR; flags ZN (R210). -/
def execOr_ (g : Gctx) (rd ra rb : Reg) (s : State) : Host.Outcome State Fault Refusal :=
  .next (settledInsn (opZN g rd ra rb 5 (fun a b => a ||| b)) s)

/-- XOR; flags ZN (R210). -/
def execXor (g : Gctx) (rd ra rb : Reg) (s : State) : Host.Outcome State Fault Refusal :=
  .next (settledInsn (opZN g rd ra rb 6 (fun a b => a ^^^ b)) s)

/-- ANDN: a & ~b; flags ZN (R210). -/
def execAndn (g : Gctx) (rd ra rb : Reg) (s : State) : Host.Outcome State Fault Refusal :=
  .next (settledInsn (opZN g rd ra rb 7 (fun a b => a &&& ~~~b)) s)

/-- SLL: shift left by b[4:0]; flags ZN (R210). -/
def execSll (g : Gctx) (rd ra rb : Reg) (s : State) : Host.Outcome State Fault Refusal :=
  .next (settledInsn (opZN g rd ra rb 8 (fun a b => a <<< (b.toNat % 32))) s)

/-- SRL: logical shift right by b[4:0]; flags ZN (R210). -/
def execSrl (g : Gctx) (rd ra rb : Reg) (s : State) : Host.Outcome State Fault Refusal :=
  .next (settledInsn (opZN g rd ra rb 9 (fun a b => a >>> (b.toNat % 32))) s)

/-- SRA: arithmetic shift right by b[4:0]; flags ZN (R210). -/
def execSra (g : Gctx) (rd ra rb : Reg) (s : State) : Host.Outcome State Fault Refusal :=
  .next (settledInsn (opZN g rd ra rb 10 (fun a b => a.sshiftRight (b.toNat % 32))) s)

/-- SLT: 1 if a < b as signed; flags ZN (R210). -/
def execSlt (g : Gctx) (rd ra rb : Reg) (s : State) : Host.Outcome State Fault Refusal :=
  .next (settledInsn (opZN g rd ra rb 11 (fun a b => boolWord (a.slt b))) s)

/-- SLTU: 1 if a < b as unsigned; flags ZN (R210). -/
def execSltu (g : Gctx) (rd ra rb : Reg) (s : State) : Host.Outcome State Fault Refusal :=
  .next (settledInsn (opZN g rd ra rb 12 (fun a b => boolWord (a.ult b))) s)

/-- MUL: low word of the product; flags ZN (R210). -/
def execMul (g : Gctx) (rd ra rb : Reg) (s : State) : Host.Outcome State Fault Refusal :=
  .next (settledInsn (opZN g rd ra rb 13 (fun a b => BitVec.ofNat 32 (a.toNat * b.toNat))) s)

/-- MULHU: high word of the unsigned product; flags ZN (R210). -/
def execMulhu (g : Gctx) (rd ra rb : Reg) (s : State) : Host.Outcome State Fault Refusal :=
  .next (settledInsn (opZN g rd ra rb 14 (fun a b => BitVec.ofNat 32 (a.toNat * b.toNat / 2 ^ 32))) s)

/-- MULHS: high word of the signed product; flags ZN (R210). -/
def execMulhs (g : Gctx) (rd ra rb : Reg) (s : State) : Host.Outcome State Fault Refusal :=
  .next (settledInsn (opZN g rd ra rb 15 (fun a b => BitVec.ofInt 32 (a.toInt * b.toInt / 2 ^ 32))) s)

/-- NOR; flags ZN (R210). -/
def execNor (g : Gctx) (rd ra rb : Reg) (s : State) : Host.Outcome State Fault Refusal :=
  .next (settledInsn (opZN g rd ra rb 16 (fun a b => ~~~(a ||| b))) s)

/-- BFXU: unsigned bit field of ra (R211). -/
def execBfxu (g : Gctx) (rd ra : Reg) (wm1 pos : BitVec 5) (s : State) : Host.Outcome State Fault Refusal :=
  .next (settledInsn (opField g rd ra 0 wm1 pos (fun r p w => (r.get ra >>> p) &&& fieldMask w)) s)

/-- BFXS: signed bit field of ra (R211). -/
def execBfxs (g : Gctx) (rd ra : Reg) (wm1 pos : BitVec 5) (s : State) : Host.Outcome State Fault Refusal :=
  .next (settledInsn (opField g rd ra 1 wm1 pos (fun r p w => sxw ((r.get ra >>> p) &&& fieldMask w) w)) s)

/-- BFI: the low bits of ra go into a field of rd (R211). -/
def execBfi (g : Gctx) (rd ra : Reg) (wm1 pos : BitVec 5) (s : State) : Host.Outcome State Fault Refusal :=
  .next (settledInsn (opField g rd ra 2 wm1 pos (fun r p w => (r.get rd &&& ~~~(fieldMask w <<< p)) ||| ((r.get ra <<< p) &&& (fieldMask w <<< p)))) s)

/-- ADDI: g[rd] = a + sx(imm); flags ZNCV (R212). -/
def execAddi (g : Gctx) (rd ra : Reg) (imm : BitVec 16) (s : State) : Host.Outcome State Fault Refusal :=
  .next (settledInsn (opImmNZCV g rd ra 0 imm.toNat false (fun a => addWith a (sx16 imm) false)) s)

/-- CMPI: flags of a - sx(imm), result discarded (R212). -/
def execCmpi (g : Gctx) (ra : Reg) (imm : BitVec 16) (s : State) : Host.Outcome State Fault Refusal :=
  .next (settledInsn (opImmNZCV g 0 ra 1 imm.toNat true (fun a => subWith a (sx16 imm) true)) s)

/-- SLTI: 1 if a < sx(imm) as signed; flags ZN (R212). -/
def execSlti (g : Gctx) (rd ra : Reg) (imm : BitVec 16) (s : State) : Host.Outcome State Fault Refusal :=
  .next (settledInsn (opImm g rd ra 4 2 imm.toNat (fun a => boolWord (a.slt (sx16 imm)))) s)

/-- SLTIU: 1 if a < sx(imm) as unsigned; flags ZN (R212). -/
def execSltiu (g : Gctx) (rd ra : Reg) (imm : BitVec 16) (s : State) : Host.Outcome State Fault Refusal :=
  .next (settledInsn (opImm g rd ra 4 3 imm.toNat (fun a => boolWord (a.ult (sx16 imm)))) s)

/-- ANDI; flags ZN (R212). -/
def execAndi (g : Gctx) (rd ra : Reg) (imm : BitVec 16) (s : State) : Host.Outcome State Fault Refusal :=
  .next (settledInsn (opImm g rd ra 5 0 imm.toNat (fun a => a &&& zx16 imm)) s)

/-- ORI; flags ZN (R212). -/
def execOri (g : Gctx) (rd ra : Reg) (imm : BitVec 16) (s : State) : Host.Outcome State Fault Refusal :=
  .next (settledInsn (opImm g rd ra 5 1 imm.toNat (fun a => a ||| zx16 imm)) s)

/-- XORI; flags ZN (R212). -/
def execXori (g : Gctx) (rd ra : Reg) (imm : BitVec 16) (s : State) : Host.Outcome State Fault Refusal :=
  .next (settledInsn (opImm g rd ra 5 2 imm.toNat (fun a => a ^^^ zx16 imm)) s)

/-- ORHI; flags ZN (R212). -/
def execOrhi (g : Gctx) (rd ra : Reg) (imm : BitVec 16) (s : State) : Host.Outcome State Fault Refusal :=
  .next (settledInsn (opImm g rd ra 5 3 imm.toNat (fun a => a ||| (zx16 imm <<< 16))) s)

/-- LUI: g[rd] = imm << 16; flags ZN (R212). -/
def execLui (g : Gctx) (rd : Reg) (imm : BitVec 16) (s : State) : Host.Outcome State Fault Refusal :=
  .next (settledInsn (opImm g rd 0 6 0 imm.toNat (fun _ => zx16 imm <<< 16)) s)

/-- SLLI: shift by an immediate; flags ZN (R212). -/
def execSlli (g : Gctx) (rd ra : Reg) (sh : BitVec 5) (s : State) : Host.Outcome State Fault Refusal :=
  .next (settledInsn (opImm g rd ra 6 1 sh.toNat (fun a => a <<< sh.toNat)) s)

/-- SRLI: shift by an immediate; flags ZN (R212). -/
def execSrli (g : Gctx) (rd ra : Reg) (sh : BitVec 5) (s : State) : Host.Outcome State Fault Refusal :=
  .next (settledInsn (opImm g rd ra 6 2 sh.toNat (fun a => a >>> sh.toNat)) s)

/-- SRAI: shift by an immediate; flags ZN (R212). -/
def execSrai (g : Gctx) (rd ra : Reg) (sh : BitVec 5) (s : State) : Host.Outcome State Fault Refusal :=
  .next (settledInsn (opImm g rd ra 6 3 sh.toNat (fun a => a.sshiftRight sh.toNat)) s)

end Sys2Proof.Machine
end

