-- ==== Sys2Proof/Machine/Banks.lean ====
section
/-! DEFINITION. Meanings of the commands of the banks (R317–R331). -/

namespace Sys2Proof.Machine

/-- SCRUB_READ (R322). -/
def execScrubRead (b : BankId) (s : State) : Host.Outcome State Fault Refusal := .next (whenOn (opScrubRead b) s)

/-- CORRECTED_WRITE_BACK (R320). -/
def execCorrectedWriteBack (b : BankId) (s : State) : Host.Outcome State Fault Refusal := .next (opWriteBack b s)

/-- HELD_WRITE (R317). -/
def execHeldWrite (b : BankId) (s : State) : Host.Outcome State Fault Refusal := .next (opHeldWrite b s)

/-- MARCH_END (R331); a load that waited follows (R329). -/
def execMarchEnd (b : BankId) (o : MarchOutcome) (s : State) : Host.Outcome State Fault Refusal :=
  .next ((s.marchEnd b o).waitedLoad)

end Sys2Proof.Machine
end

