-- ==== Sys2Proof/Machine/Can.lean ====
section
/-! DEFINITION. Meanings of the commands of the CAN FD controllers that come from the bus (R504–R536). -/

namespace Sys2Proof.Machine

/-- CAN_FRAME_RECEIVED (R512, R515–R519). -/
def execCanFrameReceived (c : Fin 2) (f : CanFrame) (s : State) : Host.Outcome State Fault Refusal :=
  .next (settledInsn (opCanReceived c f) s)

/-- TRANSMISSION_COMPLETE (R508, R509, R522, R523). -/
def execTransmissionComplete (c : Fin 2) (m : Option (Fin 128)) (o : TxOutcome) (delay : Nat) (s : State) :
    Host.Outcome State Fault Refusal :=
  .next (opTransmission c m o delay s)

/-- BUS_OFF_RECOVERY (R510): the recovery sequence has been observed. -/
def execBusOffRecovery (c : Fin 2) (s : State) : Host.Outcome State Fault Refusal := .next (opBusOffRecovery c s)

/-- BUS_INTEGRATION (R509): 11 consecutive recessive bits have been observed. -/
def execBusIntegration (c : Fin 2) (s : State) : Host.Outcome State Fault Refusal := .next (opBusIntegration c s)

/-- CAN_WAKE (R530). -/
def execCanWake (c : Fin 2) (w : WakeEvent) (s : State) : Host.Outcome State Fault Refusal := .next (opCanWake c w s)

/-- CAN_RECEIVE_ERROR (R509, R533). -/
def execCanReceiveError (c : Fin 2) (lec : BitVec 3) (s : State) : Host.Outcome State Fault Refusal :=
  .next (opCanReceiveError c lec s)

end Sys2Proof.Machine
end

