-- ==== Sys2Proof/Machine/Field.lean ====
section
/-! DEFINITION. Meanings of the field-channel commands (R378–R423). A change that an injection presents is reported
with INJECTED (R714, R718). -/

namespace Sys2Proof.Machine

/-- SRC of the field-channel controller (R703). -/
def srcField : Nat := 0x53

/-- Diagnostics of a channel run (R381, R382). -/
def State.diag (s : State) (c : Ch) : Bool := !(s.fch c).link && !s.fld.grp[grpOf c].low

/-- FILTERED_STATE_CHANGE (R380, R387, R392): the samples up to now run through comparator and filter. -/
def opFiltered (c : Ch) (samples : List Nat) (s : State) : State :=
  if s.samples c then s.sampleAll c samples else s

/-- NO_SIGNAL (R407). -/
def opNoSignal (c : Ch) (s : State) : State :=
  let limit := max 12000000000 (2 * (s.chCfg c 0xD 100 * 1000000))
  if (s.fch c).mode = 4 ∧ !(s.fch c).nosig ∧ (s.fch c).lastEdge + limit ≤ s.clk then
    s.modCh c fun f => { f with nosig := true, freqNew := 0, meas := none }
  else s

/-- MODE_CHANGED (R386). -/
def opModeChanged (c : Ch) (s : State) : State :=
  let m := s.modeCfg c
  let old := (s.fch c).mode
  if m = old then s
  else
    (((s.modCh c fun f => { (f.inMode m (s.chCfg c 3 1000)).anew s.sampleNo with lastEdge := s.clk, edgeT := 0 }).rec_
      0x3017 srcField c.val m old).refreshOutputs)

/-- The wire-break time of a channel in samples (R393). -/
def State.wireTime (s : State) (c : Ch) : Nat := s.chCfg c 6 10 * 1000

/-- WIRE_BREAK (R393, R793): the channel enters BROKEN at the sample that completes the time, or as detector 95 presents it. -/
def opWireBreak (c : Ch) (ua n : Nat) (s : State) : State :=
  if !s.samples c then s
  else
    let inj := s.injFor 95 c.val
    let s := s.sampleRun c ua n s.sampleNo
    let real := (s.fch c).brk.held true (s.wireTime c)
    if s.chCfg c 5 0 = 1 ∧ !(s.fch c).broken ∧ (real ∨ inj) then
      let s' := s.modCh c fun f => { f with broken := true, entered := true, brokenAt := s.clk }
      (if inj then s'.injDone 95 else s').recInj 0x3013 srcField c.val ua 0 (!real)
    else s

/-- WIRE_RESTORED (R393, R793). -/
def opWireRestored (c : Ch) (ua n : Nat) (s : State) : State :=
  if !s.samples c then s
  else
    let s := s.sampleRun c ua n s.sampleNo
    if (s.fch c).broken ∧ (s.fch c).brk.held false (s.wireTime c) ∧ !s.injFor 95 c.val then
      (s.modCh c fun f => { f with broken := false }).rec_ 0x3014 srcField c.val ((s.clk - (s.fch c).brokenAt) / 1000000)
    else s

/-- The overload time of a channel in samples (R398). -/
def State.overTime (s : State) (c : Ch) : Nat := s.chCfg c 8 2000

/-- OVERLOAD (R398, R793). -/
def opOverload (c : Ch) (ma n : Nat) (s : State) : State :=
  if !(outputMode (s.fch c).mode && s.diag c) then s
  else
    let inj := s.injFor 92 c.val
    let action := s.chCfg c 9 0
    let s := s.modCh c fun f => { f with lim_ := f.lim_.feed f.driven n s.sampleNo }
    let real := (s.fch c).lim_.held true (s.overTime c)
    if !(s.fch c).ovl ∧ (real ∨ inj) then
      let s' := s.modCh c fun f => { f with ovl := true, latched := action == 1 }
      ((if inj then s'.injDone 92 else s').recInj 0x3010 srcField c.val ma action (!real)).refreshOutputs
    else s

/-- OVERLOAD_CLEAR (R398). -/
def opOverloadClear (c : Ch) (n : Nat) (s : State) : State :=
  if !s.diag c then s
  else
    let s := s.modCh c fun f => { f with lim_ := f.lim_.feed false n s.sampleNo }
    if (s.fch c).ovl ∧ !(s.fch c).latched ∧ (s.fch c).lim_.held false (s.overTime c) ∧ !s.injFor 92 c.val then
      s.modCh c fun f => { f with ovl := false }
    else s

/-- Whether the open-wire check of the present switch state is enabled (R400). -/
def State.openCheck (s : State) (c : Ch) : Bool :=
  outputMode (s.fch c).mode && s.diag c && s.chCfg c (if (s.fch c).driven then 0xB else 0xA) 1 == 1

/-- OPEN_WIRE (R400, R793). -/
def opOpenWire (c : Ch) (n : Nat) (s : State) : State :=
  if !s.openCheck c then s
  else
    let inj := s.injFor 93 c.val
    let s := s.modCh c fun f => { f with opn := f.opn.feed true n s.sampleNo }
    let real := (s.fch c).opn.held true 10000
    if !(s.fch c).openw ∧ (real ∨ inj) then
      let st := if inj then (s.det 93).b.toNat else b2n (s.fch c).driven
      let s' := s.modCh c fun f => { f with openw := true }
      (if inj then s'.injDone 93 else s').recInj 0x3011 srcField c.val st 0 (!real)
    else s

/-- OPEN_WIRE_CLEAR (R400). -/
def opOpenWireClear (c : Ch) (n : Nat) (s : State) : State :=
  if !s.diag c then s
  else
    let s := s.modCh c fun f => { f with opn := f.opn.feed false n s.sampleNo }
    if (s.fch c).openw ∧ (s.fch c).opn.held false 10000 ∧ !s.injFor 93 c.val then s.modCh c fun f => { f with openw := false } else s

/-- READBACK_MISMATCH (R401, R793). -/
def opReadbackMismatch (c : Ch) (pin : Bool) (n : Nat) (s : State) : State :=
  if (s.fch c).mode ≠ 3 ∨ s.cutOff c then s
  else
    let inj := s.injFor 96 c.val
    let s := s.modCh c fun f => { f with mis := f.mis.feed (pin != f.driven) n s.sampleNo }
    let real := (s.fch c).mis.held true 100
    if !(s.fch c).rbmm ∧ (real ∨ inj) then
      let s' := s.modCh c fun f => { f with rbmm := true, pin := pin }
      (if inj then s'.injDone 96 else s').recInj 0x3015 srcField c.val (b2n (s.fch c).driven) (b2n pin) (!real)
    else s

/-- READBACK_AGREE (R401). -/
def opReadbackAgree (c : Ch) (n : Nat) (s : State) : State :=
  if !s.diag c then s
  else
    let s := s.modCh c fun f => { f with mis := f.mis.feed false n s.sampleNo }
    if (s.fch c).rbmm ∧ (s.fch c).mis.held false 100 ∧ !s.injFor 96 c.val then
      s.modCh c fun f => { f with rbmm := false, pin := f.driven }
    else s

/-- GROUP_OVERCURRENT (R383, R793). -/
def opGroupOc (g : Grp) (ma n : Nat) (s : State) : State :=
  let inj := s.injOn (88 + g.val)
  let s := s.modGrp g fun d => { d with oc := d.oc.feed (decide (4200 ≤ ma)) n s.sampleNo, outMa := ma }
  let real := s.fld.grp[g].oc.held true 1000
  if s.fld.grp[g].ocAt.isNone ∧ (real ∨ inj) then
    let s' := s.modGrp g fun d => { d with ocAt := some s.clk, ocN := satInc d.ocN, oc := d.oc.anew s.sampleNo }
    ((if inj then s'.injDone (88 + g.val) else s').recInj 0x3003 srcField g.val ma 0 (!real)).refreshOutputs
  else s

/-- GROUP_OC_END (R383): after 100 ms every output returns to its driven state. -/
def opGroupOcEnd (g : Grp) (s : State) : State :=
  match s.fld.grp[g].ocAt with
  | some t => if t + 100000000 ≤ s.clk then (s.modGrp g fun d => { d with ocAt := none }).refreshOutputs else s
  | none => s

/-- THERMAL_SHUTDOWN (R399). -/
def opThermalShutdown (c : Ch) (s : State) : State :=
  let inj := s.injFor 94 c.val
  if outputMode (s.fch c).mode ∧ s.diag c ∧ !(s.fch c).ot then
    let s' := s.modCh c fun f => { f with ot := true, offAt := s.clk }
    let s' := if inj then s'.injDone 94 else s'
    (s'.recInj 0x3012 srcField c.val (ctrVal s.mem (36 + c.val) % 2 ^ 32) 0 inj).refreshOutputs
  else s

/-- THERMAL_RESTART (R399): it turns on again once it has been off for 10 ms and its driven state is on. -/
def opThermalRestart (c : Ch) (s : State) : State :=
  let s' := s.modCh c fun f => { f with ot := false }
  if (s.fch c).ot ∧ (s.fch c).offAt + 10000000 ≤ s.clk ∧ s'.drivenWant c then
    (s'.count (36 + c.val) 1).refreshOutputs
  else s

/-- LINK_FAULT (R381): with `down` the channel misses the controller's frames and turns its output off; else the controller misses the
channel's and sets LINK. -/
def opLinkFault (c : Ch) (down : Bool) (us : Nat) (s : State) : State :=
  let inj := s.injFor 97 c.val
  if down then (if 20 ≤ us then (s.modCh c fun f => { f with deaf := true }).refreshOutputs else s)
  else if (s.fch c).link ∨ us < 20 ∧ !inj then s
  else
    let s' := s.modCh c fun f => { f with link := true }
    ((if inj then s'.injDone 97 else s').recInj 0x3016 srcField c.val 0 0 inj).refreshOutputs

/-- LINK_RESTORED (R381): the side that missed frames resumes; the controller's samples start again. -/
def opLinkRestored (c : Ch) (down : Bool) (s : State) : State :=
  if down then (s.modCh c fun f => { f with deaf := false }).refreshOutputs
  else if (s.fch c).link ∧ !s.injFor 97 c.val then
    ((s.modCh c fun f => { f.anew s.sampleNo with link := false }).rec_ 0x3016 srcField c.val 1).refreshOutputs
  else s

/-- VF_LOW (R382). -/
def opVfLow (g : Grp) (mv : Nat) (s : State) : State :=
  let real := decide (mv ≤ 17500)
  let inj := s.injOn (84 + g.val)
  if !s.fld.grp[g].low ∧ (real ∨ inj) then
    let s' := s.modGrp g fun d => { d with low := true, lowAt := s.clk, lowN := satInc d.lowN }
    let s' := if inj then s'.injDone (84 + g.val) else s'
    (s'.recInj 0x3001 srcField g.val mv 0 (!real)).refreshOutputs
  else s

/-- VF_RESTORED (R382): the filters of the group restart from acc = 0. -/
def opVfRestored (g : Grp) (mv : Nat) (s : State) : State :=
  if s.fld.grp[g].low ∧ 17500 ≤ mv ∧ !s.injOn (84 + g.val) then
    let s' := s.modGrp g fun d => { d with low := false }
    let s' := (chsOf g).foldl (fun s c => s.modCh c fun f => { f.anew s.sampleNo with acc := 0 }) s'
    (s'.rec_ 0x3002 srcField g.val mv ((s.clk - s.fld.grp[g].lowAt) / 1000000)).refreshOutputs
  else s

/-! ## Meanings -/

/-- FIELD_SCAN (R389). -/
def execFieldScan (p : ScanPins) (s : State) : Host.Outcome State Fault Refusal := .next (settledInsn (opFieldScan p) s)

/-- FILTERED_STATE_CHANGE (R387). -/
def execFilteredStateChange (c : Ch) (samples : List Nat) (s : State) : Host.Outcome State Fault Refusal :=
  .next (opFiltered c samples s)

/-- NO_SIGNAL (R407). -/
def execNoSignal (c : Ch) (s : State) : Host.Outcome State Fault Refusal := .next (opNoSignal c s)

/-- MODE_CHANGED (R386). -/
def execModeChanged (c : Ch) (s : State) : Host.Outcome State Fault Refusal := .next (opModeChanged c s)

/-- WIRE_BREAK (R393). -/
def execWireBreak (c : Ch) (ua n : Nat) (s : State) : Host.Outcome State Fault Refusal := .next (opWireBreak c ua n s)

/-- WIRE_RESTORED (R393). -/
def execWireRestored (c : Ch) (ua n : Nat) (s : State) : Host.Outcome State Fault Refusal := .next (opWireRestored c ua n s)

/-- OVERLOAD (R398). -/
def execOverload (c : Ch) (ma n : Nat) (s : State) : Host.Outcome State Fault Refusal := .next (opOverload c ma n s)

/-- OVERLOAD_CLEAR (R398). -/
def execOverloadClear (c : Ch) (n : Nat) (s : State) : Host.Outcome State Fault Refusal := .next (opOverloadClear c n s)

/-- OPEN_WIRE (R400). -/
def execOpenWire (c : Ch) (n : Nat) (s : State) : Host.Outcome State Fault Refusal := .next (opOpenWire c n s)

/-- OPEN_WIRE_CLEAR (R400). -/
def execOpenWireClear (c : Ch) (n : Nat) (s : State) : Host.Outcome State Fault Refusal := .next (opOpenWireClear c n s)

/-- READBACK_MISMATCH (R401). -/
def execReadbackMismatch (c : Ch) (pin : Bool) (n : Nat) (s : State) : Host.Outcome State Fault Refusal :=
  .next (opReadbackMismatch c pin n s)

/-- READBACK_AGREE (R401). -/
def execReadbackAgree (c : Ch) (n : Nat) (s : State) : Host.Outcome State Fault Refusal := .next (opReadbackAgree c n s)

/-- GROUP_OVERCURRENT (R383). -/
def execGroupOvercurrent (g : Grp) (ma n : Nat) (s : State) : Host.Outcome State Fault Refusal := .next (opGroupOc g ma n s)

/-- GROUP_OC_END (R383). -/
def execGroupOcEnd (g : Grp) (s : State) : Host.Outcome State Fault Refusal := .next (opGroupOcEnd g s)

/-- THERMAL_SHUTDOWN (R399). -/
def execThermalShutdown (c : Ch) (s : State) : Host.Outcome State Fault Refusal := .next (opThermalShutdown c s)

/-- THERMAL_RESTART (R399). -/
def execThermalRestart (c : Ch) (s : State) : Host.Outcome State Fault Refusal := .next (opThermalRestart c s)

/-- LINK_FAULT (R381). -/
def execLinkFault (c : Ch) (down : Bool) (us : Nat) (s : State) : Host.Outcome State Fault Refusal := .next (whenOn (opLinkFault c down us) s)

/-- LINK_RESTORED (R381). -/
def execLinkRestored (c : Ch) (down : Bool) (s : State) : Host.Outcome State Fault Refusal := .next (opLinkRestored c down s)

/-- VF_LOW (R382). -/
def execVfLow (g : Grp) (mv : Nat) (s : State) : Host.Outcome State Fault Refusal := .next (whenOn (opVfLow g mv) s)

/-- VF_RESTORED (R382). -/
def execVfRestored (g : Grp) (mv : Nat) (s : State) : Host.Outcome State Fault Refusal := .next (opVfRestored g mv s)

end Sys2Proof.Machine
end

