-- ==== Sys2Proof/Machine/Hier.lean ====
section
/-! DEFINITION. Meanings of the hierarchy's frames and instants (R588–R603). -/

namespace Sys2Proof.Machine

/-- HIERARCHY_CYCLE (R590). -/
def execHierarchyCycle (s : State) : Host.Outcome State Fault Refusal := .next (settledInsn opHierarchyCycle s)

/-- SLOT_START (R591). -/
def execSlotStart (w : Byte) (s : State) : Host.Outcome State Fault Refusal := .next (opSlotStart w s)

/-- EXCHANGE_CLOSE (R591). -/
def execExchangeClose (w : Byte) (s : State) : Host.Outcome State Fault Refusal := .next (opExchangeClose w s)

/-- DOWN (R593). -/
def execDown (f : PuntyFrame) (s : State) : Host.Outcome State Fault Refusal := .next (settledInsn (opDown f) s)

/-- UP (R591). -/
def execUp (f : PuntyFrame) (s : State) : Host.Outcome State Fault Refusal := .next (settledInsn (opUp f) s)

/-- HEARTBEAT (R602). -/
def execHeartbeat (f : PuntyFrame) (s : State) : Host.Outcome State Fault Refusal := .next (opHeartbeat f s)

/-- HEARTBEAT_TIMER (R596). -/
def execHeartbeatTimer (s : State) : Host.Outcome State Fault Refusal := .next (opHeartbeatTimer s)

/-- NO_MANAGER (R593). -/
def execNoManager (s : State) : Host.Outcome State Fault Refusal := .next (opNoManager s)

/-- SILENT (R602). -/
def execSilent (w : Byte) (s : State) : Host.Outcome State Fault Refusal := .next (opSilent w s)

/-- LINK1 (R597). -/
def execLink1 (f : PuntyFrame) (s : State) : Host.Outcome State Fault Refusal := .next (opLink1 f s)

/-- LINK2 (R597). -/
def execLink2 (f : PuntyFrame) (s : State) : Host.Outcome State Fault Refusal := .next (opLink2 f s)

/-- LINK3 (R597). -/
def execLink3 (f : PuntyFrame) (s : State) : Host.Outcome State Fault Refusal := .next (opLink3 f s)

/-- LINK4 (R597). -/
def execLink4 (f : PuntyFrame) (s : State) : Host.Outcome State Fault Refusal := .next (opLink4 f s)

/-- QUOTE_REQ (R599). -/
def execQuoteReq (f : PuntyFrame) (s : State) : Host.Outcome State Fault Refusal := .next (opQuoteReq f s)

/-- QUOTE (R599). -/
def execQuote (f : PuntyFrame) (s : State) : Host.Outcome State Fault Refusal := .next (opQuote f s)

/-- QUOTE_REPEAT (R599). -/
def execQuoteRepeat (w : Byte) (s : State) : Host.Outcome State Fault Refusal := .next (opQuoteRepeat w s)

/-- LINK_RENEWAL (R598). -/
def execLinkRenewal (w : Byte) (s : State) : Host.Outcome State Fault Refusal := .next (opLinkRenewal w s)

/-- KEY_OVERLAP_END (R598). -/
def execKeyOverlapEnd (w : Byte) (s : State) : Host.Outcome State Fault Refusal := .next (opKeyOverlapEnd w s)

end Sys2Proof.Machine
end

