-- ==== Sys2Proof/Machine/ImgInsn.lean ====
section
/-! DEFINITION. Meanings of the image instructions of S32 (R217–R223). -/

namespace Sys2Proof.Machine

/-- LDL: L = image bit (R218). -/
def execLdl (g : Gctx) (word : BitVec 15) (bit : BitVec 5) (s : State) : Host.Outcome State Fault Refusal :=
  .next (settledInsn (opBitRead g 0x10 0 word bit (fun r b => { r with l := b })) s)

/-- LDLN: L = inverse of an image bit (R218). -/
def execLdln (g : Gctx) (word : BitVec 15) (bit : BitVec 5) (s : State) : Host.Outcome State Fault Refusal :=
  .next (settledInsn (opBitRead g 0x10 1 word bit (fun r b => { r with l := !b })) s)

/-- ANDL: L = L and image bit (R218). -/
def execAndl (g : Gctx) (word : BitVec 15) (bit : BitVec 5) (s : State) : Host.Outcome State Fault Refusal :=
  .next (settledInsn (opBitRead g 0x11 0 word bit (fun r b => { r with l := r.l && b })) s)

/-- ANDLN: L = L and not image bit (R218). -/
def execAndln (g : Gctx) (word : BitVec 15) (bit : BitVec 5) (s : State) : Host.Outcome State Fault Refusal :=
  .next (settledInsn (opBitRead g 0x11 1 word bit (fun r b => { r with l := r.l && !b })) s)

/-- ORL: L = L or image bit (R218). -/
def execOrl (g : Gctx) (word : BitVec 15) (bit : BitVec 5) (s : State) : Host.Outcome State Fault Refusal :=
  .next (settledInsn (opBitRead g 0x11 2 word bit (fun r b => { r with l := r.l || b })) s)

/-- ORLN: L = L or not image bit (R218). -/
def execOrln (g : Gctx) (word : BitVec 15) (bit : BitVec 5) (s : State) : Host.Outcome State Fault Refusal :=
  .next (settledInsn (opBitRead g 0x11 3 word bit (fun r b => { r with l := r.l || !b })) s)

/-- XORL: L = L xor image bit (R218). -/
def execXorl (g : Gctx) (word : BitVec 15) (bit : BitVec 5) (s : State) : Host.Outcome State Fault Refusal :=
  .next (settledInsn (opBitRead g 0x12 0 word bit (fun r b => { r with l := r.l != b })) s)

/-- LDLP: push L, then L = image bit (R218). -/
def execLdlp (g : Gctx) (word : BitVec 15) (bit : BitVec 5) (s : State) : Host.Outcome State Fault Refusal :=
  .next (settledInsn (opBitRead g 0x12 1 word bit (fun r b => { r.pushL r.l with l := b })) s)

/-- LDLPN: push L, then L = inverse of an image bit (R218). -/
def execLdlpn (g : Gctx) (word : BitVec 15) (bit : BitVec 5) (s : State) : Host.Outcome State Fault Refusal :=
  .next (settledInsn (opBitRead g 0x12 2 word bit (fun r b => { r.pushL r.l with l := !b })) s)

/-- IRD: g[rd] = image word (R218). -/
def execIrd (g : Gctx) (rd : Reg) (word : BitVec 15) (s : State) : Host.Outcome State Fault Refusal :=
  .next (settledInsn (opWordRead g rd word) s)

/-- STL: stages L into an output bit (R218). -/
def execStl (g : Gctx) (word : BitVec 15) (bit : BitVec 5) (s : State) : Host.Outcome State Fault Refusal :=
  .next (settledInsn (opBitWrite g 0 word bit (fun _ => true) (fun r => bitVal r.l bit)) s)

/-- STLN: stages the inverse of L into an output bit (R218). -/
def execStln (g : Gctx) (word : BitVec 15) (bit : BitVec 5) (s : State) : Host.Outcome State Fault Refusal :=
  .next (settledInsn (opBitWrite g 1 word bit (fun _ => true) (fun r => bitVal (!r.l) bit)) s)

/-- SETB: stages a 1 when L is 1 (R218, R219). -/
def execSetb (g : Gctx) (word : BitVec 15) (bit : BitVec 5) (s : State) : Host.Outcome State Fault Refusal :=
  .next (settledInsn (opBitWrite g 2 word bit (fun r => r.l) (fun _ => bitMask bit)) s)

/-- RSTB: stages a 0 when L is 1 (R218, R219). -/
def execRstb (g : Gctx) (word : BitVec 15) (bit : BitVec 5) (s : State) : Host.Outcome State Fault Refusal :=
  .next (settledInsn (opBitWrite g 3 word bit (fun r => r.l) (fun _ => 0)) s)

/-- IWR: stages a whole word (R218). -/
def execIwr (g : Gctx) (rd : Reg) (word : BitVec 15) (s : State) : Host.Outcome State Fault Refusal :=
  .next (settledInsn (opWordWrite g rd word) s)

/-- IWRB: stages bit 0 of rd into an output bit (R218). -/
def execIwrb (g : Gctx) (rd : Reg) (word : BitVec 15) (bit : BitVec 5) (s : State) : Host.Outcome State Fault Refusal :=
  .next (settledInsn (opWordBitWrite g rd word bit) s)

/-- LDLX: L = the image bit whose address a register holds (R220, R221). -/
def execLdlx (g : Gctx) (ra : Reg) (s : State) : Host.Outcome State Fault Refusal :=
  .next (settledInsn (opLdlx g ra) s)

/-- IRDX: g[rd] = the image word whose index a register holds (R220, R221). -/
def execIrdx (g : Gctx) (rd ra : Reg) (s : State) : Host.Outcome State Fault Refusal :=
  .next (settledInsn (opIrdx g rd ra) s)

/-- STLX: stages L into the output bit whose address a register holds (R220, R221). -/
def execStlx (g : Gctx) (ra : Reg) (s : State) : Host.Outcome State Fault Refusal :=
  .next (settledInsn (opStlx g ra) s)

/-- IWRX: stages rd under mask rb into the word whose index ra holds (R220, R221, R223). -/
def execIwrx (g : Gctx) (rd ra rb : Reg) (s : State) : Host.Outcome State Fault Refusal :=
  .next (settledInsn (opIwrx g rd ra rb) s)

end Sys2Proof.Machine
end

