-- ==== Sys2Proof/Machine/Logic.lean ====
section
/-! DEFINITION. Meanings of the logic-bit and branch instructions of S32 (R224–R227). -/

namespace Sys2Proof.Machine

/-- NOTL: L = 1 - L (R201, R202, R224). -/
def execNotl (g : Gctx) (s : State) : Host.Outcome State Fault Refusal :=
  .next (settledInsn (opLogic g 0 0 0 (fun r => { r with l := !r.l })) s)

/-- LPUSH: push L (R201, R202, R224). -/
def execLpush (g : Gctx) (s : State) : Host.Outcome State Fault Refusal :=
  .next (settledInsn (opLogic g 0 0 1 (fun r => r.pushL r.l)) s)

/-- LPOP: L = pop (R201, R202, R224). -/
def execLpop (g : Gctx) (s : State) : Host.Outcome State Fault Refusal :=
  .next (settledInsn (opLogic g 0 0 2 (fun r => { r.popL with l := r.topL })) s)

/-- ANDLP: L = L and pop (R201, R202, R224). -/
def execAndlp (g : Gctx) (s : State) : Host.Outcome State Fault Refusal :=
  .next (settledInsn (opLogic g 0 0 3 (fun r => { r.popL with l := r.l && r.topL })) s)

/-- ORLP: L = L or pop (R201, R202, R224). -/
def execOrlp (g : Gctx) (s : State) : Host.Outcome State Fault Refusal :=
  .next (settledInsn (opLogic g 0 0 4 (fun r => { r.popL with l := r.l || r.topL })) s)

/-- SETL: L = 1 (R201, R202, R224). -/
def execSetl (g : Gctx) (s : State) : Host.Outcome State Fault Refusal :=
  .next (settledInsn (opLogic g 0 0 5 (fun r => { r with l := true })) s)

/-- CLRL: L = 0 (R201, R202, R224). -/
def execClrl (g : Gctx) (s : State) : Host.Outcome State Fault Refusal :=
  .next (settledInsn (opLogic g 0 0 6 (fun r => { r with l := false })) s)

/-- MOVLR: g[rd] = L (R224). -/
def execMovlr (g : Gctx) (rd : Reg) (s : State) : Host.Outcome State Fault Refusal :=
  .next (settledInsn (opLogic g rd.val 0 7 (fun r => r.put rd (boolWord r.l))) s)

/-- MOVRL: L = (a != 0) (R224). -/
def execMovrl (g : Gctx) (ra : Reg) (s : State) : Host.Outcome State Fault Refusal :=
  .next (settledInsn (opLogic g 0 ra.val 8 (fun r => { r with l := r.get ra != 0 })) s)

/-- LCOND: L = condition (R199, R224). -/
def execLcond (g : Gctx) (cond : BitVec 4) (s : State) : Host.Outcome State Fault Refusal :=
  .next (settledInsn (opLogic g 0 0 (0x10 + cond.toNat) (fun r => { r with l := r.cond cond })) s)

/-- BR: branches when the condition holds (R225, R226). -/
def execBr (g : Gctx) (cond : BitVec 4) (off : BitVec 22) (s : State) : Host.Outcome State Fault Refusal :=
  .next (settledInsn (opBranch g cond off) s)

/-- CALL: calls when the condition holds (R225–R227). -/
def execCall (g : Gctx) (cond : BitVec 4) (off : BitVec 22) (s : State) : Host.Outcome State Fault Refusal :=
  .next (settledInsn (opCall g cond off) s)

/-- JR: jumps to a register (R226). -/
def execJr (g : Gctx) (ra : Reg) (s : State) : Host.Outcome State Fault Refusal :=
  .next (settledInsn (opJr g ra) s)

/-- CALLR: calls through a register (R226, R227). -/
def execCallr (g : Gctx) (ra : Reg) (s : State) : Host.Outcome State Fault Refusal :=
  .next (settledInsn (opCallr g ra) s)

/-- RET: returns through the return stack (R226, R227). -/
def execRet (g : Gctx) (s : State) : Host.Outcome State Fault Refusal :=
  .next (settledInsn (opRet g) s)

end Sys2Proof.Machine
end

