-- ==== Sys2Proof/Machine/Mem.lean ====
section
/-! DEFINITION. Meanings of the memory instructions of S32 (R213–R217, R228). -/

namespace Sys2Proof.Machine

/-- LD: load with zero extension (R213). -/
def execLd (g : Gctx) (rd ra : Reg) (size : BitVec 2) (off : BitVec 16) (s : State) : Host.Outcome State Fault Refusal :=
  .next (settledInsn (opMem g 0x20 rd ra size off false (.load rd false)) s)

/-- LDS: load with sign extension (R213). -/
def execLds (g : Gctx) (rd ra : Reg) (size : BitVec 2) (off : BitVec 16) (s : State) : Host.Outcome State Fault Refusal :=
  .next (settledInsn (opMem g 0x21 rd ra size off false (.load rd true)) s)

/-- ST: store of the low bytes of rd (R213). -/
def execSt (g : Gctx) (rd ra : Reg) (size : BitVec 2) (off : BitVec 16) (s : State) : Host.Outcome State Fault Refusal :=
  .next (settledInsn (opMem g 0x22 rd ra size off false .store) s)

/-- AADD: atomic add, rd takes the old word (R213, R216). -/
def execAadd (g : Gctx) (rd ra : Reg) (size : BitVec 2) (off : BitVec 16) (s : State) : Host.Outcome State Fault Refusal :=
  .next (settledInsn (opMem g 0x23 rd ra size off true (.aadd rd)) s)

/-- ASWP: atomic swap, rd takes the old word (R213, R216). -/
def execAswp (g : Gctx) (rd ra : Reg) (size : BitVec 2) (off : BitVec 16) (s : State) : Host.Outcome State Fault Refusal :=
  .next (settledInsn (opMem g 0x24 rd ra size off true (.aswp rd)) s)

/-- RSST: the bottom of the return stack goes to memory (R228). -/
def execRsst (g : Gctx) (ra : Reg) (size : BitVec 2) (off : BitVec 16) (s : State) : Host.Outcome State Fault Refusal :=
  .next (settledInsn (opMem g 0x25 0 ra size off true .rsst) s)

/-- RSLD: a word of memory goes below the bottom of the return stack (R228). -/
def execRsld (g : Gctx) (ra : Reg) (size : BitVec 2) (off : BitVec 16) (s : State) : Host.Outcome State Fault Refusal :=
  .next (settledInsn (opMem g 0x26 0 ra size off true .rsld) s)

end Sys2Proof.Machine
end

