-- ==== Sys2Proof/Machine/Net.lean ====
section
/-! DEFINITION. Meanings of the Ethernet, PTP, GOOSE and SV commands (R461–R503). -/

namespace Sys2Proof.Machine

/-- Whether port `pt` has come up in this start (R752, R770). -/
def State.linksUp (s : State) (pt : Nat) : Bool :=
  s.pwr.phase == .running || s.pwr.phase == .step10 || (s.pwr.phase == .recovery && pt == 0)

/-- Speeds in Mb/s that the line mode of a port can give (R463); in recovery mode that is 0 (R752). -/
def State.speeds (s : State) (pt : Fin 4) : List Nat :=
  match if s.pwr.phase = .recovery then 0 else s.cfg (0x5000 + pt.val) 2 (if serdes pt then 4 else 0) with
  | 0 => [10, 100, 1000]
  | 1 => [10]
  | 2 => [100]
  | 5 => [100]
  | _ => [1000]

/-- LINK_CHANGE (R464): a link comes up at a speed of its line mode (R463). Detector 102 presents a link that is down. -/
def opLinkChange (pt : Fin 4) (up : Bool) (speed : Nat) (s : State) : State :=
  let inj := s.injFor 102 pt.val
  let p := s.net.port[pt]
  if !s.portOn pt ∨ p.up = up ∨ (up ∧ (inj ∨ !s.linksUp pt.val ∨ !(s.speeds pt).contains speed)) then s
  else
    (if inj then s.injDone 102 else s).linkIs pt up speed inj

/-- LAN_FAULT (R472): no frame on one LAN for twice the LifeCheckInterval while frames arrive on the other. -/
def opLanFault (x lan : Fin 2) (s : State) : State :=
  let q := s.net.pair[x]
  let other : Fin 2 := ⟨1 - lan.val, by omega⟩
  let limit := 2 * s.cfg (0x5008 + x.val) 2 2000 * 1000000
  let real := decide (q.lanAt[lan] + limit ≤ s.clk) && decide (q.lanAt[lan] < q.lanAt[other])
  let inj := s.injFor 103 x.val && (s.det 103).b.toNat == lan.val
  if s.pairMode x ≠ 0 ∧ !q.fault.getLsbD lan.val ∧ (real ∨ inj) then
    let s' := s.modNetPair x fun q => { q with fault := q.fault ||| BitVec.ofNat 2 (2 ^ lan.val) }
    let s' := if inj then s'.injDone 103 else s'
    s'.recInj 0x5002 srcNet x.val lan.val 0 (!real)
  else s

/-- LIFECHECK (R468): a supervision frame on both ports of the pair. -/
def opLifecheck (x : Fin 2) (s : State) : State :=
  let f : Fin 4 := ⟨2 * x.val, by omega⟩
  let q := s.net.pair[x]
  if s.pairMode x ≠ 0 ∧ q.lifeAt + s.cfg (0x5008 + x.val) 2 2000 * 1000000 ≤ s.clk then
    (s.modNetPair x fun q => { q with lifeAt := s.clk }).sendFrame f 0 none (.supervision x.val)
  else s

/-- Whether an address is the one an interface answers for (R473). -/
def State.answers (s : State) (f : Fin 4) (target : Word) : Bool :=
  s.ifaceUp f && s.ipOf f != 0 && s.ipOf f == target.toNat

/-- ARP_REQUEST (R473). -/
def opArpRequest (f : Fin 4) (target sender : Word) (s : State) : State :=
  if s.answers f target then s.ownFrame f (.arpReply target sender) else s

/-- ICMP_ECHO (R473); recovery mode serves MDP only (R752). -/
def opIcmpEcho (f : Fin 4) (target sender : Word) (data : List Byte) (s : State) : State :=
  if s.answers f target ∧ s.pwr.phase ≠ .recovery then s.ownFrame f (.icmpReply target sender data) else s

/-! ## Meanings -/

/-- LINK_CHANGE (R464). -/
def execLinkChange (pt : Fin 4) (up : Bool) (speed : Nat) (s : State) : Host.Outcome State Fault Refusal :=
  .next (opLinkChange pt up speed s)

/-- FRAME_RECEIVED (R465). -/
def execFrameReceived (pt : Fin 4) (f : EthFrame) (s : State) : Host.Outcome State Fault Refusal :=
  .next (opFrameReceived pt f s)

/-- LAN_FAULT (R472). -/
def execLanFault (x lan : Fin 2) (s : State) : Host.Outcome State Fault Refusal := .next (opLanFault x lan s)

/-- LIFECHECK (R468). -/
def execLifecheck (x : Fin 2) (s : State) : Host.Outcome State Fault Refusal := .next (opLifecheck x s)

/-- ARP_REQUEST (R473). -/
def execArpRequest (f : Fin 4) (target sender : Word) (s : State) : Host.Outcome State Fault Refusal :=
  .next (opArpRequest f target sender s)

/-- ICMP_ECHO (R473). -/
def execIcmpEcho (f : Fin 4) (target sender : Word) (data : List Byte) (s : State) : Host.Outcome State Fault Refusal :=
  .next (opIcmpEcho f target sender data s)

/-- TRANSMIT_RING (R478). -/
def execTransmitRing (f : Fin 4) (s : State) : Host.Outcome State Fault Refusal := .next (opTransmitRing f s)

/-- PTP_MESSAGE (R480). -/
def execPtpMessage (m : PtpMsg) (s : State) : Host.Outcome State Fault Refusal := .next (opPtpMessage m s)

/-- ANNOUNCE_TIMEOUT (R485). -/
def execAnnounceTimeout (s : State) : Host.Outcome State Fault Refusal := .next (opAnnounceTimeout s)

/-- GOOSE_FRAME (R488). -/
def execGooseFrame (f : GooseMsg) (s : State) : Host.Outcome State Fault Refusal := .next (settledInsn (opGooseFrame f) s)

/-- GOOSE_TAL_EXPIRED (R490). -/
def execGooseTalExpired (k : Fin 256) (s : State) : Host.Outcome State Fault Refusal := .next (settledInsn (opGooseTal k) s)

/-- GOOSE_REPETITION (R496). -/
def execGooseRepetition (p : Fin 64) (s : State) : Host.Outcome State Fault Refusal := .next (opGooseRepetition p s)

/-- SV_FRAME (R498). -/
def execSvFrame (f : SvMsg) (s : State) : Host.Outcome State Fault Refusal := .next (settledInsn (opSvFrame f) s)

/-- SV_LOST (R500). -/
def execSvLost (k : Fin 16) (s : State) : Host.Outcome State Fault Refusal := .next (settledInsn (opSvLost k) s)

/-- PTP_TRANSMIT_INTERVAL (R480). -/
def execPtpTransmitInterval (pt : Fin 4) (s : State) : Host.Outcome State Fault Refusal := .next (opPtpTransmit pt s)

end Sys2Proof.Machine
end

