-- ==== Sys2Proof/Machine/MdpOps.lean ====
section
/-! DEFINITION. The MDP server: transports, sessions, requests and block transfers (R555–R587). -/

namespace Sys2Proof.Machine

/-! ## Transports (R513, R580, R581, R584, R587, R752) -/

/-- The number of a transport (R587). -/
def transportOf : Origin → Nat
  | .udp .. => 0
  | .can c => 1 + c.val
  | .usb => 3

/-- Whether the module listens on the transport of a request: the transport is on, the unit is no TRAIL, the gaffer runs
(R570, R580). In recovery mode it is SVC, and UDP on P0 (R752). -/
def State.listens (s : State) (o : Origin) : Bool :=
  if s.pwr.phase = .recovery then (match o with | .udp f _ _ => f == 0 | .can _ => false | .usb => true)
  else
    (s.pwr.phase == .running || s.pwr.phase == .step10) && !s.isTrail && !s.sup.restarting &&
      (match o with
       | .udp f _ _ => s.cfg 0x1B00 1 1 == 1 && s.ipOf f != 0
       | .can c => s.cfg (0x6000 + c.val) 0x13 0 != 0
       | .usb => s.cfg 0x1B00 2 1 == 1)

/-- Whether a request came over USB. -/
def fromUsb : Origin → Bool
  | .usb => true
  | _ => false

/-! ## Failures of authentication (R572, R576–R578) -/

/-- Failures of transport `tr` within the last 60 s. -/
def State.recentFails (s : State) (tr : Nat) : List Nat := (sget [] s.dict.fails tr).filter fun t => s.clk < t + 60000000000

/-- An authentication failure: counted and recorded; the fifth within 60 s locks the transport (R578). -/
def State.authFails (s : State) (tr phase cause : Nat) (inj : Bool) : State :=
  let l := (s.clk :: s.recentFails tr).take 5
  (s.modDict fun d => { d with
    badAuth := satInc d.badAuth, fails := sset [] d.fails tr l
    lock := if l.length = 5 then sset none d.lock tr (some s.clk) else d.lock }).recInj 0x1022 srcGaffer tr phase cause inj

/-- Whether authenticated opens are refused on a transport (R578). -/
def State.locked (s : State) (tr : Nat) : Bool :=
  match sget none s.dict.lock tr with
  | some t => decide (s.clk < t + 60000000000)
  | none => false

/-! ## Opening a session (R571–R578) -/

/-- The identifier of a new session: a free value, or another unused one when that is 0 or in use. -/
def State.newSid (s : State) : Word :=
  let used (w : Word) : Bool := w == 0 || s.dict.sessions.any (·.id == w) || s.dict.half.any (·.id == w)
  if used s.freeWord then
    (((List.range (s.dict.sessions.length + s.dict.half.length + 2)).map fun n => (BitVec.ofNat 32 n : Word)).find? fun w => !used w).getD 0
  else s.freeWord

/-- The open-session role of a transport: 0 for NONE, else the role code plus 1 (R572, R573, R753). -/
def State.openRole (s : State) (o : Origin) : Nat :=
  if s.pwr.phase = .recovery then 3
  else if s.large then 0
  else match o with
    | .udp .. => s.cfg 0x1B10 1 0
    | .can _ => s.cfg 0x1B10 2 0
    | .usb => s.cfg 0x1B10 3 1

/-- A refused SESSION_OPEN: D1 the requested role, D3 the cause (R572). -/
def abOpen (role cause : Nat) : Abort := ⟨0x80000008, role, 0, cause⟩

/-- Answers a request that belongs to no session. -/
def State.reply (s : State) (r : Req) (op : Nat) (ab : Option Abort) (body : List Byte) : State := s.sendResp (mkResp r op ab body)

/-- A session begins; the request that completed it is its last executed one (R567, R571). -/
def State.opens (s : State) (r : Req) (sid : Word) (auth : Bool) (role : Nat) (last : Instr) : State :=
  let m := mkResp { r with session := sid } 1 none
    ([BitVec.ofNat 8 role, BitVec.ofNat 8 (b2n auth), 0, 0] ++ leBytes 2 1056 ++ leBytes 2 0)
  let x : Session := { id := sid, origin := r.origin, auth := auth, role := role, seq := r.seq, last := some last, resp := some m
                       at_ := s.clk, xfer := none, dead := none
                       keys := (s.dict.half.find? (·.id == sid)).map (·.keys) }
  let s := s.modDict fun d => { d with sessions := d.sessions ++ [x], opened := satInc d.opened }
  (s.sendResp m).rec_ 0x1020 srcGaffer sid.toNat (transportOf r.origin) (256 * b2n auth + role)

/-- SESSION_OPEN with MODE 0 (R571, R572). -/
def State.openPlain (s : State) (r : Req) (role : Nat) (i : Instr) : State :=
  let m := s.openRole r.origin
  if m = 0 then (s.authFails (transportOf r.origin) 1 4 false).reply r 1 (some (abOpen role 4)) []
  else if 3 < role then s.reply r 1 (some abRange) []
  else if 8 ≤ s.dict.sessions.length then s.reply r 1 (some abBusy) []
  else s.draw.opens r s.newSid false (min role (m - 1)) i

/-- The owner slot whose key signed a certificate (R576). -/
def State.slotOf (s : State) (cert : List Byte) : Option Nat :=
  (List.range 4).find? fun k => s.ownerState k == 1 && Config.certChainOk cert (s.ownerHash k) none

/-- The role that 1B21h assigns to a serial number; 3 when it does not list it (R576). -/
def State.serialRole (s : State) (serial : List Byte) : Nat :=
  match (rowsOf 24 (s.cfgBytes 0x1B21 1 [])).find? fun r => r.take 20 == padTo 20 serial with
  | some r => (r.getD 20 0).toNat
  | none => 3

/-- The maximum role for certificates of owner slot `k` (R576). Its entry for slot 1 would have the address of 1B21h:01, which
is the list of roles by serial number; slot 1 keeps the default (DEDUCED, log entry 75). -/
def State.slotRole (s : State) (k : Nat) : Nat := if k = 1 then 3 else s.cfg (0x1B20 + k) 1 3

/-- What phase 2 finds: the granted role, or the cause of its failure (R576). -/
def State.grant (s : State) (h : HalfOpen) (p : List Byte) : Sum Nat Nat :=
  let cert := (certAt p 0 4).1
  match s.slotOf cert with
  | none => .inr 1
  | some k =>
    if !phase2Signed h.req1 h.resp1 p then .inr 2
    else if !Config.certChainOk cert (s.ownerHash k) s.certTime then .inr 3
    else .inl (min h.role (min (s.slotRole k) (s.serialRole (Config.certSerial cert))))

/-- SESSION_OPEN phase 1 with MODE 1 (R574, R577, R578). -/
def State.openPhase1 (s : State) (r : Req) (role : Nat) (payload : List Byte) : State :=
  if s.locked (transportOf r.origin) ∨ 8 ≤ s.dict.sessions.length then s.reply r 1 (some abBusy) []
  else
    let sid := s.newSid
    let q := [1, BitVec.ofNat 8 role, 1, 0] ++ payload
    let s := s.draw
    let p := s.phase1 q
    let h : HalfOpen := { id := sid, origin := r.origin, role := role, req1 := q, resp1 := p, at_ := s.clk
                          keys := deriveKeys infoMdp payload p false }
    (s.draw.draw.modDict fun d => { d with half := d.half ++ [h] }).reply { r with session := sid } 1 none (p.drop 4)

/-- SESSION_OPEN phase 2 of a half-open session (R574–R578). Detector 117 makes the authentication report a failure. -/
def State.openPhase2 (s : State) (r : Req) (h : HalfOpen) (payload : List Byte) (i : Instr) : State :=
  let tr := (transportOf r.origin)
  if s.locked tr ∨ 8 ≤ s.dict.sessions.length then s.reply r 1 (some abBusy) []
  else
    let ended (s : State) : State := s.modDict fun d => { d with half := d.half.filter fun (x : HalfOpen) => x.id != h.id }
    match s.grant h payload with
    | .inr cause => ended ((s.authFails tr 2 cause false).reply r 1 (some (abOpen h.role cause)) [])
    | .inl role =>
      if s.injFor 117 tr then ended (((s.injDone 117).authFails tr 2 1 true).reply r 1 (some (abOpen h.role 1)) [])
      else ended (s.opens r h.id true role i)

/-- Whether the USB frame of a request, if it has one, is kept (R585). -/
def usbSound (r : Req) : Bool := r.origin != .usb || (decide (r.usbLen ≤ usbMax) && r.usbCrc)

/-- Bytes of a transfer received so far (R558). -/
def Xfer.received (f : Xfer) : Nat := f.units.foldl (fun n u => n + ((u.2.map List.length).getD 0)) 0

/-- BLOCK_TIMEOUT (R565): 2 s without a block. -/
def opBlockTimeout (sid : Word) (s : State) : State :=
  match (s.session sid).bind (·.xfer) with
  | some f =>
    if f.at_ + 2000000000 ≤ s.clk then
      (s.modDict fun d => d.modSession sid fun x => { x with xfer := none, dead := some (f.idx, f.sub) }).rec_ 0x1023 srcGaffer sid.toNat
        (f.idx * 256 + f.sub) f.received
    else s
  | none => s

/-- What the time that has passed ends before a request is looked at: half-open sessions after 2 s (R577), idle ones after 10 s (R579),
transfers after 2 s (R565). -/
def State.mdpExpire (s : State) : State :=
  let s := (s.modDict fun d => { d with half := d.half.filter fun (h : HalfOpen) => decide (s.clk < h.at_ + 2000000000) }).closeWhere
    (fun x => decide (x.at_ + 10000000000 ≤ s.clk)) 1
  s.dict.sessions.foldl (fun (s : State) x => opBlockTimeout x.id s) s

/-- Whether the length of a request's payload is the one that its fields define, within the largest message (R555–R557, R574). -/
def lengthFits (r : Req) (i : Instr) : Bool :=
  decide ((mdpPayload i).length + 16 * b2n r.enc ≤ 1040) &&
    match i with
    | .sessionOpen _ mode _ phase p =>
      if mode = 0 ∧ phase = 1 then p == []
      else if mode = 1 ∧ phase = 1 then p.length == 132
      else if mode = 1 ∧ phase = 2 then (let n := leNat (sub_ p 0 2); decide (n ≤ 768) && p.length == 4 + (n + 3) / 4 * 4 + 96)
      else true
    | _ => true

/-- Whether a request passes R556: its form, its lengths, and SESSION 0 in a SESSION_OPEN of phase 1 or of MODE 0. -/
def framed (r : Req) (i : Instr) : Bool :=
  r.form && lengthFits r i && match i with
    | .sessionOpen _ mode _ phase _ => r.session == 0 || (mode != 0 && phase != 1)
    | _ => true

/-- Frames that reach the server at all: on a transport in service, in a sound frame (R585), and well formed (R556). -/
def State.arrives (s : State) (r : Req) (i : Instr) (k : State → State) : State :=
  let s := if r.origin = .usb then s.modDict fun d => { d with usbRx := [] } else s
  if !s.listens r.origin || !usbSound r then s
  else if !framed r i then s.modDict fun d => { d with malformed := satInc d.malformed }
  else k s.mdpExpire

/-- A message of an authenticated session that is not protected, or whose tag fails (R577). -/
def State.mdpBadTag (s : State) : State := s.modDict fun d => { d with badAuth := satInc d.badAuth }

/-- Whether the tag of a message does not verify under keys that are known (R577). -/
def tagFails (k : Option Keys) (r : Req) (i : Instr) : Bool := k.any fun k => !verifies k r i

/-- SESSION_OPEN (R567, R571). -/
def opSessionOpen (r : Req) (mode role phase : Byte) (payload : List Byte) (s : State) : State :=
  let i : Instr := .sessionOpen { r with session := 0 } mode role phase payload
  s.arrives r i fun s =>
    if mode = 1 ∧ phase = 2 then
      if !r.enc ∨ tagFails (s.keysOf r.session) r i then s.mdpBadTag
      else match s.dict.half.find? (·.id == r.session) with
        | some h => if 3 < role.toNat then s.reply r 1 (some abRange) [] else s.openPhase2 r h payload i
        | none =>
          match s.session r.session with
          | some x =>
            (match x.resp with
             | some m => if x.seq = r.seq ∧ x.last = some i then s.sendResp m else s
             | none => s)
          | none => s.reply r 1 (some (abAuth 0 0)) []
    else if mode = 0 ∧ phase = 1 then s.openPlain r role.toNat i
    else if 1 < mode.toNat ∨ 3 < role.toNat ∨ phase ≠ 1 then s.reply r 1 (some abRange) []
    else if s.pwr.phase = .recovery then s.reply r 1 (some (abOpen role.toNat 4)) []
    else s.openPhase1 r role.toNat payload

/-! ## Reading (R559–R561) -/

/-- Whether the record store cannot serve an entry now (R351). -/
def State.nvBusy (s : State) (e : Ent) : Bool := e.pers == 1 && (s.nv.inRecall || s.nv.lehr != .none)

/-- READ (R558, R559): a refusal, or the fields after STATUS. -/
def State.readEntry (s : State) (idx sub : Nat) : Abort ⊕ List Byte :=
  match s.findEnt idx sub with
  | none => .inl (abNoObj idx sub)
  | some e =>
    let n := s.valueLen e idx
    match firstBad [need (e.acc != 2) (abAccess e.acc), need (e.ty != 15) (abType e.ty), need (decide (n ≤ 1016)) (abLen n),
        need (!s.nvBusy e) abNvBusy] with
    | some a => .inl a
    | none => .inr ([BitVec.ofNat 8 e.ty, 0] ++ leBytes 2 n ++ s.value e idx)

/-- Whether an entry's value is computed, so that its changes are seen only when it is read. -/
def State.isLive (s : State) (e : Ent) (idx : Nat) : Bool :=
  (s.liveBytes idx e.sub).isSome || (s.liveNum idx e.sub).isSome || (match s.objAt idx e.sub with | some o => o.inOut | none => false)

/-- Counts a change of a live value since it was last read in blocks (R561). -/
def State.noteGen (s : State) (e : Ent) (idx : Nat) : State :=
  if idx = 0xA001 ∨ !s.isLive e idx then s
  else
    let v := s.value e idx
    let k := dkey idx e.sub
    match s.dict.seen.find? (·.1 == k) with
    | some p =>
      if p.2 = v then s
      else s.modDict fun d => { d with
        seen := (k, v) :: d.seen.filter fun (q : Nat × List Byte) => q.1 != k, gens := sset 0 d.gens k ((sget 0 d.gens k + 1) % 2 ^ 32) }
    | none => s.modDict fun d => { d with seen := (k, v) :: d.seen }

/-- GEN of an entry (R561). The recorder's ring changes with each record. -/
def State.genOf (s : State) (e : Ent) (idx : Nat) : Nat :=
  if idx = 0xA001 then s.recDone % 2 ^ 32 else sget 0 s.dict.gens (dkey idx e.sub)

/-- READ_BLOCK (R561). -/
def State.readBlock (s : State) (r : Req) (idx sub off n : Nat) : State :=
  match s.findEnt idx sub with
  | none => s.answer r 5 (some (abNoObj idx sub)) []
  | some e =>
    let total := s.valueLen e idx
    match firstBad [need (e.acc != 2) (abAccess e.acc), need (decide (1 ≤ n ∧ n ≤ 1008) && decide (off ≤ total)) abRange,
        need (!s.nvBusy e) abNvBusy] with
    | some a => s.answer r 5 (some a) []
    | none =>
      let s := s.noteGen e idx
      let d := s.slice e idx off n
      s.answer r 5 none (leBytes 4 (s.genOf e idx) ++ leBytes 4 total ++ leBytes 2 d.length ++ leBytes 2 0 ++ d)

/-- A descriptor of ENUM (R558). -/
def descriptor (p : Nat × Ent) : List Byte :=
  leBytes 2 p.1 ++ leBytes 1 p.2.sub ++ leBytes 1 p.2.ty ++ leBytes 1 p.2.acc ++ leBytes 1 p.2.role ++ leBytes 1 p.2.pers ++ leBytes 1 0

/-- ENUM (R560). -/
def State.enumFrom (s : State) (idx sub n : Nat) : Abort ⊕ List Byte :=
  if n = 0 ∨ 64 < n then .inl abRange
  else
    let l := s.listFrom 0x10001 idx sub (n + 1)
    let m := l.take n
    let next := ((l.drop n).head?.map fun p => (p.1, p.2.sub)).getD (0xFFFF, 0xFF)
    .inr (leBytes 1 m.length ++ leBytes 1 0 ++ leBytes 2 next.1 ++ leBytes 1 next.2 ++ leBytes 3 0 ++ m.flatMap descriptor)

/-- Answers with a refusal or with the fields after STATUS. -/
def State.answerSum (s : State) (r : Req) (op : Nat) : Abort ⊕ List Byte → State
  | .inl a => s.answer r op (some a) []
  | .inr b => s.answer r op none b

/-! ## Block transfers (R562–R565, R734–R738) -/

/-- Updates the session of a request. -/
def State.modSess (s : State) (r : Req) (f : Session → Session) : State := s.modDict fun d => d.modSession r.session f

/-- Whether a block keeps the rules of R562. -/
def blockOk (off total n : Nat) : Bool :=
  decide (1 ≤ n ∧ n ≤ 1008) && off % 16 == 0 && decide (off + n ≤ total) && (n % 16 == 0 || off + n == total)

/-- Whether another session writes an entry (R563). -/
def State.othersWrite (s : State) (r : Req) (idx sub : Nat) : Bool :=
  s.dict.sessions.any fun x => x.id != r.session && (match x.xfer with | some f => f.idx == idx && f.sub == sub | none => false)

/-- Whether an entry is a parison (R734). -/
def parisonOf (idx sub : Nat) : Option (Fin 3) := if h : 0xB030 ≤ idx ∧ idx < 0xB033 ∧ sub = 1 then some ⟨idx - 0xB030, by omega⟩ else none

/-- What a block is refused for before it is taken (R541, R562, R563, R569, R738). -/
def State.blockBars (s : State) (r : Req) (x : Session) (idx sub off total : Nat) (data : List Byte) : Option Abort :=
  match s.findEnt idx sub with
  | none => some (abNoObj idx sub)
  | some e =>
    let need_ := s.roleOf e idx (fromUsb r.origin) (!x.auth)
    firstBad [need (decide (need_ ≤ x.role)) (abAuth need_ x.role), need (e.acc != 0 && e.acc != 1) (abAccess e.acc),
      need (blockOk off total data.length) abRange,
      (match x.xfer with
       | some f => need (f.idx == idx && f.sub == sub && f.total == total) abBusy
       | none => firstBad [need (!s.othersWrite r idx sub) abBusy,
           need (match parisonOf idx sub with | some t => !s.parBusy t off data | none => true) abBusy])]

/-- A block of a parison (R734–R737); LEAD passes it on (R618, R750). The transfer ends when the parison is whole or has
failed. -/
def State.blockParison (s : State) (r : Req) (f : Xfer) (t : Fin 3) (off : Nat) (data : List Byte) (i : Instr) : State :=
  let l := unitsOf off data
  let q := s.parBlock t (f.units.map (·.1)) off data
  let f := { f with units := putUnits f.units (l.map fun u => (u.1, [])), at_ := s.clk }
  let p := q.1.sec.par[t]
  let s := q.1.modSess r fun x => { x with xfer := if p.st = 2 ∨ p.st = 4 then none else some f }
  let s := if s.leadPaired then s.share i 1000000 else s
  s.answer r 6 q.2 (leBytes 4 p.received)

/-- A block of an ordinary entry; the last missing byte brings the write (R564). -/
def State.blockEntry (s : State) (r : Req) (x : Session) (f : Xfer) (off : Nat) (data : List Byte) : State :=
  let f := { f with units := putUnits f.units (unitsOf off data), at_ := s.clk }
  if hasUnits f.units ((f.total + 15) / 16) then
    let v := f.units.flatMap fun u => u.2.getD []
    let s := s.modSess r fun y => { y with xfer := none }
    let ty := ((s.findEnt f.idx f.sub).map (·.ty)).getD 0
    let i : Instr := .write r (BitVec.ofNat 16 f.idx) (BitVec.ofNat 8 f.sub) (BitVec.ofNat 8 ty) v
    State.conclude (s.doWrite r x.role (fromUsb r.origin) (!x.auth) f.idx f.sub none v i) r 6 (leBytes 4 f.total)
  else (s.modSess r fun y => { y with xfer := some f }).answer r 6 none (leBytes 4 f.received)

/-- WRITE_BLOCK (R562–R565). -/
def State.writeBlock (s : State) (r : Req) (x : Session) (idx sub off total : Nat) (data : List Byte) (i : Instr) : State :=
  if x.dead = some (idx, sub) then
    (s.modSess r fun y => { y with dead := none }).answer r 6 (some (abTimeout (idx * 256 + sub))) []
  else
    match s.blockBars r x idx sub off total data with
    | some a => s.answer r 6 (some a) []
    | none =>
      let f := x.xfer.getD { idx := idx, sub := sub, total := total, units := [], at_ := s.clk }
      match parisonOf idx sub with
      | some t => s.blockParison r f t off data i
      | none => s.blockEntry r x f off data

/-- ABORT (R565). -/
def State.abortXfer (s : State) (r : Req) (idx sub : Nat) : State :=
  (s.modSess r fun x => { x with xfer := x.xfer.filter fun f => !(f.idx == idx && f.sub == sub) }).answer r 8 none []

/-! ## Requests of a session (R566, R567) -/

/-- A request without its frame, to tell whether two are the same (R567). -/
def bareOf : Instr → Instr
  | .sessionClose _ => .sessionClose noReq
  | .read _ i u => .read noReq i u
  | .write _ i u t d => .write noReq i u t d
  | .readBlock _ i u o n => .readBlock noReq i u o n
  | .writeBlock _ i u o t d => .writeBlock noReq i u o t d
  | .enum _ i u c => .enum noReq i u c
  | .abort _ i u => .abort noReq i u
  | i => i

/-- What a read of the measured supply values uses up: they are free. -/
def State.measured (s : State) (idx : Nat) : State := if idx = 0x1001 then s.draw else s

/-- A request is executed (R566). -/
def State.execute (s : State) (r : Req) (x : Session) (i : Instr) : State :=
  match i with
  | .sessionClose _ => (s.answer r 2 none []).closeWhere (fun y => y.id == r.session) 0
  | .read _ idx sub => (s.answerSum r 3 (s.readEntry idx.toNat sub.toNat)).measured idx.toNat
  | .write _ idx sub ty d => State.conclude (s.doWrite r x.role (fromUsb r.origin) (!x.auth) idx.toNat sub.toNat (some ty.toNat) d i) r 4 []
  | .readBlock _ idx sub off n => (s.readBlock r idx.toNat sub.toNat off.toNat n.toNat).measured idx.toNat
  | .writeBlock _ idx sub off total d => s.writeBlock r x idx.toNat sub.toNat off.toNat total.toNat d i
  | .enum _ idx sub n => s.answerSum r 7 (s.enumFrom idx.toNat sub.toNat n.toNat)
  | .abort _ idx sub => s.abortXfer r idx.toNat sub.toNat
  | _ => s

/-- Whether a request comes from where an open session is bound to (R572): source address and port, controller, or the USB port. -/
def sameSource : Origin → Origin → Bool
  | .udp _ a p, .udp _ b q => a == b && p == q
  | a, b => a == b

/-- A request on a session: executed when its SEQ is higher, answered again when it is the last one, else discarded
(R567, R572, R577). -/
def State.onSession (s : State) (r : Req) (x : Session) (i : Instr) : State :=
  if x.auth && (!r.enc || x.keys.isNone || tagFails x.keys r i) then s.mdpBadTag
  else if !x.auth && r.enc then s.modDict fun d => { d with malformed := satInc d.malformed }
  else if !x.auth && !sameSource x.origin r.origin then s.reply r (opCode i) (some (abAuth 0 0)) []
  else if x.seq.toNat < r.seq.toNat then
    (s.modSess r fun y => { y with seq := r.seq, last := some i, resp := none, at_ := s.clk }).execute r x i
  else if x.seq = r.seq ∧ x.last.map bareOf = some (bareOf i) then (match x.resp with | some m => s.sendResp m | none => s)
  else s

/-- A request other than SESSION_OPEN (R555–R570); `i` is it by its operation. -/
def opRequest (r : Req) (i : Instr) (s : State) : State :=
  s.arrives r i fun s =>
    match s.session r.session with
    | some x => s.onSession r x i
    | none => s.reply r (opCode i) (some (abAuth 0 0)) []

/-- A WRITE of a number to an entry, as the commands with a name of their own are sent. -/
def opCommandWrite (r : Req) (idx sub ty n len : Nat) (s : State) : State :=
  opRequest r (.write r (BitVec.ofNat 16 idx) (BitVec.ofNat 8 sub) (BitVec.ofNat 8 ty) (leBytes len n)) s

/-- A WRITE of 1 byte to an entry of type U8. -/
def opCommand8 (r : Req) (idx sub n : Nat) (s : State) : State := opCommandWrite r idx sub 2 n 1 s

/-! ## Timers (R565, R577–R579, R583, R585) -/

/-- HALF_OPEN_TIMEOUT (R577): 2 s without phase 2. -/
def opHalfOpenTimeout (sid : Word) (s : State) : State :=
  s.modDict fun d => { d with half := d.half.filter fun (h : HalfOpen) => !(h.id == sid && decide (h.at_ + 2000000000 ≤ s.clk)) }

/-- SESSION_IDLE (R579): 10 s without an executed request. -/
def opSessionIdle (sid : Word) (s : State) : State := s.closeWhere (fun x => x.id == sid && decide (x.at_ + 10000000000 ≤ s.clk)) 1

/-- AUTH_LOCKOUT_END (R578): 60 s have passed. -/
def opLockoutEnd (tr : Nat) (s : State) : State :=
  match sget none s.dict.lock tr with
  | some t => if t + 60000000000 ≤ s.clk then s.modDict fun d => { d with lock := sset none d.lock tr none, fails := sset [] d.fails tr [] } else s
  | none => s

/-- Updates the assembly of controller `c`. -/
def State.modAsm (s : State) (c : Fin 2) (v : Option (Nat × List Byte × Nat)) : State := s.modDict fun d => { d with asm_ := d.asm_.set c v }

/-- MDP_CAN_FRAME (R582, R583): FIRST begins a message, SEGNO counts on, LAST hands it over. -/
def opMdpCanFrame (c : Fin 2) (ctl : Byte) (data : List Byte) (s : State) : State :=
  let seg := ctl.toNat % 64
  let keep (b : List Byte) : State := s.modAsm c (if ctl.getLsbD 6 then none else some (seg, b, s.clk))
  if s.cfg (0x6000 + c.val) 0x13 0 = 0 then s
  else if ctl.getLsbD 7 then (if seg = 0 then keep data else s.modAsm c none)
  else
    match s.dict.asm_[c] with
    | some (k, b, t) => if seg = k + 1 ∧ s.clk < t + 100000000 then keep (b ++ data) else s.modAsm c none
    | none => s

/-- ASSEMBLY_TIMEOUT (R583): 100 ms without a frame. -/
def opAssemblyTimeout (c : Fin 2) (s : State) : State :=
  match s.dict.asm_[c] with
  | some (_, _, t) => if t + 100000000 ≤ s.clk then s.modAsm c none else s
  | none => s

/-- USB_BYTE_TIMEOUT (R585): `bytes` have arrived since the last whole frame, and none for `ms` ms; what a frame begun leaves to be
completed is discarded after 100 ms, and the search for a sync pair begins again. -/
def opUsbTimeout (bytes : List Byte) (ms : Nat) (s : State) : State :=
  let l := s.dict.usbRx ++ bytes
  s.modDict fun d => { d with usbRx := if 100 ≤ ms then [] else usbRest (2 * l.length) l }

end Sys2Proof.Machine
end

