-- ==== Sys2Proof/Machine/Requests.lean ====
section
/-! DEFINITION. Meanings of the MDP operations and timers, and of the commands that are writes of one entry: each is the WRITE
of its entry (R555–R587, R85, R114, R145, R156, R263, R282, R286–R300, R332, R338, R444, R451, R510, R529, R530, R550, R599,
R606, R612, R625, R643, R649, R657, R696, R715, R726, R727, R737, R741, R746–R748, R754, R773). -/

namespace Sys2Proof.Machine

/-! ## Sessions and operations (R557) -/

/-- SESSION_OPEN (R571). -/
def execSessionOpen (r : Req) (mode role phase : Byte) (payload : List Byte) (s : State) : Host.Outcome State Fault Refusal :=
  .next (settled (opSessionOpen r mode role phase payload) s)

/-- SESSION_CLOSE (R579). -/
def execSessionClose (r : Req) (s : State) : Host.Outcome State Fault Refusal :=
  .next (settled (opRequest r (.sessionClose r)) s)

/-- READ (R558). -/
def execRead (r : Req) (idx : BitVec 16) (sub : Byte) (s : State) : Host.Outcome State Fault Refusal :=
  .next (settled (opRequest r (.read r idx sub)) s)

/-- WRITE (R559). -/
def execWrite (r : Req) (idx : BitVec 16) (sub ty : Byte) (data : List Byte) (s : State) : Host.Outcome State Fault Refusal :=
  .next (settled (opRequest r (.write r idx sub ty data)) s)

/-- READ_BLOCK (R561). -/
def execReadBlock (r : Req) (idx : BitVec 16) (sub : Byte) (off : Word) (dlen : BitVec 16) (s : State) : Host.Outcome State Fault Refusal :=
  .next (settled (opRequest r (.readBlock r idx sub off dlen)) s)

/-- WRITE_BLOCK (R562). -/
def execWriteBlock (r : Req) (idx : BitVec 16) (sub : Byte) (off total : Word) (data : List Byte) (s : State) : Host.Outcome State Fault Refusal :=
  .next (settled (opRequest r (.writeBlock r idx sub off total data)) s)

/-- ENUM (R560). -/
def execEnum (r : Req) (idx : BitVec 16) (sub count : Byte) (s : State) : Host.Outcome State Fault Refusal :=
  .next (settled (opRequest r (.enum r idx sub count)) s)

/-- ABORT (R565). -/
def execAbort (r : Req) (idx : BitVec 16) (sub : Byte) (s : State) : Host.Outcome State Fault Refusal :=
  .next (settled (opRequest r (.abort r idx sub)) s)

/-! ## Programs, tasks, forces, edits -/

/-- START (R85). -/
def execStart (r : Req) (s : State) : Host.Outcome State Fault Refusal :=
  .next (settled (opCommand8 r 0x2001 1 1) s)

/-- STOP (R85). -/
def execStop (r : Req) (s : State) : Host.Outcome State Fault Refusal :=
  .next (settled (opCommand8 r 0x2001 1 2) s)

/-- RESTART_TASK (R114). -/
def execRestartTask (r : Req) (g : Gctx) (s : State) : Host.Outcome State Fault Refusal :=
  .next (settled (opCommand8 r (0x2100 + g.val) 0x15 1) s)

/-- FORCE_SET (R145). -/
def execForceSet (r : Req) (s : State) : Host.Outcome State Fault Refusal :=
  .next (settled (opCommand8 r 0x2210 3 1) s)

/-- FORCE_CLEAR (R156). -/
def execForceClear (r : Req) (s : State) : Host.Outcome State Fault Refusal :=
  .next (settled (opCommand8 r 0x2210 3 2) s)

/-- FORCE_CLEAR_ALL (R156). -/
def execForceClearAll (r : Req) (s : State) : Host.Outcome State Fault Refusal :=
  .next (settled (opCommand8 r 0x2210 3 3) s)

/-- REPEAT_COMPARATOR_TEST (R263). -/
def execRepeatComparatorTest (r : Req) (p : PairId) (s : State) : Host.Outcome State Fault Refusal :=
  .next (settled (opCommand8 r (0xD120 + p.val) 7 1) s)

/-- LOAD_SLOT (R282). -/
def execLoadSlot (r : Req) (slot : Byte) (fail : Option Nat) (s : State) : Host.Outcome State Fault Refusal :=
  .next (settled (fun s =>
    (opCommand8 r 0x2300 2 slot.toNat (s.modProg fun p => { p with storeFault := fail })).modProg fun p => { p with storeFault := none }) s)

/-- APPLY (R286). -/
def execApply (r : Req) (s : State) : Host.Outcome State Fault Refusal :=
  .next (settled (opCommand8 r 0x2310 1 1) s)

/-- ACCEPT (R298). -/
def execAccept (r : Req) (s : State) : Host.Outcome State Fault Refusal :=
  .next (settled (opCommand8 r 0x2310 1 2) s)

/-- REVERT (R300). -/
def execRevert (r : Req) (s : State) : Host.Outcome State Fault Refusal :=
  .next (settled (opCommand8 r 0x2310 1 3) s)

/-- CANCEL (R296). -/
def execCancel (r : Req) (s : State) : Host.Outcome State Fault Refusal :=
  .next (settled (opCommand8 r 0x2310 1 4) s)

/-! ## Banks, energy, CAN -/

/-- TRANSPARENT_MARCH (R338). -/
def execTransparentMarch (r : Req) (b : BankId) (s : State) : Host.Outcome State Fault Refusal :=
  .next (settled (opCommand8 r (0xC100 + b.val) 8 1) s)

/-- DESTRUCTIVE_MARCH (R338). -/
def execDestructiveMarch (r : Req) (b : BankId) (s : State) : Host.Outcome State Fault Refusal :=
  .next (settled (opCommand8 r (0xC100 + b.val) 8 2) s)

/-- CLEAR_REPAIRS (R332). -/
def execClearRepairs (r : Req) (b : BankId) (s : State) : Host.Outcome State Fault Refusal :=
  .next (settled (opCommand8 r (0xC100 + b.val) 9 1) s)

/-- RESET_REGISTERS (R444). -/
def execResetRegisters (r : Req) (i : Fin 2) (s : State) : Host.Outcome State Fault Refusal :=
  .next (settled (opCommand8 r (0x4010 + i.val) 0xB 1) s)

/-- CAL_BEGIN (R451). -/
def execCalBegin (r : Req) (ch : Fin 8) (s : State) : Host.Outcome State Fault Refusal :=
  .next (settled (opCommand8 r (0x4100 + ch.val) 0xD 1) s)

/-- CAL_COMMIT (R451). -/
def execCalCommit (r : Req) (ch : Fin 8) (s : State) : Host.Outcome State Fault Refusal :=
  .next (settled (opCommand8 r (0x4100 + ch.val) 0xD 2) s)

/-- CAL_ABORT (R451). -/
def execCalAbort (r : Req) (ch : Fin 8) (s : State) : Host.Outcome State Fault Refusal :=
  .next (settled (opCommand8 r (0x4100 + ch.val) 0xD 3) s)

/-- SLEEP (R529). -/
def execSleep (r : Req) (c : Fin 2) (s : State) : Host.Outcome State Fault Refusal :=
  .next (settled (opCommand8 r (0x6000 + c.val) 0xF 1) s)

/-- WAKE (R530). -/
def execWake (r : Req) (c : Fin 2) (s : State) : Host.Outcome State Fault Refusal :=
  .next (settled (opCommand8 r (0x6000 + c.val) 0xF 2) s)

/-- RECOVER (R510). -/
def execRecover (r : Req) (c : Fin 2) (s : State) : Host.Outcome State Fault Refusal :=
  .next (settled (opCommand8 r (0x6000 + c.val) 0xF 3) s)

/-! ## Dictionary, hierarchy, tandem, time, supervision -/

/-- RESTORE_DEFAULTS (R550). -/
def execRestoreDefaults (r : Req) (s : State) : Host.Outcome State Fault Refusal :=
  .next (settled (opCommand8 r 0x1010 1 1) s)

/-- CANCEL_RESTORE (R550). -/
def execCancelRestore (r : Req) (s : State) : Host.Outcome State Fault Refusal :=
  .next (settled (opCommand8 r 0x1010 1 2) s)

/-- REQUEST_QUOTE (R599). -/
def execRequestQuote (r : Req) (w : Byte) (s : State) : Host.Outcome State Fault Refusal :=
  .next (settled (opCommand8 r (0x7010 + w.toNat) 0xA 1) s)

/-- ARM (R606). -/
def execArm (r : Req) (s : State) : Host.Outcome State Fault Refusal :=
  .next (settled (opCommand8 r 0x7002 3 1) s)

/-- STAGED_CANCEL (R606). -/
def execStagedCancel (r : Req) (s : State) : Host.Outcome State Fault Refusal :=
  .next (settled (opCommand8 r 0x7002 3 2) s)

/-- SWITCHOVER (R612). -/
def execSwitchover (r : Req) (s : State) : Host.Outcome State Fault Refusal :=
  .next (settled (opCommand8 r 0x7200 6 1) s)

/-- REJOIN (R625). -/
def execRejoin (r : Req) (s : State) : Host.Outcome State Fault Refusal :=
  .next (settled (opCommand8 r 0x7200 6 2) s)

/-- SET_TIME (R643). -/
def execSetTime (r : Req) (tai : Word64) (s : State) : Host.Outcome State Fault Refusal :=
  .next (settled (opCommandWrite r 0x8000 7 12 tai.toNat 8) s)

/-- SET_RTC (R657). -/
def execSetRtc (r : Req) (utc : Word64) (s : State) : Host.Outcome State Fault Refusal :=
  .next (settled (opCommandWrite r 0x8010 8 12 utc.toNat 8) s)

/-- CLEAR_STAMP (R649). -/
def execClearStamp (r : Req) (s : State) : Host.Outcome State Fault Refusal :=
  .next (settled (opCommand8 r 0x8010 4 1) s)

/-- CLEAR_EVIDENCE (R696). -/
def execClearEvidence (r : Req) (s : State) : Host.Outcome State Fault Refusal :=
  .next (settled (opCommand8 r 0x9010 3 1) s)

/-- ONCE (R715). -/
def execOnce (r : Req) (det : Fin 128) (s : State) : Host.Outcome State Fault Refusal :=
  .next (settled (opCommand8 r (0xA100 + det.val) 1 1) s)

/-- HOLD (R715). -/
def execHold (r : Req) (det : Fin 128) (s : State) : Host.Outcome State Fault Refusal :=
  .next (settled (opCommand8 r (0xA100 + det.val) 1 2) s)

/-- RELEASE (R715). -/
def execRelease (r : Req) (det : Fin 128) (s : State) : Host.Outcome State Fault Refusal :=
  .next (settled (opCommand8 r (0xA100 + det.val) 1 3) s)

/-! ## Trust, update, reset -/

/-- PROVISION_OWNER_KEY (R726). -/
def execProvisionOwnerKey (r : Req) (key : List Byte) (s : State) : Host.Outcome State Fault Refusal :=
  .next (settled (opRequest r (.write r 0xB005 1 14 key)) s)

/-- REVOKE_OWNER_SLOT (R727). -/
def execRevokeOwnerSlot (r : Req) (k : Byte) (s : State) : Host.Outcome State Fault Refusal :=
  .next (settled (opCommand8 r 0xB005 2 k.toNat) s)

/-- IMMEDIATE (R746). -/
def execImmediate (r : Req) (t : Fin 3) (s : State) : Host.Outcome State Fault Refusal :=
  .next (settled (opCommand8 r (0xB030 + t.val) 6 1) s)

/-- AT_RESET (R746). -/
def execAtReset (r : Req) (t : Fin 3) (s : State) : Host.Outcome State Fault Refusal :=
  .next (settled (opCommand8 r (0xB030 + t.val) 6 2) s)

/-- SCHEDULED (R747). -/
def execScheduled (r : Req) (t : Fin 3) (s : State) : Host.Outcome State Fault Refusal :=
  .next (settled (opCommand8 r (0xB030 + t.val) 6 3) s)

/-- HOT (R748). -/
def execHot (r : Req) (t : Fin 3) (s : State) : Host.Outcome State Fault Refusal :=
  .next (settled (opCommand8 r (0xB030 + t.val) 6 4) s)

/-- DISCARD (R737). -/
def execDiscard (r : Req) (t : Fin 3) (s : State) : Host.Outcome State Fault Refusal :=
  .next (settled (opCommand8 r (0xB030 + t.val) 6 5) s)

/-- CONFIRM_FIRMWARE (R741). -/
def execConfirmFirmware (r : Req) (s : State) : Host.Outcome State Fault Refusal :=
  .next (settled (opCommand8 r 0xB018 3 1) s)

/-- QUOTE_NONCE (R754). -/
def execQuoteNonce (r : Req) (nonce : List Byte) (s : State) : Host.Outcome State Fault Refusal :=
  .next (settled (opRequest r (.write r 0xB050 1 14 nonce)) s)

/-- RESET_DEVICE (R773). -/
def execResetDevice (r : Req) (s : State) : Host.Outcome State Fault Refusal :=
  .next (settled (opCommand8 r 0x1003 1 1) s)

/-! ## Timers -/

/-- HALF_OPEN_TIMEOUT (R577). -/
def execHalfOpenTimeout (sid : Word) (s : State) : Host.Outcome State Fault Refusal := .next (opHalfOpenTimeout sid s)

/-- SESSION_IDLE (R579). -/
def execSessionIdle (sid : Word) (s : State) : Host.Outcome State Fault Refusal := .next (opSessionIdle sid s)

/-- BLOCK_TIMEOUT (R565). -/
def execBlockTimeout (sid : Word) (s : State) : Host.Outcome State Fault Refusal := .next (opBlockTimeout sid s)

/-- AUTH_LOCKOUT_END (R578). -/
def execAuthLockoutEnd (tr : Fin 4) (s : State) : Host.Outcome State Fault Refusal := .next (opLockoutEnd tr.val s)

/-- MDP_CAN_FRAME (R582). -/
def execMdpCanFrame (c : Fin 2) (ctl : Byte) (data : List Byte) (s : State) : Host.Outcome State Fault Refusal := .next (opMdpCanFrame c ctl data s)

/-- ASSEMBLY_TIMEOUT (R583). -/
def execAssemblyTimeout (c : Fin 2) (s : State) : Host.Outcome State Fault Refusal := .next (opAssemblyTimeout c s)

/-- USB_BYTE_TIMEOUT (R585). -/
def execUsbByteTimeout (bytes : List Byte) (ms : Nat) (s : State) : Host.Outcome State Fault Refusal := .next (opUsbTimeout bytes ms s)

end Sys2Proof.Machine
end

