-- ==== Sys2Proof/Machine/SysUpdate.lean ====
section
/-! DEFINITION. The system update: what it publishes, and the detectors that it evaluates (R632, R646, R715). -/

namespace Sys2Proof.Machine

/-- Word 0202h (R646). -/
def State.timeWord (s : State) : Word :=
  BitVec.ofNat 32 (fieldAt (b2n s.time.valid) 1 0 + fieldAt (b2n s.time.holdover.isSome) 1 1 + fieldAt s.tbSource 2 2
    + fieldAt (b2n s.time.rtc.valid) 1 4)

/-- LEAD's view of the tandem (7200h:04, R632): 0 off, 1 SOLO, 2 paired. -/
def State.leadView (s : State) : Nat := if s.tdm.st = 0 then 0 else if s.tdm.st = 2 ∨ s.tdm.st = 4 then 2 else 1

/-- Word 02F0h (R632). -/
def State.tandemWord (s : State) : Word :=
  let sw := match s.tdm.swAt with | some t => decide (s.clk < t + 1000000000) | none => false
  let uid := s.cfg 0x7200 2 0
  let leadId := if s.isTrail then 1 - uid % 2 else uid % 2
  BitVec.ofNat 32 (fieldAt s.leadView 2 0 + fieldAt s.tdm.st 3 2 + fieldAt (b2n s.trailHealthy) 1 5
    + fieldAt leadId 1 6 + fieldAt (b2n sw) 1 7 + fieldAt s.tdm.cycle 16 16)

/-- Word 0300h (R632). -/
def State.hierWord (s : State) : Word :=
  let role := s.cfg 0x7000 1 0
  BitVec.ofNat 32 (fieldAt role 2 0 + fieldAt (s.cfg 0x7000 3 0) 1 2
    + (if role = 2 then fieldAt s.hier.own 3 3 else 0) + fieldAt s.hier.delivered 16 16)

/-- Word 0300h + w on the manager (R632). -/
def Worker.word (w : Worker) : Word :=
  BitVec.ofNat 32 (fieldAt w.st 3 0 + fieldAt (b2n w.iso) 1 3 + fieldAt (min 255 w.lostUpd) 8 8 + fieldAt w.delivered 16 16)

/-- `n` words from `w` whose content no chapter gives: they read 0 (DESIGN CHOICE, log entry 78). -/
def zeroWords (w n : Nat) : List (Nat × Word) := wordsFrom w (List.replicate n 0)

/-- The words of the workers, on the manager. -/
def State.workerWords (s : State) : List (Nat × Word) :=
  if s.cfg 0x7000 1 0 = 1 then
    (List.range 254).map fun k => (0x0301 + k, (sget Worker.blank s.hier.workers (k + 1)).word)
  else zeroWords 0x0301 254

/-- The publication set of the system update: words 0200h to 03FFh (R117, R122). -/
def State.systemSet (s : State) : PubSet :=
  { src := 3, lines := []
    words := [(0x0200, s.time.tb.extractLsb' 0 32), (0x0201, s.time.tb.extractLsb' 32 32), (0x0202, s.timeWord)] ++ zeroWords 0x0203 0xED
      ++ [(0x02F0, s.tandemWord), (0x02F1, s.tdm.inBits), (0x02F2, s.tdm.outBits)] ++ zeroWords 0x02F3 0x0D
      ++ [(0x0300, s.hierWord)] ++ s.workerWords ++ zeroWords 0x03FF 1 }

/-- What the update has reported starts again. -/
def State.updateTaken (s : State) : State :=
  let s := s.modTdm fun t => { t with inBits := 0, outBits := 0 }
  { s with hier := { s.hier with workers := s.hier.workers.map fun (p : Nat × Worker) => (p.1, { p.2 with lostUpd := 0 }) } }

/-- Detector 119 presents holdover at the update (R714, R715). -/
def State.injHoldover (s : State) : State := if s.injOn 119 then (s.injDone 119).beginHoldover else s

/-- Detectors 74 and 83 present a lost twin record and a power-fail warning at the update (R355, R367, R714, R715). -/
def State.injPower (s : State) : State :=
  let d := s.det 74
  let s := if s.injOn 74 then
      ((s.injDone 74).modNv fun v => { v with lostTwins := satInc v.lostTwins }).recInj 0xC004 srcGaffer d.a.toNat d.b.toNat 0 true
    else s
  if s.injOn 83 then (s.injDone 83).powerFails true else s

/-- SYSTEM_UPDATE (R646, R632). -/
def opSystemUpdate (s : State) : State :=
  let s := s.injHoldover.injWatchdog.injPower
  s.updateTaken.publish s.systemSet

/-! ## Meaning -/

/-- SYSTEM_UPDATE (R646). -/
def execSystemUpdate (s : State) : Host.Outcome State Fault Refusal := .next (whenOn opSystemUpdate s)

end Sys2Proof.Machine
end

