-- ==== Sys2Proof/Machine/Tandem.lean ====
section
/-! DEFINITION. Meanings of the events of the tandem agent (R608–R632). -/

namespace Sys2Proof.Machine

/-- Tandem cycle index of LEAD's time base (R613). -/
def State.tdmIndex (s : State) : Nat := if s.ttNs = 0 then 0 else s.time.tb.toNat / s.ttNs % 2 ^ 32

/-- TANDEM_CYCLE (R613, R618, R625): LEAD starts a cycle that has not been started yet. -/
def opTandemCycle (s : State) : State :=
  if !s.tdm.holds ∨ s.tdm.st = 0 ∨ 3 ≤ s.tdm.st ∨ s.tdmIndex = s.tdm.cycle then s
  else
    let n := s.tdmIndex
    let s := ((s.modTdm fun t => { t with cycle := n, cycleAt := s.clk }).copyMarked n).assertLine 186
    let s := if s.tdm.presIn then s.tlSend 1 (leBytes 8 s.time.tb.toNat) else s
    let s := if s.leadPaired then s.sendCheck n else s
    s.runDue true

/-- TRAIL_CYCLE_START (R618, R625): 40 µs after LEAD's cycle start TRAIL checks the outputs of that cycle, and applies the
commands due in it. -/
def opTrailCycleStart (s : State) : State :=
  if s.tdm.st ≠ 4 ∨ s.ttNs = 0 then s
  else
    let n := s.tdm.cycle
    if s.tdm.lastCheck = some n ∨ s.time.tb.toNat % s.ttNs < 40000 then s
    else ((s.modTdm fun t => { t with lastCheck := some n }).sendCheck n).runDue false

/-! ## Meanings -/

/-- TANDEM_CYCLE (R613). -/
def execTandemCycle (s : State) : Host.Outcome State Fault Refusal := .next (settled opTandemCycle s)

/-- TRAIL_CYCLE_START (R625). -/
def execTrailCycleStart (s : State) : Host.Outcome State Fault Refusal := .next (settled opTrailCycleStart s)

/-- CYCLE (R613). -/
def execCycle (f : TdmFrame) (s : State) : Host.Outcome State Fault Refusal := .next (opCycle f s)

/-- PUBLISH (R614). -/
def execPublish (f : TdmFrame) (s : State) : Host.Outcome State Fault Refusal := .next (settled (opPublish f) s)

/-- SCAN (R619). -/
def execScan (f : TdmFrame) (s : State) : Host.Outcome State Fault Refusal := .next (settled (opScan f) s)

/-- TANDEM_RELEASE (R615). -/
def execTandemRelease (f : TdmFrame) (s : State) : Host.Outcome State Fault Refusal := .next (opTandemRelease f s)

/-- NETSEQ (R621). -/
def execNetseq (f : TdmFrame) (s : State) : Host.Outcome State Fault Refusal := .next (opNetseq f s)

/-- CHECK (R625). -/
def execCheck (f : TdmFrame) (s : State) : Host.Outcome State Fault Refusal := .next (opCheck f s)

/-- HEALTH (R626). -/
def execHealth (f : TdmFrame) (s : State) : Host.Outcome State Fault Refusal := .next (opHealth f s)

/-- HEALTH_TIMER (R626). -/
def execHealthTimer (bits : Word) (s : State) : Host.Outcome State Fault Refusal := .next (opHealthTimer bits s)

/-- PARTNER_HEALTH_LOST (R626). -/
def execPartnerHealthLost (s : State) : Host.Outcome State Fault Refusal := .next (settled opPartnerHealthLost s)

/-- COMMAND (R618). -/
def execCommand (f : TdmFrame) (s : State) : Host.Outcome State Fault Refusal := .next (settled (opCommand f) s)

/-- COPY (R629). -/
def execCopy (f : TdmFrame) (s : State) : Host.Outcome State Fault Refusal := .next (opCopy f s)

/-- AUTH (R629). -/
def execAuth (f : TdmFrame) (s : State) : Host.Outcome State Fault Refusal := .next (opAuth f s)

/-- SCAN_TIMEOUT (R619). -/
def execScanTimeout (s : State) : Host.Outcome State Fault Refusal := .next (settled opScanTimeout s)

/-- OUTPUT_DISAGREE (R623). -/
def execOutputDisagree (ch : Ch) (partner node : Bool) (n : Nat) (s : State) : Host.Outcome State Fault Refusal :=
  .next (opOutputDisagree ch partner node n s)

/-- CYCLE_TIMEOUT (R625). -/
def execCycleTimeout (s : State) : Host.Outcome State Fault Refusal := .next (opCycleTimeout s)

/-- JOIN (R629). -/
def execJoin (partner : PartnerId) (s : State) : Host.Outcome State Fault Refusal := .next (settled (opJoin partner) s)

/-- JOIN_TIMEOUT (R629). -/
def execJoinTimeout (s : State) : Host.Outcome State Fault Refusal := .next (opJoinTimeout s)

/-- REJOIN_TIMER (R625). -/
def execRejoinTimer (s : State) : Host.Outcome State Fault Refusal := .next (opRejoinTimer s)

/-- INTLK_RELEASED (R627). -/
def execIntlkReleased (s : State) : Host.Outcome State Fault Refusal := .next (settled opIntlkReleased s)

/-- INTLK_HELD (R177). -/
def execIntlkHeld (s : State) : Host.Outcome State Fault Refusal := .next (settled (whenOn opIntlkHeld) s)

/-- INTLK_CLAIM (R611). -/
def execIntlkClaim (s : State) : Host.Outcome State Fault Refusal := .next (settled opIntlkClaim s)

/-- PRES_IN_CHANGE (R610). -/
def execPresInChange (high : Bool) (s : State) : Host.Outcome State Fault Refusal := .next (settled (opPresInChange high) s)

end Sys2Proof.Machine
end

