-- ==== Sys2Proof/Machine/Dispatch.lean ====
section
/-! DEFINITION. One arm per command: a direct call of its meaning. -/

namespace Sys2Proof.Machine

/-- The effect of a command on everything but the queue. -/
def exec (i : Instr) (s : State) : Host.Outcome State Fault Refusal :=
  match i with
  | .add g rd ra rb => Sys2Proof.Machine.execAdd g rd ra rb s
  | .addc g rd ra rb => Sys2Proof.Machine.execAddc g rd ra rb s
  | .sub g rd ra rb => Sys2Proof.Machine.execSub g rd ra rb s
  | .subc g rd ra rb => Sys2Proof.Machine.execSubc g rd ra rb s
  | .and_ g rd ra rb => Sys2Proof.Machine.execAnd_ g rd ra rb s
  | .or_ g rd ra rb => Sys2Proof.Machine.execOr_ g rd ra rb s
  | .xor g rd ra rb => Sys2Proof.Machine.execXor g rd ra rb s
  | .andn g rd ra rb => Sys2Proof.Machine.execAndn g rd ra rb s
  | .sll g rd ra rb => Sys2Proof.Machine.execSll g rd ra rb s
  | .srl g rd ra rb => Sys2Proof.Machine.execSrl g rd ra rb s
  | .sra g rd ra rb => Sys2Proof.Machine.execSra g rd ra rb s
  | .slt g rd ra rb => Sys2Proof.Machine.execSlt g rd ra rb s
  | .sltu g rd ra rb => Sys2Proof.Machine.execSltu g rd ra rb s
  | .mul g rd ra rb => Sys2Proof.Machine.execMul g rd ra rb s
  | .mulhu g rd ra rb => Sys2Proof.Machine.execMulhu g rd ra rb s
  | .mulhs g rd ra rb => Sys2Proof.Machine.execMulhs g rd ra rb s
  | .nor g rd ra rb => Sys2Proof.Machine.execNor g rd ra rb s
  | .bfxu g rd ra wm1 pos => Sys2Proof.Machine.execBfxu g rd ra wm1 pos s
  | .bfxs g rd ra wm1 pos => Sys2Proof.Machine.execBfxs g rd ra wm1 pos s
  | .bfi g rd ra wm1 pos => Sys2Proof.Machine.execBfi g rd ra wm1 pos s
  | .addi g rd ra imm => Sys2Proof.Machine.execAddi g rd ra imm s
  | .cmpi g ra imm => Sys2Proof.Machine.execCmpi g ra imm s
  | .slti g rd ra imm => Sys2Proof.Machine.execSlti g rd ra imm s
  | .sltiu g rd ra imm => Sys2Proof.Machine.execSltiu g rd ra imm s
  | .andi g rd ra imm => Sys2Proof.Machine.execAndi g rd ra imm s
  | .ori g rd ra imm => Sys2Proof.Machine.execOri g rd ra imm s
  | .xori g rd ra imm => Sys2Proof.Machine.execXori g rd ra imm s
  | .orhi g rd ra imm => Sys2Proof.Machine.execOrhi g rd ra imm s
  | .lui g rd imm => Sys2Proof.Machine.execLui g rd imm s
  | .slli g rd ra sh => Sys2Proof.Machine.execSlli g rd ra sh s
  | .srli g rd ra sh => Sys2Proof.Machine.execSrli g rd ra sh s
  | .srai g rd ra sh => Sys2Proof.Machine.execSrai g rd ra sh s
  | .ld g rd ra size off => Sys2Proof.Machine.execLd g rd ra size off s
  | .lds g rd ra size off => Sys2Proof.Machine.execLds g rd ra size off s
  | .st g rd ra size off => Sys2Proof.Machine.execSt g rd ra size off s
  | .aadd g rd ra size off => Sys2Proof.Machine.execAadd g rd ra size off s
  | .aswp g rd ra size off => Sys2Proof.Machine.execAswp g rd ra size off s
  | .rsst g ra size off => Sys2Proof.Machine.execRsst g ra size off s
  | .rsld g ra size off => Sys2Proof.Machine.execRsld g ra size off s
  | .ldl g word bit => Sys2Proof.Machine.execLdl g word bit s
  | .ldln g word bit => Sys2Proof.Machine.execLdln g word bit s
  | .ird g rd word => Sys2Proof.Machine.execIrd g rd word s
  | .andl g word bit => Sys2Proof.Machine.execAndl g word bit s
  | .andln g word bit => Sys2Proof.Machine.execAndln g word bit s
  | .orl g word bit => Sys2Proof.Machine.execOrl g word bit s
  | .orln g word bit => Sys2Proof.Machine.execOrln g word bit s
  | .xorl g word bit => Sys2Proof.Machine.execXorl g word bit s
  | .ldlp g word bit => Sys2Proof.Machine.execLdlp g word bit s
  | .ldlpn g word bit => Sys2Proof.Machine.execLdlpn g word bit s
  | .stl g word bit => Sys2Proof.Machine.execStl g word bit s
  | .stln g word bit => Sys2Proof.Machine.execStln g word bit s
  | .setb g word bit => Sys2Proof.Machine.execSetb g word bit s
  | .rstb g word bit => Sys2Proof.Machine.execRstb g word bit s
  | .iwr g rd word => Sys2Proof.Machine.execIwr g rd word s
  | .iwrb g rd word bit => Sys2Proof.Machine.execIwrb g rd word bit s
  | .ldlx g ra => Sys2Proof.Machine.execLdlx g ra s
  | .irdx g rd ra => Sys2Proof.Machine.execIrdx g rd ra s
  | .stlx g ra => Sys2Proof.Machine.execStlx g ra s
  | .iwrx g rd ra rb => Sys2Proof.Machine.execIwrx g rd ra rb s
  | .notl g => Sys2Proof.Machine.execNotl g s
  | .lpush g => Sys2Proof.Machine.execLpush g s
  | .lpop g => Sys2Proof.Machine.execLpop g s
  | .andlp g => Sys2Proof.Machine.execAndlp g s
  | .orlp g => Sys2Proof.Machine.execOrlp g s
  | .setl g => Sys2Proof.Machine.execSetl g s
  | .clrl g => Sys2Proof.Machine.execClrl g s
  | .movlr g rd => Sys2Proof.Machine.execMovlr g rd s
  | .movrl g ra => Sys2Proof.Machine.execMovrl g ra s
  | .lcond g cond => Sys2Proof.Machine.execLcond g cond s
  | .br g cond off => Sys2Proof.Machine.execBr g cond off s
  | .call g cond off => Sys2Proof.Machine.execCall g cond off s
  | .jr g ra => Sys2Proof.Machine.execJr g ra s
  | .callr g ra => Sys2Proof.Machine.execCallr g ra s
  | .ret g => Sys2Proof.Machine.execRet g s
  | .nop g => Sys2Proof.Machine.execNop g s
  | .end_ g => Sys2Proof.Machine.execEnd_ g s
  | .commit g => Sys2Proof.Machine.execCommit g s
  | .wfe g => Sys2Proof.Machine.execWfe g s
  | .sev g line => Sys2Proof.Machine.execSev g line s
  | .waitt g r => Sys2Proof.Machine.execWaitt g r s
  | .trap g imm => Sys2Proof.Machine.execTrap g imm s
  | .mfcr g r cr => Sys2Proof.Machine.execMfcr g r cr s
  | .mtcr g cr r => Sys2Proof.Machine.execMtcr g cr r s
  | .rett g => Sys2Proof.Machine.execRett g s
  | .undef g insn => Sys2Proof.Machine.execUndef g insn s
  | .fabricResponse m own => Sys2Proof.Machine.execFabricResponse m own s
  | .fabricTimeout m => Sys2Proof.Machine.execFabricTimeout m s
  | .cyclicRelease g => Sys2Proof.Machine.execCyclicRelease g s
  | .heldRelease g => Sys2Proof.Machine.execHeldRelease g s
  | .backgroundRelease g => Sys2Proof.Machine.execBackgroundRelease g s
  | .eventLinesArmed => Sys2Proof.Machine.execEventLinesArmed s
  | .budgetOverrun g => Sys2Proof.Machine.execBudgetOverrun g s
  | .deadlineMiss g => Sys2Proof.Machine.execDeadlineMiss g s
  | .keyInputChange keya keyb => Sys2Proof.Machine.execKeyInputChange keya keyb s
  | .keyChange => Sys2Proof.Machine.execKeyChange s
  | .stopLimit => Sys2Proof.Machine.execStopLimit s
  | .start r => Sys2Proof.Machine.execStart r s
  | .stop r => Sys2Proof.Machine.execStop r s
  | .restartTask r g => Sys2Proof.Machine.execRestartTask r g s
  | .ctxReltimeLoRead g h => Sys2Proof.Machine.execCtxReltimeLoRead g h s
  | .commitComplete => Sys2Proof.Machine.execCommitComplete s
  | .journalRoom => Sys2Proof.Machine.execJournalRoom s
  | .heldPublication src => Sys2Proof.Machine.execHeldPublication src s
  | .sweepComplete => Sys2Proof.Machine.execSweepComplete s
  | .systemUpdate => Sys2Proof.Machine.execSystemUpdate s
  | .forceSet r => Sys2Proof.Machine.execForceSet r s
  | .forceClear r => Sys2Proof.Machine.execForceClear r s
  | .forceClearAll r => Sys2Proof.Machine.execForceClearAll r s
  | .waittWake g => Sys2Proof.Machine.execWaittWake g s
  | .setpointApply tgt => Sys2Proof.Machine.execSetpointApply tgt s
  | .setpointChanged tgt => Sys2Proof.Machine.execSetpointChanged tgt s
  | .setpointRefused tgt => Sys2Proof.Machine.execSetpointRefused tgt s
  | .supplyBelowBand n => Sys2Proof.Machine.execSupplyBelowBand n s
  | .islandSupplyLow n => Sys2Proof.Machine.execIslandSupplyLow n s
  | .checkerCompare p item => Sys2Proof.Machine.execCheckerCompare p item s
  | .comparatorStep p found => Sys2Proof.Machine.execComparatorStep p found s
  | .repeatComparatorTest r p => Sys2Proof.Machine.execRepeatComparatorTest r p s
  | .debugHalt g => Sys2Proof.Machine.execDebugHalt g s
  | .debugResume g => Sys2Proof.Machine.execDebugResume g s
  | .loadSlot r slot fail => Sys2Proof.Machine.execLoadSlot r slot fail s
  | .apply r => Sys2Proof.Machine.execApply r s
  | .accept r => Sys2Proof.Machine.execAccept r s
  | .revert r => Sys2Proof.Machine.execRevert r s
  | .cancel r => Sys2Proof.Machine.execCancel r s
  | .readyTime => Sys2Proof.Machine.execReadyTime s
  | .switchInstant => Sys2Proof.Machine.execSwitchInstant s
  | .migration g => Sys2Proof.Machine.execMigration g s
  | .revertSwitch => Sys2Proof.Machine.execRevertSwitch s
  | .automaticAccept => Sys2Proof.Machine.execAutomaticAccept s
  | .trailReadyTimeout => Sys2Proof.Machine.execTrailReadyTimeout s
  | .scrubRead b => Sys2Proof.Machine.execScrubRead b s
  | .correctedWriteBack b => Sys2Proof.Machine.execCorrectedWriteBack b s
  | .heldWrite b => Sys2Proof.Machine.execHeldWrite b s
  | .marchStart g b v => Sys2Proof.Machine.execMarchStart g b v s
  | .transparentMarch r b => Sys2Proof.Machine.execTransparentMarch r b s
  | .destructiveMarch r b => Sys2Proof.Machine.execDestructiveMarch r b s
  | .marchEnd b o => Sys2Proof.Machine.execMarchEnd b o s
  | .clearRepairs r b => Sys2Proof.Machine.execClearRepairs r b s
  | .nvGrant => Sys2Proof.Machine.execNvGrant s
  | .journalDrain => Sys2Proof.Machine.execJournalDrain s
  | .pageProgram g v => Sys2Proof.Machine.execPageProgram g v s
  | .pageProgramDone n => Sys2Proof.Machine.execPageProgramDone n s
  | .counterFold => Sys2Proof.Machine.execCounterFold s
  | .powerFail mv => Sys2Proof.Machine.execPowerFail mv s
  | .lehrStep3 => Sys2Proof.Machine.execLehrStep3 s
  | .lehrStep5 => Sys2Proof.Machine.execLehrStep5 s
  | .holdupExhausted => Sys2Proof.Machine.execHoldupExhausted s
  | .deviceReset => Sys2Proof.Machine.execDeviceReset s
  | .fieldScan p => Sys2Proof.Machine.execFieldScan p s
  | .filteredStateChange ch samples => Sys2Proof.Machine.execFilteredStateChange ch samples s
  | .noSignal ch => Sys2Proof.Machine.execNoSignal ch s
  | .modeChanged ch => Sys2Proof.Machine.execModeChanged ch s
  | .wireBreak ch ua n => Sys2Proof.Machine.execWireBreak ch ua n s
  | .wireRestored ch ua n => Sys2Proof.Machine.execWireRestored ch ua n s
  | .overload ch ma n => Sys2Proof.Machine.execOverload ch ma n s
  | .overloadClear ch n => Sys2Proof.Machine.execOverloadClear ch n s
  | .openWire ch n => Sys2Proof.Machine.execOpenWire ch n s
  | .openWireClear ch n => Sys2Proof.Machine.execOpenWireClear ch n s
  | .readbackMismatch ch pin n => Sys2Proof.Machine.execReadbackMismatch ch pin n s
  | .readbackAgree ch n => Sys2Proof.Machine.execReadbackAgree ch n s
  | .groupOvercurrent gr ma n => Sys2Proof.Machine.execGroupOvercurrent gr ma n s
  | .groupOcEnd gr => Sys2Proof.Machine.execGroupOcEnd gr s
  | .thermalShutdown ch => Sys2Proof.Machine.execThermalShutdown ch s
  | .thermalRestart ch => Sys2Proof.Machine.execThermalRestart ch s
  | .linkFault ch down us => Sys2Proof.Machine.execLinkFault ch down us s
  | .linkRestored ch down => Sys2Proof.Machine.execLinkRestored ch down s
  | .vfLow gr mv => Sys2Proof.Machine.execVfLow gr mv s
  | .vfRestored gr mv => Sys2Proof.Machine.execVfRestored gr mv s
  | .lineCycle k samples => Sys2Proof.Machine.execLineCycle k samples s
  | .gainSwitch ch => Sys2Proof.Machine.execGainSwitch ch s
  | .energyUpdate k => Sys2Proof.Machine.execEnergyUpdate k s
  | .pulseStart ps => Sys2Proof.Machine.execPulseStart ps s
  | .pulseEnd ps => Sys2Proof.Machine.execPulseEnd ps s
  | .energyRecordWrite => Sys2Proof.Machine.execEnergyRecordWrite s
  | .resetRegisters r k => Sys2Proof.Machine.execResetRegisters r k s
  | .calBegin r ch => Sys2Proof.Machine.execCalBegin r ch s
  | .calCommit r ch => Sys2Proof.Machine.execCalCommit r ch s
  | .calAbort r ch => Sys2Proof.Machine.execCalAbort r ch s
  | .calTimeout => Sys2Proof.Machine.execCalTimeout s
  | .linkChange pt up speed => Sys2Proof.Machine.execLinkChange pt up speed s
  | .frameReceived pt f => Sys2Proof.Machine.execFrameReceived pt f s
  | .lanFault x lan => Sys2Proof.Machine.execLanFault x lan s
  | .lifecheck x => Sys2Proof.Machine.execLifecheck x s
  | .arpRequest f target sender => Sys2Proof.Machine.execArpRequest f target sender s
  | .icmpEcho f target sender data => Sys2Proof.Machine.execIcmpEcho f target sender data s
  | .transmitRing f => Sys2Proof.Machine.execTransmitRing f s
  | .ptpMessage m => Sys2Proof.Machine.execPtpMessage m s
  | .announceTimeout => Sys2Proof.Machine.execAnnounceTimeout s
  | .gooseFrame f => Sys2Proof.Machine.execGooseFrame f s
  | .gooseTalExpired k => Sys2Proof.Machine.execGooseTalExpired k s
  | .gooseRepetition p => Sys2Proof.Machine.execGooseRepetition p s
  | .svFrame f => Sys2Proof.Machine.execSvFrame f s
  | .svLost k => Sys2Proof.Machine.execSvLost k s
  | .canFrameReceived c f => Sys2Proof.Machine.execCanFrameReceived c f s
  | .txreq g c m v done => Sys2Proof.Machine.execTxreq g c m v done s
  | .canAbort g c m => Sys2Proof.Machine.execCanAbort g c m s
  | .transmissionComplete c m o delay => Sys2Proof.Machine.execTransmissionComplete c m o delay s
  | .busOffRecovery c => Sys2Proof.Machine.execBusOffRecovery c s
  | .busIntegration c => Sys2Proof.Machine.execBusIntegration c s
  | .sleep r c => Sys2Proof.Machine.execSleep r c s
  | .wake r c => Sys2Proof.Machine.execWake r c s
  | .recover r c => Sys2Proof.Machine.execRecover r c s
  | .canWake c w => Sys2Proof.Machine.execCanWake c w s
  | .sessionOpen r mode role phase payload => Sys2Proof.Machine.execSessionOpen r mode role phase payload s
  | .sessionClose r => Sys2Proof.Machine.execSessionClose r s
  | .read r idx sub => Sys2Proof.Machine.execRead r idx sub s
  | .write r idx sub ty data => Sys2Proof.Machine.execWrite r idx sub ty data s
  | .readBlock r idx sub off dlen => Sys2Proof.Machine.execReadBlock r idx sub off dlen s
  | .writeBlock r idx sub off total data => Sys2Proof.Machine.execWriteBlock r idx sub off total data s
  | .enum r idx sub count => Sys2Proof.Machine.execEnum r idx sub count s
  | .abort r idx sub => Sys2Proof.Machine.execAbort r idx sub s
  | .halfOpenTimeout sid => Sys2Proof.Machine.execHalfOpenTimeout sid s
  | .sessionIdle sid => Sys2Proof.Machine.execSessionIdle sid s
  | .blockTimeout sid => Sys2Proof.Machine.execBlockTimeout sid s
  | .authLockoutEnd tr => Sys2Proof.Machine.execAuthLockoutEnd tr s
  | .mdpCanFrame c ctl data => Sys2Proof.Machine.execMdpCanFrame c ctl data s
  | .assemblyTimeout c => Sys2Proof.Machine.execAssemblyTimeout c s
  | .usbByteTimeout bytes ms => Sys2Proof.Machine.execUsbByteTimeout bytes ms s
  | .restoreDefaults r => Sys2Proof.Machine.execRestoreDefaults r s
  | .cancelRestore r => Sys2Proof.Machine.execCancelRestore r s
  | .hierarchyCycle => Sys2Proof.Machine.execHierarchyCycle s
  | .slotStart w => Sys2Proof.Machine.execSlotStart w s
  | .exchangeClose w => Sys2Proof.Machine.execExchangeClose w s
  | .down f => Sys2Proof.Machine.execDown f s
  | .up f => Sys2Proof.Machine.execUp f s
  | .heartbeat f => Sys2Proof.Machine.execHeartbeat f s
  | .heartbeatTimer => Sys2Proof.Machine.execHeartbeatTimer s
  | .noManager => Sys2Proof.Machine.execNoManager s
  | .silent w => Sys2Proof.Machine.execSilent w s
  | .link1 f => Sys2Proof.Machine.execLink1 f s
  | .link2 f => Sys2Proof.Machine.execLink2 f s
  | .link3 f => Sys2Proof.Machine.execLink3 f s
  | .link4 f => Sys2Proof.Machine.execLink4 f s
  | .quoteReq f => Sys2Proof.Machine.execQuoteReq f s
  | .quote f => Sys2Proof.Machine.execQuote f s
  | .quoteRepeat w => Sys2Proof.Machine.execQuoteRepeat w s
  | .linkRenewal w => Sys2Proof.Machine.execLinkRenewal w s
  | .keyOverlapEnd w => Sys2Proof.Machine.execKeyOverlapEnd w s
  | .requestQuote r w => Sys2Proof.Machine.execRequestQuote r w s
  | .arm r => Sys2Proof.Machine.execArm r s
  | .stagedCancel r => Sys2Proof.Machine.execStagedCancel r s
  | .activationBoundary => Sys2Proof.Machine.execActivationBoundary s
  | .tandemCycle => Sys2Proof.Machine.execTandemCycle s
  | .trailCycleStart => Sys2Proof.Machine.execTrailCycleStart s
  | .laggedRelease g => Sys2Proof.Machine.execLaggedRelease g s
  | .cycle f => Sys2Proof.Machine.execCycle f s
  | .publish f => Sys2Proof.Machine.execPublish f s
  | .scan f => Sys2Proof.Machine.execScan f s
  | .tandemRelease f => Sys2Proof.Machine.execTandemRelease f s
  | .netseq f => Sys2Proof.Machine.execNetseq f s
  | .check f => Sys2Proof.Machine.execCheck f s
  | .health f => Sys2Proof.Machine.execHealth f s
  | .healthTimer bits => Sys2Proof.Machine.execHealthTimer bits s
  | .partnerHealthLost => Sys2Proof.Machine.execPartnerHealthLost s
  | .command f => Sys2Proof.Machine.execCommand f s
  | .copy f => Sys2Proof.Machine.execCopy f s
  | .auth f => Sys2Proof.Machine.execAuth f s
  | .scanTimeout => Sys2Proof.Machine.execScanTimeout s
  | .outputDisagree ch partner node n => Sys2Proof.Machine.execOutputDisagree ch partner node n s
  | .cycleTimeout => Sys2Proof.Machine.execCycleTimeout s
  | .join partner => Sys2Proof.Machine.execJoin partner s
  | .joinTimeout => Sys2Proof.Machine.execJoinTimeout s
  | .rejoinTimer => Sys2Proof.Machine.execRejoinTimer s
  | .switchover r => Sys2Proof.Machine.execSwitchover r s
  | .rejoin r => Sys2Proof.Machine.execRejoin r s
  | .intlkReleased => Sys2Proof.Machine.execIntlkReleased s
  | .intlkClaim => Sys2Proof.Machine.execIntlkClaim s
  | .presInChange high => Sys2Proof.Machine.execPresInChange high s
  | .ppsEdge => Sys2Proof.Machine.execPpsEdge s
  | .ppsTimeout => Sys2Proof.Machine.execPpsTimeout s
  | .holdoverLimit => Sys2Proof.Machine.execHoldoverLimit s
  | .listeningLimit => Sys2Proof.Machine.execListeningLimit s
  | .ppsOut => Sys2Proof.Machine.execPpsOut s
  | .timeMatch k => Sys2Proof.Machine.execTimeMatch k s
  | .tmHiWrite g k v => Sys2Proof.Machine.execTmHiWrite g k v s
  | .setTime r tai => Sys2Proof.Machine.execSetTime r tai s
  | .setRtc r utc => Sys2Proof.Machine.execSetRtc r utc s
  | .clearStamp r => Sys2Proof.Machine.execClearStamp r s
  | .rtcSwitch mainMv vbakMv => Sys2Proof.Machine.execRtcSwitch mainMv vbakMv s
  | .rtcSwitchBack mainMv vbakMv => Sys2Proof.Machine.execRtcSwitchBack mainMv vbakMv s
  | .rtcSupplyLoss => Sys2Proof.Machine.execRtcSupplyLoss s
  | .calendarAdvance => Sys2Proof.Machine.execCalendarAdvance s
  | .rtcSetsecWrite m v => Sys2Proof.Machine.execRtcSetsecWrite m v s
  | .calendarLoad => Sys2Proof.Machine.execCalendarLoad s
  | .rtcCal0Read g => Sys2Proof.Machine.execRtcCal0Read g s
  | .rtcTbloRead g => Sys2Proof.Machine.execRtcTbloRead g s
  | .resync => Sys2Proof.Machine.execResync s
  | .engineTimeout e bad => Sys2Proof.Machine.execEngineTimeout e bad s
  | .contextStalled g => Sys2Proof.Machine.execContextStalled g s
  | .coreWatchdog n => Sys2Proof.Machine.execCoreWatchdog n s
  | .coreReloaded n ok => Sys2Proof.Machine.execCoreReloaded n ok s
  | .wdgExpired => Sys2Proof.Machine.execWdgExpired s
  | .wdgService m answer => Sys2Proof.Machine.execWdgService m answer s
  | .wdgQRead m => Sys2Proof.Machine.execWdgQRead m s
  | .wdgCfgWrite m tc tmo => Sys2Proof.Machine.execWdgCfgWrite m tc tmo s
  | .gafferSelfWdg pc => Sys2Proof.Machine.execGafferSelfWdg pc s
  | .wdgChkin g key => Sys2Proof.Machine.execWdgChkin g key s
  | .intervalStart => Sys2Proof.Machine.execIntervalStart s
  | .intervalClose => Sys2Proof.Machine.execIntervalClose s
  | .checkinFaultAction => Sys2Proof.Machine.execCheckinFaultAction s
  | .clearEvidence r => Sys2Proof.Machine.execClearEvidence r s
  | .recordWrite => Sys2Proof.Machine.execRecordWrite s
  | .tokenRefill code => Sys2Proof.Machine.execTokenRefill code s
  | .recDoneloRead g => Sys2Proof.Machine.execRecDoneloRead g s
  | .recOldloRead g => Sys2Proof.Machine.execRecOldloRead g s
  | .once r det => Sys2Proof.Machine.execOnce r det s
  | .hold r det => Sys2Proof.Machine.execHold r det s
  | .release r det => Sys2Proof.Machine.execRelease r det s
  | .provisionOwnerKey r key => Sys2Proof.Machine.execProvisionOwnerKey r key s
  | .revokeOwnerSlot r k => Sys2Proof.Machine.execRevokeOwnerSlot r k s
  | .immediate r t => Sys2Proof.Machine.execImmediate r t s
  | .atReset r t => Sys2Proof.Machine.execAtReset r t s
  | .scheduled r t => Sys2Proof.Machine.execScheduled r t s
  | .hot r t => Sys2Proof.Machine.execHot r t s
  | .discard r t => Sys2Proof.Machine.execDiscard r t s
  | .gafferRestart => Sys2Proof.Machine.execGafferRestart s
  | .confirmFirmware r => Sys2Proof.Machine.execConfirmFirmware r s
  | .autoConfirm => Sys2Proof.Machine.execAutoConfirm s
  | .quoteNonce r nonce => Sys2Proof.Machine.execQuoteNonce r nonce s
  | .resetDevice r => Sys2Proof.Machine.execResetDevice r s
  | .powerOnReset mv => Sys2Proof.Machine.execPowerOnReset mv s
  | .startStep2 recover marches comp => Sys2Proof.Machine.execStartStep2 recover marches comp s
  | .startStep10 => Sys2Proof.Machine.execStartStep10 s
  | .resetNLow ticks => Sys2Proof.Machine.execResetNLow ticks s
  | .vinHigh mv ms => Sys2Proof.Machine.execVinHigh mv ms s
  | .registerWrite m addr size v ev => Sys2Proof.Machine.execRegisterWrite m addr size v ev s
  | .canReceiveError c lec => Sys2Proof.Machine.execCanReceiveError c lec s
  | .intlkHeld => Sys2Proof.Machine.execIntlkHeld s
  | .ptpTransmitInterval pt => Sys2Proof.Machine.execPtpTransmitInterval pt s

end Sys2Proof.Machine
end

