-- ==== Sys2Proof/Machine/Tick.lean ====
section
/-! DEFINITION. What an empty queue does: one nanosecond of the crystal passes, and what drains by itself drains
(DESIGN CHOICE, log entry 8). -/

namespace Sys2Proof.Machine

/-- The time base over one nanosecond (R639, R641): the corrected rate gathers in `frac`, and a slew moves it by one nanosecond at most once
in 5,000, that is at most 200 ppm; whether it moves at such an instant is open. It never runs backward. -/
def Time.tick (t : Time) (clk : Nat) (move : Bool) : Time :=
  let f := t.frac + t.rate
  if clk % 5000 = 0 ∧ move ∧ t.slew ≠ 0 then
    let d : Int := if 0 < t.slew then 1 else -1
    { t with tb := t.tb + 1 + BitVec.ofInt 64 d, slew := t.slew - d, frac := f }
  else if 1000000000 ≤ f then { t with tb := t.tb + 2, frac := f - 1000000000 }
  else if f ≤ -1000000000 then { t with frac := f + 1000000000 }
  else { t with tb := t.tb + 1, frac := f }

/-- Every port sends its next frame (R467). -/
def Net.tick (n : Net) (clk : Nat) : Net := { n with port := n.port.map (·.sendNext clk) }

/-- The tandem link sends its next frame (R630). -/
def Tdm.tick (t : Tdm) : Tdm :=
  match t.tx with
  | f :: r => { t with tx := r, wire := f.bytes t.keys }
  | [] => t

/-- Whether a forwarded assertion is due: 40 µs after LEAD's (R615). -/
def State.lineDue (s : State) (l : Nat × Word64) : Bool := decide (l.2.toNat + 40000 ≤ s.time.tb.toNat)

/-- Forwarded assertions that are due take place on a TRAIL (R615). -/
def State.applyLines (s : State) : State :=
  let due := s.tdm.lines.filter s.lineDue
  let s := s.modTdm fun t => { t with lines := t.lines.filter fun l => !due.contains l }
  due.foldl (fun s l => s.forwardedLine l.1) s

/-- Whether `g` stalls its core: its transaction has no response yet, or its COMMIT is not complete (R69, R140). While another context runs it
does not. -/
def State.stalls (s : State) (g : Gctx) : Bool :=
  ((s.cx g).act.status == .committing false && s.core[coreOf g].up)
    || ((s.cx g).port.txn.isSome && (s.cx g).port.held.isNone && s.running g)

/-- One nanosecond of stall at `mhz`: whole core cycles enter the budget counter (R69). -/
def Act.stalled (a : Act) (mhz : Nat) : Act := { a with used := a.used + (a.stall + mhz) / 1000, stall := (a.stall + mhz) % 1000 }

/-- The stalls of this nanosecond. -/
def State.stallAll (s : State) : State :=
  { s with ctx := Vector.ofFn fun g => let c := s.ctx[g]; if s.stalls g then { c with act := c.act.stalled (s.setpt (g.val / 8)) } else c }

/-- One nanosecond passes with no command waiting. While the module is off only the crystal's count goes on. -/
def State.tick (s : State) : State :=
  if !s.on then { s with clk := s.clk + 1, freeCtr := s.freeCtr + 1 }
  else
    let s := s.stallAll
    let s := { s with
      clk := s.clk + 1, freeCtr := s.freeCtr + 1, time := s.time.tick (s.clk + 1) s.freeBool
      net := s.net.tick s.clk, tdm := s.tdm.tick }
    ((s.startTx 0).startTx 1).applyLines

end Sys2Proof.Machine
end

