-- ==== Sys2Proof/Safety.lean ====
section
/-! DEFINITION. What counts as a safe outcome, and the terms in which claims are stated: what a retired and a trapped
instruction leave, and what a command leaves unchanged. -/

namespace Sys2Proof.Safety

open Sys2Proof.Machine

/-- A command or a step that goes on to a next state. -/
def GoesOn (o : Host.Outcome State Fault Refusal) : Prop := ∃ t, o = .next t

/-- A state from which the next step goes on. -/
def Safe (s : State) : Prop := GoesOn (step s)

/-! ## Instructions -/

/-- The fetch of `g` meets no correctable error, and in a paired activation none at all in the checker's core bank (R240, R320,
R321). -/
def CleanFetch (s : State) (g : Gctx) : Prop :=
  let pc := (s.cx g).regs.pc.toNat
  let b := cbOf (checkerCore g)
  s.meetsCe (cbOf (coreOf g)) pc = false ∧
    ((s.cx g).act.paired = true → s.meetsUe b (pc + 0x80000) = false ∧ s.meetsCe b (pc + 0x80000) = false)

/-- Context `g` issues an instruction: it is the running context of its core (R73–R76), no mismatch action is due (R262), no
transaction of it is in flight (R215), its pair unit holds nothing it must wait for (R247), its fetch is good (R206) and
detector 122 does not replace the instruction by a trap (R714). -/
def Issues (s : State) (g : Gctx) : Prop :=
  s.running g = true ∧ ((s.cx g).act.owed && !(s.cx g).act.broken) = false ∧ (s.cx g).port.txn = none ∧ s.pairWait g = false ∧
    s.fetchStatus g = 0 ∧ CleanFetch s g ∧ s.injFor 122 g.val = false

/-- Only context `g` and counters of retired instructions differ between `s` and `t`; of `g` its registers, its budget
counter, and what is kept of its last retirement. -/
def OnlyRegs (s t : State) (g : Gctx) : Prop :=
  t = { s with ctx := t.ctx, core := t.core } ∧ (∀ h, h ≠ g → t.cx h = s.cx h) ∧
    t.cx g = { s.cx g with
      regs := (t.cx g).regs
      act := { (s.cx g).act with used := (t.cx g).act.used, retiredAt := (t.cx g).act.retiredAt, lastPc := (t.cx g).act.lastPc } } ∧
    ∀ n : CoreId, t.core[n] = { s.core[n] with retired := t.core[n].retired, lastRetire := t.core[n].lastRetire }

/-- The instruction that command `c` issues for `g` retires in `cycles` cycles with registers `r`, and changes nothing
else. -/
def Retires (c : Instr) (s : State) (g : Gctx) (cycles : Nat) (r : Regs) : Prop :=
  ∃ t, exec c s = .next t ∧ OnlyRegs s t g ∧ (t.cx g).regs = r ∧ (t.cx g).act.used = (s.cx g).act.used + cycles

/-- Every general register reads as before, but `rd` reads `x`, unless it is g0 (R197). -/
def Wrote (r r' : Regs) (rd : Reg) (x : Word) : Prop := ∀ i, r'.get i = if i = rd ∧ rd ≠ 0 then x else r.get i

/-- An instruction that writes `x` to `rd`, sets Z and N from it and goes on to the next word. -/
def RetiresZN (c : Instr) (s : State) (g : Gctx) (rd : Reg) (x : Word) : Prop :=
  ∃ r, Retires c s g 1 r ∧ Wrote (s.cx g).regs r rd x ∧
    r = { (s.cx g).regs with pc := (s.cx g).regs.pc + 4, g := r.g, z := decide (x = 0), n := x.msb }

/-- An instruction that writes the sum of `a`, `b` and a carry `ci` to `rd` and sets Z, N, C and V: C is the carry out of bit
31, V says that the sum of the signed numbers does not fit 32 bits. -/
def RetiresSum (c : Instr) (s : State) (g : Gctx) (rd : Reg) (a b : Word) (ci : Bool) : Prop :=
  ∃ r, Retires c s g 1 r ∧ Wrote (s.cx g).regs r rd (a + b + BitVec.ofNat 32 ci.toNat) ∧
    r = { (s.cx g).regs with
      pc := (s.cx g).regs.pc + 4, g := r.g
      z := decide (a + b + BitVec.ofNat 32 ci.toNat = 0), n := (a + b + BitVec.ofNat 32 ci.toNat).msb
      c := decide (2 ^ 32 ≤ a.toNat + b.toNat + ci.toNat)
      v := decide (a.toInt + b.toInt + ci.toNat < -2 ^ 31 ∨ 2 ^ 31 ≤ a.toInt + b.toInt + ci.toNat) }

/-- Context `g` takes a trap (R166): the trap registers take cause, fabric status, word and address, TRAPACT is set, privilege is
S, execution goes on at TRAPVEC, three cycles are counted; flags, L, stacks and general registers stay; nothing else changes. -/
def TrapTaken (s t : State) (g : Gctx) (insn : Word) (cause status : BitVec 8) (addr : Word) : Prop :=
  t = { s with ctx := t.ctx } ∧ (∀ h, h ≠ g → t.cx h = s.cx h) ∧
    t.cx g = { s.cx g with
      act := { (s.cx g).act with used := (s.cx g).act.used + 3 }
      regs := { (s.cx g).regs with
        trappc := (s.cx g).regs.pc, trapinsn := insn, trapaddr := addr, cause := cause, status := status
        prevpriv := (s.cx g).regs.priv, trapPaired := (s.cx g).act.paired, trapInj := false
        trapact := true, priv := true, pc := (s.cx g).regs.trapvec } }

/-- The pair unit of `g` takes one item more, with what leaves once it has been compared (R246, R247); nothing else changes. -/
def Hands (s t : State) (g : Gctx) (item : LaneItem) (rel : Release) : Prop :=
  t = { s with pair := t.pair } ∧
    (∀ p : PairId, t.pair[p] = if p = pairOf g then
      { s.pair[p] with items := s.pair[p].items ++ [{ item := item, pc := (s.cx g).regs.pc, ctx := g, rel := rel }] } else s.pair[p])

/-- The instruction that command `c` issues for `g`, with word `insn`, traps (R166). In a paired activation its pair unit compares the
trap first, and a mismatch goes ahead of it (R246, R254). -/
def Traps (c : Instr) (s : State) (g : Gctx) (insn : Word) (cause status : BitVec 8) (addr : Word) : Prop :=
  ∃ t, exec c s = .next t ∧
    ((s.cx g).act.paired = false → TrapTaken s t g insn cause status addr) ∧
    ((s.cx g).act.paired = true → Hands s t g (sysItem 6 cause.toNat) (.trap insn cause.toNat status.toNat addr))

/-- An instruction that retires with registers `r` and, in a paired activation, hands its pair unit an item (R246). -/
def RetiresItem (c : Instr) (s : State) (g : Gctx) (cycles : Nat) (r : Regs) : Prop :=
  ∃ t, exec c s = .next t ∧ OnlyRegs { s with pair := t.pair } t g ∧ (t.cx g).regs = r ∧
    (t.cx g).act.used = (s.cx g).act.used + cycles ∧ ((s.cx g).act.paired = false → t.pair = s.pair) ∧
    ∀ p : PairId, p ≠ pairOf g → t.pair[p] = s.pair[p]

/-- An instruction that writes `x` to `rd`, leaves the flags, goes on to the next word and, in a paired activation, hands its
pair unit an item. -/
def RetiresLoad (c : Instr) (s : State) (g : Gctx) (cycles : Nat) (rd : Reg) (x : Word) : Prop :=
  ∃ r, RetiresItem c s g cycles r ∧ Wrote (s.cx g).regs r rd x ∧
    r = { (s.cx g).regs with pc := (s.cx g).regs.pc + 4, g := r.g }

/-- Address `a` lies in the core bank of `g`, outside a half that the loader keeps (R287), its word carries no error mark, no other
access meets it in this bank cycle (R313), and no injection touches the access (R240, R320, R321, R714). -/
def OwnWord (s : State) (g : Gctx) (a : Nat) : Prop :=
  a / 0x80000 = g.val / 8 ∧ s.stagingHeld g a = false ∧ s.meets (cbOf (coreOf g)) a = none ∧ s.errAt a = 0 ∧ s.injOn (48 + g.val / 8) = false ∧ s.injOn (59 + g.val / 8) = false ∧
    s.injFor 123 g.val = false

/-- An unpaired instruction that stores the `n` low bytes of `v` at `a` and retires in one cycle with registers `r`. Of memory
only these bytes change, of the banks only the count of atomics of the own core bank, by `atomics`; of the context besides
its registers the list of retained words that changed (R68). -/
def Stores (c : Instr) (s : State) (g : Gctx) (a n v atomics : Nat) (r : Regs) : Prop :=
  ∃ t, exec c s = .next t ∧
    (∀ x, rdByte t.mem x = if a ≤ x ∧ x < a + n then BitVec.ofNat 8 (v / 256 ^ (x - a)) else rdByte s.mem x) ∧
    t = { s with mem := t.mem, errs := t.errs, bank := t.bank, ctx := t.ctx, core := t.core } ∧
    (swf 0 s.errs = true → ∀ w, w ≠ a / 4 → sget 0 t.errs w = sget 0 s.errs w) ∧
    (∀ b : BankId, t.bank[b] = if b.val = g.val / 8 then { s.bank[b] with atomCnt := s.bank[b].atomCnt + atomics } else s.bank[b]) ∧
    (∀ h, h ≠ g → t.cx h = s.cx h) ∧ (t.cx g).act.used = (s.cx g).act.used + 1 ∧
    t.cx g = { s.cx g with
      regs := r
      act := { (s.cx g).act with used := (t.cx g).act.used, retiredAt := (t.cx g).act.retiredAt, lastPc := (t.cx g).act.lastPc }
      img := { (s.cx g).img with dirty := (t.cx g).img.dirty } } ∧
    ∀ n : CoreId, t.core[n] = { s.core[n] with retired := t.core[n].retired, lastRetire := t.core[n].lastRetire }

/-- A staged write that retires in one cycle (R133–R135, R218): reads of output word `w` by the context now show `v` in the
bits of `m`, every other word reads as before; one staging entry more is in use unless the word had one. -/
def Stages (c : Instr) (s : State) (g : Gctx) (w : Nat) (m v : Word) : Prop :=
  ∃ t, exec c s = .next t ∧
    (∀ x y, overlay x y (t.cx g).img.staged =
      if x = w then (overlay x y (s.cx g).img.staged &&& ~~~m) ||| (v &&& m) else overlay x y (s.cx g).img.staged) ∧
    (t.cx g).img.used = (s.cx g).img.used + (if (s.cx g).img.hasEntry w then 0 else 1) ∧
    OnlyRegs { s with pair := t.pair, ctx := s.ctx.set g { s.cx g with img := (t.cx g).img } } t g ∧
    (t.cx g).img = { (s.cx g).img with staged := (t.cx g).img.staged, used := (t.cx g).img.used } ∧
    (t.cx g).regs = { (s.cx g).regs with pc := (s.cx g).regs.pc + 4 } ∧
    (t.cx g).act.used = (s.cx g).act.used + 1 ∧ ((s.cx g).act.paired = false → t.pair = s.pair)

/-- A trap of a staged write that finds its address or its staging region wrong: it stages nothing and keeps a flag of the
context's image status (R135, R136). -/
def TrapsImage (c : Instr) (s : State) (g : Gctx) (insn : Word) (cause : BitVec 8) (addr : Nat) (flag : ImgCtx → ImgCtx) : Prop :=
  let u := s.modImgCtx g flag
  ∃ t, exec c s = .next t ∧
    ((s.cx g).act.paired = false → TrapTaken u t g insn cause 0 (BitVec.ofNat 32 addr)) ∧
    ((s.cx g).act.paired = true → Hands u t g (sysItem 6 cause.toNat) (.trap insn cause.toNat 0 (BitVec.ofNat 32 addr)))

/-- The test of a condition code (R199). -/
def condTrue (r : Regs) (code : Nat) : Bool :=
  if code = 0 then true else if code = 1 then r.l else if code = 2 then r.z else if code = 3 then !r.z
  else if code = 4 then r.c else if code = 5 then !r.c
  else if code = 6 then r.c && !r.z else if code = 7 then !r.c || r.z
  else if code = 8 then r.n == r.v else if code = 9 then r.n != r.v
  else if code = 10 then !r.z && (r.n == r.v) else if code = 11 then r.z || (r.n != r.v)
  else if code = 12 then r.n else if code = 13 then !r.n else if code = 14 then r.v else !r.v

/-! ## Other commands -/

/-- The command goes on to a state of which `p` holds. -/
def Leads (c : Instr) (s : State) (p : State → Prop) : Prop := ∃ t, exec c s = .next t ∧ p t

/-- Context `g` is released (R67, R162): the task in force starts at its entry address with its stack top in g14, every other
register, flag and stack empty, at U, with the gather epoch given and an empty staging region; no other context changes. -/
def Released (s t : State) (g : Gctx) (rel : Word64) (epoch : Word) : Prop :=
  let k := (s.cx g).taskNow
  let x := t.cx g
  x.task = k ∧ x.act.status = .ready ∧ x.act.rel = rel ∧ x.act.used = 0 ∧ x.act.held = false ∧ x.act.overran = false ∧
    x.act.missed = false ∧ x.act.demoted = false ∧ x.regs.pc = k.entry ∧
    (∀ i : Reg, x.regs.get i = if i = 14 then k.stack else 0) ∧
    (x.regs.z = false ∧ x.regs.n = false ∧ x.regs.c = false ∧ x.regs.v = false ∧ x.regs.l = false) ∧
    x.regs.lstack = [] ∧ x.regs.rstack = [] ∧ x.regs.priv = false ∧ x.regs.trapact = false ∧
    x.img.gather = epoch ∧ x.img.staged = [] ∧ x.img.used = 0 ∧ ∀ h, h ≠ g → t.cx h = s.cx h

/-- Context `g` may access the register blocks (R46), and no transaction of it is in flight, so that the access ends none. -/
def RegAccess (s : State) (g : Gctx) : Prop := (s.cx g).port.txn = none ∧ (s.cx g).regs.priv = true

/-! ## Ethernet -/

/-- A stand-alone module or a LEAD without TRAIL sends a frame on interface `f` (R461, R466–R468): it enters the queue of every
port of the interface whose link is up, under the pair's sequence number where the interface is redundant. -/
def Sends (s t : State) (f : Fin 4) (q : Nat) (vid : Option Nat) (body : TxBody) : Prop :=
  let x := npair f
  let fr : TxFrame := ⟨q, vid, if s.pairMode x = 0 then none else some s.net.pair[x].seq, body⟩
  t = { s with net := { s.net with port := t.net.port, pair := t.net.pair } } ∧
  (∀ p : Fin 4, t.net.port[p] = if (p = f ∨ (s.pairMode x ≠ 0 ∧ p = otherPort f)) ∧ s.net.port[p].up = true then
    { s.net.port[p] with queue := s.net.port[p].queue ++ [fr] } else s.net.port[p]) ∧
  ∀ y : Fin 2, t.net.pair[y] = if y = x ∧ s.pairMode x ≠ 0 then { s.net.pair[y] with seq := s.net.pair[y].seq + 1 } else s.net.pair[y]

/-- A punty frame goes to node `w` (R595, R598): on layer 2 with the VID and PCP of the hierarchy, over UDP to the node's IPv4 address
with those of the interface. In a LARGE configuration all but the handshake are protected, take the link's numbers and end with the
tag under its keys. -/
def SendsPunty (s t : State) (kind fl w : Nat) (cycle : Word) (payload : List Byte) : Prop :=
  let b := BitVec.ofNat 8
  let enc := s.large_ && !isLinkKind kind
  let n := sget 0 s.hier.seqOut w + 1
  let seq := if enc then (s.link w).tx + 1 else BitVec.ofNat 32 n
  let u := if enc then s.modLink w fun l => { l with tx := l.tx + 1 } else s.modHier fun h => { h with seqOut := sset 0 h.seqOut w n }
  let f := s.puntyIface
  let flags := b (fl + enc.toNat)
  ∃ tag, (enc = false → tag = []) ∧
    (∀ k, enc = true → (s.link w).keys = some k →
      tag = (sealed k seq (puntyHeader (b kind) flags (b s.node) (b w) cycle seq (payload.length + 16)) payload).drop
        ((sealed k seq (puntyHeader (b kind) flags (b s.node) (b w) cycle seq (payload.length + 16)) payload).length - 16)) ∧
    (s.puntyUdp = false → Sends u t f (queueOf (s.cfg 0x7000 0xC 6)) (vidOf (s.cfg 0x7000 0xB 0xFFFF))
      (.punty (b kind) flags (b s.node) (b w) cycle seq payload tag none)) ∧
    (s.puntyUdp = true → s.pwr.phase ≠ .recovery →
      Sends u t f (queueOf (s.cfg (0x5010 + f.val) 5 0)) (vidOf (s.cfg (0x5010 + f.val) 4 0xFFFF))
        (.punty (b kind) flags (b s.node) (b w) cycle seq payload tag (some (s.puntyIp w))))

/-- A punty frame of type `kind` for this module that keeps R596 and, in a LARGE configuration, is accepted on its link, which then is
`l` (R598). -/
def Heard (s : State) (kind : Byte) (f : PuntyFrame) (u : State) : Prop :=
  f.dst.toNat = s.node ∧ s.puntyCarried = true ∧ f.form = true ∧
    ((s.large_ = false ∧ u = s) ∨ (s.large_ = true ∧ s.injFor 118 f.src.toNat = false ∧
      ∃ l, (s.link f.src.toNat).accept kind f s.clk = some l ∧ u = s.modLink f.src.toNat fun _ => l))

/-! ## Field channels -/

/-- Of channel `d` only the latch of an overload, what it drives and its switching operations may differ (R395, R398, R402). -/
def DrivenOnly (s t : State) (d : Ch) : Prop :=
  t.fld.ch[d] = { s.fld.ch[d] with
    ovl := t.fld.ch[d].ovl, latched := t.fld.ch[d].latched, driven := t.fld.ch[d].driven, volSw := t.fld.ch[d].volSw }

/-- Only channel `c`, what other channels drive, the recorder and the injections differ. -/
def OnlyCh (s t : State) (c : Ch) : Prop :=
  t = { s with fld := { s.fld with ch := t.fld.ch }, rcd := t.rcd, inj := t.inj } ∧ ∀ d, d ≠ c → DrivenOnly s t d

/-- Only group `g`, channels, the recorder and the injections differ. -/
def OnlyGrp (s t : State) (g : Grp) : Prop :=
  t = { s with fld := { s.fld with ch := t.fld.ch, grp := t.fld.grp }, rcd := t.rcd, inj := t.inj } ∧
  ∀ h : Grp, h ≠ g → t.fld.grp[h] = s.fld.grp[h]

/-! ## Resets (R763, R775) -/

/-- What a reset from `s` leaves in `t` (R775): OTP, firmware slots, program slots, record store `m`, persistent dictionary
values and the RTC stay; contexts, output image, forces, edit and bank contents are as after power-on; the state is STOP. -/
def ResetFrom (s t : State) (m : List Host.Cell) : Prop :=
  t.otp = s.otp ∧ t.pending = s.pending ∧ t.clk = s.clk ∧ t.time.rtc = s.time.rtc ∧ t.time.tb = 0 ∧ t.sec.fw = s.sec.fw ∧
  t.sec.active = s.sec.active ∧ t.sec.par = s.sec.par ∧ t.prog.slots = s.prog.slots ∧ t.prog.active = s.prog.active ∧
  t.prog.loaded = false ∧ t.prog.edit = .blank ∧ t.nv.queue = [] ∧ t.nv.inRecall = true ∧ t.nv.lehr = .none ∧
  t.img.out = [] ∧ t.img.forces = [] ∧ t.op.st = .stop ∧ t.op.key = 0 ∧ t.op.rawA = s.op.rawA ∧ t.op.rawB = s.op.rawB ∧
  (∀ g, t.cx g = State.reset.cx g) ∧
  (swf none s.dict.vals = true → ∀ k, sget none t.dict.vals k = if keptKey k then sget none s.dict.vals k else none) ∧
  (Memory.wf m = true → ∀ x, rdByte t.mem x = if nvBase ≤ x then rdByte m x else 0)

/-! ## Requests (R555–R570) -/

/-- The state in which a well-formed message is looked at: what a USB host had sent of another message is gone (R585), and sessions and
transfers whose time is over are closed (R564, R574, R577). -/
def served (s : State) (r : Req) : State :=
  (if r.origin = .usb then s.modDict fun d => { d with usbRx := [] } else s).mdpExpire

/-- The state in which a new request of a session is executed: it is the session's last one from then on (R566, R567). -/
def taken (s : State) (r : Req) (i : Instr) : State :=
  (served s r).modSess r fun y => { y with seq := r.seq, last := some i, resp := none, at_ := (served s r).clk }

/-- The WRITE request of bytes `v` to entry `idx`:`sub` with type `ty`. -/
def writeOf (r : Req) (idx sub ty : Nat) (v : List Byte) : Instr :=
  .write r (BitVec.ofNat 16 idx) (BitVec.ofNat 8 sub) (BitVec.ofNat 8 ty) v

/-- Request `i` is executed: it reaches a serving unit in a sound frame and is well formed (R556, R570, R585), belongs to session `x`,
which has not ended, is protected under the session's keys exactly when the session is authenticated, comes from where the
session was opened, and is new (R566, R567, R577). -/
def Executes (s : State) (r : Req) (x : Session) (i : Instr) : Prop :=
  s.listens r.origin = true ∧ usbSound r = true ∧ framed r i = true ∧ (served s r).session r.session = some x ∧
    x.seq.toNat < r.seq.toNat ∧ (x.auth = true → r.enc = true ∧ ∃ k, x.keys = some k ∧ verifies k r i = true) ∧
    (x.auth = false → r.enc = false ∧ sameSource x.origin r.origin = true)

/-- A write to a command entry (access WO) that is executed and passes every check of R569, on a unit whose TRAIL does not
share it (R618). -/
def Accepted (s : State) (r : Req) (x : Session) (idx sub ty : Nat) (v : List Byte) : Prop :=
  let i := writeOf r idx sub ty v
  let u := taken s r i
  Executes s r x i ∧ s.leadPaired = false ∧ u.objAt idx sub = none ∧ (∃ e, u.findEnt idx sub = some e ∧ e.acc = 2) ∧
    u.writeBars (u.withVal idx sub v) x.role (fromUsb r.origin) (!x.auth) idx sub (some ty) v = none

/-- The module's last response answers request `r` with STATUS `status` (R555, R558). -/
def Answered (t : State) (r : Req) (op status : Nat) : Prop :=
  ∃ m, t.dict.sent = some m ∧ m.origin = r.origin ∧ m.session = r.session ∧ m.seq = r.seq ∧ m.enc = r.enc ∧
    m.op = BitVec.ofNat 8 (0x80 + op) ∧ m.status = BitVec.ofNat 32 status

/-- The module's last response answers request `r` with STATUS `status` and the fields `body` after it (R558). -/
def AnsweredWith (t : State) (r : Req) (op status : Nat) (body : List Byte) : Prop :=
  ∃ m, t.dict.sent = some m ∧ m.origin = r.origin ∧ m.session = r.session ∧ m.seq = r.seq ∧ m.enc = r.enc ∧
    m.op = BitVec.ofNat 8 (0x80 + op) ∧ m.status = BitVec.ofNat 32 status ∧ m.body = body

/-- A write to an entry that is configuration, not a command, set point, application object or source of lines, and that
passes the checks of R569. -/
def PlainWrite (u : State) (x : Session) (usb : Bool) (idx sub : Nat) (ty : Option Nat) (v : List Byte) (e : Ent) : Prop :=
  u.findEnt idx sub = some e ∧ e.acc ≠ 2 ∧ u.objAt idx sub = none ∧ spTarget idx = none ∧ isTrial idx sub = false ∧
  isSource idx sub = false ∧ u.leadPaired = false ∧ u.writeBars (u.withVal idx sub v) x.role usb (!x.auth) idx sub ty v = none

/-- A value has taken the place of an entry's (R541, R564); an equal one changes nothing. Of the other kept values at most that
of the input filter of the same channel differs (R386). -/
def Stored (u t : State) (idx sub : Nat) (e : Ent) (v : List Byte) : Prop :=
  (u.value e idx ≠ v → sget none t.dict.vals (dkey idx sub) = some v) ∧ (u.value e idx = v → t.dict.vals = u.dict.vals) ∧
  ∀ k, k ≠ dkey idx sub → k ≠ dkey idx 3 → sget none t.dict.vals k = sget none u.dict.vals k

/-- An accepted command is answered with STATUS 0 and goes on to a state of which `p` holds. -/
def Performs (c : Instr) (s : State) (r : Req) (idx sub ty : Nat) (v : List Byte) (p : State → Prop) : Prop :=
  ∀ x, Accepted s r x idx sub ty v → Leads c s fun t => Answered t r 4 0 ∧ p t

end Sys2Proof.Safety
end

