-- ==== Sys2Proof/Certificates/Slice0/Obligations.lean ====
section
/-! DEFINITION. The statements about the model, for the provers. -/

open Sys2Proof Sys2Proof.Machine Sys2Proof.Safety

/-! ## Instructions: integer and logic (R197–R212, R224) -/

/-- R210: the ALU instructions that set Z and N; every other flag and register, memory and all other state stay. -/
def Obligations.AluResults : Prop := ∀ (s : State) (g : Gctx) (rd ra rb : Reg), Issues s g →
  let a := (s.cx g).regs.get ra
  let b := (s.cx g).regs.get rb
  RetiresZN (.and_ g rd ra rb) s g rd (a &&& b) ∧
  RetiresZN (.or_ g rd ra rb) s g rd (a ||| b) ∧
  RetiresZN (.xor g rd ra rb) s g rd (a ^^^ b) ∧
  RetiresZN (.andn g rd ra rb) s g rd (a &&& ~~~b) ∧
  RetiresZN (.nor g rd ra rb) s g rd (~~~(a ||| b)) ∧
  RetiresZN (.sll g rd ra rb) s g rd (BitVec.ofNat 32 (a.toNat * 2 ^ (b.toNat % 32))) ∧
  RetiresZN (.srl g rd ra rb) s g rd (BitVec.ofNat 32 (a.toNat / 2 ^ (b.toNat % 32))) ∧
  RetiresZN (.sra g rd ra rb) s g rd (BitVec.ofInt 32 (a.toInt / 2 ^ (b.toNat % 32))) ∧
  RetiresZN (.slt g rd ra rb) s g rd (if a.toInt < b.toInt then 1 else 0) ∧
  RetiresZN (.sltu g rd ra rb) s g rd (if a.toNat < b.toNat then 1 else 0) ∧
  RetiresZN (.mul g rd ra rb) s g rd (a * b) ∧
  RetiresZN (.mulhu g rd ra rb) s g rd (BitVec.ofNat 32 (a.toNat * b.toNat / 2 ^ 32)) ∧
  RetiresZN (.mulhs g rd ra rb) s g rd (BitVec.ofInt 32 (a.toInt * b.toInt / 2 ^ 32))

/-- R198, R210, R212: additions and subtractions set all four flags; CMPI discards its result. In a subtraction C = 1 says
that the first operand is at least the second, and V that the signed difference does not fit. -/
def Obligations.SumsAndDifferences : Prop := ∀ (s : State) (g : Gctx) (rd ra rb : Reg) (imm : BitVec 16), Issues s g →
  let r := (s.cx g).regs
  let a := r.get ra
  let b := r.get rb
  let k := imm.signExtend 32
  RetiresSum (.add g rd ra rb) s g rd a b false ∧
  RetiresSum (.addc g rd ra rb) s g rd a b r.c ∧
  RetiresSum (.subc g rd ra rb) s g rd a (~~~b) r.c ∧
  RetiresSum (.addi g rd ra imm) s g rd a k false ∧
  (∃ q, Retires (.sub g rd ra rb) s g 1 q ∧ Wrote r q rd (a - b) ∧
    q = { r with pc := r.pc + 4, g := q.g, z := decide (a = b), n := (a - b).msb, c := decide (b.toNat ≤ a.toNat)
                 v := decide (a.toInt - b.toInt < -2 ^ 31 ∨ 2 ^ 31 ≤ a.toInt - b.toInt) }) ∧
  Retires (.cmpi g ra imm) s g 1
    { r with pc := r.pc + 4, z := decide (a = k), n := (a - k).msb, c := decide (k.toNat ≤ a.toNat)
             v := decide (a.toInt - k.toInt < -2 ^ 31 ∨ 2 ^ 31 ≤ a.toInt - k.toInt) }

/-- R211: the bit-field instructions, bit by bit; a field beyond bit 31 raises UNDEF (R236). -/
def Obligations.BitFields : Prop := ∀ (s : State) (g : Gctx) (rd ra : Reg) (wm1 pos : BitVec 5), Issues s g →
  let r := (s.cx g).regs
  let a := r.get ra
  let w := wm1.toNat + 1
  let p := pos.toNat
  (p + w ≤ 32 →
    (∃ x, RetiresZN (.bfxu g rd ra wm1 pos) s g rd x ∧ ∀ i, x.getLsbD i = (decide (i < w) && a.getLsbD (p + i))) ∧
    (∃ x, RetiresZN (.bfxs g rd ra wm1 pos) s g rd x ∧
      ∀ i, i < 32 → x.getLsbD i = if i < w then a.getLsbD (p + i) else a.getLsbD (p + w - 1)) ∧
    (∃ x, RetiresZN (.bfi g rd ra wm1 pos) s g rd x ∧
      ∀ i, i < 32 → x.getLsbD i = if p ≤ i ∧ i < p + w then a.getLsbD (i - p) else (r.get rd).getLsbD i)) ∧
  (32 < p + w → r.trapact = false →
    Traps (.bfxu g rd ra wm1 pos) s g (insnBitf 0 rd ra wm1.toNat p) 3 0 0 ∧
    Traps (.bfxs g rd ra wm1 pos) s g (insnBitf 1 rd ra wm1.toNat p) 3 0 0 ∧
    Traps (.bfi g rd ra wm1 pos) s g (insnBitf 2 rd ra wm1.toNat p) 3 0 0)

/-- R212: the immediate instructions that set Z and N. -/
def Obligations.ImmediateResults : Prop := ∀ (s : State) (g : Gctx) (rd ra : Reg) (imm : BitVec 16) (sh : BitVec 5), Issues s g →
  let a := (s.cx g).regs.get ra
  RetiresZN (.slti g rd ra imm) s g rd (if a.toInt < imm.toInt then 1 else 0) ∧
  RetiresZN (.sltiu g rd ra imm) s g rd (if a.toNat < (imm.signExtend 32).toNat then 1 else 0) ∧
  RetiresZN (.andi g rd ra imm) s g rd (a &&& BitVec.ofNat 32 imm.toNat) ∧
  RetiresZN (.ori g rd ra imm) s g rd (a ||| BitVec.ofNat 32 imm.toNat) ∧
  RetiresZN (.xori g rd ra imm) s g rd (a ^^^ BitVec.ofNat 32 imm.toNat) ∧
  RetiresZN (.orhi g rd ra imm) s g rd (a ||| BitVec.ofNat 32 (imm.toNat * 65536)) ∧
  RetiresZN (.lui g rd imm) s g rd (BitVec.ofNat 32 (imm.toNat * 65536)) ∧
  RetiresZN (.slli g rd ra sh) s g rd (BitVec.ofNat 32 (a.toNat * 2 ^ sh.toNat)) ∧
  RetiresZN (.srli g rd ra sh) s g rd (BitVec.ofNat 32 (a.toNat / 2 ^ sh.toNat)) ∧
  RetiresZN (.srai g rd ra sh) s g rd (BitVec.ofInt 32 (a.toInt / 2 ^ sh.toNat))

/-- R224, R201, R202: the logic-bit instructions take 1 cycle and leave the flags; a push onto 8 entries loses the oldest,
a pop of an empty stack takes 0. -/
def Obligations.LogicBits : Prop := ∀ (s : State) (g : Gctx) (rd ra : Reg) (cond : BitVec 4), Issues s g →
  let r := (s.cx g).regs
  let n := { r with pc := r.pc + 4 }
  let top := r.lstack.headD false
  Retires (.notl g) s g 1 { n with l := !r.l } ∧
  Retires (.setl g) s g 1 { n with l := true } ∧
  Retires (.clrl g) s g 1 { n with l := false } ∧
  (r.lstack.length < 8 → Retires (.lpush g) s g 1 { n with lstack := r.l :: r.lstack }) ∧
  (r.lstack.length = 8 → Retires (.lpush g) s g 1 { n with lstack := r.l :: r.lstack.dropLast }) ∧
  Retires (.lpop g) s g 1 { n with l := top, lstack := r.lstack.tail } ∧
  Retires (.andlp g) s g 1 { n with l := r.l && top, lstack := r.lstack.tail } ∧
  Retires (.orlp g) s g 1 { n with l := r.l || top, lstack := r.lstack.tail } ∧
  Retires (.movrl g ra) s g 1 { n with l := decide (r.get ra ≠ 0) } ∧
  Retires (.lcond g cond) s g 1 { n with l := condTrue r cond.toNat } ∧
  ∃ q, Retires (.movlr g rd) s g 1 q ∧ Wrote r q rd (if r.l then 1 else 0) ∧ q = { n with g := q.g }

/-- R225–R227: branches, calls and returns. A taken branch takes 2 cycles; a call with 16 entries on the return stack traps
under RSTRAP and else loses the oldest entry; a return from an empty stack traps. -/
def Obligations.BranchesAndCalls : Prop := ∀ (s : State) (g : Gctx) (ra : Reg) (cond : BitVec 4) (off : BitVec 22), Issues s g →
  let r := (s.cx g).regs
  let n := { r with pc := r.pc + 4 }
  let target := r.pc + 4 * off.signExtend 32
  let a := r.get ra &&& 0xFFFFFFFC
  (condTrue r cond.toNat = true → Retires (.br g cond off) s g 2 { r with pc := target }) ∧
  (condTrue r cond.toNat = false → Retires (.br g cond off) s g 1 n ∧ Retires (.call g cond off) s g 1 n) ∧
  Retires (.jr g ra) s g 2 { r with pc := a } ∧
  (r.rstack.length < 16 →
    (condTrue r cond.toNat = true → Retires (.call g cond off) s g 2 { r with pc := target, rstack := (r.pc + 4) :: r.rstack }) ∧
    Retires (.callr g ra) s g 2 { r with pc := a, rstack := (r.pc + 4) :: r.rstack }) ∧
  (r.rstack.length = 16 → r.rstrap = false →
    (condTrue r cond.toNat = true →
      Retires (.call g cond off) s g 2 { r with pc := target, rstack := (r.pc + 4) :: r.rstack.dropLast }) ∧
    Retires (.callr g ra) s g 2 { r with pc := a, rstack := (r.pc + 4) :: r.rstack.dropLast }) ∧
  (r.rstack.length = 16 → r.rstrap = true → r.trapact = false →
    (condTrue r cond.toNat = true → Traps (.call g cond off) s g (insnB 0x31 cond.toNat off.toNat) 5 0 0) ∧
    Traps (.callr g ra) s g (insnA 0x32 0 ra 0 1) 5 0 0) ∧
  (∀ x rest, r.rstack = x :: rest → Retires (.ret g) s g 2 { r with pc := x &&& 0xFFFFFFFC, rstack := rest }) ∧
  (r.rstack = [] → r.trapact = false → Traps (.ret g) s g (insnA 0x32 0 0 0 2) 6 0 0)


/-! ## Instructions: memory (R159, R213–R217, R228) -/

/-- R213, R228: loads of the own core bank take 1 cycle and write the bytes, zero- or sign-extended; RSLD puts the word below
the bottom entry of the return stack, and traps when that holds 16. -/
def Obligations.OwnBankLoads : Prop := ∀ (s : State) (g : Gctx) (rd ra : Reg) (size : BitVec 2) (off : BitVec 16), Issues s g →
  let r := (s.cx g).regs
  let a := (r.get ra + off.signExtend 32).toNat
  let n := 2 ^ size.toNat
  let x := rdMem s.mem a n
  size ≠ 3 → a % n = 0 → OwnWord s g a → (∀ i ∈ s.pair[pairOf g].items, i.ctx ≠ g) →
  RetiresLoad (.ld g rd ra size off) s g 1 rd (BitVec.ofNat 32 x) ∧
  RetiresLoad (.lds g rd ra size off) s g 1 rd (BitVec.ofInt 32 (if x < 2 ^ (8 * n - 1) then (x : Int) else (x : Int) - 2 ^ (8 * n))) ∧
  (size = 2 → r.rstack.length < 16 →
    RetiresItem (.rsld g ra size off) s g 1 { r with pc := r.pc + 4, rstack := r.rstack ++ [BitVec.ofNat 32 x] }) ∧
  (size = 2 → r.rstack.length = 16 → r.trapact = false → Traps (.rsld g ra size off) s g (insnM 0x26 0 ra.val 2 off.toNat) 5 0 0)

/-- R213, R216, R228: unpaired stores and atomics on the own core bank take 1 cycle. Every byte outside the bytes stored reads
as before. AADD and ASWP return the old word; RSST stores the bottom entry of the return stack and removes it, and traps
when there is none. -/
def Obligations.OwnBankStores : Prop := ∀ (s : State) (g : Gctx) (rd ra : Reg) (size : BitVec 2) (off : BitVec 16), Issues s g →
  let r := (s.cx g).regs
  let a := (r.get ra + off.signExtend 32).toNat
  let n := 2 ^ size.toNat
  let next := { r with pc := r.pc + 4 }
  let old := BitVec.ofNat 32 (rdMem s.mem a 4)
  Memory.wf s.mem = true → (s.cx g).act.paired = false → size ≠ 3 → a % n = 0 → OwnWord s g a →
  (∀ i ∈ s.pair[pairOf g].items, i.ctx ≠ g) →
  Stores (.st g rd ra size off) s g a n ((r.get rd).toNat % 2 ^ (8 * n)) 0 next ∧
  (size = 2 →
    (∃ q, Stores (.aadd g rd ra size off) s g a 4 (old + r.get rd).toNat 1 q ∧ Wrote r q rd old ∧ q = { next with g := q.g }) ∧
    (∃ q, Stores (.aswp g rd ra size off) s g a 4 (r.get rd).toNat 1 q ∧ Wrote r q rd old ∧ q = { next with g := q.g }) ∧
    (∀ top bottom, r.rstack = top ++ [bottom] →
      Stores (.rsst g ra size off) s g a 4 bottom.toNat 0 { next with rstack := top }) ∧
    (r.rstack = [] → r.trapact = false → Traps (.rsst g ra size off) s g (insnM 0x25 0 ra.val 2 off.toNat) 6 0 0))

/-- R246, R247: a paired store on the own core bank retires while it waits in the compare queue; memory is unchanged until it
has been compared. -/
def Obligations.PairedStoreWaits : Prop := ∀ (s : State) (g : Gctx) (rd ra : Reg) (size : BitVec 2) (off : BitVec 16), Issues s g →
  let r := (s.cx g).regs
  let a := r.get ra + off.signExtend 32
  (s.cx g).act.paired = true → size ≠ 3 → a.toNat % 2 ^ size.toNat = 0 → OwnWord s g a.toNat →
  ∃ t i x, exec (.st g rd ra size off) s = .next t ∧ t.mem = s.mem ∧
    t.pair[pairOf g].items = s.pair[pairOf g].items ++ [i] ∧ i.ctx = g ∧ i.pc = r.pc ∧ i.rel = .store a size x ∧
    x.toNat = (r.get rd).toNat % 2 ^ (8 * 2 ^ size.toNat) ∧ i.item.addr = some a ∧ i.item.wdata = some x ∧
    (t.cx g).regs = { r with pc := r.pc + 4 } ∧ OnlyRegs { s with pair := t.pair } t g

/-- R214: a half-word access requires ea[0] = 0, a word access ea[1:0] = 00b; any other access raises ALIGN with TRAPADDR = ea,
before any fabric request. -/
def Obligations.MisalignedAccessTraps : Prop := ∀ (s : State) (g : Gctx) (rd ra : Reg) (size : BitVec 2) (off : BitVec 16), Issues s g →
  let r := (s.cx g).regs
  let a := r.get ra + off.signExtend 32
  r.trapact = false → size ≠ 3 → a.toNat % 2 ^ size.toNat ≠ 0 →
  Traps (.ld g rd ra size off) s g (insnM 0x20 rd.val ra.val size.toNat off.toNat) 4 0 a ∧
  Traps (.lds g rd ra size off) s g (insnM 0x21 rd.val ra.val size.toNat off.toNat) 4 0 a ∧
  Traps (.st g rd ra size off) s g (insnM 0x22 rd.val ra.val size.toNat off.toNat) 4 0 a ∧
  (size = 2 →
    Traps (.aadd g rd ra size off) s g (insnM 0x23 rd.val ra.val 2 off.toNat) 4 0 a ∧
    Traps (.aswp g rd ra size off) s g (insnM 0x24 rd.val ra.val 2 off.toNat) 4 0 a ∧
    Traps (.rsst g ra size off) s g (insnM 0x25 0 ra.val 2 off.toNat) 4 0 a ∧
    Traps (.rsld g ra size off) s g (insnM 0x26 0 ra.val 2 off.toNat) 4 0 a)

/-- R215, R247: an access to any other target than the own core bank does not retire; a transaction is in flight, the next of its core,
until its response arrives. In a paired activation its item goes to the pair unit, and what writes or reaches a register block is
held until it has been compared. Nothing else changes. -/
def Obligations.OtherAccessWaits : Prop := ∀ (s : State) (g : Gctx) (rd ra : Reg) (size : BitVec 2) (off : BitVec 16), Issues s g →
  let r := (s.cx g).regs
  let a := r.get ra + off.signExtend 32
  let x := BitVec.ofNat 32 ((r.get rd).toNat % 2 ^ (8 * 2 ^ size.toNat))
  let waits := fun (c : Instr) (insn : Word) (op : TxnOp) (data : Option Word) =>
    let hold := (s.cx g).act.paired && (data.isSome || decide (0x10000000 ≤ a.toNat))
    let asks := fun (d : Word) => Txn.mk op a size d r.priv insn s.clk s.core[coreOf g].issues (!hold)
    ∃ t d, exec c s = .next t ∧ t = { s with ctx := t.ctx, core := t.core, pair := t.pair } ∧ (∀ h, h ≠ g → t.cx h = s.cx h) ∧
      t.cx g = { s.cx g with port := { (s.cx g).port with txn := some (asks d) } } ∧
      (∀ y, data = some y → d = y) ∧
      (∀ n : CoreId, t.core[n] = if n = coreOf g then { s.core[n] with issues := s.core[n].issues + 1 } else s.core[n]) ∧
      ((s.cx g).act.paired = false → t.pair = s.pair) ∧
      ((s.cx g).act.paired = true → ∃ i, i.addr = some a ∧ i.wdata = data ∧ t.pair[pairOf g].items = s.pair[pairOf g].items ++
        [{ item := i, pc := r.pc, ctx := g, rel := if hold then .send else .none }])
  size ≠ 3 → a.toNat % 2 ^ size.toNat = 0 → a.toNat / 0x80000 ≠ g.val / 8 →
  waits (.ld g rd ra size off) (insnM 0x20 rd.val ra.val size.toNat off.toNat) (.load rd false) none ∧
  waits (.lds g rd ra size off) (insnM 0x21 rd.val ra.val size.toNat off.toNat) (.load rd true) none ∧
  waits (.st g rd ra size off) (insnM 0x22 rd.val ra.val size.toNat off.toNat) .store (some x) ∧
  (size = 2 →
    waits (.aadd g rd ra size off) (insnM 0x23 rd.val ra.val 2 off.toNat) (.aadd rd) (some x) ∧
    waits (.aswp g rd ra size off) (insnM 0x24 rd.val ra.val 2 off.toNat) (.aswp rd) (some x) ∧
    (∀ top bottom, r.rstack = top ++ [bottom] → waits (.rsst g ra size off) (insnM 0x25 0 ra.val 2 off.toNat) .rsst (some bottom)) ∧
    (r.rstack.length < 16 → waits (.rsld g ra size off) (insnM 0x26 0 ra.val 2 off.toNat) .rsld none))

/-- R215, R311–R313, R316: the shared port of SB serves the oldest request of a core when the ring comes to it. A load gives the
context the bytes and retires, a store writes them, an atomic writes and returns the old word. A context that does not run keeps the
response. Another master's access is served in its turn too; what it reads is in its register. -/
def Obligations.FabricResponses : Prop := ∀ (s : State),
  (∀ (g : Gctx) (x : Txn), (s.cx g).port.txn = some x → x.sent = true → (s.cx g).port.held = none →
    (∀ i ∈ s.pair[pairOf g].items, i.ctx ≠ g) → s.clk ≤ x.issued + 2000 → x.size ≠ 3 → x.addr.toNat % 2 ^ x.size.toNat = 0 →
    0x02000000 ≤ x.addr.toNat → x.addr.toNat < 0x02200000 → s.oldest g x 9 = true → s.turn 9 (g.val / 8) = true →
    s.bank[(9 : BankId)].march = none → s.errAt x.addr.toNat = 0 → s.injFor 123 g.val = false → s.injOn 57 = false →
    s.injOn 68 = false →
    let r := (s.cx g).regs
    let next := { r with pc := r.pc + 4 }
    let a := x.addr.toNat
    let n := 2 ^ x.size.toNat
    let v := rdMem s.mem a n
    let old := rdMem s.mem a 4
    let bytes := fun (t : State) (y : Nat) => ∀ b, rdByte t.mem b =
      if a ≤ b ∧ b < a + n then BitVec.ofNat 8 (y / 256 ^ (b - a)) else rdByte s.mem b
    let only := fun (t : State) => (∀ h, h ≠ g → t.cx h = s.cx h) ∧
      t = { s with mem := t.mem, errs := t.errs, bank := t.bank, ctx := t.ctx, core := t.core } ∧
      ∀ b : BankId, t.bank[b] = if b = 9 then { s.bank[b] with last := g.val / 8, atomCnt := t.bank[b].atomCnt } else s.bank[b]
    (s.running g = true →
      Leads (.fabricResponse (.core g) .none) s fun t => only t ∧ (t.cx g).port.txn = none ∧
        (∀ rd, x.op = .load rd false → t.mem = s.mem ∧ Wrote r (t.cx g).regs rd (BitVec.ofNat 32 v) ∧ (t.cx g).regs.pc = r.pc + 4) ∧
        (∀ rd, x.op = .load rd true → t.mem = s.mem ∧ (t.cx g).regs.pc = r.pc + 4 ∧ Wrote r (t.cx g).regs rd
          (BitVec.ofInt 32 (if v < 2 ^ (8 * n - 1) then (v : Int) else (v : Int) - 2 ^ (8 * n)))) ∧
        (Memory.wf s.mem = true → x.op = .store → (t.cx g).regs = next ∧ bytes t x.data.toNat) ∧
        (∀ rd, Memory.wf s.mem = true → x.size = 2 → x.op = .aadd rd →
          Wrote r (t.cx g).regs rd (BitVec.ofNat 32 old) ∧ bytes t ((old + x.data.toNat) % 2 ^ 32)) ∧
        (∀ rd, Memory.wf s.mem = true → x.size = 2 → x.op = .aswp rd →
          Wrote r (t.cx g).regs rd (BitVec.ofNat 32 old) ∧ bytes t x.data.toNat)) ∧
    (s.running g = false → ∀ rd, x.op = .load rd false →
      Leads (.fabricResponse (.core g) .none) s fun t => only t ∧ t.mem = s.mem ∧ (t.cx g).regs = r ∧ (t.cx g).port.txn = some x ∧
        (t.cx g).port.held = some ⟨0, BitVec.ofNat 32 v⟩)) ∧
  (∀ (pos : Fin 16) (a : Word), (pos.val = 8 ∨ pos.val = 11 ∨ pos.val = 12 ∨ pos.val = 13) → s.pwr.phase ≠ .off →
    0x02000000 ≤ a.toNat → a.toNat < 0x02200000 → a.toNat % 4 = 0 → s.turn 9 pos.val = true →
    swf ⟨0, 0⟩ s.bus = true → s.bank[(9 : BankId)].march = none → s.errAt a.toNat = 0 → s.injOn 57 = false → s.injOn 68 = false →
    Leads (.fabricResponse (.other pos (.read a)) .none) s fun t =>
      t = { s with bus := t.bus, bank := t.bank } ∧ t.bank[(9 : BankId)].last = pos.val ∧
        (t.busAt pos.val).data = BitVec.ofNat 32 (rdMem s.mem a.toNat 4))

/-- R35, R37, R38: a transaction to SB that has had no response 2 µs after its issue ends with status TIMEOUT: a running context takes
BUS_ERR with the address, and no register, memory or other context changes but those the trap writes. Another master's access ends with
the status in its register. -/
def Obligations.FabricTimeouts : Prop := ∀ (s : State),
  (∀ (g : Gctx) (x : Txn) (rd : Reg), s.running g = true → (s.cx g).port.txn = some x → x.sent = true →
    (s.cx g).port.held = none → (∀ i ∈ s.pair[pairOf g].items, i.ctx ≠ g) → x.op = .load rd false → x.issued + 2000 ≤ s.clk →
    0x02000000 ≤ x.addr.toNat → x.addr.toNat < 0x02200000 → s.bank[(9 : BankId)].march = none → (s.cx g).regs.trapact = false →
    Leads (.fabricTimeout (.core g)) s fun t => t = { s with ctx := t.ctx, freeCtr := t.freeCtr } ∧
      (∀ h, h ≠ g → t.cx h = s.cx h) ∧ (t.cx g).port.txn = none ∧ (t.cx g).regs.cause = 9 ∧ (t.cx g).regs.status = 5 ∧
      (t.cx g).regs.trapaddr = x.addr ∧ (t.cx g).regs.trapinsn = x.insn ∧ (t.cx g).regs.trappc = (s.cx g).regs.pc ∧
      (t.cx g).regs.pc = (s.cx g).regs.trapvec ∧ (t.cx g).regs.g = (s.cx g).regs.g) ∧
  (∀ (pos : Fin 16) (a : Word), (pos.val = 11 ∨ pos.val = 12 ∨ pos.val = 13) → 0x02000000 ≤ a.toNat → a.toNat < 0x02200000 →
    s.bank[(9 : BankId)].march = none → Leads (.fabricTimeout (.other pos (.read a))) s fun t => (t.busAt pos.val).err = 5)

/-! ## Instructions: the image (R133–R136, R217–R223) -/

/-- R119, R133, R147: what an image read returns. A reserved word reads 0; an output word shows the committed word with the
context's own staged bits over it; a forced bit shows its forced value. -/
def Obligations.ImageReadValues : Prop := ∀ (s : State) (g : Gctx) (w : Nat),
  (0x3FE0 ≤ w → w < 0x4000 → s.readValue g w = 0) ∧ (0x7FE0 ≤ w → w < 0x8000 → s.readValue g w = 0) ∧
  (w < 0x7FE0 → ¬(0x3FE0 ≤ w ∧ w < 0x4000) → ∀ i : Nat, i < 32 →
    let f := s.img.forces.filter fun p => p.1 == w * 32 + i && p.2.isSome
    (∀ b, f = [(w * 32 + i, some b)] → (s.readValue g w).getLsbD i = b) ∧
    (f = [] → 0x4000 ≤ w → (∀ e ∈ (s.cx g).img.staged, e.word ≠ w) → (s.readValue g w).getLsbD i = (s.outWord w).getLsbD i) ∧
    (f = [] → 0x4000 ≤ w → ∀ e, (s.cx g).img.staged = [e] → e.word = w → e.val &&& ~~~e.mask = 0 →
      (s.readValue g w).getLsbD i = if e.mask.getLsbD i then e.val.getLsbD i else (s.outWord w).getLsbD i))

/-- R218, R220, R221: an image read takes 2 cycles. The register forms take the word from bits [19:5] and the bit from bits
[4:0] of the register, or the word from bits [14:0]. -/
def Obligations.ImageReads : Prop := ∀ (s : State) (g : Gctx) (rd ra : Reg) (w : BitVec 15) (n : BitVec 5), Issues s g →
  let r := (s.cx g).regs
  let a := (r.get ra).toNat
  let next := { r with pc := r.pc + 4 }
  let plain := fun x => s.readWaits g = false ∧ s.readStale g x = false ∧ s.injFor 46 g.val = false ∧
    s.tdm.waiting.getLsbD g.val = false
  let b := (s.readValue g w.toNat).getLsbD n.toNat
  (plain w.toNat →
    RetiresItem (.ldl g w n) s g 2 { next with l := b } ∧ RetiresItem (.ldln g w n) s g 2 { next with l := !b } ∧
    RetiresItem (.andl g w n) s g 2 { next with l := r.l && b } ∧ RetiresItem (.andln g w n) s g 2 { next with l := r.l && !b } ∧
    RetiresItem (.orl g w n) s g 2 { next with l := r.l || b } ∧ RetiresItem (.orln g w n) s g 2 { next with l := r.l || !b } ∧
    RetiresItem (.xorl g w n) s g 2 { next with l := r.l.xor b } ∧
    RetiresItem (.ldlp g w n) s g 2 { next with l := b, lstack := (r.l :: r.lstack).take 8 } ∧
    RetiresItem (.ldlpn g w n) s g 2 { next with l := !b, lstack := (r.l :: r.lstack).take 8 } ∧
    RetiresLoad (.ird g rd w) s g 2 rd (s.readValue g w.toNat)) ∧
  (plain (a / 32 % 2 ^ 15) → RetiresItem (.ldlx g ra) s g 2 { next with l := (s.readValue g (a / 32 % 2 ^ 15)).getLsbD (a % 32) }) ∧
  (plain (a % 2 ^ 15) → RetiresLoad (.irdx g rd ra) s g 2 rd (s.readValue g (a % 2 ^ 15)))

/-- R129, R151, R616: a stale image read still returns its value; it is counted and kept in the context's image status, and
the context's STALE event is pending. On a TRAIL that waits for the gather epoch the read does not retire. -/
def Obligations.StaleAndWaitingReads : Prop := ∀ (s : State) (g : Gctx) (rd : Reg) (w : BitVec 15), Issues s g →
  (s.readWaits g = false → s.readStale g w.toNat = true → s.injFor 46 g.val = false →
    ∃ t, exec (.ird g rd w) s = .next t ∧ (t.cx g).img.stale = true ∧ (t.cx g).img.staleW = w.toNat ∧ (t.cx g).regs.staleP = true ∧
      Wrote (s.cx g).regs (t.cx g).regs rd (s.readValue g w.toNat) ∧ (t.cx g).regs.pc = (s.cx g).regs.pc + 4 ∧ t.mem = s.mem) ∧
  (s.readWaits g = true → ∃ t, exec (.ird g rd w) s = .next t ∧ t = { s with tdm := t.tdm } ∧ t.tdm.waiting.getLsbD g.val = true)

/-- R135, R217–R223: staged writes. Below word 4000h the write raises IMG_ADDR with the bit address; with the staging region
full and no entry for the word it raises STAGE_OVF; SETB and RSTB with L = 0 and IWRX with mask 0 stage nothing. -/
def Obligations.ImageWrites : Prop := ∀ (s : State) (g : Gctx) (rd ra rb : Reg) (w : BitVec 15) (n : BitVec 5), Issues s g →
  let r := (s.cx g).regs
  let a := (r.get ra).toNat
  let bit := fun (k : Nat) => BitVec.ofNat 32 (2 ^ k)
  let on := fun (b : Bool) (k : Nat) => if b then bit k else (0 : Word)
  let writes : List (Instr × Word × Nat × Nat × Word × Word) :=
    [(.stl g w n, insnX 0x13 0 0 w.toNat n.toNat, w.toNat, n.toNat, bit n.toNat, on r.l n.toNat),
     (.stln g w n, insnX 0x13 0 1 w.toNat n.toNat, w.toNat, n.toNat, bit n.toNat, on (!r.l) n.toNat),
     (.iwr g rd w, insnX 0x14 rd.val 0 w.toNat 0, w.toNat, 0, 0xFFFFFFFF, r.get rd),
     (.iwrb g rd w n, insnX 0x14 rd.val 1 w.toNat n.toNat, w.toNat, n.toNat, bit n.toNat, on ((r.get rd).getLsbD 0) n.toNat),
     (.stlx g ra, insnA 3 0 ra.val 0 2, a / 32 % 2 ^ 15, a % 32, bit (a % 32), on r.l (a % 32))]
    ++ (if r.l then [(.setb g w n, insnX 0x13 0 2 w.toNat n.toNat, w.toNat, n.toNat, bit n.toNat, bit n.toNat),
                     (.rstb g w n, insnX 0x13 0 3 w.toNat n.toNat, w.toNat, n.toNat, bit n.toNat, 0)] else [])
    ++ (if r.get rb ≠ 0 then [(.iwrx g rd ra rb, insnA 3 rd.val ra.val rb.val 3, a % 2 ^ 15, 0, r.get rb, r.get rd)] else [])
  let idle : List (Instr × Word × Nat × Nat) :=
    (if r.l then [] else [(.setb g w n, insnX 0x13 0 2 w.toNat n.toNat, w.toNat, n.toNat), (.rstb g w n, insnX 0x13 0 3 w.toNat n.toNat, w.toNat, n.toNat)])
    ++ (if r.get rb = 0 then [(.iwrx g rd ra rb, insnA 3 rd.val ra.val rb.val 3, a % 2 ^ 15, 0)] else [])
  (∀ c insn x k m v, (c, insn, x, k, m, v) ∈ writes →
    (x < 0x4000 → r.trapact = false → TrapsImage c s g insn 7 (x * 32 + k) fun i => { i with addrflt := true }) ∧
    (0x4000 ≤ x → (s.cx g).img.hasEntry x = false → (s.cx g).task.staging ≤ (s.cx g).img.used → r.trapact = false →
      TrapsImage c s g insn 8 (x * 32 + k) fun i => { i with ovf := true }) ∧
    (0x4000 ≤ x → ((s.cx g).img.hasEntry x = true ∨ (s.cx g).img.used < (s.cx g).task.staging) →
      ((s.cx g).img.staged.map (·.word)).Nodup → Stages c s g x m v)) ∧
  ∀ c insn x k, (c, insn, x, k) ∈ idle →
    (x < 0x4000 → r.trapact = false → TrapsImage c s g insn 7 (x * 32 + k) fun i => { i with addrflt := true }) ∧
    (0x4000 ≤ x → Retires c s g 1 { r with pc := r.pc + 4 })

/-! ## Instructions: system (R68, R163–R168, R181–R183, R229–R236) -/

/-- R229, R230, R182, R183: NOP; SEV asserts line 192 + n; WFE goes on at once when an enabled event is pending and else waits;
WAITT goes on at once when the time has come and else waits; a register of WAITT that is odd or g0 raises UNDEF. -/
def Obligations.NopSevWfeWaitt : Prop := ∀ (s : State) (g : Gctx) (line : BitVec 6) (i : Reg), Issues s g →
  (s.cx g).act.paired = false → (∀ i ∈ s.pair[pairOf g].items, i.ctx ≠ g) →
  let r := (s.cx g).regs
  let n := { r with pc := r.pc + 4 }
  let wakes := decide (r.evpend &&& r.evmask ≠ 0) || (r.staleP && r.staleM) || (r.collP && r.collM)
  let until_ := (r.get ⟨(i.val + 1) % 16, Nat.mod_lt _ (by decide)⟩).toNat * 2 ^ 32 + (r.get i).toNat
  let waits := fun (c : Instr) (st : Status) => ∃ t, exec c s = .next t ∧ t = { s with ctx := t.ctx, core := t.core } ∧
    (∀ h, h ≠ g → t.cx h = s.cx h) ∧
    t.cx g = { s.cx g with act := { (s.cx g).act with status := st, used := (s.cx g).act.used + 1 } }
  Retires (.nop g) s g 1 n ∧
  (wakes = true → Retires (.wfe g) s g 1 n) ∧ (wakes = false → waits (.wfe g) .waitEvent) ∧
  (i.val % 2 = 0 → i.val ≠ 0 → s.isTrail = false →
    (until_ ≤ s.time.tb.toNat → Retires (.waitt g i) s g 1 n) ∧
    (s.time.tb.toNat < until_ → waits (.waitt g i) (.waitTime (BitVec.ofNat 64 until_)))) ∧
  ((i.val % 2 = 1 ∨ i.val = 0) → r.trapact = false → Traps (.waitt g i) s g (insnS 5 i.val 0) 3 0 0) ∧
  (s.isTrail = true → Retires (.sev g line) s g 1 n) ∧
  (s.isTrail = false → s.bound (192 + line.toNat) = none → (∀ h, (s.cx h).act.status ≠ .waitEvent) →
    ∃ t, exec (.sev g line) s = .next t ∧ (t.cx g).regs.pc = r.pc + 4 ∧
      t = { s with ctx := t.ctx, core := t.core, evCount := t.evCount, tdm := t.tdm } ∧
      (∀ l : Nat, (h : l < 256) → t.evCount[l] = if l = 192 + line.toNat then s.evCount[l] + 1 else s.evCount[l]) ∧
      ∀ h (l : Nat), (t.cx h).regs.evpend.getLsbD l =
        ((s.cx h).regs.evpend.getLsbD l || (decide (l = 192 + line.toNat) && (s.cx h).regs.evmask.getLsbD l)))

/-- R68, R137, R229: END and COMMIT of an unpaired activation hand the staged entries and the changed retained words to the
image engine, behind every earlier commit; the context waits for it. -/
def Obligations.EndAndCommit : Prop := ∀ (s : State) (g : Gctx), Issues s g → (s.cx g).act.paired = false →
  let x := s.cx g
  let commits := fun (c : Instr) (byEnd : Bool) => ∃ t, exec c s = .next t ∧
    t = { s with ctx := t.ctx, core := t.core, img := { s.img with commits := s.img.commits ++
      [{ ctx := g, entries := x.img.staged, dirty := x.img.dirty, newVer := x.act.newVer, leaving := x.act.leaving, byEnd := byEnd, waiting := none }] } } ∧
    (∀ h, h ≠ g → t.cx h = s.cx h) ∧ (t.cx g).regs = x.regs ∧ (t.cx g).act.status = .committing byEnd ∧
    (t.cx g).act.used = x.act.used + 1 ∧ (t.cx g).img = { x.img with staged := [], dirty := [] }
  commits (.end_ g) true ∧ commits (.commit g) false

/-- R247, R248: in a paired activation END and COMMIT wait for their comparison; each hands the pair unit one
item. COMMIT and END take 2 cycles more. -/
def Obligations.PairedSystemItems : Prop := ∀ (s : State) (g : Gctx) (line : BitVec 6), Issues s g → (s.cx g).act.paired = true →
  let hands := fun (c : Instr) (item : LaneItem) (rel : Release) (cycles : Nat) => ∃ t, exec c s = .next t ∧
    t.pair[pairOf g].items = s.pair[pairOf g].items ++ [⟨item, (s.cx g).regs.pc, g, rel⟩] ∧
    (t.cx g).act.used = (s.cx g).act.used + cycles ∧ t.img = s.img ∧ t.mem = s.mem ∧ t.evCount = s.evCount ∧
    (t.cx g).act.status = (s.cx g).act.status
  hands (.end_ g) (sysItem 1 0) (.commit true) 3 ∧ hands (.commit g) (sysItem 2 0) (.commit false) 3 ∧
  hands (.sev g line) (sysItem 3 line.toNat) (.sev line.toNat) 1

/-- R166: on entry the core writes TRAPPC, TRAPINSN, TRAPADDR and TRAPCAUSE, sets TRAPACT and privilege S and continues at
TRAPVEC; so do TRAP and every undefined word; at U one that spells MFCR, MTCR or RETT raises PRIV (R167). -/
def Obligations.TrapAndUndefined : Prop := ∀ (s : State) (g : Gctx) (imm : BitVec 16) (insn : Word), Issues s g →
  (s.cx g).regs.trapact = false →
  Traps (.trap g imm) s g (insnS 6 0 imm.toNat) 11 0 0 ∧
  (undefinedInsn insn = true → Traps (.undef g insn) s g insn (if privInsn insn && !(s.cx g).regs.priv then 2 else 3) 0 0) ∧
  undefinedInsn 0xFFFFFFFF = true ∧ (∀ k : BitVec 26, undefinedInsn (0x1D#6 ++ k) = true)

/-- R168: a trap while TRAPACT = 1 is a double trap: the core counts it and the overrun action applies, LOG and SKIP as
STOP_TASK. The trap registers stay; retained words that the activation changed and did not commit have their committed values again (R80). -/
def Obligations.DoubleTrapStops : Prop := ∀ (s : State) (g : Gctx) (imm : BitVec 16), Issues s g → (s.cx g).regs.trapact = true →
  (s.cx g).task.action ≤ 2 → (s.cx g).act.paired = false → (s.cx g).next = none → s.op.stopping = none →
  ∃ t, exec (.trap g imm) s = .next t ∧ t.core[coreOf g].dtraps = s.core[coreOf g].dtraps + 1 ∧
    (t.cx g).act.status = .stopped ∧ t.op = s.op ∧ ((s.cx g).img.dirty = [] → t.mem = s.mem) ∧ (∀ h, h ≠ g → t.cx h = s.cx h) ∧
    (t.cx g).regs.trappc = (s.cx g).regs.trappc ∧ (t.cx g).regs.cause = (s.cx g).regs.cause

/-- R164, R231, R232, R190, R191: MFCR, MTCR and RETT at U raise PRIV. At S, MFCR reads the control register; MTCR writes it under its
access code, and a TRAPVEC outside the own core bank raises BUS_ERR with status RULE; RETT returns to TRAPPC with the
privilege it had, and ends the trap whatever TRAPACT was.
Readings of the model: log entry 47. -/
def Obligations.ControlRegisters : Prop := ∀ (s : State) (g : Gctx) (i : Reg) (cr : BitVec 6), Issues s g →
  let x := s.cx g
  let r := x.regs
  let n := { r with pc := r.pc + 4 }
  let v := r.get i
  (r.priv = false → r.trapact = false →
    Traps (.mfcr g i cr) s g (insnS 8 i.val cr.toNat) 2 0 0 ∧ Traps (.mtcr g cr i) s g (insnS 9 i.val cr.toNat) 2 0 0 ∧
    Traps (.rett g) s g (insnS 10 0 0) 2 0 0) ∧
  (r.priv = true →
    Retires (.rett g) s g 3 { r with pc := r.trappc, priv := r.prevpriv, trapact := false } ∧
    (∃ q, Retires (.mfcr g i cr) s g 1 q ∧ Wrote r q i (readCr x g cr.toNat) ∧ q = { n with g := q.g }) ∧
    (cr ≠ 6 ∨ v.toNat / 0x80000 = g.val / 8 → Retires (.mtcr g cr i) s g 1 { writeCr r cr.toNat v with pc := r.pc + 4 }) ∧
    (cr = 6 → v.toNat / 0x80000 ≠ g.val / 8 → r.trapact = false →
      ∃ t, exec (.mtcr g cr i) s = .next t ∧ (t.cx g).regs.cause = 9 ∧ (t.cx g).regs.status = 3 ∧ (t.cx g).regs.pc = r.trapvec ∧
        (t.cx g).regs.trapvec = r.trapvec ∧ t = { s with ctx := t.ctx, freeCtr := t.freeCtr, pair := t.pair } ∧
        ∀ h, h ≠ g → t.cx h = s.cx h)) ∧
  readCr x g 3 = r.trappc ∧ readCr x g 4 = r.trapinsn ∧ readCr x g 5 = r.trapaddr ∧ readCr x g 6 = r.trapvec ∧
  readCr x g 7 = r.trapsave ∧ readCr x g 8 = r.coladdr ∧
  (∀ k : Nat, k < 64 → (0x0A ≤ k ∧ k < 0x10) ∨ 0x20 < k → readCr x g k = 0 ∧ writeCr r k v = r) ∧
  writeCr r 3 v = { r with trappc := v } ∧ writeCr r 6 v = { r with trapvec := v } ∧ writeCr r 7 v = { r with trapsave := v } ∧
  (∀ k : Nat, k ∈ [1, 2, 4, 5, 8, 9] → writeCr r k v = r) ∧
  (∀ k j : Nat, k < 8 → j < 256 →
    (writeCr r (0x10 + k) v).evmask.getLsbD j = (if j / 32 = k then v.getLsbD (j % 32) else r.evmask.getLsbD j) ∧
    (writeCr r (0x18 + k) v).evpend.getLsbD j = (r.evpend.getLsbD j && !(decide (j / 32 = k) && v.getLsbD (j % 32))))


/-! ## Tasks and the operating state (R58–R91, R104, R105, R183, R615) -/

/-- R58, R60, R63, R65, R66, R87, R183, R615: what releases a task. A cyclic task is released at its latest release time, or the
release is skipped while its activation goes on; a held release takes place once the inter-arrival time is over and the
activation has completed; background tasks and bound lines start 1 ms after entry to RUN; TRAIL releases 40 µs after LEAD.
Readings of the model: log entry 15. -/
def Obligations.TaskReleases : Prop := ∀ (s : State) (g : Gctx), s.op.failover = false →
  let x := s.cx g
  let k := x.taskNow
  let tb := s.time.tb.toNat
  let go := s.op.st = .run ∧ s.nv.lehr = .none ∧ s.isTrail = false
  let ready := x.act.status = .idle ∧ x.act.owed = false ∧ x.act.skipNext = false ∧ s.reloading g = false
  let floor := match x.act.seen with | some l => l.toNat | none => s.op.enter.toNat + 999999
  let frame := fun (t : State) => t = { s with ctx := t.ctx, core := t.core, rcd := t.rcd, tdm := t.tdm, fld := t.fld }
  (go → k.kind = .cyclic → s.isChecker g = false → ∀ n r : Nat, r = k.offset * 1000 + n * (k.period * 1000) → 0 < k.period →
    r ≤ tb → tb < r + k.period * 1000 → floor < r → (n = 0 ∨ r ≤ floor + k.period * 1000) →
    (ready → Leads (.cyclicRelease g) s fun t =>
      Released s t g (BitVec.ofNat 64 r) s.img.epoch ∧ (t.cx g).act.last = some (BitVec.ofNat 64 r) ∧
        (t.cx g).act.seen = some (BitVec.ofNat 64 r) ∧ frame t) ∧
    (x.act.status = .ready → s.reloading g = false → Leads (.cyclicRelease g) s fun t =>
      t.cx g = { x with act := { x.act with seen := some (BitVec.ofNat 64 r), skipCnt := x.act.skipCnt + 1, fSkipped := true } } ∧
        (∀ h, h ≠ g → t.cx h = s.cx h) ∧ t.rcd = (s.rec_ 0x2012 g.val g.val 1 0).rcd ∧ frame t)) ∧
  (go → ready → x.act.held = true → (x.act.everRel = true → x.act.rel.toNat + k.period * 1000 ≤ tb) →
    Leads (.heldRelease g) s fun t => Released s t g s.time.tb s.img.epoch ∧ frame t) ∧
  (go → ready → k.kind = .background → s.op.enterClk + 1000000 ≤ s.clk → x.act.armFrom ≤ s.clk →
    Leads (.backgroundRelease g) s fun t => Released s t g s.time.tb s.img.epoch ∧ frame t) ∧
  (s.op.st = .run → s.op.enterClk + 1000000 ≤ s.clk →
    Leads .eventLinesArmed s fun t => t = { s with op := { s.op with armed := true } }) ∧
  (∀ f l, s.tdm.st = 4 → s.tdm.rel = f :: l → f.ctx = g.val → f.time.toNat + 40000 ≤ tb → s.op.st = .run →
    x.act.status = .idle → x.act.owed = false → k.kind ≠ .none →
    Leads (.laggedRelease g) s fun t => Released s t g f.time f.epoch ∧ t.tdm.rel = l ∧ frame t) ∧
  (∀ v, x.act.status = .waitTime v → x.act.owed = false → v.toNat ≤ (if s.isTrail then tb - 40000 else tb) →
    Leads (.waittWake g) s fun t => (t.cx g).regs = { x.regs with pc := x.regs.pc + 4 } ∧ (t.cx g).act.status = .ready ∧
      (∀ h, h ≠ g → t.cx h = s.cx h) ∧ t = { s with ctx := t.ctx, core := t.core })

/-- R77–R79, R82, R85, R88, R89: an overrun is flagged, counted and recorded, then the overrun action applies: LOG and SKIP demote the
activation, SKIP also the next release, STOP_TASK stops the task, STOP_PROG enters HALT. While a stop is in progress the
activation is abandoned without the action. A deadline miss does the same, but takes no action after an overrun. Both wait until
the pair unit has compared what the activation did (R254), an overrun also for a progress fault (R664). -/
def Obligations.OverrunsAndMisses : Prop := ∀ (s : State) (g : Gctx), s.op.failover = false →
  let x := s.cx g
  let action := x.task.action
  let overUsed := x.act.overran = false ∧ x.task.budget ≤ x.act.used
  let miss := x.act.missed = false ∧ x.act.rel.toNat + x.task.deadline * 1000 < s.time.tb.toNat
  let flagged := fun (t : State) => (t.cx g).act.overran = true ∧ (t.cx g).act.fOverrun = true ∧ (t.cx g).act.ovrCnt = satInc x.act.ovrCnt
  let missed := fun (t : State) => (t.cx g).act.missed = true ∧ (t.cx g).act.fMiss = true ∧ (t.cx g).act.missCnt = satInc x.act.missCnt
  let acts := fun (c : Instr) (p : State → Prop) (r : Rcd) =>
    (action ≤ 1 → Leads c s fun t => p t ∧ (t.cx g).act.demoted = true ∧ (t.cx g).act.skipNext = (x.act.skipNext || action == 1) ∧
      (t.cx g).act.status = .ready ∧ (t.cx g).img = x.img ∧ t.rcd = r ∧ t = { s with ctx := t.ctx, rcd := t.rcd, fld := t.fld }) ∧
    (action = 2 → x.next = none → Leads c s fun t => p t ∧ (t.cx g).act.status = .stopped ∧ (t.cx g).img.staged = [] ∧ t.op = s.op ∧
      (x.img.dirty = [] → t.mem = s.mem) ∧ t.img = s.img ∧ ∀ h, h ≠ g → t.cx h = s.cx h) ∧
    (action = 3 → s.op.st = .run → Leads c s fun t => t.op.st = .halt ∧ t.op.haltCause = 1 ∧ t.op.safe = true ∧ t.op.key = s.op.key ∧
      ((∀ h, (s.cx h).img.dirty = []) → t.mem = s.mem))
  (∀ i ∈ s.pair[pairOf g].items, i.ctx ≠ g) → x.task.kind ≠ .background → x.act.status = .ready →
  (overUsed → s.stalled g = false → s.op.stopping = none →
    acts (.budgetOverrun g) flagged (s.rec_ 0x2010 g.val g.val x.task.budget action).rcd) ∧
  (overUsed → s.stalled g = false → s.op.stopping.isSome = true → Leads (.budgetOverrun g) s fun t =>
    flagged t ∧ (t.cx g).act.status = .idle ∧ (t.cx g).img.staged = [] ∧ t.op.st = s.op.st ∧
    (x.img.dirty = [] → t.mem = s.mem)) ∧
  (miss → s.op.stopping = none → x.act.overran = false →
    acts (.deadlineMiss g) missed (s.rec_ 0x2011 g.val g.val (min (s.time.tb.toNat - x.act.rel.toNat) 0xFFFFFFFF) (x.task.deadline * 1000)).rcd) ∧
  (miss → x.act.overran = true → Leads (.deadlineMiss g) s fun t =>
    missed t ∧ (t.cx g).act.status = .ready ∧ (t.cx g).act.demoted = x.act.demoted ∧ t = { s with ctx := t.ctx, rcd := t.rcd, fld := t.fld })

/-- R83–R88: a change of the key inputs starts the 20 ms anew. A position that has held for 20 ms takes effect: STOP and INVALID stop
the program, RUN starts it from STOP when the start conditions hold, REM changes nothing. 1 ms after RUN was left the outputs
take their safe values and what still runs is abandoned.
Readings of the model: log entry 15. -/
def Obligations.KeyAndStop : Prop := ∀ (s : State) (a b : Bool), s.op.failover = false →
  let k : BitVec 2 := BitVec.ofNat 2 ((if s.op.rawA then 1 else 0) + (if s.op.rawB then 2 else 0))
  let starts := s.prog.loaded = true ∧ (∀ h, (s.cx h).task.paired = true → s.pair[pairOf h].usable = true) ∧ s.nv.inRecall = false
  let clean := ∀ h, (s.cx h).img.dirty = []
  Leads (.keyInputChange a b) s (fun t => t = if a = s.op.rawA ∧ b = s.op.rawB then s else
    { s with op := { s.op with rawA := a, rawB := b, debounce := some s.clk } }) ∧
  (∀ t0, s.op.debounce = some t0 → t0 + 20000000 ≤ s.clk → s.pwr.phase = .running → s.isTrail = false →
    Leads .keyChange s fun t => t.op.key = k ∧ t.op.debounce = none ∧
      (k = s.op.key → t = { s with op := { s.op with debounce := none }, fld := t.fld }) ∧
      (k ≠ s.op.key → k = 2 → t.op.st = s.op.st ∧ t.ctx = s.ctx ∧ t.mem = s.mem) ∧
      (k ≠ s.op.key → k = 0 ∨ k = 3 → t.op.st = .stop ∧ (clean → t.mem = s.mem)) ∧
      (k ≠ s.op.key → k = 1 → s.op.st = .stop → starts → t.op.st = .run ∧ t.op.enter = s.time.tb ∧ t.op.enterClk = s.clk ∧
        t.op.armed = false ∧ t.op.safe = false) ∧
      (k ≠ s.op.key → k = 1 → s.op.st = .stop → ¬starts → t.op.st = .stop ∧ t.ctx = s.ctx ∧ t.mem = s.mem) ∧
      (k ≠ s.op.key → k = 1 → s.op.st ≠ .stop → t.op.st = s.op.st ∧ t.ctx = s.ctx ∧ t.mem = s.mem)) ∧
  (∀ t0, s.op.stopping = some t0 → t0 + 1000000 ≤ s.clk →
    Leads .stopLimit s fun t => t.op = { s.op with stopping := none, safe := true } ∧ (clean → t.mem = s.mem) ∧ t.img = s.img ∧
      ∀ h, (t.cx h).act.status = (if (s.cx h).inCommit then (s.cx h).act.status
        else if (s.cx h).inProgress then .idle else (s.cx h).act.status))

/-- R82, R85, R86, R114, R145, R147, R156: the commands START, STOP and RESTART_TASK and those of the forces. -/
def Obligations.ProgramAndForceCommands : Prop := ∀ (s : State) (r : Req) (g : Gctx), s.op.failover = false → s.op.key = 2 → s.isTrail = false →
  let starts := s.prog.loaded = true ∧ (∀ h, (s.cx h).task.paired = true → s.pair[pairOf h].usable = true) ∧ s.nv.inRecall = false
  let a := s.cfg 0x2210 1 0
  (starts → s.op.st ≠ .run → s.pwr.phase = .running → Performs (.start r) s r 0x2001 1 2 [1] fun t =>
    t.op.st = .run ∧ t.op.enter = s.time.tb ∧ t.op.armed = false ∧ t.op.safe = false) ∧
  (s.op.st ≠ .stop → Performs (.stop r) s r 0x2001 1 2 [2] fun t => t.op.st = .stop ∧ t.op.armed = (s.op.armed && s.op.st == .halt) ∧
    ((∀ h, (s.cx h).img.dirty = []) → t.mem = s.mem)) ∧
  (s.op.st = .run → (s.cx g).act.status = .stopped → (s.cx g).task.kind = .cyclic →
    Performs (.restartTask r g) s r (0x2100 + g.val) 0x15 2 [1] fun t =>
      (t.cx g).act.status = .idle ∧ (t.cx g).act.seen = some s.time.tb ∧ (∀ h, h ≠ g → t.cx h = s.cx h) ∧ t.op = s.op ∧ t.mem = s.mem) ∧
  (a < 2 ^ 20 → s.img.forces.length < 512 → swf none s.img.forces = true → Performs (.forceSet r) s r 0x2210 3 2 [1] fun t =>
    (∀ b, sget none t.img.forces b = if b = a then some (s.cfg 0x2210 2 0 == 1) else sget none s.img.forces b) ∧
      t.img = { s.img with forces := t.img.forces } ∧ t.mem = s.mem ∧ t.ctx = s.ctx ∧ t.op = s.op) ∧
  (a < 2 ^ 20 → swf none s.img.forces = true → Performs (.forceClear r) s r 0x2210 3 2 [2] fun t =>
    (∀ b, sget none t.img.forces b = if b = a then none else sget none s.img.forces b) ∧
      t.img = { s.img with forces := t.img.forces } ∧ t.mem = s.mem ∧ t.ctx = s.ctx ∧ t.op = s.op) ∧
  Performs (.forceClearAll r) s r 0x2210 3 2 [3] fun t =>
    t.img = { s.img with forces := [] } ∧ t.mem = s.mem ∧ t.ctx = s.ctx ∧ t.op = s.op


/-! ## The image, the core islands, the pairs (R25–R29, R120–R148, R175, R176, R246–R270, R364, R669) -/

/-- R137, R138, R141, R144, R364: the commit that arrived first is applied as a whole: an owned bit takes its staged value, every other
bit keeps its value. A commit that does not fit the journal waits, and goes on once there is room.
Readings of the model: log entry 73. -/
def Obligations.Commits : Prop := ∀ (s : State) (c : Commit) (rest : List Commit), s.img.commits = c :: rest →
  let g := c.ctx
  let applied := fun (t : State) =>
    t.img.commits = rest ∧ t.img.epoch = s.img.epoch ∧ t.img.ver = s.img.ver ∧ t.mem = s.mem ∧
    (∀ e ∈ c.entries, t.outWord e.word =
      (s.outWord e.word &&& ~~~(e.mask &&& s.mayChange c e.word)) ||| (e.val &&& (e.mask &&& s.mayChange c e.word))) ∧
    (∀ w, (∀ e ∈ c.entries, e.word ≠ w) → t.outWord w = s.outWord w) ∧
    (c.dirty = [] → t.nv.queue = s.nv.queue) ∧ (∀ h, h ≠ g → t.cx h = s.cx h)
  s.op.failover = false → swf 0 s.img.out = true → (c.entries.map (·.word)).Nodup → s.op.stopping = none → (s.cx g).act.after = none →
  (s.cx g).task.kind ≠ .background → (s.cx g).next = none → s.injFor 47 g.val = false → s.injFor 121 g.val = false →
  (c.waiting = none → s.room c = true → c.byEnd = true → Leads .commitComplete s fun t => applied t ∧
    (t.cx g).act.status = .idle ∧ (t.cx g).act.actCnt = (s.cx g).act.actCnt + 1) ∧
  (c.waiting = none → s.room c = true → c.byEnd = false → Leads .commitComplete s fun t => applied t ∧
    (t.cx g).act.status = .ready ∧ (t.cx g).regs = { (s.cx g).regs with pc := (s.cx g).regs.pc + 4 }) ∧
  (c.waiting = none → s.room c = false → Leads .commitComplete s fun t =>
    t = { s with
      img := { s.img with commits := { c with waiting := some s.clk } :: rest }
      nv := { s.nv with qwait := true, waitCnt := satInc s.nv.waitCnt }
      fld := t.fld }) ∧
  (c.waiting.isSome = true → s.room c = true → c.byEnd = true → Leads .journalRoom s fun t => applied t ∧
    (t.cx g).act.status = .idle ∧ (t.cx g).act.actCnt = (s.cx g).act.actCnt + 1) ∧
  (c.waiting.isSome = true → s.room c = true → c.byEnd = false → Leads .journalRoom s fun t => applied t ∧
    (t.cx g).act.status = .ready ∧ (t.cx g).regs = { (s.cx g).regs with pc := (s.cx g).regs.pc + 4 })

/-- R120, R121, R123, R125–R130: a held publication set becomes visible as a whole under the next image epoch, its words keep at most
four versions; a release of the same cycle gathers under that epoch (R128). A sweep marks versions and gather epochs more than 2^30 behind. -/
def Obligations.PublicationsAndSweeps : Prop := ∀ (s : State) (src : Nat) (p : PubSet),
  (sget none s.img.heldPub src = some p → p.src = src → (∀ t0, sget none s.img.lastPub src = some t0 → t0 + s.pubInterval src ≤ s.clk) →
    s.isTrail = false → s.ibMarches = false → p.lines = [] → (p.words.map (·.1)).Nodup → swf [bornVersion] s.img.ver = true →
    swf none s.img.heldPub = true → swf none s.img.lastPub = true →
    Leads (.heldPublication src) s fun t => t = { s with img := t.img, tdm := t.tdm, ctx := t.ctx } ∧ t.img.epoch = s.img.epoch + 1 ∧
      (∀ h, t.cx h = if (s.cx h).gathersNow s.img.epoch s.clk = true then { s.cx h with img := { (s.cx h).img with gather := s.img.epoch + 1 } }
        else s.cx h) ∧
      (∀ w x, (w, x) ∈ p.words → t.versions w = (⟨s.img.epoch + 1, x, false⟩ :: s.versions w).take 4) ∧
      (∀ w, (∀ q ∈ p.words, q.1 ≠ w) → t.versions w = s.versions w) ∧
      sget none t.img.heldPub src = none ∧ sget none t.img.lastPub src = some s.clk ∧ t.img.out = s.img.out ∧
      t.img.commits = s.img.commits) ∧
  (s.img.sweep = true → Leads .sweepComplete s fun t => t = { s with img := t.img, ctx := t.ctx } ∧
    t.img = { s.img with ver := t.img.ver, sweep := false, sweepCnt := s.img.sweepCnt + 1 } ∧
    t.img.ver = s.img.ver.map (fun q => (q.1, q.2.map fun v => { v with aged := v.aged || decide (2 ^ 30 < (s.img.epoch - v.epoch).toNat) })) ∧
    ∀ h, t.cx h = { s.cx h with img := { (s.cx h).img with
      gaged := (s.cx h).img.gaged || decide (2 ^ 30 < (s.img.epoch - (s.cx h).img.gather).toNat) } })

/-- R27, R175, R176, R669: set points and the supply of core islands.
Readings of the model: log entry 59. -/
def Obligations.CoreIslands : Prop := ∀ (s : State) (n : CoreId) (tgt : Fin 12) (p : SpPend), s.op.failover = false →
  (∀ m, s.core[n].sw = some m → m < 65536 → swf none s.dict.vals = true → tgt.val = n.val → Leads (.setpointChanged tgt) s fun t =>
    t.setpt n.val = m ∧ t.core[n].sw = none ∧ t.ctx = s.ctx ∧ t.op = s.op ∧ t.mem = s.mem ∧
      ∀ k : CoreId, k.val / 2 ≠ n.val / 2 → t.core[k] = s.core[k]) ∧
  (tgt.val = n.val → s.core[n].spPend = some p → p.pairw = false → p.since + 100000000 > s.clk → s.core[n].lowSince = none →
    s.op.st ≠ .run ∨ s.carries n = false → Leads (.setpointApply tgt) s fun t => t.core[n] = { s.core[n] with sw := some p.mhz, spPend := none, clockOn := false } ∧
      (∀ k : CoreId, k ≠ n → t.core[k] = s.core[k]) ∧ t.ctx = s.ctx ∧ t.op = s.op ∧ t.mem = s.mem) ∧
  (tgt.val = n.val → s.core[n].spPend = some p → p.pairw = false → p.since + 100000000 ≤ s.clk →
    Leads (.setpointRefused tgt) s fun t => t.core[n] = { s.core[n] with spPend := none } ∧ (∀ k : CoreId, k ≠ n → t.core[k] = s.core[k]) ∧
      t.setpt n.val = s.setpt n.val ∧ t.ctx = s.ctx ∧ t.op = s.op ∧ t.mem = s.mem) ∧
  (s.pwr.phase ≠ .off → s.core[n].sw = none → Leads (.supplyBelowBand n) s fun t =>
    t = { s with core := s.core.set n { s.core[n] with lowSince := some (s.core[n].lowSince.getD s.clk) } }) ∧
  ∀ t0, s.pwr.phase ≠ .off → s.core[n].lowSince = some t0 → s.injOn (75 + n.val) = false → Leads (.islandSupplyLow n) s fun t =>
    t.core[n] = { s.core[n] with
      lowSince := none, lowCnt := satInc s.core[n].lowCnt
      lowMax := max s.core[n].lowMax (min ((s.clk - t0) / 1000) 0xFFFFFFFF) } ∧
    (∀ k : CoreId, k ≠ n → t.core[k] = s.core[k]) ∧ t = { s with core := t.core, rcd := t.rcd, inj := t.inj } ∧
    t.rcd = (s.rec_ 0x9005 (0x40 + n.val) n.val ((s.clk - t0) / 1000) (s.setpt n.val)).rcd

/-- R246, R247, R253, R256: an item that agrees leaves the pair: a queued store reaches memory, a held access is sent, a trap is taken and a
commit reaches the image engine. An item that differs does not leave; the pair keeps the mismatch, and STOP_PROG enters HALT with HALTCAUSE 2. -/
def Obligations.PairComparison : Prop := ∀ (s : State) (p : PairId) (i : PairItem) (rest : List PairItem) (other : Option LaneItem),
  s.op.failover = false → s.pair[p].items = i :: rest → s.injFor (32 + p.val) (i.ctx.val % 8) = false →
  (i.rel = .none → Leads (.checkerCompare p (some i.item)) s fun t => t.pair[p] = { s.pair[p] with items := rest } ∧
    t = { s with pair := t.pair } ∧ ∀ q : PairId, q ≠ p → t.pair[q] = s.pair[q]) ∧
  (∀ a size d, i.rel = .store a size d → Memory.wf s.mem = true → s.meets (cbOf (coreOf i.ctx)) a.toNat = none → Leads (.checkerCompare p (some i.item)) s fun t =>
    t.pair[p] = { s.pair[p] with items := rest } ∧ (∀ q : PairId, q ≠ p → t.pair[q] = s.pair[q]) ∧
    (∀ x, rdByte t.mem x = if a.toNat ≤ x ∧ x < a.toNat + 2 ^ size.toNat then BitVec.ofNat 8 (d.toNat / 256 ^ (x - a.toNat)) else rdByte s.mem x) ∧
    t = { s with pair := t.pair, mem := t.mem, errs := t.errs, ctx := t.ctx } ∧ ∀ h, (t.cx h).regs = (s.cx h).regs ∧ (t.cx h).act = (s.cx h).act) ∧
  (∀ x, i.rel = .send → (s.cx i.ctx).port.txn = some x → Leads (.checkerCompare p (some i.item)) s fun t =>
    t.pair[p] = { s.pair[p] with items := rest } ∧ (t.cx i.ctx).port.txn = some { x with sent := true } ∧
    t = { s with pair := t.pair, ctx := t.ctx } ∧ ∀ h, h ≠ i.ctx → t.cx h = s.cx h) ∧
  (∀ insn cause status addr, i.rel = .trap insn cause status addr → (s.cx i.ctx).regs.trapact = false →
    Leads (.checkerCompare p (some i.item)) s fun t => t.pair[p] = { s.pair[p] with items := rest } ∧
      (∀ q : PairId, q ≠ p → t.pair[q] = s.pair[q]) ∧
      TrapTaken { s with pair := t.pair } t i.ctx insn (BitVec.ofNat 8 cause) (BitVec.ofNat 8 status) addr) ∧
  (∀ byEnd, i.rel = .commit byEnd → Leads (.checkerCompare p (some i.item)) s fun t => t.pair[p] = { s.pair[p] with items := rest } ∧
    t.img.commits = s.img.commits ++ [{ ctx := i.ctx, entries := (s.cx i.ctx).img.staged, dirty := (s.cx i.ctx).img.dirty, newVer := (s.cx i.ctx).act.newVer, leaving := (s.cx i.ctx).act.leaving, byEnd := byEnd, waiting := none }] ∧
    (t.cx i.ctx).act.status = .committing byEnd ∧ (t.cx i.ctx).img.staged = [] ∧ ∀ h, h ≠ i.ctx → t.cx h = s.cx h) ∧
  (other ≠ some i.item → (s.cx i.ctx).act.broken = false → (s.cx i.ctx).task.mmaction = 1 → s.op.st = .run →
    Leads (.checkerCompare p other) s fun t => t.pair[p].mismatch = true ∧ t.pair[p].mmCtx = i.ctx.val ∧ t.pair[p].mmPc = i.pc ∧
      t.pair[p].mmCnt = satInc s.pair[p].mmCnt ∧ (∀ j ∈ t.pair[p].items, j.ctx ≠ i.ctx) ∧
      t.op.st = .halt ∧ t.op.haltCause = 2 ∧ t.op.safe = true ∧ ((∀ h, (s.cx h).img.dirty = []) → t.mem = s.mem) ∧
      t.img.commits = s.img.commits) ∧
  (other ≠ some i.item → (s.cx i.ctx).act.broken = true → Leads (.checkerCompare p other) s fun t =>
    t.pair[p].mismatch = true ∧ t.pair[p].mmCtx = i.ctx.val ∧ t.op = s.op ∧ t.ctx = s.ctx ∧ t.mem = s.mem)

/-- R259–R266: the background test of a comparator, its repetition by command, the debugger. -/
def Obligations.PairTestsAndDebugger : Prop := ∀ (s : State) (p : PairId) (found : Option (Nat × Nat)) (r : Req) (g : Gctx),
  s.op.failover = false →
  (s.pwr.phase ≠ .off → s.cfg (0xD120 + p.val) 5 1 ≠ 0 → s.pairRuns p = none → s.pair[p].test ≠ 2 →
    (found = stepWants s.pair[p].step → s.injOn (36 + p.val) = false → Leads (.comparatorStep p found) s fun t =>
      t = { s with pair := s.pair.set p (if s.pair[p].step = 172 then { s.pair[p] with step := 0, sweeps := s.pair[p].sweeps + 1 }
        else { s.pair[p] with step := s.pair[p].step + 1 }) }) ∧
    (found ≠ stepWants s.pair[p].step → Leads (.comparatorStep p found) s fun t =>
      t = { s with pair := s.pair.set p { s.pair[p] with usable := false, testfail := true, injected := false }, ctx := t.ctx, rcd := t.rcd } ∧
      t.rcd = (s.rec_ 0xD013 (0x48 + p.val) p.val (stepParam s.pair[p].step) 1).rcd ∧
      ∀ h : Gctx, t.cx h = { s.cx h with act := { (s.cx h).act with owed := (s.cx h).act.owed ||
        (decide (h.val / 16 = p.val ∧ h.val % 16 < 8) && (s.cx h).task.paired && !(s.cx h).act.broken) } })) ∧
  (s.op.st = .stop → Performs (.repeatComparatorTest r p) s r (0xD120 + p.val) 7 2 [1] fun t =>
    ((t.pair[p].usable = true ∧ t.pair[p].test = 0) ∨ (t.pair[p].usable = false ∧ t.pair[p].test = 1 ∧ t.pair[p].testfail = true)) ∧
    (∀ q : PairId, q ≠ p → t.pair[q] = s.pair[q]) ∧ t.ctx = s.ctx ∧ t.op = s.op ∧ t.mem = s.mem) ∧
  (s.pwr.phase ≠ .off → (s.cx g).task.paired = false → (s.cx g).act.dbgHalt = false → Leads (.debugHalt g) s fun t =>
    t.cx g = { s.cx g with act := { (s.cx g).act with dbgHalt := true, dbgAt := s.clk } } ∧ (∀ h, h ≠ g → t.cx h = s.cx h) ∧
    t = { s with ctx := t.ctx, sup := t.sup }) ∧
  (s.pwr.phase ≠ .off → (s.cx g).task.paired = true → g.val % 16 < 8 → (s.cx g).act.dbgHalt = false → (s.cx g).act.broken = false → (∀ i ∈ s.pair[pairOf g].items, i.ctx ≠ g) →
    Leads (.debugHalt g) s fun t => (t.cx g).act.dbgHalt = true ∧ (t.cx g).act.broken = true ∧ (t.cx g).act.paired = false ∧
      t.pair[pairOf g].brokenF = true ∧ t.pair[pairOf g].brkCnt = satInc s.pair[pairOf g].brkCnt ∧
      (t.cx g).regs = (s.cx g).regs ∧ (∀ h, h ≠ g → t.cx h = s.cx h) ∧ t.mem = s.mem) ∧
  ((s.cx g).task.paired = false → (s.cx g).act.dbgHalt = true → Leads (.debugResume g) s fun t =>
    t.cx g = { s.cx g with act := { (s.cx g).act with dbgHalt := false, retiredAt := (t.cx g).act.retiredAt } } ∧ (∀ h, h ≠ g → t.cx h = s.cx h) ∧
    t = { s with ctx := t.ctx, core := t.core })


/-! ## Programs and edits (R281–R305) -/

/-- R281, R282, R286, R296–R298, R300: the program and edit commands. A load clears the output image and the forces and takes the slot
in force; APPLY begins an edit and is answered at its ready time; ACCEPT makes the edit's version the program in force;
REVERT fixes the revert switch, in STOP and HALT at once; CANCEL ends an edit that is not PENDING. A load whose blocks the image store
does not give back right is refused; after the first core bank has been written no program is loaded (R278, R284). -/
def Obligations.ProgramCommands : Prop := ∀ (s : State) (r : Req) (slot : Byte) (fail : Option Nat), s.op.failover = false →
  let e := s.prog.edit
  let k := slotIdx s.prog.active
  let u := taken s r (writeOf r 0x2300 2 2 [slot])
  let v := taken s r (writeOf r 0x2310 1 2 [1])
  let p := s.sec.par[parOf s.prog.active]
  let islands := ∀ n : CoreId, s.core[n].powered = true → s.carries n = true
  (∀ x, Accepted s r x 0x2300 2 2 [slot] → s.op.key = 0 → s.op.st = .stop → slot = 1 ∨ slot = 2 →
    u.marchUnder (u.slotBlocks slot.toNat) = false → Leads (.loadSlot r slot fail) s fun t => t.op.st = .stop ∧ t.op.key = s.op.key ∧
      ((u.checkSlot slot.toNat).2.2 = none → fail = none → Answered t r 4 0 ∧
        t.prog.loaded = true ∧ t.prog.active = slot.toNat ∧ t.prog.hash = (u.checkSlot slot.toNat).2.1.hash ∧ t.img.out = [] ∧
        t.img.forces = [] ∧ ∀ g, (t.cx g).act.ovrCnt = 0 ∧ (t.cx g).act.missCnt = 0 ∧ (t.cx g).img.staged = []) ∧
      ((u.checkSlot slot.toNat).2.2 = none → fail = some 0 → Answered t r 4 (abVerify 3).code ∧ t.prog.loaded = s.prog.loaded ∧
        t.prog.active = s.prog.active ∧ t.img = s.img ∧ t.ctx = s.ctx ∧ t.mem = s.mem) ∧
      (∀ n, (u.checkSlot slot.toNat).2.2 = none → fail = some (n + 1) → Answered t r 4 (abVerify 3).code ∧ t.prog.loaded = false ∧
        t.prog.active = s.prog.active ∧ t.img.out = [] ∧ t.img.forces = [] ∧ ∀ g, (t.cx g).task = .blank) ∧
      ∀ f, (u.checkSlot slot.toNat).2.2 = some f → Answered t r 4 f.code ∧ t.prog.loaded = s.prog.loaded ∧ t.prog.active = s.prog.active ∧
        t.img = s.img ∧ t.ctx = s.ctx ∧ t.mem = s.mem) ∧
  (∀ x, Accepted s r x 0x2310 1 2 [1] → s.op.key = 2 → s.isTrail = false → e.st = 0 → s.cfg 0x2310 3 0 = 0 → s.prog.loaded = true →
    p.st = 2 → hdrEdit p.bytes = true → Leads (.apply r) s fun t => t.mem = s.mem ∧ t.img = s.img ∧ t.ctx = s.ctx ∧ t.op = s.op ∧
      ((v.checkEdit p.bytes (some r)).2 = none → t.prog.edit.st = 1 ∧ t.prog.edit.image = p.bytes ∧ t.prog.edit.req = some r ∧
        t.dict.sent = s.dict.sent) ∧
      ∀ a, (v.checkEdit p.bytes (some r)).2 = some a → t.prog.edit.st = 0 ∧ Answered t r 4 a.code) ∧
  (s.op.key = 2 → e.st = 3 → Performs (.accept r) s r 0x2310 1 2 [2] fun t =>
    t.prog.edit.st = 0 ∧ t.prog.hash = e.hash ∧ t.prog.progid = e.progid ∧ t.prog.progver = e.progver ∧
    t.prog.upper = !s.prog.upper ∧ t.prog.slots[k].edits = s.prog.slots[k].edits ++ [e.image] ∧
    t.prog.slots[k].base = s.prog.slots[k].base ∧ t.img.out = s.img.out ∧ t.mem = s.mem ∧ t.op = s.op) ∧
  (s.op.key = 2 → e.st = 3 → s.op.st ≠ .run → s.inTandem = false → Performs (.revert r) s r 0x2310 1 2 [3] fun t =>
    t.prog.edit = { e with st := 4, ts := s.time.tb } ∧ t.prog.hash = s.prog.hash ∧ t.prog.slots = s.prog.slots ∧ t.img = s.img ∧
    t.mem = s.mem ∧ t.ctx = s.ctx ∧ t.op = s.op) ∧
  (s.op.key = 2 → e.st = 1 ∨ e.st = 2 → Performs (.cancel r) s r 0x2310 1 2 [4] fun t =>
    t.prog = { s.prog with edit := .blank } ∧ t.img = s.img ∧ t.mem = s.mem ∧ (islands → t.ctx = s.ctx) ∧ t.op = s.op)

/-- R289, R291, R293, R299, R300, R304: the instants of an edit. At its ready time it becomes ARMED with a switch instant; at Ts it becomes
PENDING and each task of the edit is to switch at its next release; a migration is done once; the revert switch ends the
edit with the program hash unchanged; 10 minutes after Ts the edit is accepted; 2 s without TRAIL's readiness cancel it.
Readings of the model: log entries 20, 22 and 25. -/
def Obligations.EditInstants : Prop := ∀ (s : State) (g : Gctx),
  let e := s.prog.edit
  let islands := ∀ n : CoreId, s.core[n].powered = true → s.carries n = true
  (e.st = 1 → s.marchUnder (placement (bodyOf e.image)) = false → s.isTrail = false → s.inTandem = false → s.op.st ≠ .run →
    Leads .readyTime s fun t => t.prog.edit = { e with st := 2, ts := s.time.tb, trail := none, req := none } ∧
      t.mem = writeBlocks s.mem (placement (bodyOf e.image)) ∧ t.ctx = s.ctx ∧ t.op = s.op ∧ t.img = s.img) ∧
  (e.st = 1 → s.marchUnder (placement (bodyOf e.image)) = false → s.isTrail = false → s.leadPaired = false →
    s.chooseTs s.time.tb.toNat = none →
    Leads .readyTime s fun t => t.prog.edit = .blank ∧ t.mem = s.mem ∧ (islands → t.ctx = s.ctx) ∧ t.op = s.op ∧ t.img = s.img) ∧
  (e.st = 2 → e.ts.toNat ≤ s.time.tb.toNat → Leads .switchInstant s fun t =>
    t.prog.edit.st = 3 ∧ t.prog.edit.acceptAt = s.clk + 600000000000 ∧ t.prog.hash = s.prog.hash ∧ t.img.out = s.img.out ∧
    t.img.ownNew = e.imap.ownTable ∧ t.img.own = s.img.own ∧ t.op = s.op ∧
    (∀ h : Gctx, (t.cx h).act.status = (s.cx h).act.status) ∧
    ∀ x, e.tasks = [(g.val, x)] →
      ((s.cx g).inProgress = true → (t.cx g).next = some (x.getD .blank) ∧ (t.cx g).task = (s.cx g).task) ∧
      ((s.cx g).inProgress = false → (t.cx g).next = none ∧ (t.cx g).task = x.getD .blank)) ∧
  (e.st = 3 → e.migrate.contains g.val = true → (s.cx g).inProgress = false ∨ (s.cx g).act.newVer = true →
    Leads (.migration g) s fun t => t.prog.edit.migrate = e.migrate.filter (· != g.val) ∧
      t.prog.edit.migWords = e.migWords + (s.migrated e s.prog.ret g.val).length ∧ t.ctx = s.ctx ∧ t.op = s.op ∧ t.img = s.img) ∧
  (e.st = 4 → e.ts.toNat ≤ s.time.tb.toNat → Leads .revertSwitch s fun t =>
    t.prog.edit = .blank ∧ t.prog.hash = s.prog.hash ∧ t.prog.slots = s.prog.slots ∧ t.img.out = s.img.out ∧ t.img.own = s.img.own ∧
    t.img.ownNew = [] ∧ t.op = s.op) ∧
  (e.st = 3 → e.acceptAt ≤ s.clk → s.isTrail = false → s.leadPaired = false → Leads .automaticAccept s fun t =>
    t.prog.edit = .blank ∧ t.prog.hash = e.hash ∧ t.prog.upper = !s.prog.upper ∧ t.mem = s.mem ∧ t.op = s.op ∧
    t.img.out = s.img.out ∧ t.img.own = e.imap.ownTable) ∧
  (∀ t0, e.trail = some t0 → e.st = 1 → t0 + 2000000000 ≤ s.clk → Leads .trailReadyTimeout s fun t =>
    t.prog = { s.prog with edit := .blank } ∧ t.mem = s.mem ∧ (islands → t.ctx = s.ctx) ∧ t.op = s.op ∧ t.img = s.img)

/-! ## Banks and the record store (R317–R338, R344–R371) -/

/-- R317, R320–R322, R327, R331, R332, R336, R338: the scrubber reads the next word; a corrected word is written back; a held write of the
owner is applied; marches start where the bank permits them; a passing destructive march leaves every word of the bank 0
and every byte elsewhere alone; repairs are cleared.
Readings of the model: log entry 17. -/
def Obligations.Banks : Prop := ∀ (s : State) (b : BankId) (g : Gctx) (r : Req) (v : Word), s.op.failover = false →
  let k := s.bank[b]
  let others := fun (t : State) => ∀ c : BankId, c ≠ b → t.bank[c] = s.bank[c]
  let a := bankBase b + 4 * k.scrub
  (k.march = none → s.errAt a = 0 → s.injOn (48 + b.val) = false → s.injOn (59 + b.val) = false → s.pwr.phase ≠ .off → s.turn b 14 = true →
    Leads (.scrubRead b) s fun t =>
    t = { s with bank := t.bank } ∧ others t ∧ t.bank[b] =
      if k.scrub + 1 < bankWords b then { k with scrub := k.scrub + 1, last := 14 }
      else { k with scrub := 0, passes := k.passes + 1, last := 14 }) ∧
  (k.march = none → s.errAt a = 2 → s.pwr.phase ≠ .off → s.turn b 14 = true → Leads (.scrubRead b) s fun t => others t ∧ t.bank[b].ue = true ∧ t.bank[b].ueCnt = k.ueCnt + 1 ∧
    t.bank[b].eccAddr = BitVec.ofNat 32 a ∧ t.mem = s.mem ∧ t.rcd = (s.rec_ 0xC101 (0x60 + b.val) b.val a 1).rcd) ∧
  (∀ w l, k.wb = w :: l → swf 0 s.errs = true → Leads (.correctedWriteBack b) s fun t => t.bank[b] = { k with wb := l } ∧ others t ∧
    t = { s with bank := t.bank, errs := t.errs } ∧ (sget 0 s.errs w = 1 → sget 0 t.errs w = 0) ∧
    ∀ x, x ≠ w → sget 0 t.errs x = sget 0 s.errs x) ∧
  (∀ w, k.heldW = some w → Memory.wf s.mem = true → Leads (.heldWrite b) s fun t => t.bank[b] = { k with heldW := none } ∧ others t ∧
    t = { s with bank := t.bank, errs := t.errs, mem := t.mem } ∧
    ∀ x, rdByte t.mem x = if w.addr.toNat ≤ x ∧ x < w.addr.toNat + 2 ^ w.size.toNat then
      BitVec.ofNat 8 (w.data.toNat / 256 ^ (x - w.addr.toNat)) else rdByte s.mem x) ∧
  (v.toNat % 4 < 2 → v.getLsbD 4 = true → k.march = none → s.marchBars b (v.getLsbD 0) = none → g.val / 8 ≠ b.val → RegAccess s g →
    Leads (.marchStart g b v) s fun t => t.bank[b].march = some ⟨v.getLsbD 0, false, false⟩ ∧ t.bank[b].result = 1 ∧ others t ∧
      t.mem = s.mem ∧ t.op = s.op ∧ t.img = s.img) ∧
  (k.march = none → s.marchBars b false = none → Performs (.transparentMarch r b) s r (0xC100 + b.val) 8 2 [1] fun t =>
    t.bank[b].march = some ⟨false, false, false⟩ ∧ t.bank[b].result = 1 ∧ others t ∧ t.mem = s.mem ∧ t.op = s.op) ∧
  (k.march = none → s.marchBars b true = none → Performs (.destructiveMarch r b) s r (0xC100 + b.val) 8 2 [2] fun t =>
    t.bank[b].march = some ⟨true, false, false⟩ ∧ t.bank[b].result = 1 ∧ others t ∧ t.mem = s.mem ∧ t.op = s.op) ∧
  Performs (.clearRepairs r b) s r (0xC100 + b.val) 9 2 [1] (fun t =>
    t.bank[b] = { k with rep0 := none, rep1 := none } ∧ others t ∧ t.mem = s.mem ∧ t.ctx = s.ctx ∧ t.op = s.op) ∧
  (k.march = some ⟨true, true, false⟩ → s.injFor 124 b.val = false → s.prog.waitLoad = none → Memory.wf s.mem = true →
    Leads (.marchEnd b .pass) s fun t => t.bank[b].march = none ∧ t.bank[b].result = 2 ∧ others t ∧
      (∀ x, rdByte t.mem x = if bankBase b ≤ x ∧ x < bankBase b + 4 * bankWords b then 0 else rdByte s.mem x) ∧
      t = { s with mem := t.mem, errs := t.errs, bank := t.bank, rcd := t.rcd }) ∧
  (∀ i, k.march = some ⟨false, i, false⟩ → (s.errsOf b).find? (fun p => p.2 == 2) = none → s.prog.waitLoad = none →
    s.injFor 124 b.val = false → Leads (.marchEnd b (.failSignature 5)) s fun t =>
      t.bank[b].march = none ∧ t.bank[b].result = 4 ∧ t.bank[b].mfail = true ∧ t.bank[b].mfailW = 0xFFFFFFFF ∧ others t ∧ t.mem = s.mem)

/-- R344, R346–R349, R361, R363, R374: grants of the record store, the journal, page programs, and the fold of the counters.
The order of grants is log entry 19. -/
def Obligations.RecordStore : Prop := ∀ (s : State) (n : CoreId) (g : Gctx) (v : Word),
  let q := s.nv
  let start := v.toNat % 16
  let len := v.toNat / 16 % 32
  (q.granted = none → q.inRecall = false → q.queue ≠ [] → q.run < 2 →
    Leads .nvGrant s fun t => t = { s with nv := { q with granted := some 9, run := q.run + 1 } }) ∧
  (∀ m, q.granted = none → q.inRecall = false → q.lehr = .none → s.ringNext = some m → q.queue = [] ∨ 2 ≤ q.run →
    Leads .nvGrant s fun t => t = { s with nv := { q with granted := some m, run := 0, ring := m } }) ∧
  (∀ off w l, q.queue = (off, w) :: l → q.inRecall = false → q.granted = some 9 → Memory.wf s.mem = true →
    Leads .journalDrain s fun t => t.nv.queue = l ∧ t.nv.drained = q.drained + 1 ∧ t.nv.granted = none ∧
      rdWord t.mem (nvBase + off) = w ∧
      (∀ x, x < nvBase + off ∨ nvBase + off + 4 ≤ x → rdByte t.mem x = rdByte s.mem x) ∧
      t = { s with mem := t.mem, errs := t.errs, nv := t.nv }) ∧
  (coreOf g = n → RegAccess s g → 0x258000 ≤ q.pb[n].page.toNat → q.pb[n].page.toNat + 64 ≤ 0x400000 → q.pb[n].prog = none → q.inRecall = false →
    q.lehr = .none → 1 ≤ len → start + len ≤ 16 → v.getLsbD 16 = true → Leads (.pageProgram g v) s fun t =>
      t.nv.pb[n] = { q.pb[n] with start := start, len := len, prog := some (start, len) } ∧
      (∀ m : CoreId, m ≠ n → t.nv.pb[m] = q.pb[m]) ∧ t.mem = s.mem ∧ t.op = s.op) ∧
  (∀ a l, q.pb[n].prog = some (a, l) → q.granted = some n.val → Memory.wf s.mem = true → a + l ≤ 16 →
    Leads (.pageProgramDone n) s fun t => t.nv.pb[n] = { q.pb[n] with prog := none, done := true } ∧ t.nv.granted = none ∧
      (∀ i : Nat, (hi : i < 16) → a ≤ i → i < a + l → rdWord t.mem (nvBase + q.pb[n].page.toNat + 4 * i) = q.pb[n].data[i]) ∧
      (∀ x, x < nvBase + q.pb[n].page.toNat + 4 * a ∨ nvBase + q.pb[n].page.toNat + 4 * (a + l) ≤ x → rdByte t.mem x = rdByte s.mem x) ∧
      t = { s with mem := t.mem, errs := t.errs, nv := t.nv }) ∧
  (q.opAt + 1000000000 ≤ s.clk → s.pwr.phase ≠ .off → q.granted = some 8 → Leads .counterFold s fun t =>
    s.clk < t.nv.opAt + 1000000 ∧ t.nv.opAt ≤ s.clk ∧ (∀ c : Ch, t.fld.ch[c] = { s.fld.ch[c] with volSw := 0 }) ∧
    t.nv.granted = none ∧
    t = { s with mem := t.mem, errs := t.errs, nv := t.nv, rcd := t.rcd, inj := t.inj, fld := { s.fld with ch := t.fld.ch } })

/-! ## Power, lehr, resets and start-up (R360–R371, R759–R776) -/

/-- R367, R369, R371, R759–R763, R765: the lehr. A supply below 4.2 V starts it: releases held are discarded, INTLK is given up, slot
100 counts. Step 3 abandons what runs 1 ms later and completes page programs; step 5, once the journal is empty and
no commit is left, sets the
marker clean, and the module stops, or starts anew when VIN has risen. A hold-up that ends early leaves the retained halves
unspecified and the marker not clean. Above 18 V for 1 ms is recorded.
The thresholds are the model's readings of log entry 64, the durations free by entry 65. -/
def Obligations.Lehr : Prop := ∀ (s : State) (mv ms : Nat),
  let q := s.nv
  let off := s.pwr.phase = .off
  let quiet := 3 ≤ s.tdm.st ∨ (s.bound 185 = none ∧ (s.tdm.holds = false ∨ s.bound 184 = none))
  (18000 < mv → 1 ≤ ms → Leads (.vinHigh mv ms) s fun t => t = { s with rcd := (s.rec_ 0x1004 0x50 mv ms).rcd }) ∧
  (mv < 4200 → ¬off → q.powerFail = false → q.inRecall = false → q.lehr = .none → Leads (.powerFail mv) s fun t =>
    t.nv.lehr = .step2 ∧ t.nv.t0 = s.clk ∧ t.nv.powerFail = true ∧ t.pwr = { s.pwr with pfwLow := true, rose := false } ∧ t.tdm.holds = false ∧
    (quiet → t.mem = (s.count 100 1).mem ∧ t.op = s.op ∧ t.img = s.img ∧ t.prog = s.prog ∧ ∀ g, (t.cx g).act.held = false)) ∧
  (mv < 4200 → ¬off → q.powerFail = false → q.inRecall = true → Leads (.powerFail mv) s fun t =>
    t.pwr.phase = .off ∧ ResetFrom s t s.mem) ∧
  (q.lehr = .step2 → q.t0 + 1000000 ≤ s.clk → s.op.failover = false → Leads .lehrStep3 s fun t =>
    t.nv.lehr = .step4 ∧ t.nv.granted = none ∧ t.nv.queue = q.queue ∧ t.op = s.op ∧ t.img = s.img ∧ (∀ n : CoreId, t.nv.pb[n].prog = none) ∧
    ∀ h, (t.cx h).act.status = (if (s.cx h).inCommit then (s.cx h).act.status
      else if (s.cx h).inProgress then .idle else (s.cx h).act.status)) ∧
  (q.lehr = .step4 → q.queue = [] → s.img.commits = [] →
    (q.powerFail = false → Leads .lehrStep5 s fun t => t.nv.lehr = .done ∧ t.nv.clean = true ∧ t.pwr = s.pwr ∧ t.ctx = s.ctx ∧ t.img = s.img) ∧
    (q.powerFail = true → s.pwr.rose = false → Leads .lehrStep5 s fun t => t.pwr.phase = .off ∧ t.nv.clean = true ∧ t.otp = s.otp ∧
      t.prog.slots = s.prog.slots ∧ t.op.st = .stop) ∧
    (q.powerFail = true → s.pwr.rose = true → Leads .lehrStep5 s fun t => t.pwr.phase = .step1 ∧ t.pwr.onAt = s.clk ∧ t.nv.clean = true ∧
      t.otp = s.otp ∧ t.prog.slots = s.prog.slots ∧ t.op.st = .stop)) ∧
  (off → Leads .holdupExhausted s fun t => t = { s with pwr := { s.pwr with pfwLow := false } }) ∧
  (¬off → q.powerFail = true → Memory.wf s.mem = true → Leads .holdupExhausted s fun t =>
    t.pwr.phase = .off ∧ t.pwr.pfwLow = false ∧ t.nv.clean = q.clean ∧ t.otp = s.otp ∧ t.prog.slots = s.prog.slots ∧ t.sec.fw = s.sec.fw ∧
    t.time.rtc = s.time.rtc ∧ ∀ x, nvBase ≤ x → (∀ b, x < nvBase + halfOff b ∨ nvBase + halfOff b + 0x80000 ≤ x) →
      rdByte t.mem x = rdByte s.mem x)

/-- R90, R370, R744, R745, R752, R760, R763, R768, R771, R773–R777: resets and start-up. A reset that is asked for takes the lehr
from step 3 on, or effect at once during recall, and then leaves what R775 says, with the cause kept. Step 2 starts the
debounce of the key and recall; pressing the recovery button, or an active firmware that fails, leads to recovery mode, else
to step 10; every record of the store holding what the module holds. Step 10 runs no sooner than 20 ms later, reads the key, ends the count of failed boots and starts the program
only with the key at RUN.
That steps 2 to 9 take one instant is log entry 66, the reading of recall entry 67, of the choice of firmware entry 68. -/
def Obligations.ResetsAndStart : Prop := ∀ (s : State) (mv ticks : Nat) (r : Req),
  let q := s.nv
  let idle := q.lehr = .none ∧ s.pwr.resetPend = none
  let asked := fun (c : Nat) (t : State) => t.pwr.resetPend = some c ∧ t.nv.lehr = (if q.inRecall then .done else .step4) ∧
    t.pwr.phase = s.pwr.phase ∧ t.tdm.holds = false ∧ t.prog.slots = s.prog.slots
  let failed := s.pwr.phase ≠ .running ∧ s.pwr.phase ≠ .recovery
  let fw := s.fwVerifies (s.fwImage s.fwActive)
  let other := s.fwVerifies (s.fwImage s.fwOther)
  let recalls := s.errs = [] ∧ ∀ k, k = dirKey ∨ k ∈ s.nv.listed ∨ k ∈ s.nv.twins.map (·.1) →
    ∃ c, (s.validTwin k).taken = some c ∧ c.data = s.recData k
  let key := match s.op.debounce with | some t0 => (if t0 + 20000000 ≤ s.clk then keyCode s.op.rawA s.op.rawB else s.op.key) | none => s.op.key
  let starts := s.prog.loaded = true ∧ (∀ h, (s.cx h).task.paired = true → s.pair[pairOf h].usable = true) ∧ q.inRecall = false
  (4400 < mv → s.pwr.phase = .off → Leads (.powerOnReset mv) s fun t =>
    t.pwr.phase = .step1 ∧ t.pwr.onAt = s.clk ∧ t.pwr.pfwLow = true ∧ t.pwr.cause = 0 ∧ ResetFrom s t s.mem) ∧
  (4400 < mv → s.pwr.phase ≠ .off → q.powerFail = true → Leads (.powerOnReset mv) s fun t =>
    t = { s with pwr := { s.pwr with rose := true } }) ∧
  (8 ≤ ticks → idle → s.pwr.phase ≠ .off → s.pwr.phase ≠ .step1 → s.op.failover = false → Leads (.resetNLow ticks) s (asked 1)) ∧
  (idle → s.tdm.holds = false ∨ s.bound 184 = none → s.op.failover = false → Performs (.resetDevice r) s r 0x1003 1 2 [1] (asked 8)) ∧
  (∀ c, s.pwr.resetPend = some c → q.lehr = .done → Leads .deviceReset s fun t =>
    t.pwr.phase = .steps ∧ t.pwr.cause = c ∧ t.pwr.reached = s.pwr.phase.step ∧ t.pwr.onAt = s.clk ∧ t.pwr.resetPend = none ∧
    t.sec.boots = (if failed then min 255 (s.sec.boots + 1) else s.sec.boots) ∧ ResetFrom s t (s.count 3 1).mem) ∧
  (s.pwr.phase = .step1 ∨ s.pwr.phase = .steps → q.lehr = .none → recalls → ∀ rec marches comp,
    Leads (.startStep2 rec marches comp) s fun t =>
    t.nv.inRecall = false ∧ t.nv.lastClean = q.clean ∧ t.nv.clean = false ∧ t.pwr.startAt = s.clk ∧ t.pwr.pfwLow = false ∧
    t.op.debounce = some s.clk ∧ (s.tdm.holds = false → t.op.key = s.op.key ∧ t.op.st = s.op.st) ∧
    (s.sec.atReset = false →
      (rec = true → t.pwr.phase = .recovery ∧ t.sec.recovery = 1) ∧
      (rec = false → 3 ≤ s.sec.boots → t.pwr.phase = .recovery ∧ t.sec.recovery = 3) ∧
      (rec = false → s.sec.boots = 0 → ¬fw → ¬other → t.pwr.phase = .recovery ∧ t.sec.recovery = 2) ∧
      (rec = false → s.sec.boots = 0 → fw → s.runtimeOk = true → t.pwr.phase = .step10 ∧ t.sec.active = s.sec.active) ∧
      (rec = false → s.sec.boots = 0 → ¬fw → other → (s.modSec fun c => { c with active := s.fwOther.val + 1 }).runtimeOk = true →
        t.pwr.phase = .step10 ∧ t.sec.active = s.fwOther.val + 1))) ∧
  (s.pwr.phase = .step10 → s.pwr.startAt + 20000000 ≤ s.clk → s.op.failover = false → s.cfg 0x7200 1 0 = 0 → s.tdm.st = 0 →
    Leads .startStep10 s fun t => t.pwr.phase = .running ∧ t.sec.boots = 0 ∧ t.sec.serving = some s.clk ∧ t.op.key = key ∧
      t.pwr.durUs = (s.clk - s.pwr.onAt) / 1000 ∧
      (key ≠ 1 → t.op.st = s.op.st ∧ t.ctx = s.ctx ∧ t.mem = s.mem) ∧
      (key = 1 → starts → t.op.st = .run ∧ t.op.enter = s.time.tb) ∧
      (key = 1 → ¬starts → t.op.st = s.op.st ∧ t.ctx = s.ctx ∧ t.mem = s.mem))

/-! ## Field channels (R381–R416) -/

/-- R385–R394, R403–R407, R415: the inputs of the field channels. At a scan instant every channel's current, pin and frequency are
taken, and what is reported once per scan is cleared. A sample moves the filter one step; a change of the filtered state
of a DI channel counts a rising edge. A counter whose signal stays away reads frequency 0. A change of mode clears the
channel. A wire break and its end are kept and recorded once as many consecutive samples as the wire-break time has microseconds
have shown them (R793).
The reading of a scan is log entry 28. -/
def Obligations.FieldInputs : Prop := ∀ (s : State) (c : Ch) (p : ScanPins) (ua n : Nat),
  let f := s.fld.ch[c]
  let k := s.time.tb.toNat / s.scanNs
  let rd := reading f.rd ua
  let on := rd = 2
  let lim := s.chCfg c 3 1000
  let acc := if lim = 0 then f.acc else if on then min (f.acc + 1) lim else f.acc - 1
  let flt := if lim = 0 then decide (rd = 2) else if acc = 0 then false else if acc = lim then true else f.flt
  let counts := s.chCfg c 0xC 0 = (if flt then 0 else 1) ∨ 2 ≤ s.chCfg c 0xC 0
  let same := fun (t : State) => t = { s with fld := { s.fld with ch := t.fld.ch } } ∧ ∀ d : Ch, d ≠ c → t.fld.ch[d] = s.fld.ch[d]
  let m := s.modeCfg c
  let brk := f.brk.feed (rd == 0) 1 s.sampleNo
  let u := s.sampleRun c ua n s.sampleNo
  (s.fld.scanK ≠ some k → s.pwr.phase ≠ .off → s.pwr.phase ≠ .step1 → s.op.failover = false → s.tdm.st = 0 →
    Leads (.fieldScan p) s fun t => t.fld.scanK = some k ∧ t.fld.scans = (s.fld.scans + 1) % 2 ^ 32 ∧
      ∀ d : Ch, t.fld.ch[d].freq = s.fld.ch[d].freqNew ∧ t.fld.ch[d].pin = p.pinHi.getLsbD d.val ∧ t.fld.ch[d].changed = 0 ∧
        t.fld.ch[d].cmp = false ∧ t.fld.ch[d].preset = false ∧ t.fld.ch[d].entered = false ∧ t.fld.ch[d].flt = s.fld.ch[d].flt ∧
        t.fld.ch[d].rd = (if s.samples d then reading s.fld.ch[d].rd (p.inUa.getD d.val 0) else s.fld.ch[d].rd)) ∧
  (s.samples c = false → Leads (.filteredStateChange c [ua]) s fun t => t = s) ∧
  (s.samples c = true → f.lim = lim → f.acc ≤ lim → f.brk.next ≤ s.sampleNo → Leads (.filteredStateChange c [ua]) s fun t => same t ∧
    t.fld.ch[c].rd = rd ∧ t.fld.ch[c].acc = acc ∧ t.fld.ch[c].flt = flt ∧
    (flt = f.flt → t.fld.ch[c] = { f with rd := rd, acc := acc, brk := brk }) ∧
    (flt ≠ f.flt → f.mode = 1 → t.fld.ch[c] = { f with
      rd := rd, acc := acc, flt := flt, brk := brk, changed := f.changed ||| (if flt then 1 else 2), cnt := if flt then f.cnt + 1 else f.cnt
      edgeT := BitVec.ofNat 32 (edgeNs lim s.time.tb.toNat), lastEdge := s.clk }) ∧
    (flt ≠ f.flt → f.mode = 4 → s.quadOf c = none → t.fld.ch[c].cnt = if counts ∧ s.inhibited c = false then f.cnt + 1 else f.cnt)) ∧
  (f.mode = 4 → f.nosig = false → f.lastEdge + max 12000000000 (2 * (s.chCfg c 0xD 100 * 1000000)) ≤ s.clk →
    Leads (.noSignal c) s fun t => same t ∧ t.fld.ch[c] = { f with nosig := true, freqNew := 0, meas := none }) ∧
  (m ≠ f.mode → Leads (.modeChanged c) s fun t => OnlyCh s t c ∧ t.rcd = (s.rec_ 0x3017 0x53 c.val m f.mode).rcd ∧
    t.fld.ch[c].mode = m ∧ t.fld.ch[c].lim = lim ∧ t.fld.ch[c].acc = 0 ∧ t.fld.ch[c].flt = false ∧ t.fld.ch[c].cnt = 0 ∧
    t.fld.ch[c].freq = 0 ∧ t.fld.ch[c].broken = false ∧ t.fld.ch[c].ovl = false ∧ t.fld.ch[c].openw = false ∧ t.fld.ch[c].ot = false ∧
    t.fld.ch[c].rbmm = false ∧ t.fld.ch[c].latched = false) ∧
  (s.samples c = true → s.quadOf c = none → s.chCfg c 5 0 = 1 → f.broken = false →
    u.fld.ch[c].brk.held true (s.wireTime c) = true ∨ s.injFor 95 c.val = true → Leads (.wireBreak c ua n) s fun t => OnlyCh s t c ∧
      t.rcd = (s.recInj 0x3013 0x53 c.val ua 0 (!u.fld.ch[c].brk.held true (s.wireTime c))).rcd ∧
      t.fld.ch[c] = { u.fld.ch[c] with broken := true, entered := true, brokenAt := s.clk }) ∧
  (s.samples c = true → s.quadOf c = none → f.broken = true → u.fld.ch[c].brk.held false (s.wireTime c) = true →
    s.injFor 95 c.val = false → Leads (.wireRestored c ua n) s fun t => OnlyCh s t c ∧
      t.rcd = (s.rec_ 0x3014 0x53 c.val ((s.clk - f.brokenAt) / 1000000)).rcd ∧ t.fld.ch[c] = { u.fld.ch[c] with broken := false })

/-- R381–R383, R395, R398–R401: the outputs of the field channels and their groups. A channel whose link, supply or temperature
fails, whose group is over its current, or whose overload is latched, drives its output off; when the fault ends it drives
what R395 gives it again. Each fault is kept and recorded, once as many consecutive samples have shown it as R793 says. -/
def Obligations.FieldOutputs : Prop := ∀ (s : State) (c : Ch) (g : Grp) (x n : Nat) (pin : Bool),
  let f := s.fld.ch[c]
  let k := s.fld.grp[g]
  let out := outputMode f.mode = true
  let diag := f.link = false ∧ s.fld.grp[grpOf c].low = false
  let set := fun (t : State) (f' : FChan) => t = { s with fld := { s.fld with ch := t.fld.ch }, rcd := t.rcd, inj := t.inj } ∧
    t.fld.ch[c] = f' ∧ ∀ d : Ch, d ≠ c → t.fld.ch[d] = s.fld.ch[d]
  let groupOff := fun (t : State) => OnlyGrp s t g ∧ (∀ d : Ch, DrivenOnly s t d) ∧ ∀ d : Ch, grpOf d = g → t.fld.ch[d].driven = false
  let back := fun (t : State) => ∀ d : Ch, t.fld.ch[d].driven = t.drivenWant d
  let now := s.sampleNo
  (out → diag → f.ovl = false → let l := f.lim_.feed f.driven n now; let real := l.held true (s.overTime c)
    real = true ∨ s.injFor 92 c.val = true → Leads (.overload c x n) s fun t => OnlyCh s t c ∧
    t.rcd = (s.recInj 0x3010 0x53 c.val x (s.chCfg c 9 0) (!real)).rcd ∧
    (s.chCfg c 9 0 ≠ 1 → t.fld.ch[c].ovl = true ∧ t.fld.ch[c].latched = false) ∧
    (s.chCfg c 9 0 = 1 → t.fld.ch[c].driven = false ∧ (s.drivenWant c = true → t.fld.ch[c].ovl = true ∧ t.fld.ch[c].latched = true))) ∧
  (diag → f.ovl = true → f.latched = false → s.injFor 92 c.val = false → (f.lim_.feed false n now).held false (s.overTime c) = true →
    Leads (.overloadClear c n) s (set · { f with lim_ := f.lim_.feed false n now, ovl := false })) ∧
  (out → diag → f.openw = false → s.chCfg c (if f.driven then 0xB else 0xA) 1 = 1 → s.injFor 93 c.val = false →
    (f.opn.feed true n now).held true 10000 = true → Leads (.openWire c n) s fun t =>
      set t { f with opn := f.opn.feed true n now, openw := true } ∧ t.rcd = (s.rec_ 0x3011 0x53 c.val f.driven.toNat).rcd) ∧
  (diag → f.openw = true → s.injFor 93 c.val = false → (f.opn.feed false n now).held false 10000 = true →
    Leads (.openWireClear c n) s (set · { f with opn := f.opn.feed false n now, openw := false })) ∧
  (f.mode = 3 → s.cutOff c = false → f.rbmm = false → let l := f.mis.feed (pin != f.driven) n now
    l.held true 100 = true ∨ s.injFor 96 c.val = true → Leads (.readbackMismatch c pin n) s fun t =>
      set t { f with mis := l, rbmm := true, pin := pin } ∧
      t.rcd = (s.recInj 0x3015 0x53 c.val f.driven.toNat pin.toNat (!l.held true 100)).rcd) ∧
  (diag → f.rbmm = true → s.injFor 96 c.val = false → (f.mis.feed false n now).held false 100 = true →
    Leads (.readbackAgree c n) s (set · { f with mis := f.mis.feed false n now, rbmm := false, pin := f.driven })) ∧
  (k.ocAt = none → let l := k.oc.feed (decide (4200 ≤ x)) n now
    l.held true 1000 = true ∨ s.injOn (88 + g.val) = true → Leads (.groupOvercurrent g x n) s fun t => groupOff t ∧
    t.fld.grp[g] = { k with ocAt := some s.clk, ocN := satInc k.ocN, outMa := x, oc := ⟨false, 0, now + 1⟩ } ∧
    t.rcd = (s.recInj 0x3003 0x53 g.val x 0 (!l.held true 1000)).rcd) ∧
  (∀ t0, k.ocAt = some t0 → t0 + 100000000 ≤ s.clk → Leads (.groupOcEnd g) s fun t => OnlyGrp s t g ∧ (∀ d : Ch, DrivenOnly s t d) ∧
    t.fld.grp[g] = { k with ocAt := none } ∧ t.rcd = s.rcd ∧ back t) ∧
  (out → diag → f.ot = false → Leads (.thermalShutdown c) s fun t => OnlyCh s t c ∧ t.fld.ch[c].ot = true ∧ t.fld.ch[c].offAt = s.clk ∧
    t.fld.ch[c].driven = false ∧
    t.rcd = (s.recInj 0x3012 0x53 c.val (ctrVal s.mem (36 + c.val) % 2 ^ 32) 0 (s.injFor 94 c.val)).rcd) ∧
  (f.ot = true → f.offAt + 10000000 ≤ s.clk → (s.modCh c fun f => { f with ot := false }).drivenWant c = true →
    Leads (.thermalRestart c) s fun t => t.fld.ch[c].ot = false ∧ t.fld.ch[c].driven = true ∧ t.mem = (s.count (36 + c.val) 1).mem ∧
      t = { s with fld := { s.fld with ch := t.fld.ch }, mem := t.mem, errs := t.errs, nv := t.nv, rcd := t.rcd, inj := t.inj } ∧ ∀ d : Ch, d ≠ c → DrivenOnly s t d) ∧
  (∀ us, s.pwr.phase ≠ .off → f.link = false → 20 ≤ us ∨ s.injFor 97 c.val = true → Leads (.linkFault c false us) s fun t =>
    OnlyCh s t c ∧ t.fld.ch[c].link = true ∧ t.fld.ch[c].driven = false ∧
    t.rcd = (s.recInj 0x3016 0x53 c.val 0 0 (s.injFor 97 c.val)).rcd) ∧
  (∀ us, s.pwr.phase ≠ .off → 20 ≤ us → Leads (.linkFault c true us) s fun t => OnlyCh s t c ∧ t.fld.ch[c].deaf = true ∧
    t.fld.ch[c].driven = false ∧ t.fld.ch[c].link = f.link ∧ t.rcd = s.rcd) ∧
  (f.link = true → s.injFor 97 c.val = false → Leads (.linkRestored c false) s fun t => OnlyCh s t c ∧ t.fld.ch[c].link = false ∧ back t ∧
    t.rcd = (s.rec_ 0x3016 0x53 c.val 1).rcd) ∧
  Leads (.linkRestored c true) s (fun t => OnlyCh s t c ∧ t.fld.ch[c].deaf = false ∧ t.fld.ch[c].link = f.link ∧ back t ∧ t.rcd = s.rcd) ∧
  (s.pwr.phase ≠ .off → k.low = false → x ≤ 17500 ∨ s.injOn (84 + g.val) = true → Leads (.vfLow g x) s fun t => groupOff t ∧
    t.fld.grp[g] = { k with low := true, lowAt := s.clk, lowN := satInc k.lowN } ∧
    t.rcd = (s.recInj 0x3001 0x53 g.val x 0 (decide (17500 < x))).rcd) ∧
  (k.low = true → 17500 ≤ x → s.injOn (84 + g.val) = false → Leads (.vfRestored g x) s fun t => OnlyGrp s t g ∧
    t.fld.grp[g] = { k with low := false } ∧ back t ∧ (∀ d : Ch, grpOf d = g → t.fld.ch[d].acc = 0) ∧
    (∀ d : Ch, grpOf d ≠ g → DrivenOnly s t d) ∧ t.rcd = (s.rec_ 0x3002 0x53 g.val x ((s.clk - k.lowAt) / 1000000)).rcd)

/-! ## Energy engine and calibration (R424–R457) -/

/-- R429, R434, R436–R444, R446, R449, R451–R453: the energy engine. A line cycle of an enabled instance adds its energy to the
registers, carrying what is below one unit, feeds the pulse accumulators and joins the window of 50 cycles; a cycle in
which the SV source is lost adds what came before the loss. An update is published once per instant. Pulses start when one is due, none inhibits it
and the spacing allows it; they end after their width, or are cut short. The registers are saved each second and cleared
on command in STOP; calibration sessions begin, commit at a line-cycle boundary, end by ABORT or after 60 s.
Readings of the model: log entry 29. -/
def Obligations.EnergyEngine : Prop := ∀ (s : State) (i : Fin 2) (xs : List Sample) (j : Fin 4) (p : Fin 16) (r : Req) (ch : Fin 8),
  s.op.failover = false →
  let n := s.nrg.inst[i]
  let on := s.insSrc i ≠ 0
  let raw := if s.insSrc i = 1 then xs.map (·.an) else holdGaps n.lastAn xs
  let ser := s.series i raw
  let ref := s.refOf i (ser.map fun x => Config.phasor x (Config.crossing (ser.getD (s.insCfg i 7 0) []) (s.ts i)))
  let measured := Config.crossing (ser.getD (ref.getD 0) []) (s.ts i)
  let dur := if ref.isNone then mkRat 1000000000 (s.insCfg i 6 50) else clampDur measured
  let cyc := mkCycle (s.insCfg i 3 0) (if ref.isNone then dur else measured) dur ser
  let part := fun (a : Fin 8) => at_ (addedPart (s.insCfg i 3 0) (s.ts i) cyc (s.series i (beforeLoss n.lastAn xs))) a.val
  let add := fun (a : Fin 8) => at_ (added (s.insCfg i 3 0) (s.ts i) cyc ser) a.val
  let others := fun (t : State) => ∀ k : Fin 2, k ≠ i → t.nrg.inst[k] = s.nrg.inst[k]
  let q := s.nrg.pulse[p]
  let now := s.sampleNow (insOf p)
  let onlyPulse := fun (t : State) (q' : Pulse) => t = { s with nrg := { s.nrg with pulse := s.nrg.pulse.set p q' }, fld := t.fld } ∧
    (∀ d : Ch, DrivenOnly s t d) ∧ ∀ d : Ch, s.fld.ch[d].mode = 5 → t.fld.ch[d].driven = (!s.isTrail && t.pulseState d)
  let upd := s.time.tb.toNat / s.updNs i
  (s.insSrc i = 0 ∨ xs = [] → Leads (.lineCycle i xs) s fun t => t = s) ∧
  (on → xs ≠ [] → s.nrg.sess = none → n.lost = none → (s.insSrc i ≠ 1 → (∀ x ∈ xs, x.gap < 3) ∧ s.injFor 98 i.val = false) →
    Leads (.lineCycle i xs) s fun t => t = { s with nrg := t.nrg, rcd := t.rcd, inj := t.inj } ∧ others t ∧
      t.nrg.inst[i].cycles = (cyc :: n.cycles).take 50 ∧ t.nrg.inst[i].lastCyc = xs ∧
      (∀ a : Fin 8, t.nrg.inst[i].reg[a].val = n.reg[a].val + BitVec.ofInt 64 (n.reg[a].rem + add a).floor ∧
        t.nrg.inst[i].reg[a].rem = n.reg[a].rem + add a - (n.reg[a].rem + add a).floor) ∧
      ∀ a : Fin 8, t.nrg.pulse[pulseOf i a].acc =
        (s.nrg.pulse[pulseOf i a].acc + (n.reg[a].rem + add a).floor.toNat) % s.thr (pulseOf i a)) ∧
  (on → s.insSrc i ≠ 1 → (∃ x ∈ xs, 3 ≤ x.gap) → n.lost = none → Leads (.lineCycle i xs) s fun t => others t ∧
    t.nrg.inst[i].lost = some s.clk ∧ (n.wasLost = true → t.nrg.inst[i].reg = n.reg ∧ t.nrg.pulse = s.nrg.pulse) ∧
    (n.wasLost = false → ∀ a : Fin 8, t.nrg.inst[i].reg[a].val = n.reg[a].val + BitVec.ofInt 64 (n.reg[a].rem + part a).floor)) ∧
  (s.nrg.range16[j] = true → Leads (.gainSwitch j) s fun t => t = { s with nrg := { s.nrg with
    range16 := s.nrg.range16.set j false, switches := s.nrg.switches.set j (s.nrg.switches[j] + 1) } }) ∧
  (on → n.updK ≠ some upd → s.isTrail = false → s.leadPaired = false → s.pubDue (1 + i.val) = true →
    s.pwr.phase ≠ .off → s.ibMarches = false → swf [bornVersion] s.img.ver = true → Leads (.energyUpdate i) s fun t =>
      t = { s with img := t.img, nrg := t.nrg, ctx := t.ctx, tdm := t.tdm } ∧ others t ∧ t.img.epoch = s.img.epoch + 1 ∧ t.img.out = s.img.out ∧
      t.nrg.inst[i].updK = some upd ∧ t.nrg.inst[i].updates = (n.updates + 1) % 2 ^ 32 ∧ t.nrg.inst[i].reg = n.reg ∧
      ∀ k : Nat, k < 128 → t.versions (insBase i + k) =
        (⟨s.img.epoch + 1, (s.energyWords i (upd * s.updNs i)).getD k 0, false⟩ :: s.versions (insBase i + k)).take 4) ∧
  (s.insSrc (insOf p) ≠ 0 → q.on = false → 0 < q.pend → s.pulseInhibit p = false → q.spaced now = true →
    Leads (.pulseStart p) s (onlyPulse · { q with
      on := true, start := some now, w := s.pulseWidth p, pend := q.pend - 1, emitted := (q.emitted + 1) % 2 ^ 64 })) ∧
  (∀ t0, q.start = some t0 → q.on = true → t0 + q.w ≤ now → Leads (.pulseEnd p) s (onlyPulse · { q with on := false })) ∧
  (∀ t0, q.start = some t0 → q.on = true → now < t0 + q.w → 0 < q.pend → t0 + 1000000 ≤ now →
    Leads (.pulseEnd p) s (onlyPulse · { q with on := false, w := now - t0 })) ∧
  (s.pwr.phase ≠ .off → s.nrg.recAt + 1000000000 ≤ s.clk → Leads .energyRecordWrite s fun t => t.nrg.recAt = s.clk ∧
    (∀ k : Fin 2, t.nrg.inst[k] = { s.nrg.inst[k] with saved := (if s.insSrc k = 0 then s.nrg.inst[k].saved else
      Vector.ofFn (fun a : Fin 8 => (s.nrg.inst[k].reg[a].val, s.nrg.pulse[pulseOf k a].acc))) }) ∧
    t = { s with nrg := t.nrg, nv := t.nv, errs := t.errs } ∧ t.nrg.pulse = s.nrg.pulse) ∧
  (s.op.st = .stop → Performs (.resetRegisters r i) s r (0x4010 + i.val) 0xB 2 [1] fun t => others t ∧
    (∀ a : Fin 8, t.nrg.inst[i].reg[a] = ⟨0, 0⟩ ∧ t.nrg.pulse[pulseOf i a] = { s.nrg.pulse[pulseOf i a] with acc := 0, pend := 0 }) ∧
    t.nrg.inst[i].accLost = false ∧ t.nrg.inst[i].accSusp = false ∧ t.mem = s.mem ∧ t.img = s.img ∧ t.op = s.op) ∧
  (s.nrg.sess = none → Performs (.calBegin r ch) s r (0x4100 + ch.val) 0xD 2 [1] fun t =>
    t.nrg = { s.nrg with sess := some (s.newSess ch) } ∧ t.mem = s.mem ∧ t.img = s.img ∧ t.op = s.op) ∧
  (∀ c, s.nrg.sess = some c → c.ch = ch →
    (c.commit = false → Performs (.calCommit r ch) s r (0x4100 + ch.val) 0xD 2 [2] fun t =>
      t.nrg = { s.nrg with sess := some { c with commit := true, at_ := s.clk } } ∧ t.mem = s.mem ∧ t.img = s.img ∧ t.op = s.op) ∧
    Performs (.calAbort r ch) s r (0x4100 + ch.val) 0xD 2 [3] (fun t =>
      t.nrg = { s.nrg with sess := none } ∧ t.mem = s.mem ∧ t.img = s.img ∧ t.op = s.op) ∧
    (c.at_ + 60000000000 ≤ s.clk → Leads .calTimeout s fun t =>
      t = { s with nrg := { s.nrg with sess := none }, rcd := (s.rec_ 0x4012 0x54 ch.val 1).rcd }))

/-! ## Ethernet, PTP, GOOSE and SV (R461–R500) -/

/-- R461–R479: the ports, pairs and rings. A link that goes down discards its queue; a frame that is not sound is counted and
discarded, a second copy is counted and dropped, a frame of the application goes into the receive ring as a whole; frames
of the transmit ring, replies and supervision frames are sent on the interface's ports.
That a port sends one frame at a time is log entry 30. -/
def Obligations.EthernetPorts : Prop := ∀ (s : State) (p f : Fin 4) (x lan : Fin 2) (fr : EthFrame) (speed : Nat) (target sender : Word)
    (data : List Byte),
  let q := s.net.port[p]
  let enabled := s.portOn p = true
  let pr := s.net.pair[x]
  let xp := npair p
  let vid := vidOf (s.cfg (0x5010 + f.val) 4 0xFFFF)
  let ownVid := if s.pwr.phase = .recovery then none else vid
  let qn := queueOf (s.cfg (0x5010 + f.val) 5 0)
  let alone := s.isTrail = false ∧ s.leadPaired = false
  let rx := s.ringAt (s.ifaceOf p) false
  let ri := ringIdx s.mem rx.1 rx.2
  let slot := rx.1 + 64 + ri.1 % rx.2 * 1536
  let bytes := ringBytes fr 0
  let tx := s.ringAt f true
  let ti := ringIdx s.mem tx.1 tx.2
  let out := tx.1 + 64 + ti.2.1 % tx.2 * 1536
  let w0 := rdMem s.mem out 4
  let clean := fun (l : List Nat) => s.sbMarches = false ∧ ∀ a ∈ l, s.meetsUe 9 a = false ∧ s.meetsCe 9 a = false
  let app := rdBytes s.mem (out + 16) (w0 % 2048)
  let et := if be16 app 12 = 0x8100 then be16 app 16 else be16 app 12
  let good := ownEtherType et = false ∧ 14 ≤ w0 % 2048 ∧ w0 % 2048 ≤ 1518
  let took := fun (m : List Host.Cell) => rdMem m (tx.1 + 4) 4 = (ti.2.1 + 1) % ti.2.2 ∧ rdMem m tx.1 4 = ti.1
  (enabled → q.up = true → Leads (.linkChange p false speed) s fun t =>
    t = { s with net := t.net, rcd := t.rcd, inj := t.inj } ∧ t.rcd = (s.recInj 0x5001 0x52 p.val 0 speed (s.injFor 102 p.val)).rcd ∧
    t.net.port = s.net.port.set p { q with up := false, speed := 0, queue := [], txDisc := satAdd 0xFFFFFFFF q.txDisc q.queue.length }) ∧
  (enabled → q.up = false → s.injFor 102 p.val = false → s.linksUp p.val = true → (s.speeds p).contains speed = true →
    Leads (.linkChange p true speed) s fun t =>
    t = { s with net := t.net, rcd := (s.rec_ 0x5001 0x52 p.val 1 speed).rcd } ∧
    t.net.port = s.net.port.set p { q with up := true, speed := speed }) ∧
  (enabled → q.up = true → frameSound fr = false → Leads (.frameReceived p fr) s fun t =>
    t = { s with net := { s.net with port := s.net.port.set p { q with rxDisc := satInc q.rxDisc } } }) ∧
  (enabled → q.up = true → frameSound fr = true → s.pairMode xp = 0 → s.engineTakes p fr = true → Leads (.frameReceived p fr) s fun t =>
    t.net.port[p] = { q with rx := (q.rx + 1) % 2 ^ 32 } ∧ t.net.pair[xp].lanAt[p.val % 2]'(by omega) = s.clk ∧ t.mem = s.mem ∧
    t = { s with net := t.net }) ∧
  (∀ n, enabled → q.up = true → frameSound fr = true → fr.seqnr = some n → s.pairMode xp = 1 → fr.src ≠ s.macOf (s.ifaceOf p) →
    seenBefore s.net.pair[xp].seen fr.src n s.clk = true → Leads (.frameReceived p fr) s fun t =>
      t.net.pair[xp].dup = (s.net.pair[xp].dup + 1) % 2 ^ 64 ∧ t.mem = s.mem ∧ t = { s with net := t.net }) ∧
  (enabled → q.up = true → frameSound fr = true → s.pairMode xp = 0 → s.engineTakes p fr = false → fr.dst = s.macOf p → fr.tags = 0 →
    s.cfg (0x5500 + p.val) 1 0 ≠ 0 → ringHolds ri.1 ri.2.1 ri.2.2 < rx.2 → ri.2.2 ≤ 2 ^ 32 → bytes.length < 2048 → clean [rx.1, rx.1 + 4] →
    Memory.wf s.mem = true → Leads (.frameReceived p fr) s fun t => rdMem t.mem rx.1 4 = (ri.1 + 1) % ri.2.2 ∧ rdBytes t.mem (slot + 16) bytes.length = bytes ∧
      rdMem t.mem slot 4 = bytes.length + p.val * 4096 ∧ rdMem t.mem (slot + 4) 8 = s.time.tb.toNat ∧
      (∀ a, a < rx.1 ∨ (rx.1 + 4 ≤ a ∧ a < slot) ∨ slot + 16 + bytes.length ≤ a → rdByte t.mem a = rdByte s.mem a) ∧
      t = { s with net := t.net, mem := t.mem, errs := t.errs, freeCtr := t.freeCtr }) ∧
  (s.pairMode x ≠ 0 → pr.fault.getLsbD lan.val = false → pr.lanAt[lan] + 2 * s.cfg (0x5008 + x.val) 2 2000 * 1000000 ≤ s.clk →
    pr.lanAt[lan] < pr.lanAt[(1 : Fin 2) - lan] → Leads (.lanFault x lan) s fun t =>
      t.net = { s.net with pair := s.net.pair.set x { pr with fault := pr.fault ||| BitVec.ofNat 2 (2 ^ lan.val) } } ∧
      t.rcd = (s.rec_ 0x5002 0x52 x.val lan.val).rcd ∧ t = { s with net := t.net, rcd := t.rcd, inj := t.inj }) ∧
  (alone → s.pairMode x ≠ 0 → pr.lifeAt + s.cfg (0x5008 + x.val) 2 2000 * 1000000 ≤ s.clk → Leads (.lifecheck x) s fun t =>
    Sends (s.modNetPair x fun y => { y with lifeAt := s.clk }) t ⟨2 * x.val, by omega⟩ 0 none (.supervision x.val)) ∧
  (alone → s.answers f target = true → Leads (.arpRequest f target sender) s fun t => Sends s t f qn ownVid (.arpReply target sender)) ∧
  (alone → s.pwr.phase ≠ .recovery → s.answers f target = true → Leads (.icmpEcho f target sender data) s fun t => Sends s t f qn vid (.icmpReply target sender data)) ∧
  (s.cfg (0x5500 + f.val) 1 0 ≠ 0 → s.ifaceUp f = true → ringHolds ti.1 ti.2.1 ti.2.2 ≠ 0 → ti.2.2 ≤ 2 ^ 32 → Memory.wf s.mem = true →
    clean (tx.1 :: (tx.1 + 4) :: out :: wordsOf (out + 16) (w0 % 2048)) →
    (alone → good → Leads (.transmitRing f) s fun t => took t.mem ∧ (bitOf w0 16 = true → rdMem t.mem (out + 4) 8 = s.time.tb.toNat) ∧
      Sends { s with mem := t.mem, errs := t.errs } t f qn vid (.app f.val (padFrame vid.isSome app))) ∧
    (¬good → Leads (.transmitRing f) s fun t => took t.mem ∧ t.rcd = ({ s with mem := t.mem }.rec_ 0x5040 0x52 f.val et (w0 % 2048)).rcd ∧
      t.net = { s.net with ring := s.net.ring.set f { s.net.ring[f] with disc := satInc s.net.ring[f].disc } } ∧
      t = { s with net := t.net, mem := t.mem, errs := t.errs, rcd := t.rcd }))

/-- R480, R484, R485: PTP. An Announce ends LISTENING; 16 Sync messages in a row below 100 ns lead to LOCKED, one beyond 1 µs leads out
of it, and so does the announce timeout, unless another port takes over; a peer-delay request is answered; a port sends its own
request, and a master Announce and Sync, in the one-step or two-step mode.
The choice of the best master and the signs of R484 are log entry 31. -/
def Obligations.PtpStates : Prop := ∀ (s : State) (pt r : Fin 4) (gm : List Byte) (steps sec : Nat) (off mean : Int),
  let p := s.net.ptp
  let mode := s.cfg 0x5020 1 1
  let oneStep := s.cfg 0x5020 6 1 = 1
  let master := (mode = 2 ∧ p.parent = none) ∨ (mode = 3 ∧ p.parent ≠ some pt)
  let q := s.net.port[pt]
  let o := s.trueOffset pt off
  let put := fun (t : State) (l : List TxBody) => t = { s with net := { s.net with port := s.net.port.set pt { q with
    queue := q.queue ++ l.map fun b => ⟨3, none, none, b⟩ } } }
  let changed := fun (t : State) (a b : Nat) (o : Int) => t.net.ptp.st = b ∧ t.rcd = (s.rec_ 0x5010 0x52 b a (satI32 o)).rcd
  (s.isTrail = false → p.st = 1 → gm = p.gm → Leads (.ptpMessage (.announce pt gm steps none)) s fun t => changed t 1 2 p.offset ∧
    t.net.ptp.parent = some pt ∧ t.net.ptp.steps = steps ∧ t.net.ptp.good = 0 ∧ t = { s with net := t.net, rcd := t.rcd }) ∧
  (s.isTrail = false → (p.st = 2 ∨ p.st = 3) → p.parent = some pt → s.tbSource = 0 → s.injOn 104 = false →
    Leads (.ptpMessage (.sync pt off sec)) s fun t => t.net.ptp.offset = o ∧ t = { s with net := t.net, rcd := t.rcd } ∧
      (p.st = 2 → o.natAbs < 100 → 15 ≤ p.good → changed t 2 3 o) ∧
      (p.st = 2 → o.natAbs < 100 → p.good < 15 → t.net.ptp = { p with offset := o, good := p.good + 1 } ∧ t.rcd = s.rcd) ∧
      (p.st = 2 → 100 ≤ o.natAbs → t.net.ptp = { p with offset := o, good := 0 } ∧ t.rcd = s.rcd) ∧
      (p.st = 3 → 1000 < o.natAbs → changed t 3 2 o) ∧
      (p.st = 3 → o.natAbs ≤ 1000 → t.net.ptp.st = 3 ∧ t.rcd = s.rcd)) ∧
  (s.isTrail = false → p.st ≠ 0 → Leads (.ptpMessage (.delay pt mean)) s fun t =>
    t = { s with net := { s.net with ptp := { p with delay := s.trueDelay pt mean } } }) ∧
  (s.isTrail = false → mode ≠ 0 → q.up = true →
    (oneStep → Leads (.ptpMessage (.delayReq pt)) s (put · [.ptpPdelayResp false])) ∧
    (¬oneStep → Leads (.ptpMessage (.delayReq pt)) s (put · [.ptpPdelayResp true, .ptpPdelayFollowUp]))) ∧
  (p.st = 3 → p.passive = none → Leads .announceTimeout s fun t => changed t 3 4 p.offset ∧ t.net.ptp.parent = none ∧
    t = { s with net := t.net, rcd := t.rcd, time := t.time }) ∧
  (p.passive = some r → Leads .announceTimeout s fun t =>
    t = { s with net := { s.net with ptp := { p with parent := some r, passive := none } } }) ∧
  (s.isTrail = false → mode ≠ 0 → s.portOn pt = true → q.up = true →
    (master → oneStep → Leads (.ptpTransmitInterval pt) s (put · [.ptpPdelayReq, .ptpAnnounce, .ptpSync false])) ∧
    (master → ¬oneStep → Leads (.ptpTransmitInterval pt) s (put · [.ptpPdelayReq, .ptpAnnounce, .ptpSync true, .ptpFollowUp])) ∧
    (¬master → Leads (.ptpTransmitInterval pt) s (put · [.ptpPdelayReq])))

/-- R487–R500: GOOSE and SV. The first row of R488 that holds decides a frame (of one subscription); the window keeps its words until one is accepted.
A subscription whose frames stay away becomes invalid and keeps its words. A repetition carries the next sqNum and twice
the interval to the next frame.
Readings of the model: log entries 27 and 58. -/
def Obligations.GooseAndSv : Prop := ∀ (s : State) (m : GooseMsg) (k : Fin 256) (p : Fin 64) (v : SvMsg) (j : Fin 16),
  let g := s.net.gsub[k]
  let sub := fun (t : State) => t.net.gsub[k]
  let mine := (List.finRange 256).filter (s.gooseFor m) = [k]
  let map := mapEnts (s.cfgBytes (0x5100 + k.val) 0xF [])
  let row1 := g.acc = true ∧ g.talexp = false ∧ 1 ≤ (g.stNum - m.stNum).toNat ∧ (g.stNum - m.stNum).toNat < 2 ^ 31
  let row2 := (m.test = true ∧ s.gsCfg k 0xD 0 = 0) ∨ (m.sim = true ∧ s.gsCfg k 0xE 0 = 0)
  let row3 := m.confRev.toNat ≠ s.gsCfg k 8 0 ∨ m.nEntries ≠ map.length
  let row4 := mapError m.members map ≠ none
  let size := s.gsCfg k 0xA 1
  let w := s.net.sv[j]
  let fits := v.confRev.toNat = s.svCfg j 7 0 ∧ v.asdus.length = s.svCfg j 9 1 ∧ ∀ a ∈ v.asdus, a.vals.length = s.svCfg j 0xA 8
  let missing := svMissing (s.svSamples j) w.seen w.cnt v.asdus
  let u := s.net.gpub[p]
  let next := ladderAt (s.ladder p) (u.step + 1)
  ((∀ n, s.gooseFor m n = false) → Leads (.gooseFrame m) s fun t => t = s) ∧
  (mine → row1 → Leads (.gooseFrame m) s fun t => t = { s with net := { s.net with gsub := s.net.gsub.set k { g with disc := g.disc + 1 } } }) ∧
  (mine → ¬row1 → row2 → Leads (.gooseFrame m) s fun t => t = s) ∧
  (mine → ¬row1 → ¬row2 → row3 → Leads (.gooseFrame m) s fun t =>
    (sub t).needcomm = true ∧ (sub t).valid = false ∧ (sub t).words = g.words ∧ (sub t).stNum = g.stNum ∧ (sub t).until_ = g.until_) ∧
  (mine → ¬row1 → ¬row2 → ¬row3 → row4 → Leads (.gooseFrame m) s fun t =>
    (sub t).maperr = true ∧ (sub t).valid = false ∧ (sub t).words = g.words ∧ (sub t).stNum = g.stNum ∧ (sub t).until_ = g.until_) ∧
  (mine → ¬row1 → ¬row2 → ¬row3 → ¬row4 → Leads (.gooseFrame m) s fun t =>
    (sub t).acc = true ∧ (sub t).valid = true ∧ (sub t).talexp = false ∧ (sub t).stNum = m.stNum ∧ (sub t).sqNum = m.sqNum ∧
    (sub t).until_ = s.clk + m.tal * 1000000 ∧
    (sub t).words = placeAll m.members (g.words.take size ++ List.replicate (size - g.words.length) 0) map) ∧
  (s.gsCfg k 1 0 = 1 → g.talexp = false → g.acc = true → g.until_ ≤ s.clk → Leads (.gooseTalExpired k) s fun t =>
    (sub t).talexp = true ∧ (sub t).valid = false ∧ (sub t).expAt = s.clk ∧ (sub t).words = g.words ∧
    (lineOf (s.gsCfg k 0xC 0xFF) = [] → t.rcd = (s.rec_ 0x5020 0x52 k.val g.stNum.toNat g.sqNum.toNat).rcd)) ∧
  (∀ t0, u.nextAt = some t0 → t0 ≤ s.clk → s.pubActive p = true → s.isTrail = false → s.leadPaired = false →
    Leads (.gooseRepetition p) s fun t =>
      Sends (s.modPub p fun q => { q with sqNum := u.sqNum + 1, step := u.step + 1, nextAt := some (s.clk + next * 1000000) }) t
        ⟨s.gpCfg p 2 0 % 4, by omega⟩ (queueOf (s.gpCfg p 6 4)) (vidOf (s.gpCfg p 5 0xFFFF))
        (.goose p.val u.stNum (u.sqNum + 1) (2 * next) (s.op.st != .run && s.gpCfg p 0xC 0 == 2) (u.sent.getD []))) ∧
  ((List.finRange 16).filter (s.svFor v) = [j] → fits → Leads (.svFrame v) s fun t =>
    t.net.sv[j].valid = true ∧ t.net.sv[j].lost = false ∧ t.net.sv[j].needcomm = false ∧ t.net.sv[j].cnt = missing.2 ∧
    t.net.sv[j].miss = (w.miss + missing.1) % 2 ^ 32 ∧ t.net.sv[j].acc = (w.acc + 1) % 2 ^ 32 ∧ t.net.sv[j].lastAt = s.clk) ∧
  ((List.finRange 16).filter (s.svFor v) = [j] → ¬fits → Leads (.svFrame v) s fun t =>
    t.net.sv[j].needcomm = true ∧ t.net.sv[j].valid = false ∧ t.net.sv[j].acc = w.acc ∧ t.net.sv[j].miss = w.miss) ∧
  (s.svCfg j 1 0 = 1 → w.lost = false → w.lastAt + max 1000000 (4 * 1000000000 / max 1 (s.svCfg j 8 4000)) ≤ s.clk →
    Leads (.svLost j) s fun t => t.net.sv[j].lost = true ∧ t.net.sv[j].valid = false ∧ t.net.sv[j].lostAt = s.clk ∧
      t.net.sv[j].acc = w.acc ∧ (lineOf (s.svCfg j 0xB 0xFF) = [] → t.rcd = (s.rec_ 0x5030 0x52 j.val w.cnt).rcd))

/-! ## CAN FD (R504–R536) -/

/-- R509, R510, R512, R515, R516, R521–R524, R529, R530, R533: the CAN controllers. A received frame goes whole into the object
that matches it, or is counted; a request is pending until its transmission succeeds, ends as one-shot, or is withdrawn by
ABORT, which during a transmission only stops its retries. The counters give the state; bus-off, sleep, wake and recovery
go as listed. A write that breaks a rule of R521 changes no controller and ends with status RULE.
The error counters follow log entry 26, the start of a transmission entry 72. -/
def Obligations.CanControllers : Prop := ∀ (s : State) (g : Gctx) (c : Fin 2) (m : Fin 128) (f : CanFrame) (v : Word) (lec : BitVec 3) (d : Nat)
    (done : Bool) (r : Req), s.op.failover = false →
  let k := s.can[c]
  let o := k.mo[m]
  let found := allMo.find? (s.rxMatch c f)
  let reg := RegAccess s g
  let rest := fun (t : State) => ∀ b : Fin 2, b ≠ c → t.can[b] = s.can[b]
  let setMo := fun (t : State) (o' : Mo) => t = { s with can := s.can.set c { k with mo := k.mo.set m o' } }
  let dlc : BitVec 4 := v.extractLsb' 0 4
  let mine := s.moHolder c m = 1 ∧ s.moDir c m = 2
  let tx := k.active = true ∧ o.intx = true ∧ o.late = none ∧ o.next = none
  let cans := fun (t : State) (l : Vector Can 2) => ∀ b : Fin 2, t.can[b] = { l[b] with mdp := t.can[b].mdp }
  let shot := s.oneShot c m = true
  let woke := s.can.set c { k with st := 1, woken := true, tec := 0, rxec := 0 }
  let wakes := fun (w : WakeEvent) (cause : Nat) => k.st = 5 →
    Leads (.canWake c w) s fun t =>
    t = { s with can := woke, rcd := (s.rec_ 0x6003 0x52 c.val cause).rcd }
  (k.active = false → Leads (.canFrameReceived c f) s fun t => t = s) ∧
  (k.active = true → f.remote = false → found = some m → (s.moWin c m).1 = 0 → Leads (.canFrameReceived c f) s fun t => rest t ∧
    (let x := t.can[c].mo[m]
     x.newdat = true ∧ x.lost = (o.lost || o.newdat) ∧ x.cnt = (o.cnt + 1) % 2 ^ 32 ∧ x.time = s.time.tb.extractLsb' 0 32 ∧ x.rxdlc = f.dlc ∧
     x.rxfdf = f.fdf ∧ x.rxbrs = f.brs ∧ x.rxesi = f.esi ∧
     ∀ i : Fin 16, x.data[i] = BitVec.ofNat 32 (leNat ((f.data.drop (4 * i.val)).take 4))) ∧
    (∀ n, n ≠ m → t.can[c].mo[n].newdat = k.mo[n].newdat ∧ t.can[c].mo[n].cnt = k.mo[n].cnt ∧
      (k.tec ≤ 255 ∨ k.mo[n].next = none → t.can[c].mo[n].data = k.mo[n].data)) ∧
    t.can[c].disc = k.disc ∧ t.can[c].rxec = min (if 127 < k.rxec then 127 else k.rxec - 1) 255 ∧ t.img = s.img ∧ t.mem = s.mem) ∧
  (k.active = true → f.remote = true ∨ (found = none ∧ s.mdpId c f.id.toNat f.ide = false) → Leads (.canFrameReceived c f) s fun t => rest t ∧
    t.can[c].disc = satInc k.disc ∧ (∀ n : Fin 128, t.can[c].mo[n].newdat = k.mo[n].newdat ∧
      (k.tec ≤ 255 ∨ k.mo[n].next = none → t.can[c].mo[n].data = k.mo[n].data)) ∧ t.img = s.img ∧ t.mem = s.mem) ∧
  (reg → mine → o.txreq = false → dlc.toNat ≤ 8 ∨ s.moCfg c m 4 0 ≠ 0 → v.getLsbD 8 = true →
    (s.op.st = .run → k.st ≠ 5 → s.isTrail = false →
      Leads (.txreq g c m v done) s (setMo · { o with dlc := dlc, txreq := true, fromWin := false, noRetry := false })) ∧
    (s.op.st ≠ .run ∨ k.st = 5 ∨ s.isTrail = true →
      (s.running g = false → Leads (.txreq g c m v done) s fun t => t = s) ∧
      (s.running g = true → (s.cx g).act.paired = false → (s.cx g).regs.trapact = false → Leads (.txreq g c m v done) s fun t =>
        TrapTaken s.draw t g s.freeWord 9 3 (BitVec.ofNat 32 (0x100B1008 + 0x10000 * c.val + 0x80 * m.val))))) ∧
  (reg → mine → o.txreq = true →
    (o.intx = true → Leads (.canAbort g c m) s (setMo · { o with noRetry := true, next := none })) ∧
    (o.intx = false → Leads (.canAbort g c m) s (setMo · { o with txreq := false, next := none, fromWin := false, aborted := true }))) ∧
  (tx → s.moCfg c m 4 0 = 0 → Leads (.transmissionComplete c (some m) .ok d) s fun t => rest t ∧
    t.can[c].mo[m] = { o with
      txreq := false, intx := false, noRetry := false, fromWin := false, txok := true
      time := s.time.tb.extractLsb' 0 32, cnt := (o.cnt + 1) % 2 ^ 32 } ∧
    t.can[c].tec = min (k.tec - 1) 511 ∧ t.can[c].rxec = min k.rxec 255 ∧ t.can[c].st = errState (k.tec - 1) k.rxec) ∧
  (tx → ¬shot → Leads (.transmissionComplete c (some m) .arbLost d) s (setMo · { o with intx := false })) ∧
  (tx → shot → Leads (.transmissionComplete c (some m) .arbLost d) s
    (setMo · { o with txreq := false, intx := false, noRetry := false, fromWin := false, arblost := true })) ∧
  (tx → Leads (.transmissionComplete c (some m) (.error lec) d) s fun t => rest t ∧ t.can[c].lec = lec ∧
    t.can[c].mo[m].intx = false ∧ (shot → t.can[c].mo[m].txreq = false ∧ t.can[c].mo[m].txerr = true) ∧
    (¬shot → t.can[c].mo[m] = { o with intx := false }) ∧
    (let tec := if lec = 3 ∧ k.st = 3 then k.tec else k.tec + 8
     t.can[c].tec = min tec 511 ∧ t.can[c].st = errState tec k.rxec ∧ (255 < tec → t.can[c].busoff = true))) ∧
  (k.active = true → k.mdpTx = true → Leads (.transmissionComplete c none .ok d) s fun t => rest t ∧ t.can[c].mdp = k.mdp.tail ∧
    t.can[c].mdpTx = false ∧ t.can[c].tec = min (k.tec - 1) 511 ∧ t.can[c].st = errState (k.tec - 1) k.rxec) ∧
  (k.active = true → s.injOn 107 = false → s.injOn 108 = false → Leads (.canReceiveError c lec) s fun t => rest t ∧ t.can[c].lec = lec ∧
    t.can[c].tec = min k.tec 511 ∧ ∃ n, (n = 1 ∨ n = 8) ∧ t.can[c].rxec = min (k.rxec + n) 255 ∧ t.can[c].st = errState k.tec (k.rxec + n)) ∧
  (k.st = 1 → Leads (.busIntegration c) s fun t => t = { s with can := s.can.set c { k with st := 2, tec := 0, rxec := 0 } }) ∧
  (k.st = 4 → k.recovering = true → Leads (.busOffRecovery c) s fun t =>
    t = { s with can := s.can.set c { k with st := 2, tec := 0, rxec := 0, recovering := false }, rcd := (s.rec_ 0x6001 0x52 c.val 2).rcd }) ∧
  (s.canCfg c 0x10 1 = 1 → wakes .dominant 0) ∧
  (s.canCfg c 0x10 1 = 2 → s.wakeFrame c f = true → wakes (.frame f) 1) ∧
  (s.canCfg c 0x10 1 = 2 → wakes .frameErrors 2) ∧
  (k.active = true ∨ k.st = 1 ∨ k.st = 4 → Performs (.sleep r c) s r (0x6000 + c.val) 0xF 2 [1] fun t =>
    (∀ b : Fin 2, b ≠ c → t.can[b] = { s.can[b] with mdp := t.can[b].mdp }) ∧ t.can[c].st = 5 ∧
    t.can[c].recovering = false ∧ (∀ n : Fin 128, t.can[c].mo[n].txreq = false ∧ t.can[c].mo[n].data = k.mo[n].data) ∧ t.mem = s.mem ∧
    t.op = s.op) ∧
  (k.st = 5 → Performs (.wake r c) s r (0x6000 + c.val) 0xF 2 [2] fun t => cans t woke ∧ t.mem = s.mem ∧ t.op = s.op) ∧
  (k.st = 4 → Performs (.recover r c) s r (0x6000 + c.val) 0xF 2 [3] fun t =>
    cans t (s.can.set c { k with recovering := true }) ∧ t.mem = s.mem ∧ t.op = s.op)

/-! ## Sessions and requests (R541–R587) -/

/-- R550, R565, R567, R571–R579, R582, R583, R585: sessions and transports. An open with MODE 0 takes the lower of the role asked for
and that of the transport; phase 1 of MODE 1 derives the keys of a half-open session, and phase 2 under them grants what the certificate
allows, or ends it. Sessions close on command and after 10 s without a request; half-open ones after 2 s; a transfer ends 2 s after its
last block; a lock-out ends after 60 s. CAN frames assemble into messages until LAST, a gap or 100 ms; what a USB host has sent of a
frame is discarded after 100 ms.
Readings of the model: log entries 60, 61 and 62. -/
def Obligations.Sessions : Prop := ∀ (s : State) (r : Req) (role : Byte) (p : List Byte) (sid : Word) (tr : Fin 4) (c : Fin 2)
    (ctl : Byte) (bytes : List Byte) (ms : Nat), s.op.failover = false →
  let d := s.dict
  let e := (served s r).dict
  let opens := fun (mode phase : Byte) => Instr.sessionOpen { r with session := 0 } mode role phase p
  let comes := fun (mode phase : Byte) => s.listens r.origin = true ∧ usbSound r = true ∧ framed r (opens mode phase) = true
  let m := s.openRole r.origin
  let room := e.sessions.length < 8 ∧ e.half.length < 2 ^ 31
  let tran := transportOf r.origin
  let kept := fun (t : State) => t.dict.vals = d.vals ∧ t.mem = s.mem ∧ t.op = s.op ∧ t.ctx = s.ctx ∧ t.img = s.img
  let fresh := fun (x : Session) (auth : Bool) (role : Nat) => x.origin = r.origin ∧ x.auth = auth ∧ x.role = role ∧ x.seq = r.seq ∧
    x.at_ = s.clk ∧ x.xfer = none
  let seg := ctl.toNat % 64
  let asm := fun (t : State) (v : Option (Nat × List Byte × Nat)) => t = { s with dict := { d with asm_ := d.asm_.set c v } }
  let canOn := s.cfg (0x6000 + c.val) 0x13 0 ≠ 0
  (comes 0 1 → m ≠ 0 → role.toNat ≤ 3 → room → Leads (.sessionOpen r 0 role 1 p) s fun t => kept t ∧
    ∃ x, t.dict.sessions = e.sessions ++ [x] ∧ fresh x false (min role.toNat (m - 1)) ∧ x.id ≠ 0 ∧ ∀ y ∈ e.sessions, y.id ≠ x.id) ∧
  (comes 0 1 → m = 0 → Leads (.sessionOpen r 0 role 1 p) s fun t => kept t ∧ t.dict.sessions = e.sessions ∧ Answered t r 1 0x80000008) ∧
  (comes 1 1 → role.toNat ≤ 3 → room → s.locked tran = false → s.pwr.phase ≠ .recovery → Leads (.sessionOpen r 1 role 1 p) s fun t =>
    kept t ∧ t.dict.sessions = e.sessions ∧ ∃ h, t.dict.half = e.half ++ [h] ∧ h.origin = r.origin ∧ h.role = role.toNat ∧
      h.at_ = s.clk ∧ h.id ≠ 0 ∧ h.keys = deriveKeys infoMdp p h.resp1 false ∧ ∀ y ∈ e.half, y.id ≠ h.id) ∧
  (∀ h, comes 1 2 → r.enc = true → role.toNat ≤ 3 → room → s.locked tran = false → e.half.find? (·.id == r.session) = some h →
    (served s r).session r.session = none → verifies h.keys r (opens 1 2) = true →
    s.injFor 117 tran = false → Leads (.sessionOpen r 1 role 2 p) s fun t => kept t ∧ t.dict.half = e.half.filter (·.id != r.session) ∧
      (∀ g, s.grant h p = .inl g → ∃ x, t.dict.sessions = e.sessions ++ [x] ∧ x.id = r.session ∧ fresh x true g ∧ x.keys = some h.keys) ∧
      ∀ k, s.grant h p = .inr k → t.dict.sessions = e.sessions ∧ t.dict.badAuth = satInc d.badAuth ∧
        AnsweredWith t r 1 0x80000008 (leBytes 4 h.role ++ leBytes 4 0 ++ leBytes 4 k)) ∧
  (∀ x, Executes s r x (.sessionClose r) → Leads (.sessionClose r) s fun t => kept t ∧
    t.dict.sessions = e.sessions.filter (·.id != r.session) ∧ Answered t r 2 0) ∧
  Leads (.halfOpenTimeout sid) s (fun t => t = { s with dict := t.dict } ∧
    ∀ h, h ∈ t.dict.half ↔ h ∈ d.half ∧ ¬(h.id = sid ∧ h.at_ + 2000000000 ≤ s.clk)) ∧
  Leads (.sessionIdle sid) s (fun t => t = { s with dict := t.dict, rcd := t.rcd } ∧
    ∀ x, x ∈ t.dict.sessions ↔ x ∈ d.sessions ∧ ¬(x.id = sid ∧ x.at_ + 10000000000 ≤ s.clk)) ∧
  (∀ x f, s.session sid = some x → x.xfer = some f → f.at_ + 2000000000 ≤ s.clk → Leads (.blockTimeout sid) s fun t =>
    t = { s with dict := t.dict, rcd := (s.rec_ 0x1023 0x50 sid.toNat (f.idx * 256 + f.sub) f.received).rcd } ∧
    t.session sid = some { x with xfer := none, dead := some (f.idx, f.sub) }) ∧
  (∀ t0, sget none d.lock tr.val = some t0 → t0 + 60000000000 ≤ s.clk → swf none d.lock = true → Leads (.authLockoutEnd tr) s fun t =>
    t = { s with dict := t.dict } ∧ t.locked tr.val = false ∧ ∀ k, k ≠ tr.val → sget none t.dict.lock k = sget none d.lock k) ∧
  (canOn → ctl.getLsbD 7 = true → ctl.getLsbD 6 = false → seg = 0 → Leads (.mdpCanFrame c ctl p) s (asm · (some (0, p, s.clk)))) ∧
  (canOn → ctl.getLsbD 7 = false → ∀ b at_, d.asm_[c] = some (seg - 1, b, at_) → 1 ≤ seg → s.clk < at_ + 100000000 →
    Leads (.mdpCanFrame c ctl p) s (asm · (if ctl.getLsbD 6 then none else some (seg, b ++ p, s.clk)))) ∧
  (canOn → ctl.getLsbD 7 = false → ∀ k b at_, d.asm_[c] = some (k, b, at_) → seg ≠ k + 1 ∨ at_ + 100000000 ≤ s.clk →
    Leads (.mdpCanFrame c ctl p) s (asm · none)) ∧
  (∀ k b at_, d.asm_[c] = some (k, b, at_) → at_ + 100000000 ≤ s.clk → Leads (.assemblyTimeout c) s (asm · none)) ∧
  Leads (.usbByteTimeout bytes ms) s (fun t => t = { s with dict := { d with usbRx := t.dict.usbRx } } ∧
    (100 ≤ ms → t.dict.usbRx = []) ∧ (ms < 100 → d.usbRx = [] → bytes = [0xA5, 0x5A] → t.dict.usbRx = bytes)) ∧
  Performs (.restoreDefaults r) s r 0x1010 1 2 [1] (fun t => t.dict.restoreMarked = true ∧ t.dict.vals = d.vals ∧ t.op = s.op ∧ t.ctx = s.ctx) ∧
  Performs (.cancelRestore r) s r 0x1010 1 2 [2] (fun t => t.dict.restoreMarked = false ∧ t.dict.vals = d.vals ∧ t.op = s.op ∧ t.ctx = s.ctx)

/-- R541, R555–R570: the requests of a session. A READ, READ_BLOCK and ENUM answer what the entry holds and what there is; a WRITE
is refused by the first check of R569 that fails and changes nothing then; a block is stored until its transfer is whole;
ABORT discards a transfer. A request that was executed last is answered again, an older one discarded.
Readings of the model: log entries 48 and 60. -/
def Obligations.Requests : Prop := ∀ (s : State) (r : Req) (x : Session) (i : BitVec 16) (b ty n : Byte) (off total : Word) (dl : BitVec 16)
    (v : List Byte), s.op.failover = false →
  let ex := fun (c : Instr) => Executes s r x c
  let idx := i.toNat
  let sub := b.toNat
  let u := fun (c : Instr) => taken s r c
  let usb := fromUsb r.origin
  let quiet := fun (t : State) => t.dict.vals = s.dict.vals ∧ t.mem = s.mem ∧ t.op = s.op ∧ t.ctx = s.ctx ∧ t.img = s.img ∧ t.prog = s.prog
  (∀ e, ex (.read r i b) → s.findEnt idx sub = some e → e.acc ≠ 2 → e.ty ≠ 15 → s.nvBusy e = false →
    (let w := u (.read r i b)
     w.valueLen e idx ≤ 1016 → Leads (.read r i b) s fun t => quiet t ∧
       AnsweredWith t r 3 0 ([BitVec.ofNat 8 e.ty, 0] ++ leBytes 2 (w.valueLen e idx) ++ w.value e idx))) ∧
  (ex (.read r i b) → s.findEnt idx sub = none → Leads (.read r i b) s fun t => quiet t ∧ AnsweredWith t r 3 0x80000001 (leBytes 4 idx ++ leBytes 4 sub ++ leBytes 4 0)) ∧
  (∀ e, ex (.read r i b) → s.findEnt idx sub = some e → e.acc = 2 → Leads (.read r i b) s fun t => quiet t ∧ Answered t r 3 0x80000002) ∧
  (∀ e, ex (.write r i b ty v) → PlainWrite (u (.write r i b ty v)) x usb idx sub (some ty.toNat) v e → swf none s.dict.vals = true →
    Leads (.write r i b ty v) s fun t => Answered t r 4 0 ∧ Stored (u (.write r i b ty v)) t idx sub e v) ∧
  (∀ a, ex (.write r i b ty v) → (u (.write r i b ty v)).writeBars ((u (.write r i b ty v)).withVal idx sub v) x.role usb (!x.auth) idx sub (some ty.toNat) v = some a →
    Leads (.write r i b ty v) s fun t => quiet t ∧ AnsweredWith t r 4 a.code (leBytes 4 a.d1 ++ leBytes 4 a.d2 ++ leBytes 4 a.d3)) ∧
  (ex (.write r i b ty v) → s.findEnt idx sub = none → Leads (.write r i b ty v) s fun t => quiet t ∧ Answered t r 4 0x80000001) ∧
  (∀ e, ex (.write r i b ty v) → s.findEnt idx sub = some e → s.roleOf e idx usb (!x.auth) ≤ x.role → e.acc = 0 ∨ e.acc = 1 →
    Leads (.write r i b ty v) s fun t => quiet t ∧ Answered t r 4 0x80000002) ∧
  (∀ e, ex (.readBlock r i b off dl) → s.findEnt idx sub = some e → e.acc ≠ 2 → 1 ≤ dl.toNat → dl.toNat ≤ 1008 → s.nvBusy e = false →
    (let w := (u (.readBlock r i b off dl)).noteGen e idx
     off.toNat ≤ (u (.readBlock r i b off dl)).valueLen e idx → Leads (.readBlock r i b off dl) s fun t => quiet t ∧
       AnsweredWith t r 5 0 (leBytes 4 (w.genOf e idx) ++ leBytes 4 ((u (.readBlock r i b off dl)).valueLen e idx) ++
         leBytes 2 (w.slice e idx off.toNat dl.toNat).length ++ leBytes 2 0 ++ w.slice e idx off.toNat dl.toNat))) ∧
  (ex (.writeBlock r i b off total v) →
   let w := u (.writeBlock r i b off total v)
   (x.dead = some (idx, sub) → Leads (.writeBlock r i b off total v) s fun t => quiet t ∧ Answered t r 6 0x8000000B) ∧
   (x.dead ≠ some (idx, sub) → x.xfer = none → parisonOf idx sub = none → w.blockBars r x idx sub off.toNat total.toNat v = none →
     off.toNat ≠ 0 ∨ v.length < total.toNat → Leads (.writeBlock r i b off total v) s fun t => quiet t ∧
       AnsweredWith t r 6 0 (leBytes 4 v.length) ∧ ∃ f, (t.session r.session).bind (·.xfer) = some f ∧ f.idx = idx ∧ f.sub = sub ∧
         f.total = total.toNat ∧ f.at_ = s.clk) ∧
   (∀ e, x.dead ≠ some (idx, sub) → x.xfer = none → parisonOf idx sub = none → w.blockBars r x idx sub off.toNat total.toNat v = none →
     off.toNat = 0 → v.length = total.toNat → PlainWrite w x usb idx sub none v e → swf none s.dict.vals = true →
     Leads (.writeBlock r i b off total v) s fun t => Answered t r 6 0 ∧ Stored w t idx sub e v)) ∧
  (ex (.enum r i b n) → 1 ≤ n.toNat → n.toNat ≤ 64 → Leads (.enum r i b n) s fun t => quiet t ∧ ∃ w, (u (.enum r i b n)).enumFrom idx sub n.toNat = .inr w ∧
    AnsweredWith t r 7 0 w) ∧
  (ex (.enum r i b n) → n.toNat = 0 ∨ 64 < n.toNat → Leads (.enum r i b n) s fun t => quiet t ∧ Answered t r 7 0x80000005) ∧
  (ex (.abort r i b) → Leads (.abort r i b) s fun t => quiet t ∧ Answered t r 8 0 ∧ ∀ y ∈ t.dict.sessions, y.id = r.session → ∀ f, y.xfer = some f →
    ¬(f.idx = idx ∧ f.sub = sub))

/-! ## Hierarchy (R588–R607) -/

/-- R590–R594, R596, R602, R603: exchanges, heartbeats and worker states. A new cycle declares what is undecided lost; the slice of a
slot goes to an ACTIVE worker, an empty one with ISOLATED to a DIVERGENT one that is kept apart; an UP before the close is
published, a later one discarded. A worker publishes each DOWN once and keeps its slice without one. A heartbeat moves a
worker as R602 says, and 300 ms without one make it SILENT.
Readings of the model: log entry 54. -/
def Obligations.HierarchyExchanges : Prop := ∀ (s u : State) (w : Byte) (f : PuntyFrame),
  swf Worker.blank s.hier.workers = true →
  let n := w.toNat
  let x := s.worker n
  let k := s.hCycle
  let start := k * s.tcNs + s.slotOff n
  let mine := s.manages = true ∧ s.wOn n = true
  let slot := mine ∧ s.puntyCarried = true ∧ s.hier.cycle = some k ∧ x.slotK ≠ some k ∧ start ≤ s.time.tb.toNat ∧ s.time.tb.toNat < start + s.slotNs
  let apart := s.cfg 0x7000 7 0 = 1
  let heard := fun (kind : Byte) => Heard s kind f u ∧ f.src = w
  let others := fun (t : State) => ∀ m, m ≠ n → t.worker m = s.worker m
  let digest := f.payload.drop 8
  let judged := s.sup.restarting = false ∧ (∀ b, x.bound = some b → olderSeq f.cycle b = false) ∧ s.injFor 110 n = false
  let goesTo := fun (t : State) (st : Nat) => others t ∧ (t.worker n).st = st ∧ (t.worker n).hbAt = s.clk ∧ (t.worker n).digest = digest ∧
    t.img = s.img ∧ t.ctx = s.ctx
  let works := s.works = true ∧ w = 0
  (s.manages = true → s.hier.cycle ≠ some k → Leads .hierarchyCycle s fun t => t.hier.cycle = some k ∧
    ∀ m, (t.worker m).due = (if s.wOn m then none else (s.worker m).due) ∧ (t.worker m).st = (s.worker m).st ∧
      (t.worker m).lost = if s.wOn m = true ∧ (s.worker m).due.isSome = true then ((s.worker m).lost + 1) % 2 ^ 64 else (s.worker m).lost) ∧
  (slot → x.st = 2 ∨ (x.st = 3 ∧ ¬apart) → Leads (.slotStart w) s fun t =>
    SendsPunty (s.modWorker n fun y => { y with slotK := some k, due := some (BitVec.ofNat 32 k), iso := false }) t 1 0 n (BitVec.ofNat 32 k)
      (s.sliceFrom (0x6000 + n * 0x20))) ∧
  (slot → x.st = 3 → apart → Leads (.slotStart w) s fun t =>
    SendsPunty (s.modWorker n fun y => { y with slotK := some k, iso := true }) t 1 2 n (BitVec.ofNat 32 k) []) ∧
  (slot → x.st ≠ 2 → x.st ≠ 3 → Leads (.slotStart w) s fun t => t = s) ∧
  (∀ c, mine → x.slotK = some c → s.closeOf n c ≤ s.time.tb.toNat → x.due.isSome = true → Leads (.exchangeClose w) s fun t => others t ∧
    t.worker n = { x with due := none, lost := (x.lost + 1) % 2 ^ 64, lostUpd := x.lostUpd + 1 } ∧
    t = { s with hier := t.hier, inj := t.inj }) ∧
  (mine → heard 2 → f.payload.length = 128 → x.due = some f.cycle → s.time.tb.toNat < s.closeOf n (x.slotK.getD 0) → s.pubDue (0x400 + n) = true →
    s.ibMarches = false → swf [bornVersion] s.img.ver = true → Leads (.up f) s fun t => others t ∧ (t.worker n).due = none ∧
      (t.worker n).delivered = (x.delivered + 1) % 2 ^ 64 ∧ t.img.epoch = s.img.epoch + 1 ∧
      ∀ i : Nat, i < 32 → t.versions (0x2000 + n * 0x20 + i) =
        (⟨s.img.epoch + 1, (wordsIn f.payload).getD i 0, false⟩ :: s.versions (0x2000 + n * 0x20 + i)).take 4) ∧
  (mine → heard 2 → f.payload.length = 128 → x.due ≠ some f.cycle ∨ s.closeOf n (x.slotK.getD 0) ≤ s.time.tb.toNat →
    Leads (.up f) s fun t => t = u) ∧
  (works → heard 1 → f.payload.length = 128 → f.flags.getLsbD 1 = false → s.hier.lastDown ≠ some f.cycle → Leads (.down f) s fun t =>
    t.hier.lastDown = some f.cycle ∧ t.hier.downAt = s.clk ∧ t.hier.delivered = (s.hier.delivered + 1) % 2 ^ 64 ∧ t.hier.own = 2 ∧
    (s.isTrail = false → s.pubDue 0x400 = true → s.ibMarches = false → t.img.epoch = s.img.epoch + 1)) ∧
  (works → heard 1 → f.payload = [] → f.flags.getLsbD 1 = true → s.hier.lastDown ≠ some f.cycle → Leads (.down f) s fun t =>
    t.hier = { u.hier with lastDown := some f.cycle, downAt := s.clk, own := 3 } ∧ t.img = s.img ∧ t.ctx = s.ctx ∧ t.net = s.net) ∧
  (works → heard 1 → f.payload.length = (if f.flags.getLsbD 1 then 0 else 128) → s.hier.lastDown = some f.cycle →
    Leads (.down f) s fun t => t = u) ∧
  (works → heard 1 → f.payload.length ≠ (if f.flags.getLsbD 1 then 0 else 128) → Leads (.down f) s fun t =>
    t = { s with hier := { s.hier with malformed := satInc s.hier.malformed } }) ∧
  (mine → heard 3 → f.payload.length = 56 → x.st = 0 ∨ x.st = 4 → Leads (.heartbeat f) s fun t =>
    goesTo t (if s.large_ then x.st else 1)) ∧
  (mine → heard 3 → f.payload.length = 56 → judged → digest = s.expected n → x.st = 3 ∨ (x.st = 1 ∧ (s.large_ = false ∨ x.attested = true)) →
    Leads (.heartbeat f) s (goesTo · 2)) ∧
  (mine → heard 3 → f.payload.length = 56 → judged → digest ≠ s.expected n → x.st = 2 ∨ (x.st = 1 ∧ s.large_ = false) →
    Leads (.heartbeat f) s (goesTo · 3)) ∧
  (mine → x.st ≠ 0 → x.st ≠ 4 → x.hbAt + 300000000 ≤ s.clk → Leads (.silent w) s fun t => others t ∧ (t.worker n).st = 4 ∧
    t = { s with hier := t.hier, rcd := (s.rec_ 0x7010 0x58 n 4 x.st).rcd }) ∧
  (s.works = true → s.hier.hbAt + 99000000 ≤ s.clk → s.large_ = false → s.puntyCarried = true → ∀ c, s.hier.lastDown = some c → Leads .heartbeatTimer s fun t =>
    s.isTrail = false → s.leadPaired = false → SendsPunty ((s.modHier fun h => { h with hbAt := s.clk }).draw) t 3 0 0 c (s.modHier fun h => { h with hbAt := s.clk }).heartbeat) ∧
  (s.works = true → s.hier.own ≠ 0 → s.hier.downAt + 3 * s.tcNs ≤ s.clk → Leads .noManager s fun t =>
    t = { s with hier := { s.hier with own := 0 }, rcd := (s.rec_ 0x7014 0x58 0 s.hier.own).rcd, inj := t.inj })

/-- R597–R599, R604–R607: links, attestation and staged configuration of a hierarchy. Each LINK frame is answered when what it
carries verifies, and a failed check ends the handshake; a new link keeps the old keys for 1 s. A quote is asked for with a
new nonce and judged. ARM keeps a set that every check accepts until its boundary, where it applies as a whole unless time
is not valid.
Readings of the model: log entry 53. -/
def Obligations.LinksAndStaging : Prop := ∀ (s u : State) (w : Byte) (f : PuntyFrame) (r : Req), s.op.failover = false →
  swf Worker.blank s.hier.workers = true → s.large_ = true → s.leadPaired = false → s.isTrail = false →
  let n := w.toNat
  let x := s.worker n
  let l := s.hier.link
  let mine := s.manages = true ∧ s.wOn n = true
  let works := s.works = true ∧ w = 0
  let came := f.src = w ∧ f.dst.toNat = s.node ∧ f.form = true ∧ s.puntyCarried = true
  let p1 := s.phase1 f.payload
  let managerCert := (certAt f.payload 134 136).1
  let managerOk := s.peerCert managerCert (s.cfgBytes 0x7000 0xD (List.replicate 20 0)) = true ∧ phase1Signed l.req1 f.payload = true
  let workerCert := (certAt f.payload 0 4).1
  let workerOk := s.peerCert workerCert (s.cfgBytes (0x7010 + n) 3 (List.replicate 20 0)) = true ∧ phase2Signed x.link.req1 x.link.resp1 f.payload = true
  let q := x.nonce
  (mine → came → f.payload.length = 132 → Leads (.link1 f) s fun t =>
    SendsPunty (s.draw.draw.modLink n fun y => { y with phase := 2, req1 := f.payload, resp1 := p1 }) t 0x11 0 n 0 p1) ∧
  (works → came → 232 ≤ f.payload.length → l.phase = 1 → Leads (.link2 f) s fun t =>
    (managerOk → SendsPunty (s.modHier fun h => { h with link := { l with phase := 3, resp1 := f.payload, cert := managerCert } }) t 0x12 0 0 0
      (phase2Req l.req1 f.payload)) ∧
    (¬managerOk → t = { s with hier := { s.hier with link := { l with phase := 0 } } })) ∧
  (mine → came → 100 ≤ f.payload.length → x.link.phase = 2 → Leads (.link3 f) s fun t =>
    (workerOk → x.st = 0 ∨ x.st = 4 → (t.worker n).link = { x.link.opened s.clk workerCert false with tx := 1 } ∧ (t.worker n).st = 1 ∧
      (t.worker n).attested = false ∧ (t.worker n).nonce = some (padTo 32 s.freeBytes)) ∧
    (workerOk → x.st ≠ 0 → x.st ≠ 4 → t.worker n = { x with link := x.link.opened s.clk workerCert false }) ∧
    (¬workerOk → t.worker n = { x with link := { x.link with phase := 0 } })) ∧
  (works → came → f.payload.length = 4 → l.phase = 3 → leNat f.payload = 0 → Leads (.link4 f) s fun t =>
    t.hier = { s.hier with link := l.opened s.clk l.cert true, downAt := s.clk, own := if s.hier.own = 0 then 1 else s.hier.own }) ∧
  (works → came → f.payload.length = 4 → l.phase = 3 → leNat f.payload ≠ 0 → Leads (.link4 f) s fun t =>
    t = { s with hier := { s.hier with link := { l with phase := 0 } } }) ∧
  (works → Heard s 0x14 f u → f.src = w → f.payload.length = 32 → Leads (.quoteReq f) s fun t => SendsPunty u t 0x15 0 0 0 (u.mkQuote f.payload)) ∧
  (∀ nonce, mine → Heard s 0x15 f u → f.src = w → f.payload.length = 320 → q = some nonce → Leads (.quote f) s fun t =>
    (t.worker n).nonce = none ∧ (t.worker n).quote = f.payload ∧ (t.worker n).st = x.st ∧
    (t.worker n).attested = (x.attested || u.quoteFault n nonce f.payload == 0)) ∧
  (mine → x.st = 1 → x.attested = false → x.link.open_ = true → x.quoteAt + 60000000000 ≤ s.clk → Leads (.quoteRepeat w) s fun t =>
    (t.worker n).nonce = some (padTo 32 s.freeBytes) ∧ (t.worker n).quoteAt = s.clk ∧ (t.worker n).st = 1) ∧
  (works → l.open_ = true → Leads (.linkRenewal w) s fun t => t.hier.link = { l with phase := 1, req1 := s.phase1Req, resp1 := [] } ∧
    t.hier.own = s.hier.own ∧ t.ctx = s.ctx) ∧
  (∀ t0 n0, (s.link n).old = some (t0, n0) → t0 ≤ s.clk → Leads (.keyOverlapEnd w) s fun t =>
    t = s.modLink n fun y => { y with old := none }) ∧
  (s.manages = true → x.st = 2 → 1 ≤ n → n ≤ 254 → Performs (.requestQuote r w) s r (0x7010 + n) 0xA 2 [1] fun t =>
    (t.worker n).nonce.isSome = true ∧ (t.worker n).quoteAt = s.clk ∧ (t.worker n).st = 2 ∧ t.img = s.img ∧ t.mem = s.mem) ∧
  (∀ y set, Accepted s r y 0x7002 3 2 [1] → s.time.valid = true →
    (let v := taken s r (writeOf r 0x7002 3 2 [1])
     parseSerial (v.cfgBytes 0x7002 1 []).length (v.cfgBytes 0x7002 1 []) = some set →
     v.setBars (v.withAll set) y.role (fromUsb r.origin) (!y.auth) set = none → (v.admitsSet (v.withAll set) set).2 = none →
     Leads (.arm r) s fun t => Answered t r 4 0 ∧ t.hier.staged = 1 ∧ t.hier.armed = set ∧ t.hier.boundary = s.boundaryOf (s.cfg 0x7002 2 0) ∧
       t.dict.vals = s.dict.vals ∧ t.mem = s.mem ∧ t.op = s.op)) ∧
  (s.hier.staged = 1 → Performs (.stagedCancel r) s r 0x7002 3 2 [2] fun t => t.hier = { s.hier with staged := 3, armed := [] } ∧
    t.dict.vals = s.dict.vals ∧ t.mem = s.mem ∧ t.op = s.op) ∧
  (s.hier.staged = 1 → s.hier.boundary ≤ s.time.tb.toNat → (∀ k : Fin 3, s.sec.par[k].st ≠ 3) → s.inStep = false →
    (s.time.valid = false → Leads .activationBoundary s fun t => t.hier = { s.hier with staged := 3, armed := [] } ∧
      t.dict.vals = s.dict.vals ∧ t.rcd = (s.rec_ 0x7022 0x58 0 1).rcd ∧ t.mem = s.mem ∧ t.op = s.op) ∧
    (s.time.valid = true → s.keyPermits s.hier.armed = false → Leads .activationBoundary s fun t =>
      t.hier = { s.hier with staged := 3, armed := [] } ∧ t.dict.vals = s.dict.vals ∧ t.rcd = (s.rec_ 0x7022 0x58 0 3).rcd) ∧
    (s.time.valid = true → s.keyPermits s.hier.armed = true → Leads .activationBoundary s fun t =>
      t.hier.staged = 2 ∧ t.hier.armed = []))

/-! ## Tandem (R608–R632) -/

/-- R613–R621, R625, R626, R629–R631: what a tandem frame does. A frame whose tag or sequence number fails is discarded and counted,
and for PUBLISH puts TRAIL out of step. TRAIL takes the cycle, publishes under LEAD's epoch, queues releases, numbers and
commands; three different CRCs in a row put it out of step. LEAD agrees its scan with TRAIL's and hears of its health. A
joining unit takes what is copied and authenticates.
Readings of the model: log entries 32, 55 and 56. -/
def Obligations.TandemFrames : Prop := ∀ (s : State) (f : TdmFrame), s.op.failover = false →
  let d := s.tdm
  let p := f.payload
  let follows := ∀ n, d.rxSeq = some n → f.seq = n + 1
  let up := d.presIn = true ∧ d.st ≠ 0 ∧ s.injOn 116 = false
  let sound := fun (ty : Nat) => f.check = tlCheck d.keys ty f
  let came := fun (ty : Nat) => up ∧ sound ty ∧ follows
  let v := { d with rxSeq := some f.seq }
  let only := fun (t : State) (d' : Tdm) => t = { s with tdm := d' }
  let e : Word := BitVec.ofNat 32 (tlU32 p 0)
  let n : NetSeq := ⟨(p.getD 0 0).toNat, (p.getD 1 0).toNat, BitVec.ofNat 32 (tlU32 p 4), BitVec.ofNat 32 (tlU32 p 8),
    BitVec.ofNat 32 (tlU32 p 12), BitVec.ofNat 32 (tlU32 p 16)⟩
  let out := fun (t : State) (cause : Nat) => t.tdm.st = 5 ∧ t.tdm.outAt = s.clk ∧ t.rcd = (s.rec_ 0x7035 0x57 d.cycle cause).rcd ∧
    t.img = s.img ∧ t.ctx = s.ctx ∧ t.op = s.op
  let crc : Word := BitVec.ofNat 32 (tlU32 p 4)
  let c := tlU32 p 0
  let refused := fun (ty : Nat) => up ∧ (¬sound ty ∨ ¬follows)
  let dropped := fun (t : State) => only t { v with disc := satInc d.disc }
  ((refused 1 → Leads (.cycle f) s dropped) ∧ (refused 4 → Leads (.tandemRelease f) s dropped) ∧ (refused 5 → Leads (.netseq f) s dropped) ∧
    (refused 6 → Leads (.check f) s dropped) ∧ (refused 7 → Leads (.health f) s dropped) ∧ (refused 9 → Leads (.copy f) s dropped) ∧
    (refused 0xA → Leads (.auth f) s dropped)) ∧
  (refused 2 → d.st = 4 → Leads (.publish f) s fun t => out t 3 ∧ t.tdm.disc = satInc d.disc) ∧
  (d.presIn = false → Leads (.cycle f) s fun t => t = s) ∧
  (came 1 → 3 ≤ d.st → Leads (.cycle f) s fun t => t.tdm = { v with cycle := f.tcycle.toNat, cycleAt := s.clk, waitTx := [] } ∧
    t = { s with time := t.time, tdm := t.tdm, fld := t.fld, freeCtr := t.freeCtr } ∧ ∃ w : Nat, w < 4421 ∧ t.time.tb = BitVec.ofNat 64 (leNat (p.take 8) + w)) ∧
  (came 2 → d.st = 4 → e = d.lastEpoch + 1 → ((publishWords p).map (·.1)).Nodup → swf [bornVersion] s.img.ver = true → Leads (.publish f) s fun t =>
    t.tdm = { v with lastEpoch := e } ∧ t.img.epoch = e ∧ t.img.out = s.img.out ∧ t.ctx = s.ctx ∧ t.op = s.op ∧
    (∀ w x, (w, x) ∈ publishWords p → t.versions w = (⟨e, x, false⟩ :: s.versions w).take 4) ∧
    ∀ w, (∀ y ∈ publishWords p, y.1 ≠ w) → t.versions w = s.versions w) ∧
  (came 2 → d.st = 4 → e ≠ d.lastEpoch + 1 → Leads (.publish f) s (out · 3)) ∧
  (came 4 → d.st = 4 → (p.getD 0 0).toNat = 0 → Leads (.tandemRelease f) s (only · { v with
    rel := d.rel ++ [⟨(p.getD 1 0).toNat, BitVec.ofNat 32 (tlU32 p 4), BitVec.ofNat 64 (leNat (sub_ p 8 8))⟩] })) ∧
  (came 4 → d.st = 4 → (p.getD 0 0).toNat ≠ 0 → Leads (.tandemRelease f) s (only · { v with
    lines := d.lines ++ [((p.getD 1 0).toNat, BitVec.ofNat 64 (leNat (sub_ p 8 8)))] })) ∧
  (came 5 → d.st = 4 → d.waitTx.find? (·.1 == n.iface) = none → Leads (.netseq f) s fun t => t.tdm = { v with netseq := d.netseq ++ [n] } ∧
    t.net.port = s.net.port ∧ t.ctx = s.ctx ∧ t.img = s.img) ∧
  (∀ w, came 5 → d.st = 4 → d.waitTx.find? (·.1 == n.iface) = some w → Leads (.netseq f) s fun t => t.tdm.waitTx = d.waitTx.erase w ∧
    t.tdm.netseq = d.netseq ∧ t.ctx = s.ctx ∧ t.img = s.img) ∧
  (∀ a, came 6 → d.st = 4 → d.ownCrc.find? (·.1 == c) = some a → s.injOn 114 = false →
    Leads (.check f) s fun t => t.img = s.img ∧ t.ctx = s.ctx ∧
      (a.2 = crc → t.tdm.crcRun = 0 ∧ t.tdm.st = 4) ∧ (a.2 ≠ crc → d.crcRun < 2 → t.tdm.crcRun = d.crcRun + 1 ∧ t.tdm.st = 4) ∧
      (a.2 ≠ crc → 2 ≤ d.crcRun → out t 1)) ∧
  (came 7 → s.isTrail = false → e.getLsbD 5 = true ∨ d.joinCyc = none → Leads (.health f) s fun t => t.tdm.pHealth = e ∧ t.tdm.pHealthAt = some s.clk ∧
    t.tdm.st = (if e.getLsbD 5 then 2 else 1) ∧ t = { s with tdm := t.tdm }) ∧
  (∀ set, came 3 → d.st = 2 → d.pend = some set → leNat (p.take 8) = scanInstant set → (set.words.map (·.1)).Nodup → set.lines = [] →
    s.pubDue set.src = true → s.ibMarches = false → swf [bornVersion] s.img.ver = true → Leads (.scan f) s fun t =>
      t.tdm.pend = none ∧ t.img.epoch = s.img.epoch + 1 ∧ t.op = s.op ∧
      (let theirs := wordsIn (p.drop 8)
       ∀ w x, (w, x) ∈ set.words → ∃ y, t.versions w = (⟨s.img.epoch + 1, y, false⟩ :: s.versions w).take 4 ∧
         (w ≠ 8 → w ≠ 10 → y = x) ∧ (w = 8 ∨ w = 10 → ∀ k : Nat, k < 32 →
           y.getLsbD k = agree (s.cfg (0x7210 + k) 1 0) (s.cfg (0x7210 + k) 3 0 == 1) (x.getLsbD k) ((theirs.getD w 0).getLsbD k)))) ∧
  (came 8 → d.st = 4 → Leads (.command f) s fun t => ∀ i, Config.tlDecode (p.drop 5) = .request i →
    t.tdm = { v with cmds := d.cmds ++ [(tlU32 p 0, i)] } ∧ t.ctx = s.ctx ∧ t.op = s.op ∧ t.img = s.img) ∧
  (came 9 → d.st = 3 → Leads (.copy f) s fun t => t.tdm = { v with joinStep := max 3 d.joinStep } ∧ t.op = s.op ∧
    (∀ o, Config.copyDecode p = .output o → t.img = { s.img with out := o } ∧ t.mem = s.mem ∧ t.ctx = s.ctx) ∧
    ∀ o, Config.copyDecode p = .forces o → t.img = { s.img with forces := o } ∧ t.mem = s.mem ∧ t.ctx = s.ctx) ∧
  (came 0xA → d.st = 3 → p.length = 4 → Leads (.auth f) s fun t => t.ctx = s.ctx ∧ t.img = s.img ∧
    (leNat p = 0 → only t { v with authed := 2, joinStep := 2, keys := some (deriveKeys infoTandem d.aReq d.aResp true) }) ∧
    (leNat p ≠ 0 → t.tdm.st = 5 ∧ t.rcd = (s.rec_ 0x7036 0x57 1 1).rcd)) ∧
  (came 0xA → s.isTrail = false → p.length = 132 → Leads (.auth f) s fun t => t.tdm.authed = 1 ∧ t.tdm.aReq = p ∧ t.tdm.aResp = s.phase1 p ∧
    t.tdm.st = d.st ∧ t = { s with tdm := t.tdm, freeCtr := t.freeCtr })

/-- R610–R613, R619, R623, R625–R627, R629: the roles of a tandem unit. LEAD starts cycles; a unit claims INTLK once it has been free
long enough, and an IN_STEP TRAIL takes it at once; without its partner a unit is alone. A switch-over makes LEAD a TRAIL
out of step; that joins again after 10 s, and a join that takes 2 s fails.
Readings of the model: log entries 35 and 56. -/
def Obligations.TandemRoles : Prop := ∀ (s : State) (bits : Word) (ch : Ch) (a b high : Bool) (n : Nat) (id : PartnerId) (r : Req) (x : Session),
  s.op.failover = false →
  let d := s.tdm
  let own := s.fld.ch[ch].driven
  let differ := own != a || (s.cfg (0x7210 + ch.val) 2 0xFF != 0xFF && b != (own || a))
  let run := s.fld.ch[ch].dis
  let next := run.feed differ n s.sampleNo
  let leads := fun (t : State) => t.tdm.holds = true ∧ t.tdm.st = 1
  let joins := fun (t : State) => t.tdm.st = 3 ∧ t.tdm.joinStep = 1 ∧ t.tdm.joinAt = s.clk ∧ t.tdm.authed = 0
  let out := fun (t : State) => t.tdm.st = 5 ∧ t.tdm.outAt = s.clk ∧ t.tdm.joinStep = 0
  let cmd := fun (n : Byte) => Executes s r x (writeOf r 0x7200 6 2 [n]) ∧ (∃ e, s.findEnt 0x7200 6 = some e ∧ e.acc = 2) ∧
    (let u := taken s r (writeOf r 0x7200 6 2 [n])
     u.objAt 0x7200 6 = none ∧ u.writeBars (u.withVal 0x7200 6 [n]) x.role (fromUsb r.origin) (!x.auth) 0x7200 6 (some 2) [n] = none)
  (d.holds = true → d.st = 1 ∨ d.st = 2 → s.tdmIndex ≠ d.cycle → d.cmds = [] → Leads .tandemCycle s fun t =>
    t.tdm.cycle = s.tdmIndex ∧ t.tdm.cycleAt = s.clk ∧ t.time = s.time) ∧
  (d.st = 4 → s.ttNs ≠ 0 → d.lastCheck ≠ some d.cycle → 40000 ≤ s.time.tb.toNat % s.ttNs → d.cmds = [] →
    d.peerCrc.find? (·.1 == d.cycle) = none → Leads .trailCycleStart s fun t => t.tdm.lastCheck = some d.cycle ∧
      t.tdm.ownCrc = (d.cycle, s.outCrc) :: d.ownCrc.take 3 ∧ t.tdm.st = 4 ∧ t.img = s.img ∧ t.ctx = s.ctx) ∧
  (d.st ≠ 0 → d.healthAt + 10000000 ≤ s.clk → Leads (.healthTimer bits) s fun t => t.tdm.healthAt = s.clk ∧ t.tdm.st = d.st ∧
    (∀ k : Nat, k < 4 → t.tdm.health.getLsbD k = true → bits.getLsbD k = true) ∧
    t.tdm.health.getLsbD 4 = (!s.nv.inRecall && !s.nv.ue) ∧ t.tdm.health.getLsbD 5 = (d.st == 4 || d.holds) ∧
    t = { s with tdm := t.tdm, freeCtr := t.freeCtr }) ∧
  (∀ t0, d.pHealthAt = some t0 → t0 + 30000000 ≤ s.clk → Leads .partnerHealthLost s fun t => t.tdm.pHealthAt = none ∧
    (d.st = 4 → d.busy = false → leads t ∧ t.tdm.switches = satInc d.switches) ∧ (d.st ≠ 4 ∨ d.busy = true → t.tdm.st = d.st ∧ t.tdm.holds = d.holds)) ∧
  (∀ set, d.pend = some set → scanInstant set + 20000 ≤ s.time.tb.toNat → Leads .scanTimeout s fun t => t.tdm.pend = none ∧
    t.tdm.inDis = satInc d.inDis ∧ (s.isTrail = false → s.pubDue set.src = true → s.ibMarches = false → t.img.epoch = s.img.epoch + 1)) ∧
  (d.st = 2 ∨ d.st = 4 → s.fld.ch[ch].mode = 2 ∨ s.fld.ch[ch].mode = 3 → s.injFor 113 ch.val = false →
    (next.held true 100 = true → run.held true 100 = false → Leads (.outputDisagree ch a b n) s fun t => t.fld.ch[ch].dis = next ∧
      t.tdm = { d with outBits := d.outBits ||| (1#32 <<< ch.val) } ∧
      t.rcd = (s.rec_ 0x7034 0x57 ch.val (own.toNat * 2 + a.toNat) b.toNat).rcd ∧ t = { s with fld := t.fld, tdm := t.tdm, rcd := t.rcd }) ∧
    (next.held true 100 = false → Leads (.outputDisagree ch a b n) s fun t => t = s.modCh ch fun f => { f with dis := next })) ∧
  (d.st = 4 → d.cycleAt + 3 * s.ttNs ≤ s.clk → Leads .cycleTimeout s fun t => out t ∧ t.rcd = (s.rec_ 0x7035 0x57 d.cycle 2).rcd ∧
    t = { s with tdm := t.tdm, rcd := t.rcd }) ∧
  (d.st = 3 → d.presIn = true → s.clk ≤ d.joinAt + 2000000000 →
    (∀ y, s.joinBars id = some y → Leads (.join id) s fun t => out t ∧ t.rcd = (s.rec_ 0x7036 0x57 y.1 y.2).rcd ∧ t.ctx = s.ctx ∧
      t.img = s.img ∧ t.op = s.op) ∧
    (s.joinBars id = none → s.joinReady = false → Leads (.join id) s fun t => t.tdm = d ∧ t.rcd = s.rcd ∧ t.ctx = s.ctx ∧ t.op = s.op) ∧
    (s.joinBars id = none → s.joinReady = true → d.leadSt = s.op.st.code → d.leadKey = s.op.key → Leads (.join id) s fun t =>
      t.tdm.st = 4 ∧ t.tdm.lastEpoch = s.img.epoch ∧ t.tdm.cycleAt = s.clk ∧ t.tdm.joinStep = 0 ∧ t.rcd = (s.rec_ 0x7036 0x57).rcd)) ∧
  (d.st = 3 → d.joinAt + 2000000000 ≤ s.clk → Leads .joinTimeout s fun t => out t ∧ t = { s with tdm := t.tdm, rcd := t.rcd } ∧
    t.rcd = (s.rec_ 0x7036 0x57 d.joinStep (if d.joinStep = 1 then 1 else if 3 ≤ d.joinStep then 5 else 0)).rcd) ∧
  (d.st = 5 → d.presIn = true → d.outAt + 10000000000 ≤ s.clk → Leads .rejoinTimer s fun t => joins t ∧
    t = { s with tdm := t.tdm, freeCtr := t.freeCtr }) ∧
  (cmd 1 → s.op.key = 2 → s.trailHealthy = true → Leads (.switchover r) s fun t => Answered t r 4 0 ∧ out t ∧ t.tdm.holds = false ∧
    t.dict.sessions = [] ∧ t.mem = s.mem ∧ t.img.out = s.img.out) ∧
  (cmd 2 → d.st = 1 ∨ d.st = 2 → d.presIn = true → s.isTrail = false → Leads (.rejoin r) s fun t => Answered t r 4 0 ∧
    t.tdm.tx = (s.tlCommand 0 3 .rejoin).tdm.tx ∧ t.tdm.st = d.st ∧ t.mem = s.mem ∧ t.img = s.img ∧ t.op = s.op) ∧
  (d.busy = true → Leads .intlkReleased s fun t => t.tdm.busy = false ∧ (d.st = 4 → leads t ∧ t.tdm.switches = satInc d.switches) ∧
    (d.st ≠ 4 → d.st ≠ 2 → t.tdm.st = d.st ∧ t.tdm.holds = d.holds ∧ t.tdm.freeAt = s.clk)) ∧
  (d.busy = false → d.holds = false → s.pwr.phase ≠ .off → Leads .intlkHeld s fun t => t.tdm.busy = true ∧ t.tdm.holds = false ∧ (d.st ≠ 2 → t.tdm.st = d.st)) ∧
  (d.st ≠ 0 → d.holds = false → d.busy = false → s.pwr.phase = .running → d.freeAt + s.claimWait ≤ s.clk →
    Leads .intlkClaim s fun t => leads t ∧ (3 ≤ d.st → t.tdm.switches = satInc d.switches)) ∧
  (high ≠ d.presIn → Leads (.presInChange high) s fun t => t.tdm.presIn = high ∧ t.ctx = s.ctx ∧ t.op = s.op ∧
    (d.st = 0 → t.tdm = { d with presIn := high, rxSeq := none }) ∧
    (d.st ≠ 0 → high = false → t.tdm.st = 1 ∧ t.tdm.pHealthAt = none ∧ t.tdm.holds = d.holds) ∧
    (d.st ≠ 0 → high = true → d.holds = false → d.busy = true → s.pwr.phase = .running → joins t))

/-! ## Time base and RTC domain (R106, R639–R660, R789) -/

/-- R106, R640–R643, R645, R647–R650, R652–R657, R789: time. A PPS edge slews a small error and steps a larger one, which excuses
the check-in interval; holdover begins 1.5 s after the last edge and at its limit clears TBVALID. A match unit fires once for all
that the time base has passed. A time set steps the time base and loads the RTC. The RTC domain changes its supply by its
mode, counts, stamps, advances its calendar at a wrap and takes a load as a whole; its registers are read as snapshots. A core's write of SETSEC is denied.
Readings of the model: log entries 33, 36, 37 and 38. -/
def Obligations.TimeAndRtc : Prop := ∀ (s : State) (g h : Gctx) (k : Fin 8) (v : Word) (main vbak : Nat) (p : Fin 16) (r : Req) (tai utc : Word64),
  s.op.failover = false →
  let m := s.time
  let tb := m.tb.toNat
  let c := m.rtc
  let l := c.cal
  let u := m.tm[k]
  let only := fun (t : State) (m' : Time) => t = { s with time := m' }
  let rtc := fun (t : State) (c' : Rtc) => t = { s with time := { m with rtc := c' } }
  let pps := s.isTrail = false ∧ (s.tbSource = 2 ∨ (s.tbSource = 3 ∧ s.net.ptp.st ≠ 3))
  let off := tb % 1000000000
  let err : Int := if off < 500000000 then -(off : Int) else 1000000000 - (off : Int)
  let invalid := fun (t : State) => t = { s with time := { m with valid := false }, rcd := t.rcd } ∧
    (m.valid = true → t.rcd = ({ s with time := { m with valid := false } }.rec_ 0x8004 0x50 0 3).rcd) ∧ (m.valid = false → t.rcd = s.rcd)
  let others := fun (t : State) => ∀ j : Fin 8, j ≠ k → t.time.tm[j] = m.tm[j]
  let n := if u.per = 0 then 0 else (tb - u.value.toNat) / u.per.toNat + 1
  let w : Word64 := v ++ u.value.extractLsb' 0 32
  let staged := fun (ns : Nat) =>
    let x := nextSecond ns
    let y := s.calFor x.1
    { c with stg0 := y.word0 &&& ~~~0x3F, stg1 := y.word1, load := some (y.sec, s.clk + x.2 - 30500) }
  let supplied := fun (bak : Bool) => { c with
    mainMv := main, vbakMv := vbak, onBak := bak, valid := c.valid && decide (1600 ≤ if bak then vbak else main) }
  let len := fun (mo y : Nat) => if mo = 4 ∨ mo = 6 ∨ mo = 9 ∨ mo = 11 then 30 else if mo = 2 then (if y % 4 = 0 then 29 else 28) else 31
  let wday := if 6 ≤ l.wday then 0 else l.wday + 1
  let next : Cal := if l.sec < 59 then { l with sec := l.sec + 1 }
    else if l.min < 59 then { l with sec := 0, min := l.min + 1 }
    else if l.hour < 23 then { l with sec := 0, min := 0, hour := l.hour + 1 }
    else if l.day < len l.month l.year then ⟨0, 0, 0, wday, l.day + 1, l.month, l.year⟩
    else if l.month < 12 then ⟨0, 0, 0, wday, 1, l.month + 1, l.year⟩
    else ⟨0, 0, 0, wday, 1, 1, if l.year = 99 then 0 else l.year + 1⟩
  let edges := (s.clk - c.base) * 32768 / 1000000000
  let port := (s.cx g).port
  let reads := fun (t : State) (x : Word) (p : Port) => t = { s with ctx := s.ctx.set g { s.cx g with port := { p with lastRead := x } } }
  let reg := RegAccess s g
  let rel := (s.cx (s.home h)).act.rel
  (s.on = true → ¬pps → Leads .ppsEdge s fun t => t = { s with time := { m with ppsAt := s.clk }, freeCtr := s.freeCtr + 1 }) ∧
  (s.on = true → pps → off ≠ 500000000 → err.natAbs < s.cfg 0x8000 6 1000 * 1000 → Leads .ppsEdge s fun t => t.time.rate.natAbs ≤ 200000 ∧
    t = { s with time := { m with ppsAt := s.clk, holdover := none, rate := t.time.rate, slew := err }, freeCtr := s.freeCtr + 2 }) ∧
  (s.on = true → pps → off ≠ 500000000 → s.cfg 0x8000 6 1000 * 1000 ≤ err.natAbs → Leads .ppsEdge s fun t =>
    t = { s with time := t.time, sup := t.sup, rcd := t.rcd, ctx := t.ctx, fld := t.fld, freeCtr := s.freeCtr + 2 } ∧
    t.time = { m with ppsAt := s.clk, holdover := none, rate := t.time.rate, tb := m.tb + BitVec.ofInt 64 err, steps := satInc m.steps, slew := 0 } ∧
    t.rcd = ({ s with time := t.time }.rec_ 0x8003 0x50 (satI32 err) s.tbSource).rcd ∧ t.sup.cur.excused = true ∧ t.sup.closing = none ∧
    (0 ≤ err → t.ctx = s.ctx)) ∧
  (pps → max m.ppsAt m.srcAt + 1500000000 ≤ s.clk → Leads .ppsTimeout s (only · { m with holdover := some (m.holdover.getD s.clk) })) ∧
  (∀ t0, m.holdover = some t0 → t0 + s.cfg 0x8000 5 60 * 1000000000 < s.clk → Leads .holdoverLimit s invalid) ∧
  (s.tbSource = 1 ∨ s.tbSource = 3 → s.net.ptp.st = 1 → max s.net.ptp.listenAt m.srcAt + s.cfg 0x8000 5 60 * 1000000000 < s.clk →
    Leads .listeningLimit s invalid) ∧
  (m.valid = true → off < 20 → Leads .ppsOut s fun t => only t { m with ppsHigh := some s.clk } ∧ t.ppsOut = true) ∧
  (m.valid = false → Leads .ppsOut s fun t => t = s ∧ t.ppsOut = false) ∧
  (u.armed = true → u.value.toNat ≤ tb → Leads (.timeMatch k) s fun t => t.time.tb = m.tb ∧ t.time.rtc = c ∧ others t ∧
    t.time.tm[k] = { u with
      armed := decide (u.per ≠ 0), hit := true, value := u.value + BitVec.ofNat 64 (n * u.per.toNat), skip := if u.per = 0 then u.skip else satAdd 0xFFFF u.skip (n - 1) } ∧
    (let q := { s with time := t.time }.assertLine (176 + k.val)
     q.op = s.op → t = q)) ∧
  (u.armed = false ∨ tb < u.value.toNat → Leads (.timeMatch k) s fun t => t = s) ∧
  (reg → tb < w.toNat → Leads (.tmHiWrite g k v) s fun t => only t { m with tm := m.tm.set k { u with value := w, armed := true } }) ∧
  (reg → w.toNat ≤ tb → u.per = 0 → Leads (.tmHiWrite g k v) s fun t => t.time.tb = m.tb ∧ others t ∧
    t.time.tm[k] = { u with value := w, armed := false, hit := true }) ∧
  (¬(s.net.ptp.st = 3 ∧ (s.tbSource = 1 ∨ s.tbSource = 3)) → Performs (.setTime r tai) s r 0x8000 7 12 (leBytes 8 tai.toNat) fun t =>
    t.time = { m with tb := tai, valid := true, steps := satInc m.steps, slew := 0, rtc := staged (s.utcOf tai.toNat) } ∧
    t.sup.cur.excused = true ∧ t.mem = s.mem ∧ t.op = s.op ∧ (m.tb.toNat ≤ tai.toNat → t.ctx = s.ctx)) ∧
  Performs (.setRtc r utc) s r 0x8010 8 12 (leBytes 8 utc.toNat) (fun t => t.time = { m with rtc := staged utc.toNat } ∧
    t.sup = s.sup ∧ t.mem = s.mem ∧ t.op = s.op ∧ t.ctx = s.ctx) ∧
  Performs (.clearStamp r) s r 0x8010 4 2 [1] (fun t => t.time = { m with rtc := { c with stampV := false } } ∧ t.mem = s.mem ∧
    t.op = s.op ∧ t.ctx = s.ctx) ∧
  (c.onBak = false → c.mode = false → main < 2700 → Leads (.rtcSwitch main vbak) s
    (rtc · { supplied true with swcnt := min 255 (c.swcnt + 1) })) ∧
  (c.onBak = false → c.mode = true → main < vbak → Leads (.rtcSwitch main vbak) s
    (rtc · { supplied true with swcnt := min 255 (c.swcnt + 1), stampV := true, stamp := if c.stampV then c.stamp else l.stamp })) ∧
  (c.onBak = true ∨ (c.mode = false ∧ 2700 ≤ main) ∨ (c.mode = true ∧ vbak ≤ main) → Leads (.rtcSwitch main vbak) s
    (rtc · (supplied c.onBak))) ∧
  (c.onBak = true → (c.mode = false ∧ 2900 < main) ∨ (c.mode = true ∧ vbak + 50 < main) → Leads (.rtcSwitchBack main vbak) s
    (rtc · (supplied false))) ∧
  Leads .rtcSupplyLoss s (fun t => t = { s with time := { m with rtc := { c with valid := false } }, inj := t.inj }) ∧
  (32768 ≤ edges → c.load = none → Leads .calendarAdvance s (rtc · { c with cal := next, base := c.base + 1000000000 })) ∧
  Leads (.rtcSetsecWrite .gaffer v) s (rtc · { c with load := some (v.toNat % 64, s.clk) }) ∧
  (port.txn = none → s.running g = false → Leads (.rtcSetsecWrite (.core g) v) s fun t => t = s) ∧
  (port.txn = none → s.running g = true → (s.cx g).act.paired = false → (s.cx g).regs.trapact = false →
    Leads (.rtcSetsecWrite (.core g) v) s fun t => TrapTaken s.draw t g s.freeWord 9 2 0x10050024) ∧
  Leads (.rtcSetsecWrite (.engine p) v) s (fun t => t = { s with bus := t.bus }) ∧
  (∀ sec at_, c.load = some (sec, at_) → loadEdge c.base at_ ≤ edges → Leads .calendarLoad s (rtc · { c with
    cal := ⟨sec, bitsOf c.stg0.toNat 8 6, bitsOf c.stg0.toNat 16 5, bitsOf c.stg0.toNat 24 3, bitsOf c.stg1.toNat 0 5,
      bitsOf c.stg1.toNat 8 4, bitsOf c.stg1.toNat 16 7⟩
    valid := true, load := none, base := c.base + loadEdge c.base at_ * 1000000000 / 32768 })) ∧
  (reg → Leads (.rtcCal0Read g) s (reads · l.word0 { port with cal := ⟨l.word0, l.word1, BitVec.ofNat 15 (min 0x7FFF edges)⟩ })) ∧
  (∀ x, port.txn = some x → x.sent = true → port.held = none → x.addr.toNat = 0x10050010 → x.priv = true → s.running g = false →
    Leads (.rtcCal0Read g) s (reads · l.word0 { port with
      cal := ⟨l.word0, l.word1, BitVec.ofNat 15 (min 0x7FFF edges)⟩, held := some ⟨0, l.word0⟩, heldInj := false })) ∧
  (reg → Leads (.rtcTbloRead g) s (reads · (m.tb.extractLsb' 0 32) { port with tbLatch := some (m.tb.extractLsb' 32 32) })) ∧
  (reg → Leads (.ctxReltimeLoRead g h) s (reads · (rel.extractLsb' 0 32) { port with
    relLatch := sset none port.relLatch h.val (some (rel.extractLsb' 32 32)) })) ∧
  (s.on = true → m.resyncAt + 600000000000 ≤ s.clk → m.valid = true → s.sourceLocked = true →
    100000000 < ((s.rtcUtc : Int) - (s.utcOf tb : Int)).natAbs → Leads .resync s fun t =>
      t.time = { m with resyncAt := s.clk, rtc := staged (s.utcOf tb) } ∧ t = { s with time := t.time, rcd := t.rcd, freeCtr := t.freeCtr } ∧
      t.rcd = (s.rec_ 0x8005 0x50 0 (satI32 (((s.utcOf tb : Int) - (s.rtcUtc : Int)) / 1000000))).rcd) ∧
  (s.on = true → m.resyncAt + 600000000000 ≤ s.clk → m.valid = false → Leads .resync s (only · { m with resyncAt := s.clk })) ∧
  (s.clk < m.resyncAt + 600000000000 → Leads .resync s fun t => t = s)

/-! ## Supervision (R662–R698) -/

/-- R662–R667, R671–R676, R678, R681–R685, R688, R696: supervision. A failed engine command is retried, then ends while its engine
restarts; a third restart in 60 s of the crypto engine resets the device. A context without progress stops; a core without
any is reset and reloaded, too many reloads reset the device. The device watchdog judges each service by its window and its
answer; at its end or its error limit it captures evidence and resets the device. Check-ins count in the interval of their release;
its close latches them and reports what is missing or extra unless the interval is excused. The gaffer's part of the watchdog is closed
to other masters.
Readings of the model: log entries 39 to 43. -/
def Obligations.Supervision : Prop := ∀ (s : State) (e : Fin 3) (g : Gctx) (n : CoreId) (pos : Fin 16) (a : Option Word) (key pc : Word)
    (tc tmo : Nat) (bad : Bool) (r : Req),
  s.op.failover = false →
  let p := s.sup
  let x := s.cx g
  let idle := s.nv.lehr = .none ∧ s.pwr.resetPend = none
  let asked := fun (c : Nat) (t : State) => t.pwr.resetPend = some c ∧ t.nv.lehr = (if s.nv.inRecall then .done else .step4) ∧
    t.pwr.phase = s.pwr.phase ∧ t.tdm.holds = false ∧ t.prog.slots = s.prog.slots
  let again := p.engine[e].step = 1 ∧ s.clk ≤ p.engine[e].at_ + engineLimit e
  let recent := s.clk :: p.engine[e].restarts.filter fun t0 => decide (s.clk < t0 + 60000000000)
  let reloads := s.core[n].reloadAt.filter fun t0 => decide (s.clk < t0 + 60000000000)
  let stuck := s.nv.lehr = .none ∧ s.core[n].up = true ∧ ((s.cands n).any fun h => (s.cx h).act.status == .ready) = true ∧
    ((s.cands n).any fun h => (s.cx h).act.dbgHalt) = false ∧ s.core[n].lastRetire + 5000000 ≤ s.clk
  let calm := ∀ h, (s.cx h).next = none
  let clean := ∀ h, (s.cx h).img.dirty = []
  let stopped := fun (t : State) => (t.cx g).act.status = .stopped ∧ t.op = s.op ∧ t.img = s.img ∧ (clean → t.mem = s.mem) ∧
    (calm → ∀ h, h ≠ g → t.cx h = s.cx h)
  let halted := fun (t : State) => t.op.st = .halt ∧ t.op.haltCause = 1 ∧ t.op.key = s.op.key ∧ t.prog.slots = s.prog.slots
  let src := if e.val = 0 then 0x51 else if e.val = 1 then 0x56 else 0x50
  let on := s.on = true
  let v := a.getD (crc32c (wordBytes p.question ++ wordBytes p.qExp))
  let denied := fun (c : Instr) => (x.port.txn = none → s.running g = false → Leads c s fun t => t = s.draw) ∧
    (x.port.txn = none → s.running g = true → x.act.paired = false → x.regs.trapact = false → Leads c s fun t =>
      TrapTaken s.draw.draw t g s.draw.freeWord 9 2 (BitVec.ofNat 32 (s.wdgAddr g)))
  let busError := fun (t : State) => t.bus = (s.toBus 8 ⟨3, 0⟩).bus
  let runs := p.on = true ∧ s.nv.lehr = .none ∧ s.pwr.phase ≠ .steps
  let open_ := on ∧ runs ∧ s.wdgClosed ≤ s.wdgTicks ∧ s.wdgTicks < s.wdgEnd
  let only := fun (t : State) (p' : Sup) => t = { s with sup := p' }
  let answer := crc32c (wordBytes p.question ++ wordBytes p.qTally)
  let window : Sup := { p with
    winAt := s.clk, question := s.freeWord, servedAt := s.time.tb, once := false, next := none
    tc := (p.next.map (·.1)).getD p.tc, to_ := (p.next.map (·.2)).getD p.to_ }
  let errs := min 15 (p.errcnt + 1)
  let limit := s.cfg 0x9000 4 8
  let legal := tc ≤ 999 ∧ 2 ≤ tmo ∧ tmo ≤ 1000 ∧ tc < tmo
  let ti := s.cfg 0x9000 5 100 * 1000000
  let grace := s.cfg 0x9000 6 20 * 1000000
  let k := if x.task.kind = .background then (s.time.tb.toNat - grace) / ti else x.act.rel.toNat / ti
  let counted := fun (i : Interval) => { i with
    tally := i.tally + key, counts := sset 0 i.counts g.val (min 255 (sget 0 i.counts g.val + 1)) }
  let action := s.cfg (0x9100 + g.val) 3 0
  let due := p.due = [g] ∧ p.restarting = false
  (on → ¬again → s.injOn (71 + e.val) = false → Leads (.engineTimeout e bad) s fun t =>
    t = { s with sup := { p with engine := p.engine.set e { p.engine[e] with step := 1, at_ := s.clk } }
                 rcd := (s.rec_ 0x9006 src e.val 1).rcd }) ∧
  (∀ c rest, on → e = 0 → again → s.injOn 71 = false → recent.length < 3 → s.img.commits = c :: rest → c.byEnd = false →
    s.op.stopping = none → (s.cx c.ctx).act.after = none → Leads (.engineTimeout e false) s fun t =>
      t.img = { s.img with commits := rest } ∧ t.nv = s.nv ∧ t.mem = s.mem ∧ t.op = s.op ∧
      t.sup.engine[e] = ⟨0, recent, s.clk⟩ ∧ t.rcd = (s.rec_ 0x9006 0x51 0 2).rcd ∧ (t.cx c.ctx).act.status = .ready) ∧
  (on → e = 2 → again → s.injOn 73 = false → recent.length < 3 → Leads (.engineTimeout e false) s fun t =>
    t = { s with sup := { p with engine := p.engine.set e ⟨0, recent, s.clk⟩ }, rcd := (s.rec_ 0x9006 0x50 2 2).rcd }) ∧
  (on → e = 2 → again → 3 ≤ recent.length ∨ bad = true → idle → Leads (.engineTimeout e bad) s (asked 5)) ∧
  (s.running g = true → max x.act.retiredAt s.core[coreOf g].lastRetire + 1000000 ≤ s.clk → x.task.action ≤ 2 →
    s.op.stopping = none → Leads (.contextStalled g) s fun t => stopped t ∧ (t.cx g).img.staged = [] ∧
      (swf 0 p.progN = true → sget 0 t.sup.progN g.val = satInc (sget 0 p.progN g.val))) ∧
  (s.running g = true → max x.act.retiredAt s.core[coreOf g].lastRetire + 1000000 ≤ s.clk → x.task.action = 3 → s.op.st = .run →
    Leads (.contextStalled g) s halted) ∧
  (stuck → s.core[n].reload = none → reloads.length < s.cfg 0x9000 0x0A 3 → Leads (.coreWatchdog n) s fun t =>
    t.core[n].reload = some 0 ∧ t.core[n].reloadAt = s.clk :: reloads ∧ t.core[n].clockOn = false ∧
    t.core[n].wdExpiries = satInc s.core[n].wdExpiries ∧ (∀ h, coreOf h = n → (t.cx h).regs = Regs.blank n.val) ∧
    (calm → ∀ h, coreOf h ≠ n → (s.cx h).taskNow.paired = false → t.cx h = s.cx h) ∧
    (∀ o : CoreId, o ≠ n → t.core[o].reload = s.core[o].reload) ∧ (clean → t.mem = s.mem) ∧ t.img = s.img ∧ t.op = s.op) ∧
  (stuck → s.core[n].reload = none → s.cfg 0x9000 0x0A 3 ≤ reloads.length → idle → Leads (.coreWatchdog n) s (asked 5)) ∧
  (∀ c, s.core[n].reload = some c →
    (idle → Leads (.coreReloaded n false) s (asked 5)) ∧
    (s.blocksOk = false → idle → Leads (.coreReloaded n true) s (asked 5)) ∧
    (s.blocksOk = true → s.journalHolds (s.affectedBy n) = true → Leads (.coreReloaded n true) s fun t => t = s) ∧
    (s.blocksOk = true → s.journalHolds (s.affectedBy n) = false → Leads (.coreReloaded n true) s fun t =>
      t.core[n].reload = none ∧ t.core[n].reloads = satInc s.core[n].reloads ∧
      (s.op.st = .run → ∀ h, coreOf h = n → (t.cx h).act.reloadSkip = 0 ∧ (t.cx h).act.seen = some (s.time.tb + 999999)) ∧
      (∀ h, coreOf h ≠ n → (s.cx h).taskNow.paired = false → t.cx h = s.cx h) ∧ t.img = s.img ∧ t.op = s.op)) ∧
  (runs → s.wdgEnd ≤ s.wdgTicks → s.injOn 40 = false → Leads .wdgExpired s fun t => t.sup.evidence = some (s.evidenceBlock 1) ∧ (idle → asked 2 t)) ∧
  (¬runs ∨ s.wdgTicks < s.wdgEnd → s.injOn 40 = false → Leads .wdgExpired s fun t => t = s) ∧
  (¬runs → Leads (.wdgService .gaffer a) s fun t => t = s) ∧
  (on → denied (.wdgService (.core g) a) ∧ denied (.wdgQRead (.core g)) ∧ denied (.wdgCfgWrite (.core g) tc tmo)) ∧
  (on → Leads (.wdgService (.engine pos) a) s (· = s.toBus pos.val ⟨2, 0⟩) ∧ Leads (.wdgQRead (.engine pos)) s (· = s.toBus pos.val ⟨2, 0⟩) ∧
    Leads (.wdgCfgWrite (.engine pos) tc tmo) s (· = s.toBus pos.val ⟨2, 0⟩)) ∧
  (on → runs → s.wdgEnd ≤ s.wdgTicks → idle → Leads (.wdgService .gaffer a) s (asked 2)) ∧
  (on → runs → s.wdgTicks < s.wdgEnd → s.wdgTicks < s.wdgClosed →
    (errs < limit → Leads (.wdgService .gaffer a) s fun t => t = { s with sup := { p with errcnt := errs, injected := false }, rcd := t.rcd }) ∧
    (limit ≤ errs → idle → Leads (.wdgService .gaffer a) s fun t => asked 3 t ∧ t.sup.evidence.isSome = true)) ∧
  (open_ → v = answer → Leads (.wdgService .gaffer a) s fun t =>
    t = { s with sup := { window with errcnt := p.errcnt - 1 }, freeCtr := s.freeCtr + 1 }) ∧
  (open_ → v ≠ answer → errs < limit → Leads (.wdgService .gaffer a) s fun t =>
    t = { s with sup := { window with errcnt := errs, injected := false }, freeCtr := s.freeCtr + 1
                 rcd := (s.rec_ 0x9021 0x59 p.question.toNat errs p.qTally.toNat).rcd }) ∧
  (open_ → v ≠ answer → limit ≤ errs → idle → Leads (.wdgService .gaffer a) s fun t => asked 3 t ∧ t.sup.evidence.isSome = true) ∧
  (on → Leads (.wdgQRead .gaffer) s (only · { p with qTally := p.ltally, qExp := p.lexp })) ∧
  (on → ¬legal → Leads (.wdgCfgWrite .gaffer tc tmo) s fun t => t = { s with bus := t.bus } ∧ busError t) ∧
  (on → legal → p.on = false → Leads (.wdgCfgWrite .gaffer tc tmo) s fun t =>
    t = { s with sup := { p with on := true, tc := tc, to_ := tmo, next := none, once := false, winAt := s.clk, errcnt := 0, question := s.freeWord }
                 freeCtr := s.freeCtr + 1, rcd := (s.rec_ 0x9025 0x59 tc tmo).rcd }) ∧
  (on → legal → p.on = true → s.wdgTicks < s.wdgEnd → s.wdgTicks < s.wdgClosed → Leads (.wdgCfgWrite .gaffer tc tmo) s fun t =>
    t = { s with rcd := (s.rec_ 0x9023 0x59 tc tmo 2).rcd, bus := t.bus } ∧ busError t) ∧
  (on → legal → p.on = true → s.wdgTicks < s.wdgEnd → s.wdgClosed ≤ s.wdgTicks → Leads (.wdgCfgWrite .gaffer tc tmo) s fun t =>
    t = { s with sup := { p with next := some (tc, tmo) }, rcd := (s.rec_ 0x9023 0x59 tc tmo s.sec.hot.isSome.toNat).rcd }) ∧
  (on → p.restarting = false → (∀ t0, p.selfAt = some t0 → t0 + 10000000000 ≤ s.clk) → Leads (.gafferSelfWdg pc) s fun t =>
    t.sup = { p with selfAt := some s.clk, once := true, winAt := s.clk, restarting := true, gpc := pc } ∧ t.dict.sessions = [] ∧
    t.sec = { s.sec with serving := none, hot := none } ∧ t.op = s.op ∧ t.ctx = s.ctx ∧ t.mem = s.mem ∧ t.img = s.img) ∧
  (∀ t0, on → p.restarting = false → p.selfAt = some t0 → s.clk < t0 + 10000000000 → idle → Leads (.gafferSelfWdg pc) s fun t => asked 4 t ∧ t.sup.selfRec = true) ∧
  (on → RegAccess s g → x.task.paired = false →
    (p.cur.num ≤ k → Leads (.wdgChkin g key) s (only · { p with cur := counted p.cur })) ∧
    (∀ i, k < p.cur.num → p.closing = some i → i.num = k → Leads (.wdgChkin g key) s (only · { p with closing := some (counted i) })) ∧
    (k < p.cur.num → p.closing = none → p.closedExc.contains k = true → Leads (.wdgChkin g key) s fun t => t = s) ∧
    (k < p.cur.num → p.closing = none → p.closedExc.contains k = false → Leads (.wdgChkin g key) s fun t =>
      t = { s with sup := { p with late := t.sup.late, lateN := t.sup.lateN }, rcd := t.rcd } ∧ t.sup.late = p.late ||| ctxBit g)) ∧
  (s.time.tb.toNat / ti = p.cur.num → Leads .intervalStart s fun t => t = s) ∧
  (on → s.time.tb.toNat / ti ≠ p.cur.num → p.closing = none → Leads .intervalStart s fun t =>
    only t { p with closing := some p.cur, cur := t.sup.cur } ∧ t.sup.cur.num = s.time.tb.toNat / ti ∧ t.sup.cur.exp = p.expCfg ∧
    t.sup.cur.tally = 0 ∧ t.sup.cur.counts = []) ∧
  (∀ i, p.closing = some i → (i.num + 1) * ti + grace ≤ s.time.tb.toNat → s.injOn 44 = false → s.injOn 45 = false →
    Leads .intervalClose s fun t => t = { s with sup := t.sup, rcd := t.rcd } ∧ t.sup.closing = none ∧ t.sup.cur = p.cur ∧
      t.sup.ltally = i.tally ∧ t.sup.lcounts = i.counts ∧ t.sup.lexcused = i.excused ∧
      (i.excused = true → t.sup.miss = p.miss ∧ t.sup.extra = p.extra ∧ t.rcd = s.rcd) ∧
      (i.excused = false → ∀ h : Gctx,
        let c := sget 0 i.counts h.val
        t.sup.miss.getLsbD h.val = (p.miss.getLsbD h.val || (i.exp.getLsbD h.val && decide (c = 0))) ∧
        t.sup.extra.getLsbD h.val = (p.extra.getLsbD h.val || decide (2 ≤ c ∨ (c = 1 ∧ i.exp.getLsbD h.val = false))))) ∧
  (∀ i, p.closing = some i → s.time.tb.toNat < (i.num + 1) * ti + grace → Leads .intervalClose s fun t => t = s) ∧
  (p.restarting = true → Leads .checkinFaultAction s fun t => t = s) ∧
  (due → action = 0 → Leads .checkinFaultAction s (only · { p with due := [] })) ∧
  (due → action = 1 → x.inCommit = false → Leads .checkinFaultAction s stopped) ∧
  (due → action = 2 → s.op.st = .run → Leads .checkinFaultAction s halted) ∧
  (due → action = 3 → s.core[coreOf g].reload = none → (s.recentReloads (coreOf g)).length < s.cfg 0x9000 0x0A 3 →
    Leads .checkinFaultAction s fun t => t.core[coreOf g].reload = some 1 ∧ (clean → t.mem = s.mem) ∧ t.img = s.img ∧ t.op = s.op) ∧
  (swf none s.dict.vals = true → Performs (.clearEvidence r) s r 0x9010 3 2 [1] fun t =>
    sget none t.dict.vals (dkey 0x9010 1) = some [] ∧ sget none t.dict.vals (dkey 0x9010 2) = some [0] ∧
    (∀ y, y ≠ dkey 0x9010 1 → y ≠ dkey 0x9010 2 → sget none t.dict.vals y = sget none s.dict.vals y) ∧
    t.op = s.op ∧ t.ctx = s.ctx)

/-! ## Records and injection (R699–R717) -/

/-- R699, R705, R708–R710, R712, R715–R717: the recorder and the injection commands. An event (here a supply above its limit) is lost
when the queue is full, suppressed when its code has no token, else queued with the occurrences suppressed before it. The writer
takes the next index under a grant and programs its slot, and reports lost events. A token returns after each refill period, and a
full bucket reports what is pending. An injection command takes target and value as they stand; REM needs role SECURITY. -/
def Obligations.RecordsAndInjection : Prop := ∀ (s : State) (mv ms : Nat) (code : BitVec 16) (g : Gctx) (r : Req) (x : Session) (det : Fin 128),
  s.op.failover = false → swf ⟨0, 0, 0⟩ s.rcd.buckets = true → swf ⟨0, 0, 0, 0⟩ s.inj = true →
  let q := s.rcd
  let b := sget ⟨0, 0, 0⟩ q.buckets 0x1004
  let event := 18000 < mv ∧ 1 ≤ ms
  let i := ctrVal s.mem 2
  let a := 0x04158000 + i % 32768 * 32
  let m := (s.count 2 1).mem
  let still := b.missing = 0 ∨ s.clk < b.since + s.refillNs 0x1004
  let free := q.busy = false ∧ s.sup.restarting = false ∧ s.nv.granted = some 8
  let sound := swf 0 s.errs = true ∧ ∀ o ∈ [0, 4, 16], s.nvUe (slotAddr 2 + o) = false
  let n := code.toNat
  let c := sget ⟨0, 0, 0⟩ q.buckets n
  let tokens := min c.missing ((s.clk - c.since) / max 1 (s.refillNs n))
  let only := fun (t : State) => t = { s with rcd := t.rcd }
  let port := (s.cx g).port
  let reads := fun (t : State) (v : Word) (p : Port) => t = { s with ctx := s.ctx.set g { s.cx g with port := { p with lastRead := v } } }
  let d := det.val
  let taken_ := fun (k : Byte) => Accepted s r x (0xA100 + d) 1 2 [k]
  let runs := fun (k : Byte) => Executes s r x (writeOf r (0xA100 + d) 1 2 [k])
  let bars := fun (k : Byte) => let u := taken s r (writeOf r (0xA100 + d) 1 2 [k])
    u.writeBars (u.withVal (0xA100 + d) 1 [k]) x.role (fromUsb r.origin) (!x.auth) (0xA100 + d) 1 (some 2) [k]
  let args := (s.cfg (0xA100 + d) 2 0, s.cfg (0xA100 + d) 3 0)
  let permitted := s.op.st ≠ .run ∧ (s.op.key = 2 → x.role = 3)
  let legal := d < 126 ∧ targetLegal d args.1 args.2 = true ∧ (40 ≤ d → d ≤ 42 → s.sup.on = true)
  let old := sget ⟨0, 0, 0, 0⟩ s.inj d
  let kept := fun (t : State) => t.mem = s.mem ∧ t.op = s.op ∧ t.ctx = s.ctx ∧ t.img = s.img ∧ t.dict.vals = s.dict.vals ∧
    ∀ e, e ≠ d → sget ⟨0, 0, 0, 0⟩ t.inj e = sget ⟨0, 0, 0, 0⟩ s.inj e
  let armed := fun (st : Nat) (t : State) => kept t ∧ Answered t r 4 0 ∧
    sget ⟨0, 0, 0, 0⟩ t.inj d = ⟨st, BitVec.ofNat 32 args.1, BitVec.ofNat 32 args.2, satInc old.cnt⟩ ∧
    t.rcd = ((served s r).rec_ 0xA010 0x50 d args.1 args.2).rcd
  let refused := fun (status : Nat) (t : State) => kept t ∧ Answered t r 4 status ∧ t.inj = s.inj
  (event → still → 256 ≤ q.queue.length → Leads (.vinHigh mv ms) s fun t =>
    t = { s with rcd := { q with lost := satInc q.lost, lostNew := q.lostNew + 1 } }) ∧
  (event → still → q.queue.length < 256 → s.burst 0x1004 ≠ 0 → s.burst 0x1004 ≤ b.missing → Leads (.vinHigh mv ms) s fun t => only t ∧
    t.rcd.queue = q.queue ∧ t.rcd.supp = satInc q.supp ∧ sget ⟨0, 0, 0⟩ t.rcd.buckets 0x1004 = { b with pend := b.pend + 1 }) ∧
  (event → still → q.queue.length < 256 → b.missing < s.burst 0x1004 → Leads (.vinHigh mv ms) s fun t => only t ∧ t.rcd.supp = q.supp ∧
    (∃ y : Rec, t.rcd.queue = q.queue ++ [y] ∧ y.code = 0x1004 ∧ y.src = 0x50 ∧ y.inj = false ∧ y.p1 = BitVec.ofNat 32 mv ∧
      y.p2 = BitVec.ofNat 32 ms ∧ y.p3 = 0 ∧ y.supp = min 255 b.pend ∧ y.time = if s.time.valid then s.time.tb else 0) ∧
    (sget ⟨0, 0, 0⟩ t.rcd.buckets 0x1004).missing = b.missing + 1 ∧ (sget ⟨0, 0, 0⟩ t.rcd.buckets 0x1004).pend = 0) ∧
  (∀ y l, q.queue = y :: l → free → sound → q.lostNew = 0 → Leads .recordWrite s fun t =>
    t = { s with mem := wrBytes m a (y.bytes i (ctrVal m 0)), errs := t.errs, nv := t.nv, rcd := { q with queue := l } } ∧ t.nv.granted = none) ∧
  (∀ y l, q.queue = y :: l → free → sound → q.lostNew ≠ 0 → Leads .recordWrite s fun t =>
    t = { s with mem := wrBytes m a (y.bytes i (ctrVal m 0)), errs := t.errs, nv := t.nv, rcd := t.rcd } ∧ t.rcd.lostNew = 0 ∧
      ∃ z : Rec, t.rcd.queue = l ++ [z] ∧ z.code = 0xA004 ∧ z.p1 = BitVec.ofNat 32 q.lostNew ∧ z.supp = 0) ∧
  (q.queue = [] ∨ ¬free → Leads .recordWrite s fun t => t = s) ∧
  (0 < tokens → Leads (.tokenRefill code) s fun t => only t ∧ (sget ⟨0, 0, 0⟩ t.rcd.buckets n).missing = c.missing - tokens ∧
    (sget ⟨0, 0, 0⟩ t.rcd.buckets n).since = c.since + tokens * s.refillNs n ∧
    (tokens < c.missing ∨ c.pend = 0 → t.rcd.queue = q.queue ∧ (sget ⟨0, 0, 0⟩ t.rcd.buckets n).pend = c.pend) ∧
    (tokens = c.missing → c.pend ≠ 0 → (sget ⟨0, 0, 0⟩ t.rcd.buckets n).pend = 0 ∧ ∃ z : Rec, t.rcd.queue = q.queue ++ [z] ∧ z.code = 0xA003 ∧
      z.p1 = BitVec.ofNat 32 n ∧ z.p2 = BitVec.ofNat 32 c.pend)) ∧
  (tokens = 0 → Leads (.tokenRefill code) s fun t => t = s) ∧
  (RegAccess s g → Leads (.recDoneloRead g) s (reads · (BitVec.ofNat 32 i) { port with doneLatch := some (BitVec.ofNat 32 (i / 2 ^ 32)) })) ∧
  (RegAccess s g → Leads (.recOldloRead g) s (reads · (BitVec.ofNat 32 (i - 32768)) { port with
    oldLatch := some (BitVec.ofNat 32 ((i - 32768) / 2 ^ 32)) })) ∧
  (taken_ 1 → permitted → legal → Leads (.once r det) s (armed 1)) ∧
  (taken_ 2 → permitted → legal → condDet d = true → Leads (.hold r det) s (armed 2)) ∧
  (∀ y, runs 2 → bars 2 = some y → Leads (.hold r det) s (refused y.code)) ∧ (d < 126 → condDet d = false → bars 2 ≠ none) ∧
  (taken_ 3 → permitted → legal → old.st = 2 → Leads (.release r det) s fun t => kept t ∧ Answered t r 4 0 ∧
    sget ⟨0, 0, 0, 0⟩ t.inj d = { old with st := 0 } ∧ t.rcd = ((served s r).rec_ 0xA011 0x50 d 0).rcd) ∧
  (taken_ 3 → permitted → legal → old.st ≠ 2 → Leads (.release r det) s fun t => kept t ∧ Answered t r 4 0 ∧ t.inj = s.inj) ∧
  (runs 1 → s.leadPaired = false → s.op.key = 2 → x.role < 3 → s.findEnt (0xA100 + d) 1 ≠ none →
    Leads (.once r det) s (refused 0x80000008))

/-! ## Trust, update, the system update, register writes (R9–R20, R632, R646, R724–R754) -/

/-- R726, R727, R737, R741, R746–R748, R754: trust and update. A provisioned key fills the lowest EMPTY slot and a revoked slot is
marked REVOKED; IMMEDIATE makes firmware active as TRIAL and resets the device, or loads a program; AT_RESET, SCHEDULED and HOT
keep what is to come; DISCARD empties the parison; a HOT restart closes the sessions and leaves the contexts alone; firmware
confirmed by command or after 10 minutes becomes CONFIRMED. R632, R646: the system update publishes time and state words. R9–R20:
a write of a register outside the register blocks does nothing; one that is denied or breaks a rule changes no register and gives its
master an error, a trap of a context and the error register of another master; else it has its effect, and a bit that the hardware sets
in the same cycle ends set.
Readings of the model: log entries 43, 50 and 51. -/
def Obligations.TrustAndUpdate : Prop := ∀ (s : State) (r : Req) (x : Session) (t : Fin 3) (k : Byte) (key : List Byte) (g h : Gctx)
    (tm : Fin 8) (pos : Fin 16) (m : Master) (addr v ev : Word) (size : BitVec 2), s.op.failover = false →
  let c := s.sec
  let p := c.par[t]
  let p0 := c.par[(0 : Fin 3)]
  let took := fun (idx sub ty : Nat) (b : List Byte) => Accepted s r x idx sub ty b ∧ s.pwr.phase ≠ .recovery
  let cmd := fun (n : Byte) => took (0xB030 + t.val) 6 2 [n]
  let bars := fun (n : Byte) => let u := taken s r (writeOf r (0xB030 + t.val) 6 2 [n])
    u.writeBars (u.withVal (0xB030 + t.val) 6 [n]) x.role (fromUsb r.origin) (!x.auth) (0xB030 + t.val) 6 (some 2) [n]
  let kept := fun (u : State) => u.mem = s.mem ∧ u.ctx = s.ctx ∧ u.img = s.img ∧ u.op = s.op ∧ u.dict.vals = s.dict.vals
  let done := fun (u : State) => Answered u r 4 0 ∧ kept u
  let refused := fun (status : Nat) (u : State) => Answered u r 4 status ∧ kept u ∧ u.sec = c ∧ u.otp = s.otp ∧ u.prog = s.prog
  let idle := s.nv.lehr = .none ∧ s.pwr.resetPend = none
  let stop := s.op.key = 0 ∧ s.op.st = .stop
  let keyed := s.op.key = 0 ∨ s.op.key = 2
  let w := taken s r (writeOf r (0xB030 + t.val) 6 2 [1])
  let runs := fun (n : Byte) => Executes s r x (writeOf r (0xB030 + t.val) 6 2 [n])
  let target := s.fwTarget
  let trial := fun (u : State) => u.sec.fw[target].st = 3 ∧ u.sec.active = target.val + 1 ∧ u.sec.par[(0 : Fin 3)] = Parison.empty
  let a := s.fwActive
  let f := c.fw[a]
  let up := max s.fwCounter f.rollback
  let confirmed := fun (b u : State) (cause : Nat) => u.otp = s.otp ||| otpOnesMask (8 * 0x130) up ∧ u.sec.fw[a] = { f with st := 2 } ∧
    u.sec.fw[s.fwOther] = c.fw[s.fwOther].after up ∧ u.sec.serving = none ∧ u.sec.active = c.active ∧ kept u ∧
    (f.rollback ≤ s.fwCounter → u.rcd = (b.rec_ 0xB007 0x50 (a.val + 1) f.version.toNat cause).rcd)
  let reg := addr.toNat
  let word := fun (o : Nat) => reg = 0x10000000 + o ∧ size = 2
  let write := fun (m' : Master) => Leads (.registerWrite m' addr size v ev) s
  let clears := fun (n : Nat) => v.getLsbD n && !ev.getLsbD n
  let free := (s.cx g).port.txn = none
  let own := RegAccess s g
  let running := s.running g = true ∧ (s.cx g).act.paired = false ∧ (s.cx g).regs.trapact = false
  let user := (s.cx g).regs.priv = false
  let odd := size ≠ 2 ∨ reg % 4 ≠ 0
  let wrong := fun (q : BitVec 8) => (q = 1 ∧ 0x10200000 ≤ reg) ∨
    (q = 2 ∧ 0x10000000 ≤ reg ∧ reg < 0x10200000 ∧ (user ∨ 0x10110000 ≤ reg ∨ word 0x50024 ∨ word 0x40200)) ∨
    (q = 3 ∧ ¬user ∧ 0x10000000 ≤ reg ∧ reg < 0x10040000 ∧ odd)
  let gafferWrong := fun (q : BitVec 8) => (q = 1 ∧ 0x10200000 ≤ reg) ∨ (q = 2 ∧ 0x10110000 ≤ reg ∧ reg < 0x10200000) ∨
    (q = 3 ∧ 0x10000000 ≤ reg ∧ reg < 0x10110000 ∧ odd)
  let hx := s.home h
  let reg1 := 0x10100 + 0x40 * h.val + 0x14
  let act := (s.cx hx).act
  let set := s.systemSet
  let presents := [119, 41, 42, 74, 83].any fun (d : Nat) => s.injOn d
  (∀ j : Nat, took 0xB005 1 14 key → j < 4 → s.ownerState j = 0 → (∀ i : Nat, i < j → s.ownerState i ≠ 0) → Leads (.provisionOwnerKey r key) s fun u =>
    done u ∧ u.otp = s.otp ||| (otpAt (0x30 + 0x40 * j) (Config.sha384 key) ||| otpAt (0x60 + 0x40 * j) [1]) ∧
    u.rcd = ((served s r).rec_ 0xB00B 0x50 j 0).rcd ∧ u.sec = c) ∧
  (took 0xB005 1 14 key → (∀ j : Nat, j < 4 → s.ownerState j ≠ 0) → Leads (.provisionOwnerKey r key) s (refused 0x80000005)) ∧
  (took 0xB005 2 2 [k] → s.revocable k.toNat = true → Leads (.revokeOwnerSlot r k) s fun u => done u ∧
    u.otp = s.otp ||| otpAt (0x60 + 0x40 * k.toNat) [3] ∧ u.rcd = ((served s r).rec_ 0xB00B 0x50 k.toNat 1).rcd ∧ u.sec = c) ∧
  (took 0xB005 2 2 [k] → s.revocable k.toNat = false → Leads (.revokeOwnerSlot r k) s (refused 0x80000005)) ∧
  (cmd 1 → t = 0 → stop → p.st = 2 → idle → s.tdm.holds = false ∨ s.bound 184 = none → Leads (.immediate r t) s fun u =>
    Answered u r 4 0 ∧ trial u ∧ u.pwr.resetPend = some 6 ∧ u.sec.serving = none ∧ u.otp = s.otp ∧ u.prog.slots = s.prog.slots) ∧
  (cmd 1 → t ≠ 0 → stop → p.st = 2 → s.prog.storeFault = none → w.marchUnder (w.slotBlocks t.val) = false → Leads (.immediate r t) s fun u => u.op.st = .stop ∧
    ((w.checkSlot t.val).2.2 = none → Answered u r 4 0 ∧ u.prog.loaded = true ∧ u.prog.active = t.val ∧ u.img.out = []) ∧
    ∀ f, (w.checkSlot t.val).2.2 = some f → Answered u r 4 f.code ∧ u.prog.active = s.prog.active ∧ u.img = s.img ∧ u.mem = s.mem) ∧
  (cmd 1 → stop → p.st ≠ 2 → Leads (.immediate r t) s (refused 0x8000000C)) ∧
  (cmd 2 → t = 0 → keyed → p.st = 2 → Leads (.atReset r t) s fun u => done u ∧ u.sec = { c with atReset := true }) ∧
  (∀ y, runs 2 → bars 2 = some y → Leads (.atReset r t) s (refused y.code)) ∧ (t ≠ 0 → bars 2 ≠ none) ∧
  (cmd 3 → keyed → p.st = 2 → s.time.valid = true → Leads (.scheduled r t) s fun u => done u ∧
    u.sec = { c with par := c.par.set t { p with st := 3, boundary := s.boundaryOf (s.cfg (0xB030 + t.val) 7 0) } }) ∧
  (cmd 3 → keyed → p.st = 2 → s.time.valid = false → Leads (.scheduled r t) s (refused 0x8000000E)) ∧
  (cmd 4 → t = 0 → keyed → p.st = 2 → Leads (.hot r t) s fun u => done u ∧ u.sec = { c with hot := some (1, s.clk) }) ∧
  (∀ y, runs 4 → bars 4 = some y → Leads (.hot r t) s (refused y.code)) ∧
  (t ≠ 0 ∨ (p.st = 2 ∧ s.sameRuntime = false) → bars 4 ≠ none) ∧
  (cmd 5 → Leads (.discard r t) s fun u => done u ∧ u.sec.par[t] = Parison.empty ∧ (∀ j : Fin 3, j ≠ t → u.sec.par[j] = c.par[j]) ∧
    (p.st < 2 ∨ p.st = 4 → u.prog = s.prog ∧ u.sec.fw = c.fw) ∧
    (t = 0 → p.st = 2 ∨ p.st = 3 → u.sec.fw[target] = FwSlot.blank ∧ u.prog = s.prog) ∧
    (t ≠ 0 → s.prog.active = t.val → u.prog = s.prog)) ∧
  (∀ t0, s.nv.lehr = .none → s.sup.restarting = false → c.hot = some (1, t0) → p0.st = 2 → s.sup.on = false ∨ (s.sup.tc = 0 ∧ s.sup.to_ = 200) →
    Leads .gafferRestart s fun u => trial u ∧ u.sup = { s.sup with restarting := true } ∧ u.sec.hot = some (2, s.clk) ∧ u.dict.sessions = [] ∧
      u.ctx = s.ctx ∧ u.img = s.img ∧ u.mem = s.mem ∧ u.op = s.op ∧ u.fld = s.fld) ∧
  (∀ t0, s.sup.restarting = false → c.hot = some (1, t0) → p0.st = 2 → s.sup.on = true → s.sup.to_ ≠ 200 → Leads .gafferRestart s fun u => u = s) ∧
  (s.nv.lehr = .none → s.sup.restarting = true → Leads .gafferRestart s fun u => u.ctx = s.ctx ∧ u.img = s.img ∧ u.op = s.op ∧ u.fld = s.fld ∧
    (s.fwVerifies (s.fwImage a) = true → u.sup = { s.sup with restarting := false } ∧ u.sec.hot = none ∧
      (∀ t0, c.hot = some (2, t0) → u.sec.serving = some s.clk)) ∧
    (s.fwVerifies (s.fwImage a) = false → u = s)) ∧
  (took 0xB018 3 2 [1] → f.st = 3 → Leads (.confirmFirmware r) s fun u => Answered u r 4 0 ∧ confirmed (served s r) u 0) ∧
  (took 0xB018 3 2 [1] → f.st ≠ 3 → Leads (.confirmFirmware r) s fun u => done u ∧ u.sec = c ∧ u.otp = s.otp) ∧
  (∀ t0, c.serving = some t0 → t0 + 600000000000 ≤ s.clk → f.st = 3 → Leads .autoConfirm s (confirmed s · 1)) ∧
  (∀ t0, c.serving = some t0 → s.clk < t0 + 600000000000 → Leads .autoConfirm s fun u => u = s) ∧
  (took 0xB050 1 14 key → Leads (.quoteNonce r key) s fun u => done u ∧
    u.sec = { c with quote := (taken s r (writeOf r 0xB050 1 14 key)).mkQuote key }) ∧
  (s.on = true → s.ibMarches = false → presents = false → s.isTrail = false → s.pubDue 3 = true → swf [bornVersion] s.img.ver = true → Leads .systemUpdate s fun u =>
    u = { s with img := u.img, tdm := u.tdm, hier := u.hier, ctx := u.ctx } ∧ (∀ y, (u.cx y).regs = (s.cx y).regs ∧ (u.cx y).act = (s.cx y).act) ∧
    u.img.epoch = s.img.epoch + 1 ∧ u.tdm.inBits = 0 ∧ u.tdm.outBits = 0 ∧
    (∀ y z, (y, z) ∈ set.words → u.versions y = (⟨s.img.epoch + 1, z, false⟩ :: s.versions y).take 4) ∧
    (∀ y, (∀ z ∈ set.words, z.1 ≠ y) → u.versions y = s.versions y) ∧ u.img.out = s.img.out ∧
    ∀ n : Nat, (u.worker n).lostUpd = 0 ∧ (u.worker n).st = (s.worker n).st) ∧
  (reg < 0x10000000 → Leads (.registerWrite m addr size v ev) s fun u => u = s) ∧
  (∀ q, wrong q → (free → s.running g = false → write (.core g) fun u => u = s) ∧
    (free → running → write (.core g) fun u => TrapTaken s.draw u g s.freeWord 9 q addr)) ∧
  (∀ q : BitVec 8, gafferWrong q → write .gaffer fun u => u = s.toBus 8 ⟨q.toNat, 0⟩) ∧
  (0x10000000 ≤ reg → write (.engine pos) fun u => u = s.toBus pos.val ⟨if 0x10200000 ≤ reg then 1 else 2, 0⟩) ∧
  (own → word reg1 → write (.core g) fun u => u = { s with ctx := u.ctx } ∧ (∀ y, y ≠ hx → u.cx y = s.cx y) ∧
    u.cx hx = { s.cx hx with act := { act with
      fOverrun := act.fOverrun && !clears 8, fMiss := act.fMiss && !clears 9, fSkipped := act.fSkipped && !clears 10
      fDeferred := act.fDeferred && !clears 11, fCoal := act.fCoal && !clears 12 } }) ∧
  (own → word (0x20000 + 4) → write (.core g) fun u => u = { s with img := { s.img with ownviol := s.img.ownviol && !clears 1 } }) ∧
  (own → word (0x50000 + 0x48 + 0x10 * tm.val) → write (.core g) fun u =>
    u = { s with time := { s.time with tm := s.time.tm.set tm { s.time.tm[tm] with per := v } } }) ∧
  (word 0x50024 → write .gaffer fun u =>
    u = { s with time := { s.time with rtc := { s.time.rtc with load := some (v.toNat % 64, s.clk) } }, bus := u.bus })

/-! ## The block: reset, queue, invariants -/

/-- R107, R120, R125, R190, R670, R775: right after a power-on reset every context of core n reads CSTAT 0000_000Ch and TRAPVEC the
base of its core bank, its counts are 0 and nothing runs; the image epoch is 0, the watchdog is off, the outputs are off and no
command waits. (An empty memory, the program counters and general registers at 0 are the model's choices of log entries 1 and
3.) -/
def Obligations.ResetValues : Prop :=
  (∀ g : Gctx, (State.reset.cx g).regs = Regs.blank (g.val / 8) ∧ (State.reset.cx g).regs.priv = false ∧
    (State.reset.cx g).regs.coltrap = true ∧ (State.reset.cx g).regs.rstrap = true ∧
    (State.reset.cx g).regs.trapvec = BitVec.ofNat 32 (g.val / 8 * 0x80000) ∧ (State.reset.cx g).act.status = .idle ∧
    (State.reset.cx g).act.actCnt = 0 ∧ (State.reset.cx g).act.ovrCnt = 0 ∧ (State.reset.cx g).act.missCnt = 0 ∧
    (State.reset.cx g).act.skipCnt = 0 ∧ (State.reset.cx g).act.maxUsed = 0 ∧ (State.reset.cx g).act.maxResp = 0) ∧
  State.reset.img.epoch = 0 ∧ State.reset.img.out = [] ∧ State.reset.sup.on = false ∧ State.reset.time.valid = false ∧
  State.reset.op.st = .stop ∧ State.reset.op.key = 0 ∧ State.reset.op.safe = true ∧ State.reset.pwr.phase = .step1 ∧
  State.reset.inj = [] ∧ State.reset.rcd.queue = [] ∧ State.reset.dict.sessions = [] ∧ State.reset.pending = [] ∧
  State.reset.mem = [] ∧ Memory.wf State.reset.mem = true

/-- A step takes the command at the front of the queue and runs it with the queue's rest; with no command waiting one nanosecond
passes (DESIGN CHOICE, log entry 8) and memory and OTP stay as they are. -/
def Obligations.StepTakesFront : Prop := ∀ (s : State) (c : Instr) (rest : List Instr),
  (s.pending = c :: rest → step s = exec c { s with pending := rest }) ∧
  (s.pending = [] → ∃ t, step s = .next t ∧ t.clk = s.clk + 1 ∧ t.pending = [] ∧ t.mem = s.mem ∧ t.otp = s.otp)

/-- Every command goes on: the spec gives each an effect, a refusal by response or no effect, and none stops the block; no command
touches the queue of those that wait, nor the crystal. -/
def Obligations.EveryCommandGoesOn : Prop := ∀ (c : Instr) (s : State), ∃ t, exec c s = .next t ∧ t.pending = s.pending ∧ t.clk = s.clk

/-- Each bit of the OTP can change from 0 to 1 once: no step of the block takes one back, whatever command it runs. -/
def Obligations.OtpBitsStay : Prop := ∀ (s t : State) (i : Nat), step s = .next t → s.otp.getLsbD i = true → t.otp.getLsbD i = true

/-- Memory keeps its canonical form over every step: addresses rise strictly and no listed byte equals what an unlisted one reads
as, so that equal memories are equal data (the form is the model's own, log entry 3). -/
def Obligations.MemoryStaysCanonical : Prop := ∀ (s t : State), step s = .next t → Memory.wf s.mem = true → Memory.wf t.mem = true
end

