-- ==== Sys2Proof/Laws/Sparse.lean ====
section
/-! SUPPORT. Laws of sparse maps: what a write leaves at every key, and that it keeps the canonical form. -/

namespace Sys2Proof.Machine

variable {α : Type} [DecidableEq α] {d : α}

theorem swfFrom_mono {lo lo' : Nat} {m : List (Nat × α)} (h : lo' ≤ lo) (hm : swfFrom d lo m = true) : swfFrom d lo' m = true := by
  cases m with
  | nil => rfl
  | cons p r => simp [swfFrom] at hm ⊢; exact ⟨⟨by omega, hm.1.2⟩, hm.2⟩

/-- A key below every key of the map reads the default. -/
theorem sget_below {lo i : Nat} {m : List (Nat × α)} (hm : swfFrom d lo m = true) (h : i < lo) : sget d m i = d := by
  cases m with
  | nil => rfl
  | cons p r =>
    simp [swfFrom] at hm
    have : i < p.1 := by omega
    simp [sget, this, Nat.ne_of_lt this]

/-- What a read after a write gives, in a canonical map. -/
theorem sget_sset_from {lo : Nat} {m : List (Nat × α)} (hm : swfFrom d lo m = true) (i : Nat) (v : α) (j : Nat) :
    sget d (sset d m i v) j = if j = i then v else sget d m j := by
  induction m generalizing lo with
  | nil =>
    unfold sset; split
    · subst v; simp [sget]
    · simp only [sget]; split
      · rfl
      · split <;> rfl
  | cons p r ih =>
    obtain ⟨k, w⟩ := p
    simp only [swfFrom, Bool.and_eq_true, decide_eq_true_eq] at hm
    have hr := ih hm.2
    unfold sset
    by_cases h1 : i < k
    · simp only [h1, if_true]
      by_cases hv : v = d
      · simp only [hv, if_true]
        by_cases hj : j = i
        · subst j; simp [sget, h1, Nat.ne_of_lt h1]
        · simp [hj]
      · simp only [hv, if_false, sget]
        by_cases hj : j = i
        · simp [hj]
        · simp only [hj, if_false]
          by_cases h2 : j < i
          · have : j < k := by omega
            simp [h2, this, Nat.ne_of_lt this]
          · simp [h2]
    · simp only [h1, if_false]
      by_cases h2 : i = k
      · subst i
        simp only [if_true]
        by_cases hv : v = d
        · subst v
          simp only [if_true, sget]
          by_cases hj : j = k
          · subst j; simp only [if_true]; exact sget_below hm.2 (Nat.lt_succ_self _)
          · simp only [hj, if_false]
            by_cases h3 : j < k
            · simp only [h3, if_true]; exact sget_below hm.2 (by omega)
            · simp [h3]
        · simp only [hv, if_false, sget]
          by_cases hj : j = k <;> simp [hj]
      · simp only [h2, if_false, sget]
        by_cases hj : j = k
        · subst j; simp [Ne.symm h2]
        · simp only [hj, if_false]
          by_cases h3 : j < k
          · have : j ≠ i := by omega
            simp [h3, this]
          · simp [h3, hr]

theorem sget_sset {m : List (Nat × α)} (hm : swf d m = true) (i : Nat) (v : α) (j : Nat) :
    sget d (sset d m i v) j = if j = i then v else sget d m j := sget_sset_from hm i v j

theorem swfFrom_sset {lo : Nat} {m : List (Nat × α)} (hm : swfFrom d lo m = true) {i : Nat} (h : lo ≤ i) (v : α) :
    swfFrom d lo (sset d m i v) = true := by
  induction m generalizing lo with
  | nil =>
    unfold sset; split
    · rfl
    · simp [swfFrom, *]
  | cons p r ih =>
    obtain ⟨k, w⟩ := p
    have hm' := hm
    simp only [swfFrom, Bool.and_eq_true, decide_eq_true_eq] at hm'
    unfold sset
    by_cases h1 : i < k
    · simp only [h1, if_true]
      by_cases hv : v = d
      · simp only [hv, if_true]; exact hm
      · simp only [hv, if_false, swfFrom, Bool.and_eq_true, decide_eq_true_eq]
        exact ⟨⟨h, hv⟩, ⟨by omega, hm'.1.2⟩, hm'.2⟩
    · simp only [h1, if_false]
      by_cases h2 : i = k
      · subst i
        simp only [if_true]
        by_cases hv : v = d
        · simp only [hv, if_true]; exact swfFrom_mono (by omega) hm'.2
        · simp only [hv, if_false, swfFrom, Bool.and_eq_true, decide_eq_true_eq]
          exact ⟨⟨hm'.1.1, hv⟩, hm'.2⟩
      · simp only [h2, if_false, swfFrom, Bool.and_eq_true, decide_eq_true_eq]
        exact ⟨hm'.1, ih hm'.2 (by omega)⟩

/-- A write keeps the canonical form. -/
theorem swf_sset {m : List (Nat × α)} (hm : swf d m = true) (i : Nat) (v : α) : swf d (sset d m i v) = true :=
  swfFrom_sset hm (Nat.zero_le _) v

theorem swfFrom_filter {lo : Nat} {m : List (Nat × α)} (hm : swfFrom d lo m = true) (f : Nat × α → Bool) :
    swfFrom d lo (m.filter f) = true := by
  induction m generalizing lo with
  | nil => rfl
  | cons p r ih =>
    simp only [swfFrom, Bool.and_eq_true, decide_eq_true_eq] at hm
    rw [List.filter_cons]
    split
    · simp only [swfFrom, Bool.and_eq_true, decide_eq_true_eq]; exact ⟨hm.1, ih hm.2⟩
    · exact swfFrom_mono (by omega) (ih hm.2)

/-- Removing entries keeps the canonical form. -/
theorem swf_filter {m : List (Nat × α)} (hm : swf d m = true) (f : Nat × α → Bool) : swf d (m.filter f) = true :=
  swfFrom_filter hm f

end Sys2Proof.Machine
end

