-- ==== Sys2Proof/Laws/Mem.lean ====
section
/-! SUPPORT. Laws of memory: what is read after a write (R7), and that every memory operation keeps the canonical form. -/

namespace Sys2Proof.Machine

open Sys2Proof

/-! ## The canonical form is kept -/

@[simp] theorem wf_sset (m : List Host.Cell) (hm : Memory.wf m = true) (a : Nat) (b : Byte) : Memory.wf (sset 0 m a b) = true :=
  swf_sset hm a b

@[simp] theorem wf_filter (m : List Host.Cell) (hm : Memory.wf m = true) (f : Host.Cell → Bool) : Memory.wf (m.filter f) = true :=
  swf_filter hm f

@[simp] theorem wf_wrBytes (m : List Host.Cell) (hm : Memory.wf m = true) (a : Nat) (bs : List Byte) : Memory.wf (wrBytes m a bs) = true := by
  induction bs generalizing m a with
  | nil => exact hm
  | cons b r ih => exact ih _ (wf_sset _ hm _ _) _

@[simp] theorem wf_wrMem (m : List Host.Cell) (hm : Memory.wf m = true) (a n v : Nat) : Memory.wf (wrMem m a n v) = true :=
  wf_wrBytes m hm _ _

/-- A fold of writes keeps the form. -/
@[simp] theorem wf_foldl {α : Type} (f : List Host.Cell → α → List Host.Cell) (h : ∀ m a, Memory.wf m = true → Memory.wf (f m a) = true)
    (l : List α) (m : List Host.Cell) (hm : Memory.wf m = true) : Memory.wf (l.foldl f m) = true := by
  induction l generalizing m with
  | nil => exact hm
  | cons a r ih => exact ih _ (h _ _ hm)

@[simp] theorem wf_ctrReconcile (m : List Host.Cell) (hm : Memory.wf m = true) (k : Nat) : Memory.wf (ctrReconcile m k) = true := by
  unfold ctrReconcile; dsimp only; split <;> apply_rules [wf_wrMem]

@[simp] theorem wf_ctrAdd (m : List Host.Cell) (hm : Memory.wf m = true) (k d : Nat) : Memory.wf (ctrAdd m k d) = true := by
  have hr := wf_ctrReconcile m hm k
  unfold ctrAdd; dsimp only; split
  · exact wf_wrMem _ hr _ _ _
  · exact wf_wrMem _ (wf_wrMem _ (wf_wrMem _ (wf_wrMem _ (wf_wrMem _ hr _ _ _) _ _ _) _ _ _) _ _ _) _ _ _

@[simp] theorem wf_ctrFold (m : List Host.Cell) (hm : Memory.wf m = true) (k fuel d : Nat) : Memory.wf (ctrFold m k fuel d) = true := by
  induction fuel generalizing m d with
  | zero => cases d <;> simp [ctrFold, hm]
  | succ n ih =>
    cases d with
    | zero => simp [ctrFold, hm]
    | succ e =>
      rw [ctrFold]
      split
      · exact wf_ctrAdd m hm k _
      · exact ih _ (wf_ctrAdd m hm k _) _
      · simp

@[simp] theorem wf_writeBlocks (m : List Host.Cell) (hm : Memory.wf m = true) (l : List (Nat × List Byte)) : Memory.wf (writeBlocks m l) = true :=
  wf_foldl _ (fun m _ h => wf_wrBytes m h _ _) l m hm

@[simp] theorem wf_clearBank (m : List Host.Cell) (hm : Memory.wf m = true) (b : BankId) : Memory.wf (clearBank m b) = true := wf_filter m hm _

@[simp] theorem wf_store (o : AppObj) (m : List Host.Cell) (hm : Memory.wf m = true) (v : List Byte) : Memory.wf (o.store m v) = true := by
  unfold AppObj.store; dsimp only; split <;> apply_rules [wf_wrMem, wf_wrBytes]

@[simp] theorem wf_fillOnes (m : List Host.Cell) (hm : Memory.wf m = true) (w n : Nat) : Memory.wf (fillOnes m w n) = true := by
  induction n generalizing m w with
  | zero => exact hm
  | succ k ih => exact ih _ (wf_wrMem _ hm _ _ _) _

theorem wf_leftBy (s : State) (hm : Memory.wf s.mem = true) (b : BankId) (w e : Nat) : Memory.wf (s.leftBy b w e) = true := by
  unfold State.leftBy
  exact wf_wrMem _ (wf_fillOnes _ (wf_clearBank _ hm _) _ _) _ _ _

/-! ## What is read after a write -/

theorem rdByte_sset {m : List Host.Cell} (hm : Memory.wf m = true) (a : Nat) (b : Byte) (x : Nat) :
    rdByte (sset 0 m a b) x = if x = a then b else rdByte m x := sget_sset hm a b x

/-- A byte after a write of bytes from `a` upward. -/
theorem rdByte_wrBytes {m : List Host.Cell} (hm : Memory.wf m = true) (a : Nat) (bs : List Byte) (x : Nat) :
    rdByte (wrBytes m a bs) x = if h : a ≤ x ∧ x - a < bs.length then bs[x - a] else rdByte m x := by
  induction bs generalizing m a with
  | nil => simp [wrBytes]
  | cons b r ih =>
    rw [wrBytes, ih (wf_sset _ hm _ _), rdByte_sset hm]
    by_cases h : a ≤ x
    · by_cases h0 : x = a
      · subst x
        have : ¬ (a + 1 ≤ a ∧ a - (a + 1) < r.length) := by omega
        rw [dif_neg this]; simp
      · by_cases h1 : x - (a + 1) < r.length
        · have c1 : a + 1 ≤ x ∧ x - (a + 1) < r.length := by omega
          have c2 : a ≤ x ∧ x - a < (b :: r).length := by simp; omega
          have e : x - a = (x - (a + 1)) + 1 := by omega
          rw [dif_pos c1, dif_pos c2]; simp only [e, List.getElem_cons_succ]
        · have c1 : ¬ (a + 1 ≤ x ∧ x - (a + 1) < r.length) := by omega
          have c2 : ¬ (a ≤ x ∧ x - a < (b :: r).length) := by simp; omega
          rw [dif_neg c1, dif_neg c2, if_neg h0]
    · have c1 : ¬ (a + 1 ≤ x ∧ x - (a + 1) < r.length) := by omega
      have c2 : ¬ (a ≤ x ∧ x - a < (b :: r).length) := by omega
      have : x ≠ a := by omega
      rw [dif_neg c1, dif_neg c2, if_neg this]

theorem leBytes_length (n v : Nat) : (leBytes n v).length = n := by
  induction n generalizing v with
  | zero => rfl
  | succ k ih => simp [leBytes, ih]

theorem leBytes_getElem (n v i : Nat) (h : i < (leBytes n v).length) : (leBytes n v)[i] = BitVec.ofNat 8 (v / 256 ^ i) := by
  induction n generalizing v i with
  | zero => simp [leBytes] at h
  | succ k ih =>
    cases i with
    | zero => simp [leBytes]
    | succ j => simp only [leBytes, List.getElem_cons_succ]; rw [ih]; rw [Nat.div_div_eq_div_mul, Nat.pow_succ, Nat.mul_comm]

/-- A byte after a little-endian write (R7). -/
theorem rdByte_wrMem {m : List Host.Cell} (hm : Memory.wf m = true) (a n v x : Nat) :
    rdByte (wrMem m a n v) x = if a ≤ x ∧ x - a < n then BitVec.ofNat 8 (v / 256 ^ (x - a)) else rdByte m x := by
  rw [wrMem, rdByte_wrBytes hm]
  by_cases h : a ≤ x ∧ x - a < n
  · rw [dif_pos (by simpa [leBytes_length] using h), if_pos h, leBytes_getElem]
  · rw [dif_neg (by simpa [leBytes_length] using h), if_neg h]

/-- A byte outside a write is what it was. -/
theorem rdByte_wrMem_frame {m : List Host.Cell} (hm : Memory.wf m = true) (a n v : Nat) {x : Nat} (h : x < a ∨ a + n ≤ x) :
    rdByte (wrMem m a n v) x = rdByte m x := by
  rw [rdByte_wrMem hm]; exact if_neg (by omega)

theorem leNat_leBytes (n v : Nat) : leNat (leBytes n v) = v % 256 ^ n := by
  induction n generalizing v with
  | zero => simp [leBytes, leNat, Nat.mod_one]
  | succ k ih =>
    simp only [leBytes, leNat, ih, BitVec.toNat_ofNat]
    have : 256 ^ (k + 1) = 256 * 256 ^ k := by rw [Nat.pow_succ, Nat.mul_comm]
    rw [this, Nat.mod_mul]

theorem rdBytes_eq (m : List Host.Cell) (a n : Nat) : rdBytes m a n = (List.range n).map fun i => rdByte m (a + i) := by
  induction n generalizing a with
  | zero => rfl
  | succ k ih =>
    rw [rdBytes, ih, List.range_succ_eq_map, List.map_cons, List.map_map]
    simp [Function.comp_def, Nat.add_assoc, Nat.add_comm 1]

theorem rdBytes_congr {m m' : List Host.Cell} {a n : Nat} (h : ∀ x, a ≤ x → x < a + n → rdByte m' x = rdByte m x) :
    rdBytes m' a n = rdBytes m a n := by
  rw [rdBytes_eq, rdBytes_eq]
  apply List.map_congr_left
  intro i hi
  rw [List.mem_range] at hi
  exact h _ (by omega) (by omega)

/-- A value after a write of it (R7). -/
theorem rdMem_wrMem_same {m : List Host.Cell} (hm : Memory.wf m = true) (a n v : Nat) : rdMem (wrMem m a n v) a n = v % 256 ^ n := by
  rw [rdMem, rdBytes_eq, ← leNat_leBytes]
  congr 1
  apply List.ext_getElem
  · simp [leBytes_length]
  · intro i h1 h2
    have hi : i < n := by simpa using h1
    rw [List.getElem_map, List.getElem_range, rdByte_wrMem hm, if_pos (by omega), leBytes_getElem]
    simp

/-- A value outside a write is what it was. -/
theorem rdMem_wrMem_frame {m : List Host.Cell} (hm : Memory.wf m = true) (a n v : Nat) {b k : Nat} (h : b + k ≤ a ∨ a + n ≤ b) :
    rdMem (wrMem m a n v) b k = rdMem m b k := by
  rw [rdMem, rdMem, rdBytes_congr]
  intro x _ _
  exact rdByte_wrMem_frame hm a n v (by omega)

end Sys2Proof.Machine
end

