-- ==== Sys2Proof/Laws/KeepOps.lean ====
section
/-! SUPPORT. What every operation leaves alone: the queue, the clock, the bits of the OTP, and memory or its canonical form
(`_keep`: queue, clock, OTP and memory where they are unchanged; `_bit`: no OTP bit goes back to 0; `_wf`: memory stays
canonical). This file: the shared operations, check bits, the scheduler and the record-store queue. -/

namespace Sys2Proof.Machine

open Sys2Proof

@[simp] theorem foldl_pending {α : Type} (f : State → α → State) (h : ∀ s a, (f s a).pending = s.pending) (l : List α) (s : State) :
    (l.foldl f s).pending = s.pending := by
  induction l generalizing s with
  | nil => rfl
  | cons a r ih => simp [List.foldl, ih, h]
@[simp] theorem foldl_clk {α : Type} (f : State → α → State) (h : ∀ s a, (f s a).clk = s.clk) (l : List α) (s : State) :
    (l.foldl f s).clk = s.clk := by
  induction l generalizing s with
  | nil => rfl
  | cons a r ih => simp [List.foldl, ih, h]
@[simp] theorem foldl_otp {α : Type} (f : State → α → State) (h : ∀ s a, (f s a).otp = s.otp) (l : List α) (s : State) :
    (l.foldl f s).otp = s.otp := by
  induction l generalizing s with
  | nil => rfl
  | cons a r ih => simp [List.foldl, ih, h]
@[simp] theorem foldl_mem {α : Type} (f : State → α → State) (h : ∀ s a, (f s a).mem = s.mem) (l : List α) (s : State) :
    (l.foldl f s).mem = s.mem := by
  induction l generalizing s with
  | nil => rfl
  | cons a r ih => simp [List.foldl, ih, h]
@[simp] theorem when_mem (b : Bool) (f : State → State) (h : ∀ s, (f s).mem = s.mem) (s : State) :
    (when_ b f s).mem = s.mem := by cases b <;> simp [when_, h]
@[simp] theorem foldl_wf {α : Type} (f : State → α → State) (h : ∀ s a, Memory.wf s.mem = true → Memory.wf (f s a).mem = true) (l : List α) (s : State)
    (hs : Memory.wf s.mem = true) : Memory.wf (l.foldl f s).mem = true := by
  induction l generalizing s with
  | nil => exact hs
  | cons a r ih => exact ih _ (h _ _ hs)
@[simp] theorem when_pending (b : Bool) (f : State → State) (h : ∀ s, (f s).pending = s.pending) (s : State) :
    (when_ b f s).pending = s.pending := by cases b <;> simp [when_, h]
@[simp] theorem when_clk (b : Bool) (f : State → State) (h : ∀ s, (f s).clk = s.clk) (s : State) :
    (when_ b f s).clk = s.clk := by cases b <;> simp [when_, h]
@[simp] theorem when_otp (b : Bool) (f : State → State) (h : ∀ s, (f s).otp = s.otp) (s : State) :
    (when_ b f s).otp = s.otp := by cases b <;> simp [when_, h]
@[simp] theorem when_wf (b : Bool) (f : State → State) (h : ∀ s, Memory.wf s.mem = true → Memory.wf (f s).mem = true) (s : State)
    (hs : Memory.wf s.mem = true) : Memory.wf (when_ b f s).mem = true := by cases b <;> simp [when_, h, hs]
@[simp] theorem when_bit (b : Bool) (f : State → State) (i : Nat) (h : ∀ s, s.otp.getLsbD i = true → (f s).otp.getLsbD i = true) (s : State)
    (hs : s.otp.getLsbD i = true) : (when_ b f s).otp.getLsbD i = true := by cases b <;> simp [when_, h, hs]
theorem ite_rel {α : Type} (P : α → Prop) {c : Prop} [Decidable c] {a b : α} (ha : P a) (hb : P b) : P (if c then a else b) := by
  split <;> assumption
@[simp] theorem foldl_bit {α : Type} (f : State → α → State) (i : Nat) (h : ∀ s a, s.otp.getLsbD i = true → (f s a).otp.getLsbD i = true) (l : List α) (s : State)
    (hs : s.otp.getLsbD i = true) : (l.foldl f s).otp.getLsbD i = true := by
  induction l generalizing s with
  | nil => exact hs
  | cons a r ih => exact ih _ (h _ _ hs)

@[simp] theorem State.modCx_keep (s : State) (g : Gctx) (f : Ctx → Ctx) : (State.modCx s g f).pending = s.pending ∧ (State.modCx s g f).clk = s.clk ∧ (State.modCx s g f).otp = s.otp ∧ (State.modCx s g f).mem = s.mem := by
  simp [State.modCx]

@[simp] theorem State.modRegs_keep (s : State) (g : Gctx) (f : Regs → Regs) : (State.modRegs s g f).pending = s.pending ∧ (State.modRegs s g f).clk = s.clk ∧ (State.modRegs s g f).otp = s.otp ∧ (State.modRegs s g f).mem = s.mem := by
  simp [State.modRegs]

@[simp] theorem State.modAct_keep (s : State) (g : Gctx) (f : Act → Act) : (State.modAct s g f).pending = s.pending ∧ (State.modAct s g f).clk = s.clk ∧ (State.modAct s g f).otp = s.otp ∧ (State.modAct s g f).mem = s.mem := by
  simp [State.modAct]

@[simp] theorem State.modImgCtx_keep (s : State) (g : Gctx) (f : ImgCtx → ImgCtx) : (State.modImgCtx s g f).pending = s.pending ∧ (State.modImgCtx s g f).clk = s.clk ∧ (State.modImgCtx s g f).otp = s.otp ∧ (State.modImgCtx s g f).mem = s.mem := by
  simp [State.modImgCtx]

@[simp] theorem State.modPort_keep (s : State) (g : Gctx) (f : Port → Port) : (State.modPort s g f).pending = s.pending ∧ (State.modPort s g f).clk = s.clk ∧ (State.modPort s g f).otp = s.otp ∧ (State.modPort s g f).mem = s.mem := by
  simp [State.modPort]

@[simp] theorem State.modCore_keep (s : State) (n : CoreId) (f : Core → Core) : (State.modCore s n f).pending = s.pending ∧ (State.modCore s n f).clk = s.clk ∧ (State.modCore s n f).otp = s.otp ∧ (State.modCore s n f).mem = s.mem := by
  simp [State.modCore]

@[simp] theorem State.modPair_keep (s : State) (p : PairId) (f : Pair → Pair) : (State.modPair s p f).pending = s.pending ∧ (State.modPair s p f).clk = s.clk ∧ (State.modPair s p f).otp = s.otp ∧ (State.modPair s p f).mem = s.mem := by
  simp [State.modPair]

@[simp] theorem State.modBank_keep (s : State) (b : BankId) (f : Bank → Bank) : (State.modBank s b f).pending = s.pending ∧ (State.modBank s b f).clk = s.clk ∧ (State.modBank s b f).otp = s.otp ∧ (State.modBank s b f).mem = s.mem := by
  simp [State.modBank]

@[simp] theorem State.modImg_keep (s : State) (f : Img → Img) : (State.modImg s f).pending = s.pending ∧ (State.modImg s f).clk = s.clk ∧ (State.modImg s f).otp = s.otp ∧ (State.modImg s f).mem = s.mem := by
  simp [State.modImg]

@[simp] theorem State.modNv_keep (s : State) (f : Nv → Nv) : (State.modNv s f).pending = s.pending ∧ (State.modNv s f).clk = s.clk ∧ (State.modNv s f).otp = s.otp ∧ (State.modNv s f).mem = s.mem := by
  simp [State.modNv]

@[simp] theorem whenOn_pending (f : State → State) (s : State) (hf : ∀ s, (f s).pending = s.pending) : (whenOn f s).pending = s.pending := by
  unfold whenOn; split <;> simp [hf]

@[simp] theorem whenOn_clk (f : State → State) (s : State) (hf : ∀ s, (f s).clk = s.clk) : (whenOn f s).clk = s.clk := by
  unfold whenOn; split <;> simp [hf]

@[simp] theorem whenOn_otp (f : State → State) (s : State) (hf : ∀ s, (f s).otp = s.otp) : (whenOn f s).otp = s.otp := by
  unfold whenOn; split <;> simp [hf]

@[simp] theorem whenOn_mem (f : State → State) (s : State) (hf : ∀ s, (f s).mem = s.mem) : (whenOn f s).mem = s.mem := by
  unfold whenOn; split <;> simp [hf]

@[simp] theorem whenOn_wf (f : State → State) (s : State) (hf : ∀ s, Memory.wf s.mem = true → Memory.wf (f s).mem = true) (h_ : Memory.wf s.mem = true) : Memory.wf (whenOn f s).mem = true := by
  unfold whenOn; split <;> simp [hf, h_]

@[simp] theorem State.modOp_keep (s : State) (f : Op → Op) : (State.modOp s f).pending = s.pending ∧ (State.modOp s f).clk = s.clk ∧ (State.modOp s f).otp = s.otp ∧ (State.modOp s f).mem = s.mem := by
  simp [State.modOp]

@[simp] theorem State.modDict_keep (s : State) (f : Dict → Dict) : (State.modDict s f).pending = s.pending ∧ (State.modDict s f).clk = s.clk ∧ (State.modDict s f).otp = s.otp ∧ (State.modDict s f).mem = s.mem := by
  simp [State.modDict]

@[simp] theorem State.modTime_keep (s : State) (f : Time → Time) : (State.modTime s f).pending = s.pending ∧ (State.modTime s f).clk = s.clk ∧ (State.modTime s f).otp = s.otp ∧ (State.modTime s f).mem = s.mem := by
  simp [State.modTime]

@[simp] theorem State.draw_keep (s : State) : (State.draw s).pending = s.pending ∧ (State.draw s).clk = s.clk ∧ (State.draw s).otp = s.otp ∧ (State.draw s).mem = s.mem := by
  simp [State.draw]

@[simp] theorem State.modTdm_keep (s : State) (f : Tdm → Tdm) : (State.modTdm s f).pending = s.pending ∧ (State.modTdm s f).clk = s.clk ∧ (State.modTdm s f).otp = s.otp ∧ (State.modTdm s f).mem = s.mem := by
  simp [State.modTdm]

@[simp] theorem State.tlSend_keep (s : State) (type : Nat) (payload : List Byte) : (State.tlSend s type payload).pending = s.pending ∧ (State.tlSend s type payload).clk = s.clk ∧ (State.tlSend s type payload).otp = s.otp ∧ (State.tlSend s type payload).mem = s.mem := by
  simp [State.tlSend]

@[simp] theorem State.tlCommand_keep (s : State) (cycle : Nat) (kind : Nat) (c : TlCmd) : (State.tlCommand s cycle kind c).pending = s.pending ∧ (State.tlCommand s cycle kind c).clk = s.clk ∧ (State.tlCommand s cycle kind c).otp = s.otp ∧ (State.tlCommand s cycle kind c).mem = s.mem := by
  simp [State.tlCommand]

@[simp] theorem State.burn_keep (s : State) (m : BitVec 8192) : (s.burn m).pending = s.pending ∧ (s.burn m).clk = s.clk ∧ (s.burn m).mem = s.mem := ⟨rfl, rfl, rfl⟩

@[simp] theorem State.burn_bit (s : State) (m : BitVec 8192) (i_ : Nat) (h_ : s.otp.getLsbD i_ = true) : (s.burn m).otp.getLsbD i_ = true := by
  simp [State.burn, h_]

@[simp] theorem State.putEntry_keep (s : State) (idx : Nat) (sub : Nat) (bs : List Byte) : (State.putEntry s idx sub bs).pending = s.pending ∧ (State.putEntry s idx sub bs).clk = s.clk ∧ (State.putEntry s idx sub bs).otp = s.otp ∧ (State.putEntry s idx sub bs).mem = s.mem := by
  simp [State.putEntry]

@[simp] theorem State.recInj_keep (s : State) (code : Nat) (src : Nat) (p1 : Nat) (p2 : Nat) (p3 : Nat) (inj : Bool) : (State.recInj s code src p1 p2 p3 inj).pending = s.pending ∧ (State.recInj s code src p1 p2 p3 inj).clk = s.clk ∧ (State.recInj s code src p1 p2 p3 inj).otp = s.otp ∧ (State.recInj s code src p1 p2 p3 inj).mem = s.mem := by
  simp [State.recInj]

@[simp] theorem State.rec__keep (s : State) (code : Nat) (src : Nat) (p1 : Nat) (p2 : Nat) (p3 : Nat) : (State.rec_ s code src p1 p2 p3).pending = s.pending ∧ (State.rec_ s code src p1 p2 p3).clk = s.clk ∧ (State.rec_ s code src p1 p2 p3).otp = s.otp ∧ (State.rec_ s code src p1 p2 p3).mem = s.mem := by
  simp [State.rec_]

@[simp] theorem State.recGaffer_keep (s : State) (code : Nat) (src : Nat) (p1 : Nat) (p2 : Nat) (p3 : Nat) : (State.recGaffer s code src p1 p2 p3).pending = s.pending ∧ (State.recGaffer s code src p1 p2 p3).clk = s.clk ∧ (State.recGaffer s code src p1 p2 p3).otp = s.otp ∧ (State.recGaffer s code src p1 p2 p3).mem = s.mem := by
  simp [State.recGaffer]

@[simp] theorem State.injDone_keep (s : State) (d : Nat) : (State.injDone s d).pending = s.pending ∧ (State.injDone s d).clk = s.clk ∧ (State.injDone s d).otp = s.otp ∧ (State.injDone s d).mem = s.mem := by
  simp [State.injDone]

@[simp] theorem State.reportUe_keep (s : State) (b : BankId) (a : Nat) (how : Nat) (inj : Bool) : (State.reportUe s b a how inj).pending = s.pending ∧ (State.reportUe s b a how inj).clk = s.clk ∧ (State.reportUe s b a how inj).otp = s.otp ∧ (State.reportUe s b a how inj).mem = s.mem := by
  simp [State.reportUe]

@[simp] theorem State.reportCe_keep (s : State) (b : BankId) (a : Nat) : (State.reportCe s b a).pending = s.pending ∧ (State.reportCe s b a).clk = s.clk ∧ (State.reportCe s b a).otp = s.otp ∧ (State.reportCe s b a).mem = s.mem := by
  simp [State.reportCe]

@[simp] theorem State.eccCheck_keep (s : State) (b : BankId) (a : Nat) (how : Nat) : (State.eccCheck s b a how).pending = s.pending ∧ (State.eccCheck s b a how).clk = s.clk ∧ (State.eccCheck s b a how).otp = s.otp ∧ (State.eccCheck s b a how).mem = s.mem := by
  simp [State.eccCheck, apply_ite State.pending, apply_ite State.clk, apply_ite State.otp, apply_ite State.mem]

@[simp] theorem State.putBytes_keep (s : State) (a : Nat) (bs : List Byte) : (State.putBytes s a bs).pending = s.pending ∧ (State.putBytes s a bs).clk = s.clk ∧ (State.putBytes s a bs).otp = s.otp := by
  simp [State.putBytes]

@[simp] theorem State.putBytes_wf (s : State) (a : Nat) (bs : List Byte) (h_ : Memory.wf s.mem = true) : Memory.wf (State.putBytes s a bs).mem = true := by
  simp [State.putBytes, h_]

@[simp] theorem State.putWord_keep (s : State) (a : Nat) (v : Nat) : (State.putWord s a v).pending = s.pending ∧ (State.putWord s a v).clk = s.clk ∧ (State.putWord s a v).otp = s.otp := by
  simp [State.putWord]

@[simp] theorem State.putWord_wf (s : State) (a : Nat) (v : Nat) (h_ : Memory.wf s.mem = true) : Memory.wf (State.putWord s a v).mem = true := by
  simp [State.putWord, h_]

@[simp] theorem State.putWords_keep (s : State) (l : List (Nat × Nat)) :
    (s.putWords l).pending = s.pending ∧ (s.putWords l).clk = s.clk ∧ (s.putWords l).otp = s.otp := by
  induction l generalizing s with
  | nil => simp [State.putWords]
  | cons a r ih => simp [State.putWords, ih]

@[simp] theorem State.putWords_wf (s : State) (l : List (Nat × Nat)) (h_ : Memory.wf s.mem = true) : Memory.wf (s.putWords l).mem = true := by
  induction l generalizing s with
  | nil => simpa [State.putWords]
  | cons a r ih => exact ih _ (by simp [h_])

@[simp] theorem State.nvReportUe_keep (s : State) (a : Nat) (how : Nat) : (State.nvReportUe s a how).pending = s.pending ∧ (State.nvReportUe s a how).clk = s.clk ∧ (State.nvReportUe s a how).otp = s.otp ∧ (State.nvReportUe s a how).mem = s.mem := by
  simp [State.nvReportUe, apply_ite State.pending, apply_ite State.clk, apply_ite State.otp, apply_ite State.mem]

@[simp] theorem State.wrote_keep (s : State) (off : Nat) (words : Nat) : (State.wrote s off words).pending = s.pending ∧ (State.wrote s off words).clk = s.clk ∧ (State.wrote s off words).otp = s.otp ∧ (State.wrote s off words).mem = s.mem := by
  simp [State.wrote]

@[simp] theorem State.nvCorrect_keep (s : State) (a : Nat) : (State.nvCorrect s a).pending = s.pending ∧ (State.nvCorrect s a).clk = s.clk ∧ (State.nvCorrect s a).otp = s.otp ∧ (State.nvCorrect s a).mem = s.mem := by
  simp [State.nvCorrect, apply_ite State.pending, apply_ite State.clk, apply_ite State.otp, apply_ite State.mem]

@[simp] theorem State.nvCheck_keep (s : State) (a : Nat) : (State.nvCheck s a).pending = s.pending ∧ (State.nvCheck s a).clk = s.clk ∧ (State.nvCheck s a).otp = s.otp ∧ (State.nvCheck s a).mem = s.mem := by
  simp [State.nvCheck, apply_ite State.pending, apply_ite State.clk, apply_ite State.otp, apply_ite State.mem]

@[simp] theorem State.nvGet_keep (s : State) (a : Nat) : (State.nvGet s a).1.pending = s.pending ∧ (State.nvGet s a).1.clk = s.clk ∧ (State.nvGet s a).1.otp = s.otp ∧ (State.nvGet s a).1.mem = s.mem := by
  simp [State.nvGet, apply_ite State.pending, apply_ite State.clk, apply_ite State.otp, apply_ite State.mem]

@[simp] theorem State.ctrCheck_keep (s : State) (k : Nat) : (State.ctrCheck s k).pending = s.pending ∧ (State.ctrCheck s k).clk = s.clk ∧ (State.ctrCheck s k).otp = s.otp ∧ (State.ctrCheck s k).mem = s.mem := by
  simp [State.ctrCheck]

@[simp] theorem State.count_keep (s : State) (k : Nat) (d : Nat) : (State.count s k d).pending = s.pending ∧ (State.count s k d).clk = s.clk ∧ (State.count s k d).otp = s.otp := by
  simp [State.count, apply_ite State.pending, apply_ite State.clk, apply_ite State.otp]

@[simp] theorem State.count_wf (s : State) (k : Nat) (d : Nat) (h_ : Memory.wf s.mem = true) : Memory.wf (State.count s k d).mem = true := by
  simp [State.count, h_, apply_ite State.mem, apply_ite Memory.wf]

@[simp] theorem State.clocks_keep (s : State) (p : PairId) : (State.clocks s p).pending = s.pending ∧ (State.clocks s p).clk = s.clk ∧ (State.clocks s p).otp = s.otp ∧ (State.clocks s p).mem = s.mem := by
  simp [State.clocks]

@[simp] theorem State.setStatus_keep (s : State) (g : Gctx) (st : Status) : (State.setStatus s g st).pending = s.pending ∧ (State.setStatus s g st).clk = s.clk ∧ (State.setStatus s g st).otp = s.otp ∧ (State.setStatus s g st).mem = s.mem := by
  simp [State.setStatus]

@[simp] theorem State.releaseAs_keep (s : State) (g : Gctx) (rel : Word64) (demoted : Bool) : (State.releaseAs s g rel demoted).pending = s.pending ∧ (State.releaseAs s g rel demoted).clk = s.clk ∧ (State.releaseAs s g rel demoted).otp = s.otp ∧ (State.releaseAs s g rel demoted).mem = s.mem := by
  simp [State.releaseAs]

@[simp] theorem State.release_keep (s : State) (g : Gctx) : (State.release s g).pending = s.pending ∧ (State.release s g).clk = s.clk ∧ (State.release s g).otp = s.otp ∧ (State.release s g).mem = s.mem := by
  simp [State.release]

@[simp] theorem State.skip_keep (s : State) (g : Gctx) (n : Nat) (cause : Nat) : (State.skip s g n cause).pending = s.pending ∧ (State.skip s g n cause).clk = s.clk ∧ (State.skip s g n cause).otp = s.otp ∧ (State.skip s g n cause).mem = s.mem := by
  simp [State.skip, apply_ite State.pending, apply_ite State.clk, apply_ite State.otp, apply_ite State.mem]

@[simp] theorem State.steppedBack_keep (s : State) : (State.steppedBack s).pending = s.pending ∧ (State.steppedBack s).clk = s.clk ∧ (State.steppedBack s).otp = s.otp ∧ (State.steppedBack s).mem = s.mem := by
  simp [State.steppedBack]

@[simp] theorem State.unexpect_keep (s : State) (g : Gctx) : (State.unexpect s g).pending = s.pending ∧ (State.unexpect s g).clk = s.clk ∧ (State.unexpect s g).otp = s.otp ∧ (State.unexpect s g).mem = s.mem := by
  simp [State.unexpect]

@[simp] theorem State.excuseHalted_keep (s : State) (g : Gctx) : (State.excuseHalted s g).pending = s.pending ∧ (State.excuseHalted s g).clk = s.clk ∧ (State.excuseHalted s g).otp = s.otp ∧ (State.excuseHalted s g).mem = s.mem := by
  simp [State.excuseHalted]

@[simp] theorem State.excuseAll_keep (s : State) : (State.excuseAll s).pending = s.pending ∧ (State.excuseAll s).clk = s.clk ∧ (State.excuseAll s).otp = s.otp ∧ (State.excuseAll s).mem = s.mem := by
  simp [State.excuseAll]

@[simp] theorem State.expectAll_keep (s : State) : (State.expectAll s).pending = s.pending ∧ (State.expectAll s).clk = s.clk ∧ (State.expectAll s).otp = s.otp ∧ (State.expectAll s).mem = s.mem := by
  simp [State.expectAll]

@[simp] theorem State.rollBack_keep (s : State) (g : Gctx) : (State.rollBack s g).pending = s.pending ∧ (State.rollBack s g).clk = s.clk ∧ (State.rollBack s g).otp = s.otp := by
  simp [State.rollBack]

@[simp] theorem State.rollBack_wf (s : State) (g : Gctx) (h_ : Memory.wf s.mem = true) : Memory.wf (State.rollBack s g).mem = true := by
  simp [State.rollBack, h_]

@[simp] theorem State.gate_keep (s : State) (n : CoreId) : (State.gate s n).pending = s.pending ∧ (State.gate s n).clk = s.clk ∧ (State.gate s n).otp = s.otp ∧ (State.gate s n).mem = s.mem := by
  simp [State.gate]

@[simp] theorem State.gateIdle_keep (s : State) : (State.gateIdle s).pending = s.pending ∧ (State.gateIdle s).clk = s.clk ∧ (State.gateIdle s).otp = s.otp ∧ (State.gateIdle s).mem = s.mem := by
  simp [State.gateIdle, apply_ite State.pending, apply_ite State.clk, apply_ite State.otp, apply_ite State.mem]

@[simp] theorem State.takeNext_keep (s : State) (g : Gctx) : (State.takeNext s g).pending = s.pending ∧ (State.takeNext s g).clk = s.clk ∧ (State.takeNext s g).otp = s.otp ∧ (State.takeNext s g).mem = s.mem := by
  simp [State.takeNext, apply_ite State.pending, apply_ite State.clk, apply_ite State.otp, apply_ite State.mem]

@[simp] theorem State.abandonTo_keep (s : State) (g : Gctx) (st : Status) : (State.abandonTo s g st).pending = s.pending ∧ (State.abandonTo s g st).clk = s.clk ∧ (State.abandonTo s g st).otp = s.otp := by
  simp [State.abandonTo, apply_ite State.pending, apply_ite State.clk, apply_ite State.otp]

@[simp] theorem State.abandonTo_wf (s : State) (g : Gctx) (st : Status) (h_ : Memory.wf s.mem = true) : Memory.wf (State.abandonTo s g st).mem = true := by
  simp [State.abandonTo, h_, apply_ite State.mem, apply_ite Memory.wf]

@[simp] theorem State.abandon_keep (s : State) (g : Gctx) : (State.abandon s g).pending = s.pending ∧ (State.abandon s g).clk = s.clk ∧ (State.abandon s g).otp = s.otp := by
  simp [State.abandon, apply_ite State.pending, apply_ite State.clk, apply_ite State.otp]

@[simp] theorem State.abandon_wf (s : State) (g : Gctx) (h_ : Memory.wf s.mem = true) : Memory.wf (State.abandon s g).mem = true := by
  simp [State.abandon, h_, apply_ite State.mem, apply_ite Memory.wf]

@[simp] theorem State.abandonAll_keep (s : State) : (State.abandonAll s).pending = s.pending ∧ (State.abandonAll s).clk = s.clk ∧ (State.abandonAll s).otp = s.otp := by
  simp [State.abandonAll]

@[simp] theorem State.abandonAll_wf (s : State) (h_ : Memory.wf s.mem = true) : Memory.wf (State.abandonAll s).mem = true := by
  simp +contextual [State.abandonAll, h_]

@[simp] theorem State.dropHeld_keep (s : State) : (State.dropHeld s).pending = s.pending ∧ (State.dropHeld s).clk = s.clk ∧ (State.dropHeld s).otp = s.otp ∧ (State.dropHeld s).mem = s.mem := by
  simp [State.dropHeld]

@[simp] theorem State.complete_keep (s : State) (g : Gctx) : (State.complete s g).pending = s.pending ∧ (State.complete s g).clk = s.clk ∧ (State.complete s g).otp = s.otp ∧ (State.complete s g).mem = s.mem := by
  simp [State.complete]

@[simp] theorem State.recState_keep (s : State) (new_ : Nat) (old : Nat) (cause : Nat) : (State.recState s new_ old cause).pending = s.pending ∧ (State.recState s new_ old cause).clk = s.clk ∧ (State.recState s new_ old cause).otp = s.otp ∧ (State.recState s new_ old cause).mem = s.mem := by
  simp [State.recState]

@[simp] theorem State.restoreWords_keep (s : State) (off : Nat) (l : List Nat) :
    (s.restoreWords off l).pending = s.pending ∧ (s.restoreWords off l).clk = s.clk ∧ (s.restoreWords off l).otp = s.otp := by
  induction l generalizing s off with
  | nil => simp [State.restoreWords]
  | cons a r ih => simp [State.restoreWords, ih]

@[simp] theorem State.restoreWords_wf (s : State) (off : Nat) (l : List Nat) (h_ : Memory.wf s.mem = true) : Memory.wf (s.restoreWords off l).mem = true := by
  induction l generalizing s off with
  | nil => simpa [State.restoreWords]
  | cons a r ih => exact ih _ _ (by simp [h_])

@[simp] theorem State.restoreQueued_keep (s : State) (base : Nat) (addrs : List Nat) : (State.restoreQueued s base addrs).pending = s.pending ∧ (State.restoreQueued s base addrs).clk = s.clk ∧ (State.restoreQueued s base addrs).otp = s.otp := by
  simp [State.restoreQueued]

@[simp] theorem State.restoreQueued_wf (s : State) (base : Nat) (addrs : List Nat) (h_ : Memory.wf s.mem = true) : Memory.wf (State.restoreQueued s base addrs).mem = true := by
  simp [State.restoreQueued, h_]

@[simp] theorem State.restoreRetained_keep (s : State) : (State.restoreRetained s).pending = s.pending ∧ (State.restoreRetained s).clk = s.clk ∧ (State.restoreRetained s).otp = s.otp := by
  simp [State.restoreRetained]

@[simp] theorem State.restoreRetained_wf (s : State) (h_ : Memory.wf s.mem = true) : Memory.wf (State.restoreRetained s).mem = true := by
  simp [State.restoreRetained, h_]

@[simp] theorem State.finishStop_keep (s : State) : (State.finishStop s).pending = s.pending ∧ (State.finishStop s).clk = s.clk ∧ (State.finishStop s).otp = s.otp := by
  simp [State.finishStop]

@[simp] theorem State.finishStop_wf (s : State) (h_ : Memory.wf s.mem = true) : Memory.wf (State.finishStop s).mem = true := by
  simp [State.finishStop, h_]

@[simp] theorem State.stopIfIdle_keep (s : State) : (State.stopIfIdle s).pending = s.pending ∧ (State.stopIfIdle s).clk = s.clk ∧ (State.stopIfIdle s).otp = s.otp := by
  simp [State.stopIfIdle, apply_ite State.pending, apply_ite State.clk, apply_ite State.otp]

@[simp] theorem State.stopIfIdle_wf (s : State) (h_ : Memory.wf s.mem = true) : Memory.wf (State.stopIfIdle s).mem = true := by
  simp [State.stopIfIdle, h_, apply_ite State.mem, apply_ite Memory.wf]

@[simp] theorem State.enterRun_keep (s : State) (cause : Nat) : (State.enterRun s cause).pending = s.pending ∧ (State.enterRun s cause).clk = s.clk ∧ (State.enterRun s cause).otp = s.otp := by
  simp [State.enterRun, apply_ite State.pending, apply_ite State.clk, apply_ite State.otp, apply_ite State.mem]

@[simp] theorem State.enterRun_wf (s : State) (cause : Nat) (h_ : Memory.wf s.mem = true) : Memory.wf (State.enterRun s cause).mem = true := by
  simp [State.enterRun, h_, apply_ite State.mem, apply_ite Memory.wf]

@[simp] theorem State.leaveRun_keep (s : State) (cause : Nat) : (State.leaveRun s cause).pending = s.pending ∧ (State.leaveRun s cause).clk = s.clk ∧ (State.leaveRun s cause).otp = s.otp := by
  simp [State.leaveRun, apply_ite State.pending, apply_ite State.clk, apply_ite State.otp]

@[simp] theorem State.leaveRun_wf (s : State) (cause : Nat) (h_ : Memory.wf s.mem = true) : Memory.wf (s.leaveRun cause).mem = true := by
  unfold State.leaveRun
  dsimp only
  apply State.stopIfIdle_wf
  simp only [State.recState_keep, State.excuseAll_keep]
  refine foldl_wf _ (fun s a h => ?_) _ _ (by simp [h_])
  split <;> simp [h]

@[simp] theorem State.leaveHalt_keep (s : State) (cause : Nat) : (State.leaveHalt s cause).pending = s.pending ∧ (State.leaveHalt s cause).clk = s.clk ∧ (State.leaveHalt s cause).otp = s.otp ∧ (State.leaveHalt s cause).mem = s.mem := by
  simp [State.leaveHalt]

@[simp] theorem State.halt_keep (s : State) (g : Gctx) (cause : Nat) : (State.halt s g cause).pending = s.pending ∧ (State.halt s g cause).clk = s.clk ∧ (State.halt s g cause).otp = s.otp := by
  simp [State.halt, apply_ite State.pending, apply_ite State.clk, apply_ite State.otp]

@[simp] theorem State.halt_wf (s : State) (g : Gctx) (cause : Nat) (h_ : Memory.wf s.mem = true) : Memory.wf (State.halt s g cause).mem = true := by
  simp [State.halt, h_, apply_ite State.mem, apply_ite Memory.wf]

@[simp] theorem State.toStop_keep (s : State) (cause : Nat) : (State.toStop s cause).pending = s.pending ∧ (State.toStop s cause).clk = s.clk ∧ (State.toStop s cause).otp = s.otp := by
  unfold State.toStop
  (repeat' split) <;> simp

@[simp] theorem State.toStop_wf (s : State) (cause : Nat) (h_ : Memory.wf s.mem = true) : Memory.wf (State.toStop s cause).mem = true := by
  unfold State.toStop
  (repeat' split) <;> simp [h_]

@[simp] theorem State.stopTask_keep (s : State) (g : Gctx) (cause : Nat) : (State.stopTask s g cause).pending = s.pending ∧ (State.stopTask s g cause).clk = s.clk ∧ (State.stopTask s g cause).otp = s.otp := by
  simp [State.stopTask]

@[simp] theorem State.stopTask_wf (s : State) (g : Gctx) (cause : Nat) (h_ : Memory.wf s.mem = true) : Memory.wf (State.stopTask s g cause).mem = true := by
  simp [State.stopTask, h_]

@[simp] theorem State.overrunAction_keep (s : State) (g : Gctx) (code : Nat) : (State.overrunAction s g code).pending = s.pending ∧ (State.overrunAction s g code).clk = s.clk ∧ (State.overrunAction s g code).otp = s.otp := by
  unfold State.overrunAction
  (repeat' split) <;> simp

@[simp] theorem State.overrunAction_wf (s : State) (g : Gctx) (code : Nat) (h_ : Memory.wf s.mem = true) : Memory.wf (State.overrunAction s g code).mem = true := by
  unfold State.overrunAction
  (repeat' split) <;> simp [h_]

@[simp] theorem State.hardAction_keep (s : State) (g : Gctx) : (State.hardAction s g).pending = s.pending ∧ (State.hardAction s g).clk = s.clk ∧ (State.hardAction s g).otp = s.otp := by
  simp [State.hardAction]

@[simp] theorem State.hardAction_wf (s : State) (g : Gctx) (h_ : Memory.wf s.mem = true) : Memory.wf (State.hardAction s g).mem = true := by
  simp [State.hardAction, h_]

@[simp] theorem State.mmRestart_keep (s : State) (g : Gctx) : (State.mmRestart s g).pending = s.pending ∧ (State.mmRestart s g).clk = s.clk ∧ (State.mmRestart s g).otp = s.otp := by
  simp [State.mmRestart, apply_ite State.pending, apply_ite State.clk, apply_ite State.otp]

@[simp] theorem State.mmRestart_wf (s : State) (g : Gctx) (h_ : Memory.wf s.mem = true) : Memory.wf (State.mmRestart s g).mem = true := by
  simp [State.mmRestart, h_, apply_ite State.mem, apply_ite Memory.wf]

@[simp] theorem State.mismatchAction_keep (s : State) (g : Gctx) (noRestart : Bool) : (State.mismatchAction s g noRestart).pending = s.pending ∧ (State.mismatchAction s g noRestart).clk = s.clk ∧ (State.mismatchAction s g noRestart).otp = s.otp := by
  unfold State.mismatchAction
  (repeat' split) <;> simp

@[simp] theorem State.mismatchAction_wf (s : State) (g : Gctx) (noRestart : Bool) (h_ : Memory.wf s.mem = true) : Memory.wf (State.mismatchAction s g noRestart).mem = true := by
  unfold State.mismatchAction
  (repeat' split) <;> simp [h_]

@[simp] theorem State.payOwed_keep (s : State) (g : Gctx) : (State.payOwed s g).pending = s.pending ∧ (State.payOwed s g).clk = s.clk ∧ (State.payOwed s g).otp = s.otp := by
  simp [State.payOwed]

@[simp] theorem State.payOwed_wf (s : State) (g : Gctx) (h_ : Memory.wf s.mem = true) : Memory.wf (State.payOwed s g).mem = true := by
  simp [State.payOwed, h_]

@[simp] theorem State.retired_keep (s : State) (g : Gctx) (pc : Word) : (State.retired s g pc).pending = s.pending ∧ (State.retired s g pc).clk = s.clk ∧ (State.retired s g pc).otp = s.otp ∧ (State.retired s g pc).mem = s.mem := by
  simp [State.retired, apply_ite State.pending, apply_ite State.clk, apply_ite State.otp, apply_ite State.mem]

@[simp] theorem State.waitEnds_keep (s : State) (g : Gctx) : (State.waitEnds s g).pending = s.pending ∧ (State.waitEnds s g).clk = s.clk ∧ (State.waitEnds s g).otp = s.otp ∧ (State.waitEnds s g).mem = s.mem := by
  simp [State.waitEnds, apply_ite State.pending, apply_ite State.clk, apply_ite State.otp, apply_ite State.mem]

@[simp] theorem State.wakeEvent_keep (s : State) (g : Gctx) : (State.wakeEvent s g).pending = s.pending ∧ (State.wakeEvent s g).clk = s.clk ∧ (State.wakeEvent s g).otp = s.otp ∧ (State.wakeEvent s g).mem = s.mem := by
  simp [State.wakeEvent, apply_ite State.pending, apply_ite State.clk, apply_ite State.otp, apply_ite State.mem]

@[simp] theorem State.eventRelease_keep (s : State) (g : Gctx) (l : Nat) : (State.eventRelease s g l).pending = s.pending ∧ (State.eventRelease s g l).clk = s.clk ∧ (State.eventRelease s g l).otp = s.otp := by
  simp [State.eventRelease, apply_ite State.pending, apply_ite State.clk, apply_ite State.otp]

@[simp] theorem State.eventRelease_wf (s : State) (g : Gctx) (l : Nat) (h_ : Memory.wf s.mem = true) : Memory.wf (State.eventRelease s g l).mem = true := by
  simp [State.eventRelease, h_, apply_ite State.mem, apply_ite Memory.wf]

@[simp] theorem State.signalLine_keep (s : State) (l : Nat) (h : l < 256) : (State.signalLine s l h).pending = s.pending ∧ (State.signalLine s l h).clk = s.clk ∧ (State.signalLine s l h).otp = s.otp ∧ (State.signalLine s l h).mem = s.mem := by
  simp [State.signalLine]

@[simp] theorem State.assertLine_keep (s : State) (l : Nat) : (State.assertLine s l).pending = s.pending ∧ (State.assertLine s l).clk = s.clk ∧ (State.assertLine s l).otp = s.otp := by
  unfold State.assertLine
  dsimp only
  (repeat' split) <;> simp [*]

@[simp] theorem State.assertLine_wf (s : State) (l : Nat) (h_ : Memory.wf s.mem = true) : Memory.wf (State.assertLine s l).mem = true := by
  unfold State.assertLine
  dsimp only
  (repeat' split) <;> simp [*]

@[simp] theorem State.forwardedLine_keep (s : State) (l : Nat) : (State.forwardedLine s l).pending = s.pending ∧ (State.forwardedLine s l).clk = s.clk ∧ (State.forwardedLine s l).otp = s.otp ∧ (State.forwardedLine s l).mem = s.mem := by
  simp [State.forwardedLine, apply_dite State.mem, apply_dite State.pending, apply_dite State.clk, apply_dite State.otp]

@[simp] theorem State.assertLines_keep (s : State) (l : List Nat) :
    (s.assertLines l).pending = s.pending ∧ (s.assertLines l).clk = s.clk ∧ (s.assertLines l).otp = s.otp := by
  induction l generalizing s with
  | nil => simp [State.assertLines]
  | cons a r ih => simp [State.assertLines, ih]

@[simp] theorem State.assertLines_wf (s : State) (l : List Nat) (h_ : Memory.wf s.mem = true) : Memory.wf (s.assertLines l).mem = true := by
  induction l generalizing s with
  | nil => simpa [State.assertLines]
  | cons a r ih => exact ih _ (by simp [h_])

@[simp] theorem State.localEvent_keep (s : State) (g : Gctx) (collision : Bool) : (State.localEvent s g collision).pending = s.pending ∧ (State.localEvent s g collision).clk = s.clk ∧ (State.localEvent s g collision).otp = s.otp ∧ (State.localEvent s g collision).mem = s.mem := by
  simp [State.localEvent]

@[simp] theorem State.enqueue_keep (s : State) (l : List (Nat × Word)) : (State.enqueue s l).pending = s.pending ∧ (State.enqueue s l).clk = s.clk ∧ (State.enqueue s l).otp = s.otp ∧ (State.enqueue s l).mem = s.mem := by
  simp [State.enqueue]

@[simp] theorem State.takeData_keep (s : State) (k : Nat) (d : RecData) : (State.takeData s k d).pending = s.pending ∧ (State.takeData s k d).clk = s.clk ∧ (State.takeData s k d).otp = s.otp ∧ (State.takeData s k d).mem = s.mem := by
  unfold State.takeData
  dsimp only
  (repeat' split) <;> simp [*]

@[simp] theorem State.putCopy_keep (s : State) (k : Nat) (b : Bool) (c : Copy) : (State.putCopy s k b c).pending = s.pending ∧ (State.putCopy s k b c).clk = s.clk ∧ (State.putCopy s k b c).otp = s.otp ∧ (State.putCopy s k b c).mem = s.mem := by
  simp [State.putCopy]

@[simp] theorem State.writeTwin_keep (s : State) (k : Nat) : (State.writeTwin s k).pending = s.pending ∧ (State.writeTwin s k).clk = s.clk ∧ (State.writeTwin s k).otp = s.otp ∧ (State.writeTwin s k).mem = s.mem := by
  simp [State.writeTwin]

@[simp] theorem State.twinWrite_keep (s : State) (region : Nat) (id : Nat) : (State.twinWrite s region id).pending = s.pending ∧ (State.twinWrite s region id).clk = s.clk ∧ (State.twinWrite s region id).otp = s.otp ∧ (State.twinWrite s region id).mem = s.mem := by
  simp [State.twinWrite, apply_ite State.pending, apply_ite State.clk, apply_ite State.otp, apply_ite State.mem]

@[simp] theorem State.twinOf_keep (s : State) (idx : Nat) : (State.twinOf s idx).pending = s.pending ∧ (State.twinOf s idx).clk = s.clk ∧ (State.twinOf s idx).otp = s.otp ∧ (State.twinOf s idx).mem = s.mem := by
  simp [State.twinOf]

end Sys2Proof.Machine
end

