-- ==== Sys2Proof/Laws/KeepField.lean ====
section
/-! SUPPORT. What every operation leaves alone: the queue, the clock, the bits of the OTP, and memory or its canonical form
(`_keep`: queue, clock, OTP and memory where they are unchanged; `_bit`: no OTP bit goes back to 0; `_wf`: memory stays
canonical). This file: image, field, CAN and energy operations. -/

namespace Sys2Proof.Machine

open Sys2Proof

@[simp] theorem State.reportStale_keep (s : State) (g : Gctx) (w : Nat) (inj : Bool) : (State.reportStale s g w inj).pending = s.pending ∧ (State.reportStale s g w inj).clk = s.clk ∧ (State.reportStale s g w inj).otp = s.otp ∧ (State.reportStale s g w inj).mem = s.mem := by
  simp [State.reportStale]

@[simp] theorem State.afterRead_keep (s : State) (g : Gctx) (w : Nat) : (State.afterRead s g w).pending = s.pending ∧ (State.afterRead s g w).clk = s.clk ∧ (State.afterRead s g w).otp = s.otp ∧ (State.afterRead s g w).mem = s.mem := by
  simp [State.afterRead, apply_ite State.pending, apply_ite State.clk, apply_ite State.otp, apply_ite State.mem]

@[simp] theorem State.stage_keep (s : State) (g : Gctx) (w : Nat) (m : Word) (v : Word) : (State.stage s g w m v).pending = s.pending ∧ (State.stage s g w m v).clk = s.clk ∧ (State.stage s g w m v).otp = s.otp ∧ (State.stage s g w m v).mem = s.mem := by
  simp [State.stage]

@[simp] theorem State.gatherAgain_keep (s : State) (e : Word) : (State.gatherAgain s e).pending = s.pending ∧ (State.gatherAgain s e).clk = s.clk ∧ (State.gatherAgain s e).otp = s.otp ∧ (State.gatherAgain s e).mem = s.mem := by
  simp [State.gatherAgain, apply_ite State.pending, apply_ite State.clk, apply_ite State.otp, apply_ite State.mem]

@[simp] theorem State.publishNow_keep (s : State) (p : PubSet) : (State.publishNow s p).pending = s.pending ∧ (State.publishNow s p).clk = s.clk ∧ (State.publishNow s p).otp = s.otp := by
  simp [State.publishNow, apply_ite State.pending, apply_ite State.clk, apply_ite State.otp, apply_ite State.mem]

@[simp] theorem State.publishNow_wf (s : State) (p : PubSet) (h_ : Memory.wf s.mem = true) : Memory.wf (State.publishNow s p).mem = true := by
  simp [State.publishNow, h_, apply_ite State.mem]

@[simp] theorem State.publish_keep (s : State) (p : PubSet) : (State.publish s p).pending = s.pending ∧ (State.publish s p).clk = s.clk ∧ (State.publish s p).otp = s.otp := by
  simp [State.publish, apply_ite State.pending, apply_ite State.clk, apply_ite State.otp]

@[simp] theorem State.publish_wf (s : State) (p : PubSet) (h_ : Memory.wf s.mem = true) : Memory.wf (State.publish s p).mem = true := by
  simp [State.publish, h_, apply_ite State.mem, apply_ite Memory.wf]

@[simp] theorem State.sendCommit_keep (s : State) (g : Gctx) (byEnd : Bool) : (State.sendCommit s g byEnd).pending = s.pending ∧ (State.sendCommit s g byEnd).clk = s.clk ∧ (State.sendCommit s g byEnd).otp = s.otp ∧ (State.sendCommit s g byEnd).mem = s.mem := by
  simp [State.sendCommit]

@[simp] theorem State.markDirty_keep (s : State) (g : Gctx) (a : Nat) : (State.markDirty s g a).pending = s.pending ∧ (State.markDirty s g a).clk = s.clk ∧ (State.markDirty s g a).otp = s.otp ∧ (State.markDirty s g a).mem = s.mem := by
  unfold State.markDirty
  (repeat' split) <;> simp

@[simp] theorem State.bankWrite_keep (s : State) (a : Nat) (size : BitVec 2) (x : Word) : (State.bankWrite s a size x).pending = s.pending ∧ (State.bankWrite s a size x).clk = s.clk ∧ (State.bankWrite s a size x).otp = s.otp := by
  simp [State.bankWrite]

@[simp] theorem State.bankWrite_wf (s : State) (a : Nat) (size : BitVec 2) (x : Word) (h_ : Memory.wf s.mem = true) : Memory.wf (State.bankWrite s a size x).mem = true := by
  simp [State.bankWrite, h_]

@[simp] theorem State.toBus_keep (s : State) (pos : Nat) (q : Resp) : (State.toBus s pos q).pending = s.pending ∧ (State.toBus s pos q).clk = s.clk ∧ (State.toBus s pos q).otp = s.otp ∧ (State.toBus s pos q).mem = s.mem := by
  simp [State.toBus]

@[simp] theorem State.bankCollide_keep (s : State) (b : BankId) (pos : Nat) (a : Nat) : (State.bankCollide s b pos a).pending = s.pending ∧ (State.bankCollide s b pos a).clk = s.clk ∧ (State.bankCollide s b pos a).otp = s.otp ∧ (State.bankCollide s b pos a).mem = s.mem := by
  simp [State.bankCollide, apply_ite State.pending, apply_ite State.clk, apply_ite State.otp, apply_ite State.mem]

@[simp] theorem State.before_keep (s : State) (x : SharedAccess) : (State.before s x).pending = s.pending ∧ (State.before s x).clk = s.clk ∧ (State.before s x).otp = s.otp := by
  simp [State.before]

@[simp] theorem State.before_wf (s : State) (x : SharedAccess) (h_ : Memory.wf s.mem = true) : Memory.wf (State.before s x).mem = true := by
  simp [State.before, h_]

@[simp] theorem State.ownerFirst_keep (s : State) (b : BankId) (a : Nat) : (State.ownerFirst s b a).pending = s.pending ∧ (State.ownerFirst s b a).clk = s.clk ∧ (State.ownerFirst s b a).otp = s.otp := by
  unfold State.ownerFirst
  (repeat' split) <;> simp

@[simp] theorem State.ownerFirst_wf (s : State) (b : BankId) (a : Nat) (h_ : Memory.wf s.mem = true) : Memory.wf (State.ownerFirst s b a).mem = true := by
  unfold State.ownerFirst
  (repeat' split) <;> simp [h_]

@[simp] theorem State.markChanged_keep (s : State) (g : Gctx) (a : Nat) (old : Nat) : (State.markChanged s g a old).pending = s.pending ∧ (State.markChanged s g a old).clk = s.clk ∧ (State.markChanged s g a old).otp = s.otp ∧ (State.markChanged s g a old).mem = s.mem := by
  simp [State.markChanged, apply_ite State.pending, apply_ite State.clk, apply_ite State.otp, apply_ite State.mem]

@[simp] theorem State.cbStore_keep (s : State) (g : Gctx) (a : Word) (size : BitVec 2) (x : Word) : (State.cbStore s g a size x).pending = s.pending ∧ (State.cbStore s g a size x).clk = s.clk ∧ (State.cbStore s g a size x).otp = s.otp := by
  simp [State.cbStore]

@[simp] theorem State.cbStore_wf (s : State) (g : Gctx) (a : Word) (size : BitVec 2) (x : Word) (h_ : Memory.wf s.mem = true) : Memory.wf (State.cbStore s g a size x).mem = true := by
  simp [State.cbStore, h_]

@[simp] theorem State.countAtom_keep (s : State) (b : BankId) : (State.countAtom s b).pending = s.pending ∧ (State.countAtom s b).clk = s.clk ∧ (State.countAtom s b).otp = s.otp ∧ (State.countAtom s b).mem = s.mem := by
  simp [State.countAtom]

@[simp] theorem State.cbAtomic_keep (s : State) (g : Gctx) (op : TxnOp) (a : Word) (x : Word) : (State.cbAtomic s g op a x).1.pending = s.pending ∧ (State.cbAtomic s g op a x).1.clk = s.clk ∧ (State.cbAtomic s g op a x).1.otp = s.otp := by
  unfold State.cbAtomic
  dsimp only
  (repeat' split) <;> simp [*]

@[simp] theorem State.cbAtomic_wf (s : State) (g : Gctx) (op : TxnOp) (a : Word) (x : Word) (h_ : Memory.wf s.mem = true) : Memory.wf (State.cbAtomic s g op a x).1.mem = true := by
  unfold State.cbAtomic
  dsimp only
  (repeat' split) <;> simp [*]

@[simp] theorem State.modFld_keep (s : State) (f : Field → Field) : (State.modFld s f).pending = s.pending ∧ (State.modFld s f).clk = s.clk ∧ (State.modFld s f).otp = s.otp ∧ (State.modFld s f).mem = s.mem := by
  simp [State.modFld]

@[simp] theorem State.modCh_keep (s : State) (c : Ch) (f : FChan → FChan) : (State.modCh s c f).pending = s.pending ∧ (State.modCh s c f).clk = s.clk ∧ (State.modCh s c f).otp = s.otp ∧ (State.modCh s c f).mem = s.mem := by
  simp [State.modCh]

@[simp] theorem State.modGrp_keep (s : State) (g : Grp) (f : FGroup → FGroup) : (State.modGrp s g f).pending = s.pending ∧ (State.modGrp s g f).clk = s.clk ∧ (State.modGrp s g f).otp = s.otp ∧ (State.modGrp s g f).mem = s.mem := by
  simp [State.modGrp]

@[simp] theorem State.refreshOutputs_keep (s : State) : (State.refreshOutputs s).pending = s.pending ∧ (State.refreshOutputs s).clk = s.clk ∧ (State.refreshOutputs s).otp = s.otp ∧ (State.refreshOutputs s).mem = s.mem := by
  simp [State.refreshOutputs]

@[simp] theorem State.applyPresets_keep (s : State) : (State.applyPresets s).pending = s.pending ∧ (State.applyPresets s).clk = s.clk ∧ (State.applyPresets s).otp = s.otp ∧ (State.applyPresets s).mem = s.mem := by
  simp [State.applyPresets]

@[simp] theorem State.countEdge_keep (s : State) (c : Ch) (t : Nat) : (State.countEdge s c t).pending = s.pending ∧ (State.countEdge s c t).clk = s.clk ∧ (State.countEdge s c t).otp = s.otp ∧ (State.countEdge s c t).mem = s.mem := by
  simp [State.countEdge]

@[simp] theorem State.quadStep_keep (s : State) (a : Ch) (onA : Bool) (t : Nat) : (State.quadStep s a onA t).pending = s.pending ∧ (State.quadStep s a onA t).clk = s.clk ∧ (State.quadStep s a onA t).otp = s.otp ∧ (State.quadStep s a onA t).mem = s.mem := by
  unfold State.quadStep
  dsimp only
  (repeat' split) <;> simp [*]

@[simp] theorem State.onEdge_keep (s : State) (c : Ch) (t : Nat) : (State.onEdge s c t).pending = s.pending ∧ (State.onEdge s c t).clk = s.clk ∧ (State.onEdge s c t).otp = s.otp ∧ (State.onEdge s c t).mem = s.mem := by
  unfold State.onEdge
  dsimp only
  (repeat' split) <;> simp [*]

@[simp] theorem State.sampleRun_keep (s : State) (c : Ch) (ua : Nat) (n : Nat) (m : Nat) : (State.sampleRun s c ua n m).pending = s.pending ∧ (State.sampleRun s c ua n m).clk = s.clk ∧ (State.sampleRun s c ua n m).otp = s.otp ∧ (State.sampleRun s c ua n m).mem = s.mem := by
  simp [State.sampleRun, apply_ite State.pending, apply_ite State.clk, apply_ite State.otp, apply_ite State.mem]

@[simp] theorem State.sampleAll_keep (s : State) (c : Ch) (l : List Nat) : (State.sampleAll s c l).pending = s.pending ∧ (State.sampleAll s c l).clk = s.clk ∧ (State.sampleAll s c l).otp = s.otp ∧ (State.sampleAll s c l).mem = s.mem := by
  simp [State.sampleAll, apply_ite State.pending, apply_ite State.clk, apply_ite State.otp, apply_ite State.mem]

@[simp] theorem State.takePins_keep (s : State) (p : ScanPins) : (State.takePins s p).pending = s.pending ∧ (State.takePins s p).clk = s.clk ∧ (State.takePins s p).otp = s.otp ∧ (State.takePins s p).mem = s.mem := by
  simp [State.takePins]

@[simp] theorem opFieldScan_keep (p : ScanPins) (s : State) : (opFieldScan p s).pending = s.pending ∧ (opFieldScan p s).clk = s.clk ∧ (opFieldScan p s).otp = s.otp := by
  simp [opFieldScan, apply_ite State.pending, apply_ite State.clk, apply_ite State.otp]

@[simp] theorem opFieldScan_wf (p : ScanPins) (s : State) (h_ : Memory.wf s.mem = true) : Memory.wf (opFieldScan p s).mem = true := by
  simp [opFieldScan, h_, apply_ite State.mem, apply_ite Memory.wf]

@[simp] theorem State.modCan_keep (s : State) (c : Fin 2) (f : Can → Can) : (State.modCan s c f).pending = s.pending ∧ (State.modCan s c f).clk = s.clk ∧ (State.modCan s c f).otp = s.otp ∧ (State.modCan s c f).mem = s.mem := by
  simp [State.modCan]

@[simp] theorem State.modMo_keep (s : State) (c : Fin 2) (m : MoId) (f : Mo → Mo) : (State.modMo s c m f).pending = s.pending ∧ (State.modMo s c m f).clk = s.clk ∧ (State.modMo s c m f).otp = s.otp ∧ (State.modMo s c m f).mem = s.mem := by
  simp [State.modMo]

@[simp] theorem State.dropOneShots_keep (s : State) (c : Fin 2) : (State.dropOneShots s c).pending = s.pending ∧ (State.dropOneShots s c).clk = s.clk ∧ (State.dropOneShots s c).otp = s.otp ∧ (State.dropOneShots s c).mem = s.mem := by
  simp [State.dropOneShots, apply_ite State.pending, apply_ite State.clk, apply_ite State.otp, apply_ite State.mem]

@[simp] theorem State.setErr_keep (s : State) (c : Fin 2) (tec : Nat) (rx : Nat) (inj : Bool) : (State.setErr s c tec rx inj).pending = s.pending ∧ (State.setErr s c tec rx inj).clk = s.clk ∧ (State.setErr s c tec rx inj).otp = s.otp ∧ (State.setErr s c tec rx inj).mem = s.mem := by
  simp [State.setErr, apply_ite State.pending, apply_ite State.clk, apply_ite State.otp, apply_ite State.mem]

@[simp] theorem opCanReceived_keep (c : Fin 2) (f : CanFrame) (s : State) : (opCanReceived c f s).pending = s.pending ∧ (opCanReceived c f s).clk = s.clk ∧ (opCanReceived c f s).otp = s.otp := by
  unfold opCanReceived
  dsimp only
  (repeat' split) <;> simp [*]

@[simp] theorem opCanReceived_wf (c : Fin 2) (f : CanFrame) (s : State) (h_ : Memory.wf s.mem = true) : Memory.wf (opCanReceived c f s).mem = true := by
  unfold opCanReceived
  dsimp only
  (repeat' split) <;> simp [*]

@[simp] theorem State.startTx_keep (s : State) (c : Fin 2) : (State.startTx s c).pending = s.pending ∧ (State.startTx s c).clk = s.clk ∧ (State.startTx s c).otp = s.otp ∧ (State.startTx s c).mem = s.mem := by
  unfold State.startTx
  dsimp only
  (repeat' split) <;> simp [*]

@[simp] theorem State.canMdp_keep (s : State) (c : Fin 2) (fs : List (List Byte)) : (State.canMdp s c fs).pending = s.pending ∧ (State.canMdp s c fs).clk = s.clk ∧ (State.canMdp s c fs).otp = s.otp ∧ (State.canMdp s c fs).mem = s.mem := by
  simp [State.canMdp, apply_ite State.pending, apply_ite State.clk, apply_ite State.otp, apply_ite State.mem]

@[simp] theorem State.tdc_keep (s : State) (c : Fin 2) (m : MoId) (delay : Nat) : (State.tdc s c m delay).pending = s.pending ∧ (State.tdc s c m delay).clk = s.clk ∧ (State.tdc s c m delay).otp = s.otp ∧ (State.tdc s c m delay).mem = s.mem := by
  simp [State.tdc, apply_ite State.pending, apply_ite State.clk, apply_ite State.otp, apply_ite State.mem]

@[simp] theorem State.txFailed_keep (s : State) (c : Fin 2) (m : MoId) (err : Bool) : (State.txFailed s c m err).pending = s.pending ∧ (State.txFailed s c m err).clk = s.clk ∧ (State.txFailed s c m err).otp = s.otp ∧ (State.txFailed s c m err).mem = s.mem := by
  simp [State.txFailed, apply_ite State.pending, apply_ite State.clk, apply_ite State.otp, apply_ite State.mem]

@[simp] theorem State.canInjected_keep (s : State) (c : Fin 2) : (State.canInjected s c).pending = s.pending ∧ (State.canInjected s c).clk = s.clk ∧ (State.canInjected s c).otp = s.otp ∧ (State.canInjected s c).mem = s.mem := by
  simp [State.canInjected, apply_ite State.pending, apply_ite State.clk, apply_ite State.otp, apply_ite State.mem]

@[simp] theorem opCanReceiveError_keep (c : Fin 2) (lec : BitVec 3) (s : State) : (opCanReceiveError c lec s).pending = s.pending ∧ (opCanReceiveError c lec s).clk = s.clk ∧ (opCanReceiveError c lec s).otp = s.otp ∧ (opCanReceiveError c lec s).mem = s.mem := by
  simp [opCanReceiveError, apply_ite State.pending, apply_ite State.clk, apply_ite State.otp, apply_ite State.mem]

@[simp] theorem State.moctrl_keep (s : State) (c : Fin 2) (m : MoId) (v : Word) (done : Bool) : ((State.moctrl s c m v done).getD s).pending = s.pending ∧ ((State.moctrl s c m v done).getD s).clk = s.clk ∧ ((State.moctrl s c m v done).getD s).otp = s.otp ∧ ((State.moctrl s c m v done).getD s).mem = s.mem := by
  unfold State.moctrl
  (try dsimp only)
  (repeat' split) <;> simp

@[simp] theorem State.lateRequest_keep (s : State) (c : Fin 2) (m : MoId) : (State.lateRequest s c m).pending = s.pending ∧ (State.lateRequest s c m).clk = s.clk ∧ (State.lateRequest s c m).otp = s.otp ∧ (State.lateRequest s c m).mem = s.mem := by
  unfold State.lateRequest
  dsimp only
  (repeat' split) <;> simp [*]

@[simp] theorem State.moOver_keep (s : State) (c : Fin 2) (m : MoId) (out : TxOutcome) (delay : Nat) : (State.moOver s c m out delay).pending = s.pending ∧ (State.moOver s c m out delay).clk = s.clk ∧ (State.moOver s c m out delay).otp = s.otp ∧ (State.moOver s c m out delay).mem = s.mem := by
  unfold State.moOver
  (repeat' split) <;> simp

@[simp] theorem State.mdpOver_keep (s : State) (c : Fin 2) (out : TxOutcome) : (State.mdpOver s c out).pending = s.pending ∧ (State.mdpOver s c out).clk = s.clk ∧ (State.mdpOver s c out).otp = s.otp ∧ (State.mdpOver s c out).mem = s.mem := by
  simp [State.mdpOver]

@[simp] theorem State.txCount_keep (s : State) (c : Fin 2) (out : TxOutcome) : (State.txCount s c out).pending = s.pending ∧ (State.txCount s c out).clk = s.clk ∧ (State.txCount s c out).otp = s.otp ∧ (State.txCount s c out).mem = s.mem := by
  unfold State.txCount
  (repeat' split) <;> simp

@[simp] theorem opTransmission_keep (c : Fin 2) (m : Option MoId) (out : TxOutcome) (delay : Nat) (s : State) : (opTransmission c m out delay s).pending = s.pending ∧ (opTransmission c m out delay s).clk = s.clk ∧ (opTransmission c m out delay s).otp = s.otp ∧ (opTransmission c m out delay s).mem = s.mem := by
  unfold opTransmission
  dsimp only
  (repeat' split) <;> simp [*]

@[simp] theorem State.modata_keep (s : State) (c : Fin 2) (m : MoId) (i : Fin 16) (v : Word) : ((State.modata s c m i v).getD s).pending = s.pending ∧ ((State.modata s c m i v).getD s).clk = s.clk ∧ ((State.modata s c m i v).getD s).otp = s.otp ∧ ((State.modata s c m i v).getD s).mem = s.mem := by
  unfold State.modata
  (try dsimp only)
  (repeat' split) <;> simp

@[simp] theorem State.windowCommit_keep (s : State) (c : Fin 2) (m : MoId) : (State.windowCommit s c m).pending = s.pending ∧ (State.windowCommit s c m).clk = s.clk ∧ (State.windowCommit s c m).otp = s.otp ∧ (State.windowCommit s c m).mem = s.mem := by
  simp [State.windowCommit, apply_ite State.pending, apply_ite State.clk, apply_ite State.otp, apply_ite State.mem]

@[simp] theorem State.canCommit_keep (s : State) (words : List Nat) : (State.canCommit s words).pending = s.pending ∧ (State.canCommit s words).clk = s.clk ∧ (State.canCommit s words).otp = s.otp ∧ (State.canCommit s words).mem = s.mem := by
  simp [State.canCommit, apply_ite State.pending, apply_ite State.clk, apply_ite State.otp, apply_ite State.mem]

@[simp] theorem State.canStop_keep (s : State) : (State.canStop s).pending = s.pending ∧ (State.canStop s).clk = s.clk ∧ (State.canStop s).otp = s.otp ∧ (State.canStop s).mem = s.mem := by
  simp [State.canStop]

@[simp] theorem State.canSleep_keep (s : State) (c : Fin 2) : (State.canSleep s c).pending = s.pending ∧ (State.canSleep s c).clk = s.clk ∧ (State.canSleep s c).otp = s.otp ∧ (State.canSleep s c).mem = s.mem := by
  simp [State.canSleep, apply_ite State.pending, apply_ite State.clk, apply_ite State.otp, apply_ite State.mem]

@[simp] theorem State.canWakes_keep (s : State) (c : Fin 2) (cause : Nat) : (State.canWakes s c cause).pending = s.pending ∧ (State.canWakes s c cause).clk = s.clk ∧ (State.canWakes s c cause).otp = s.otp ∧ (State.canWakes s c cause).mem = s.mem := by
  simp [State.canWakes, apply_ite State.pending, apply_ite State.clk, apply_ite State.otp, apply_ite State.mem]

@[simp] theorem opCanWake_keep (c : Fin 2) (w : WakeEvent) (s : State) : (opCanWake c w s).pending = s.pending ∧ (opCanWake c w s).clk = s.clk ∧ (opCanWake c w s).otp = s.otp ∧ (opCanWake c w s).mem = s.mem := by
  unfold opCanWake
  (repeat' split) <;> simp

@[simp] theorem opBusIntegration_keep (c : Fin 2) (s : State) : (opBusIntegration c s).pending = s.pending ∧ (opBusIntegration c s).clk = s.clk ∧ (opBusIntegration c s).otp = s.otp ∧ (opBusIntegration c s).mem = s.mem := by
  simp [opBusIntegration, apply_ite State.pending, apply_ite State.clk, apply_ite State.otp, apply_ite State.mem]

@[simp] theorem opBusOffRecovery_keep (c : Fin 2) (s : State) : (opBusOffRecovery c s).pending = s.pending ∧ (opBusOffRecovery c s).clk = s.clk ∧ (opBusOffRecovery c s).otp = s.otp ∧ (opBusOffRecovery c s).mem = s.mem := by
  simp [opBusOffRecovery, apply_ite State.pending, apply_ite State.clk, apply_ite State.otp, apply_ite State.mem]

@[simp] theorem State.canRecover_keep (s : State) (c : Fin 2) : (State.canRecover s c).pending = s.pending ∧ (State.canRecover s c).clk = s.clk ∧ (State.canRecover s c).otp = s.otp ∧ (State.canRecover s c).mem = s.mem := by
  simp [State.canRecover, apply_ite State.pending, apply_ite State.clk, apply_ite State.otp, apply_ite State.mem]

@[simp] theorem State.canEnable_keep (s : State) (c : Fin 2) (on : Bool) : (State.canEnable s c on).pending = s.pending ∧ (State.canEnable s c on).clk = s.clk ∧ (State.canEnable s c on).otp = s.otp ∧ (State.canEnable s c on).mem = s.mem := by
  simp [State.canEnable]

@[simp] theorem State.recClaim_keep (s : State) (a : Abort) : (State.recClaim s a).pending = s.pending ∧ (State.recClaim s a).clk = s.clk ∧ (State.recClaim s a).otp = s.otp ∧ (State.recClaim s a).mem = s.mem := by
  simp [State.recClaim, apply_ite State.pending, apply_ite State.clk, apply_ite State.otp, apply_ite State.mem]

@[simp] theorem State.modInst_keep (s : State) (i : Fin 2) (f : Inst → Inst) : (State.modInst s i f).pending = s.pending ∧ (State.modInst s i f).clk = s.clk ∧ (State.modInst s i f).otp = s.otp ∧ (State.modInst s i f).mem = s.mem := by
  simp [State.modInst]

@[simp] theorem State.modPulse_keep (s : State) (p : Fin 16) (f : Pulse → Pulse) : (State.modPulse s p f).pending = s.pending ∧ (State.modPulse s p f).clk = s.clk ∧ (State.modPulse s p f).otp = s.otp ∧ (State.modPulse s p f).mem = s.mem := by
  simp [State.modPulse]

@[simp] theorem State.accumulate_keep (s : State) (i : Fin 2) (add : List Rat) : (State.accumulate s i add).pending = s.pending ∧ (State.accumulate s i add).clk = s.clk ∧ (State.accumulate s i add).otp = s.otp ∧ (State.accumulate s i add).mem = s.mem := by
  simp [State.accumulate, apply_ite State.pending, apply_ite State.clk, apply_ite State.otp, apply_ite State.mem]

@[simp] theorem State.applyPulseCtl_keep (s : State) : (State.applyPulseCtl s).pending = s.pending ∧ (State.applyPulseCtl s).clk = s.clk ∧ (State.applyPulseCtl s).otp = s.otp ∧ (State.applyPulseCtl s).mem = s.mem := by
  simp [State.applyPulseCtl]

@[simp] theorem State.sourceLost_keep (s : State) (i : Fin 2) (inj : Bool) : (State.sourceLost s i inj).pending = s.pending ∧ (State.sourceLost s i inj).clk = s.clk ∧ (State.sourceLost s i inj).otp = s.otp ∧ (State.sourceLost s i inj).mem = s.mem := by
  simp [State.sourceLost, apply_ite State.pending, apply_ite State.clk, apply_ite State.otp, apply_ite State.mem]

@[simp] theorem State.svCycle_keep (s : State) (i : Fin 2) (xs : List Sample) : (State.svCycle s i xs).pending = s.pending ∧ (State.svCycle s i xs).clk = s.clk ∧ (State.svCycle s i xs).otp = s.otp ∧ (State.svCycle s i xs).mem = s.mem := by
  unfold State.svCycle
  dsimp only
  (repeat' split) <;> simp [*]

@[simp] theorem State.refFindings_keep (s : State) (i : Fin 2) (noRef : Bool) (measured : Rat) : (State.refFindings s i noRef measured).pending = s.pending ∧ (State.refFindings s i noRef measured).clk = s.clk ∧ (State.refFindings s i noRef measured).otp = s.otp ∧ (State.refFindings s i noRef measured).mem = s.mem := by
  simp [State.refFindings, apply_ite State.pending, apply_ite State.clk, apply_ite State.otp, apply_ite State.mem]

@[simp] theorem State.gainUp_keep (s : State) (i : Fin 2) (xs : List Sample) : (State.gainUp s i xs).pending = s.pending ∧ (State.gainUp s i xs).clk = s.clk ∧ (State.gainUp s i xs).otp = s.otp ∧ (State.gainUp s i xs).mem = s.mem := by
  simp [State.gainUp]

@[simp] theorem State.calCommitted_keep (s : State) (c : CalSess) : (State.calCommitted s c).pending = s.pending ∧ (State.calCommitted s c).clk = s.clk ∧ (State.calCommitted s c).otp = s.otp ∧ (State.calCommitted s c).mem = s.mem := by
  simp [State.calCommitted]

@[simp] theorem State.calCycle_keep (s : State) (i : Fin 2) (xs : List (List Int)) (dur : Rat) (ser : List (List Rat)) : (State.calCycle s i xs dur ser).pending = s.pending ∧ (State.calCycle s i xs dur ser).clk = s.clk ∧ (State.calCycle s i xs dur ser).otp = s.otp ∧ (State.calCycle s i xs dur ser).mem = s.mem := by
  unfold State.calCycle
  (repeat' split) <;> simp

@[simp] theorem opLineCycle_keep (i : Fin 2) (samples : List Sample) (s : State) : (opLineCycle i samples s).pending = s.pending ∧ (opLineCycle i samples s).clk = s.clk ∧ (opLineCycle i samples s).otp = s.otp ∧ (opLineCycle i samples s).mem = s.mem := by
  simp [opLineCycle, apply_ite State.pending, apply_ite State.clk, apply_ite State.otp, apply_ite State.mem]

@[simp] theorem opGainSwitch_keep (j : Fin 4) (s : State) : (opGainSwitch j s).pending = s.pending ∧ (opGainSwitch j s).clk = s.clk ∧ (opGainSwitch j s).otp = s.otp ∧ (opGainSwitch j s).mem = s.mem := by
  simp [opGainSwitch, apply_ite State.pending, apply_ite State.clk, apply_ite State.otp, apply_ite State.mem]

@[simp] theorem opEnergyUpdate_keep (i : Fin 2) (s : State) : (opEnergyUpdate i s).pending = s.pending ∧ (opEnergyUpdate i s).clk = s.clk ∧ (opEnergyUpdate i s).otp = s.otp := by
  simp [opEnergyUpdate, apply_ite State.pending, apply_ite State.clk, apply_ite State.otp]

@[simp] theorem opEnergyUpdate_wf (i : Fin 2) (s : State) (h_ : Memory.wf s.mem = true) : Memory.wf (opEnergyUpdate i s).mem = true := by
  simp [opEnergyUpdate, h_, apply_ite State.mem, apply_ite Memory.wf]

@[simp] theorem opPulseStart_keep (p : Fin 16) (s : State) : (opPulseStart p s).pending = s.pending ∧ (opPulseStart p s).clk = s.clk ∧ (opPulseStart p s).otp = s.otp ∧ (opPulseStart p s).mem = s.mem := by
  simp [opPulseStart, apply_ite State.pending, apply_ite State.clk, apply_ite State.otp, apply_ite State.mem]

@[simp] theorem opPulseEnd_keep (p : Fin 16) (s : State) : (opPulseEnd p s).pending = s.pending ∧ (opPulseEnd p s).clk = s.clk ∧ (opPulseEnd p s).otp = s.otp ∧ (opPulseEnd p s).mem = s.mem := by
  unfold opPulseEnd
  dsimp only
  (repeat' split) <;> simp [*]

@[simp] theorem State.saveEnergy_keep (s : State) (i : Fin 2) : (State.saveEnergy s i).pending = s.pending ∧ (State.saveEnergy s i).clk = s.clk ∧ (State.saveEnergy s i).otp = s.otp ∧ (State.saveEnergy s i).mem = s.mem := by
  simp [State.saveEnergy]

@[simp] theorem State.saveEnergies_keep (s : State) : (State.saveEnergies s).pending = s.pending ∧ (State.saveEnergies s).clk = s.clk ∧ (State.saveEnergies s).otp = s.otp ∧ (State.saveEnergies s).mem = s.mem := by
  simp [State.saveEnergies, apply_ite State.pending, apply_ite State.clk, apply_ite State.otp, apply_ite State.mem]

@[simp] theorem opEnergyRecord_keep (s : State) : (opEnergyRecord s).pending = s.pending ∧ (opEnergyRecord s).clk = s.clk ∧ (opEnergyRecord s).otp = s.otp ∧ (opEnergyRecord s).mem = s.mem := by
  simp [opEnergyRecord, apply_ite State.pending, apply_ite State.clk, apply_ite State.otp, apply_ite State.mem]

@[simp] theorem State.calAbort_keep (s : State) (cause : Nat) : (State.calAbort s cause).pending = s.pending ∧ (State.calAbort s cause).clk = s.clk ∧ (State.calAbort s cause).otp = s.otp ∧ (State.calAbort s cause).mem = s.mem := by
  unfold State.calAbort
  (repeat' split) <;> simp

@[simp] theorem opCalTimeout_keep (s : State) : (opCalTimeout s).pending = s.pending ∧ (opCalTimeout s).clk = s.clk ∧ (opCalTimeout s).otp = s.otp ∧ (opCalTimeout s).mem = s.mem := by
  unfold opCalTimeout
  (repeat' split) <;> simp

end Sys2Proof.Machine
end

