-- ==== Sys2Proof/Laws/KeepNet.lean ====
section
/-! SUPPORT. What every operation leaves alone: the queue, the clock, the bits of the OTP, and memory or its canonical form
(`_keep`: queue, clock, OTP and memory where they are unchanged; `_bit`: no OTP bit goes back to 0; `_wf`: memory stays
canonical). This file: supervision, time and network operations. -/

namespace Sys2Proof.Machine

open Sys2Proof

@[simp] theorem State.modSup_keep (s : State) (f : Sup → Sup) : (State.modSup s f).pending = s.pending ∧ (State.modSup s f).clk = s.clk ∧ (State.modSup s f).otp = s.otp ∧ (State.modSup s f).mem = s.mem := by
  simp [State.modSup]

@[simp] theorem State.reportMiss_keep (s : State) (i : Interval) (g : Gctx) (inj : Bool) : (State.reportMiss s i g inj).pending = s.pending ∧ (State.reportMiss s i g inj).clk = s.clk ∧ (State.reportMiss s i g inj).otp = s.otp ∧ (State.reportMiss s i g inj).mem = s.mem := by
  simp [State.reportMiss]

@[simp] theorem State.reportExtra_keep (s : State) (i : Interval) (g : Gctx) (inj : Bool) : (State.reportExtra s i g inj).pending = s.pending ∧ (State.reportExtra s i g inj).clk = s.clk ∧ (State.reportExtra s i g inj).otp = s.otp ∧ (State.reportExtra s i g inj).mem = s.mem := by
  simp [State.reportExtra]

@[simp] theorem State.closeCtx_keep (s : State) (i : Interval) (g : Gctx) : (State.closeCtx s i g).pending = s.pending ∧ (State.closeCtx s i g).clk = s.clk ∧ (State.closeCtx s i g).otp = s.otp ∧ (State.closeCtx s i g).mem = s.mem := by
  simp [State.closeCtx, apply_ite State.pending, apply_ite State.clk, apply_ite State.otp, apply_ite State.mem]

@[simp] theorem State.closeInterval_keep (s : State) (i : Interval) : (State.closeInterval s i).pending = s.pending ∧ (State.closeInterval s i).clk = s.clk ∧ (State.closeInterval s i).otp = s.otp ∧ (State.closeInterval s i).mem = s.mem := by
  simp [State.closeInterval]

@[simp] theorem State.closeClosing_keep (s : State) : (State.closeClosing s).pending = s.pending ∧ (State.closeClosing s).clk = s.clk ∧ (State.closeClosing s).otp = s.otp ∧ (State.closeClosing s).mem = s.mem := by
  unfold State.closeClosing
  (repeat' split) <;> simp

@[simp] theorem opIntervalStart_keep (s : State) : (opIntervalStart s).pending = s.pending ∧ (opIntervalStart s).clk = s.clk ∧ (opIntervalStart s).otp = s.otp ∧ (opIntervalStart s).mem = s.mem := by
  simp [opIntervalStart, apply_ite State.pending, apply_ite State.clk, apply_ite State.otp, apply_ite State.mem]

@[simp] theorem opIntervalClose_keep (s : State) : (opIntervalClose s).pending = s.pending ∧ (opIntervalClose s).clk = s.clk ∧ (opIntervalClose s).otp = s.otp ∧ (opIntervalClose s).mem = s.mem := by
  unfold opIntervalClose
  (repeat' split) <;> simp

@[simp] theorem State.stepIntervals_keep (s : State) : (State.stepIntervals s).pending = s.pending ∧ (State.stepIntervals s).clk = s.clk ∧ (State.stepIntervals s).otp = s.otp ∧ (State.stepIntervals s).mem = s.mem := by
  unfold State.stepIntervals
  dsimp only
  (repeat' split) <;> simp [*]

@[simp] theorem State.checkin_keep (s : State) (g : Gctx) (key : Word) : (State.checkin s g key).pending = s.pending ∧ (State.checkin s g key).clk = s.clk ∧ (State.checkin s g key).otp = s.otp ∧ (State.checkin s g key).mem = s.mem := by
  simp [State.checkin, apply_ite State.pending, apply_ite State.clk, apply_ite State.otp, apply_ite State.mem]

@[simp] theorem State.setValid_keep (s : State) (v : Bool) (cause : Nat) : (State.setValid s v cause).pending = s.pending ∧ (State.setValid s v cause).clk = s.clk ∧ (State.setValid s v cause).otp = s.otp ∧ (State.setValid s v cause).mem = s.mem := by
  simp [State.setValid, apply_ite State.pending, apply_ite State.clk, apply_ite State.otp, apply_ite State.mem]

@[simp] theorem State.stepTime_keep (s : State) (d : Int) : (State.stepTime s d).pending = s.pending ∧ (State.stepTime s d).clk = s.clk ∧ (State.stepTime s d).otp = s.otp ∧ (State.stepTime s d).mem = s.mem := by
  simp [State.stepTime, apply_ite State.pending, apply_ite State.clk, apply_ite State.otp, apply_ite State.mem]

@[simp] theorem State.correct_keep (s : State) (d : Int) : (State.correct s d).pending = s.pending ∧ (State.correct s d).clk = s.clk ∧ (State.correct s d).otp = s.otp ∧ (State.correct s d).mem = s.mem := by
  simp [State.correct, apply_ite State.pending, apply_ite State.clk, apply_ite State.otp, apply_ite State.mem]

@[simp] theorem State.disciplined_keep (s : State) (d : Int) : (State.disciplined s d).pending = s.pending ∧ (State.disciplined s d).clk = s.clk ∧ (State.disciplined s d).otp = s.otp ∧ (State.disciplined s d).mem = s.mem := by
  simp [State.disciplined]

@[simp] theorem State.beginHoldover_keep (s : State) : (State.beginHoldover s).pending = s.pending ∧ (State.beginHoldover s).clk = s.clk ∧ (State.beginHoldover s).otp = s.otp ∧ (State.beginHoldover s).mem = s.mem := by
  simp [State.beginHoldover]

@[simp] theorem State.modTm_keep (s : State) (k : Fin 8) (f : TmUnit → TmUnit) : (State.modTm s k f).pending = s.pending ∧ (State.modTm s k f).clk = s.clk ∧ (State.modTm s k f).otp = s.otp ∧ (State.modTm s k f).mem = s.mem := by
  simp [State.modTm]

@[simp] theorem opTimeMatch_keep (k : Fin 8) (s : State) : (opTimeMatch k s).pending = s.pending ∧ (opTimeMatch k s).clk = s.clk ∧ (opTimeMatch k s).otp = s.otp := by
  simp [opTimeMatch, apply_ite State.pending, apply_ite State.clk, apply_ite State.otp]

@[simp] theorem opTimeMatch_wf (k : Fin 8) (s : State) (h_ : Memory.wf s.mem = true) : Memory.wf (opTimeMatch k s).mem = true := by
  simp [opTimeMatch, h_, apply_ite State.mem, apply_ite Memory.wf]

@[simp] theorem State.tmHiWrite_keep (s : State) (k : Fin 8) (v : Word) : (State.tmHiWrite s k v).pending = s.pending ∧ (State.tmHiWrite s k v).clk = s.clk ∧ (State.tmHiWrite s k v).otp = s.otp := by
  simp [State.tmHiWrite]

@[simp] theorem State.tmHiWrite_wf (s : State) (k : Fin 8) (v : Word) (h_ : Memory.wf s.mem = true) : Memory.wf (State.tmHiWrite s k v).mem = true := by
  simp [State.tmHiWrite, h_]

@[simp] theorem State.modRtc_keep (s : State) (f : Rtc → Rtc) : (State.modRtc s f).pending = s.pending ∧ (State.modRtc s f).clk = s.clk ∧ (State.modRtc s f).otp = s.otp ∧ (State.modRtc s f).mem = s.mem := by
  simp [State.modRtc]

@[simp] theorem State.setSec_keep (s : State) (v : Word) : (State.setSec s v).pending = s.pending ∧ (State.setSec s v).clk = s.clk ∧ (State.setSec s v).otp = s.otp ∧ (State.setSec s v).mem = s.mem := by
  simp [State.setSec]

@[simp] theorem State.writeRtc_keep (s : State) (utc : Nat) (cause : Nat) : (State.writeRtc s utc cause).pending = s.pending ∧ (State.writeRtc s utc cause).clk = s.clk ∧ (State.writeRtc s utc cause).otp = s.otp ∧ (State.writeRtc s utc cause).mem = s.mem := by
  simp [State.writeRtc]

@[simp] theorem State.modNet_keep (s : State) (f : Net → Net) : (State.modNet s f).pending = s.pending ∧ (State.modNet s f).clk = s.clk ∧ (State.modNet s f).otp = s.otp ∧ (State.modNet s f).mem = s.mem := by
  simp [State.modNet]

@[simp] theorem State.modNetPort_keep (s : State) (p : Fin 4) (f : NetPort → NetPort) : (State.modNetPort s p f).pending = s.pending ∧ (State.modNetPort s p f).clk = s.clk ∧ (State.modNetPort s p f).otp = s.otp ∧ (State.modNetPort s p f).mem = s.mem := by
  simp [State.modNetPort]

@[simp] theorem State.modNetPair_keep (s : State) (x : Fin 2) (f : NetPair → NetPair) : (State.modNetPair s x f).pending = s.pending ∧ (State.modNetPair s x f).clk = s.clk ∧ (State.modNetPair s x f).otp = s.otp ∧ (State.modNetPair s x f).mem = s.mem := by
  simp [State.modNetPair]

@[simp] theorem State.putFrame_keep (s : State) (f : Fin 4) (fr : TxFrame) : (State.putFrame s f fr).pending = s.pending ∧ (State.putFrame s f fr).clk = s.clk ∧ (State.putFrame s f fr).otp = s.otp ∧ (State.putFrame s f fr).mem = s.mem := by
  simp [State.putFrame]

@[simp] theorem State.sendCopy_keep (s : State) (f : Fin 4) (fr : TxFrame) (n : NetSeq) : (State.sendCopy s f fr n).pending = s.pending ∧ (State.sendCopy s f fr n).clk = s.clk ∧ (State.sendCopy s f fr n).otp = s.otp ∧ (State.sendCopy s f fr n).mem = s.mem := by
  unfold State.sendCopy
  dsimp only
  (repeat' split) <;> simp [*]

@[simp] theorem State.trailSend_keep (s : State) (f : Fin 4) (fr : TxFrame) : (State.trailSend s f fr).pending = s.pending ∧ (State.trailSend s f fr).clk = s.clk ∧ (State.trailSend s f fr).otp = s.otp ∧ (State.trailSend s f fr).mem = s.mem := by
  unfold State.trailSend
  (repeat' split) <;> simp

@[simp] theorem State.sendFrame_keep (s : State) (f : Fin 4) (q : Nat) (vid : Option Nat) (body : TxBody) : (State.sendFrame s f q vid body).pending = s.pending ∧ (State.sendFrame s f q vid body).clk = s.clk ∧ (State.sendFrame s f q vid body).otp = s.otp ∧ (State.sendFrame s f q vid body).mem = s.mem := by
  simp [State.sendFrame, apply_ite State.pending, apply_ite State.clk, apply_ite State.otp, apply_ite State.mem]

@[simp] theorem State.ownFrame_keep (s : State) (f : Fin 4) (b : TxBody) : (State.ownFrame s f b).pending = s.pending ∧ (State.ownFrame s f b).clk = s.clk ∧ (State.ownFrame s f b).otp = s.otp ∧ (State.ownFrame s f b).mem = s.mem := by
  simp [State.ownFrame]

@[simp] theorem State.linkIs_keep (s : State) (pt : Fin 4) (up : Bool) (speed : Nat) (inj : Bool) : (State.linkIs s pt up speed inj).pending = s.pending ∧ (State.linkIs s pt up speed inj).clk = s.clk ∧ (State.linkIs s pt up speed inj).otp = s.otp ∧ (State.linkIs s pt up speed inj).mem = s.mem := by
  simp [State.linkIs]

@[simp] theorem State.engineReads_keep (s : State) (a : Nat) : (State.engineReads s a).pending = s.pending ∧ (State.engineReads s a).clk = s.clk ∧ (State.engineReads s a).otp = s.otp ∧ (State.engineReads s a).mem = s.mem := by
  simp [State.engineReads, apply_ite State.pending, apply_ite State.clk, apply_ite State.otp, apply_ite State.mem]

@[simp] theorem State.readIdx_keep (s : State) (base : Nat) : (State.readIdx s base).pending = s.pending ∧ (State.readIdx s base).clk = s.clk ∧ (State.readIdx s base).otp = s.otp ∧ (State.readIdx s base).mem = s.mem := by
  simp [State.readIdx, apply_ite State.pending, apply_ite State.clk, apply_ite State.otp, apply_ite State.mem]

@[simp] theorem State.ringDrop_keep (s : State) (f : Fin 4) : (State.ringDrop s f).pending = s.pending ∧ (State.ringDrop s f).clk = s.clk ∧ (State.ringDrop s f).otp = s.otp ∧ (State.ringDrop s f).mem = s.mem := by
  simp [State.ringDrop]

@[simp] theorem State.toRing_keep (s : State) (f : Fin 4) (p : Fin 4) (fr : EthFrame) : (State.toRing s f p fr).pending = s.pending ∧ (State.toRing s f p fr).clk = s.clk ∧ (State.toRing s f p fr).otp = s.otp := by
  simp [State.toRing, apply_ite State.pending, apply_ite State.clk, apply_ite State.otp]

@[simp] theorem State.toRing_wf (s : State) (f p : Fin 4) (fr : EthFrame) (h_ : Memory.wf s.mem = true) : Memory.wf (s.toRing f p fr).mem = true := by
  unfold State.toRing
  dsimp only
  split
  · exact h_
  · split
    · simp [h_]
    · simp only [State.draw_keep]
      exact State.putWord_wf _ _ _ (State.putBytes_wf _ _ _ (State.putBytes_wf _ _ _ (by simp [h_])))

@[simp] theorem State.hsrForward_keep (s : State) (p : Fin 4) (fr : EthFrame) (seq : BitVec 16) : (State.hsrForward s p fr seq).pending = s.pending ∧ (State.hsrForward s p fr seq).clk = s.clk ∧ (State.hsrForward s p fr seq).otp = s.otp ∧ (State.hsrForward s p fr seq).mem = s.mem := by
  simp [State.hsrForward, apply_ite State.pending, apply_ite State.clk, apply_ite State.otp, apply_ite State.mem]

@[simp] theorem State.lanSeen_keep (s : State) (p : Fin 4) : (State.lanSeen s p).pending = s.pending ∧ (State.lanSeen s p).clk = s.clk ∧ (State.lanSeen s p).otp = s.otp ∧ (State.lanSeen s p).mem = s.mem := by
  simp [State.lanSeen]

@[simp] theorem State.deliver_keep (s : State) (p : Fin 4) (fr : EthFrame) : (State.deliver s p fr).pending = s.pending ∧ (State.deliver s p fr).clk = s.clk ∧ (State.deliver s p fr).otp = s.otp := by
  simp [State.deliver, apply_ite State.pending, apply_ite State.clk, apply_ite State.otp]

@[simp] theorem State.deliver_wf (s : State) (p : Fin 4) (fr : EthFrame) (h_ : Memory.wf s.mem = true) : Memory.wf (State.deliver s p fr).mem = true := by
  simp [State.deliver, h_, apply_ite State.mem, apply_ite Memory.wf]

@[simp] theorem opFrameReceived_keep (p : Fin 4) (fr : EthFrame) (s : State) : (opFrameReceived p fr s).pending = s.pending ∧ (opFrameReceived p fr s).clk = s.clk ∧ (opFrameReceived p fr s).otp = s.otp := by
  unfold opFrameReceived
  dsimp only
  split
  · simp
  · split
    · simp
    · (repeat' split) <;> simp

@[simp] theorem opFrameReceived_wf (p : Fin 4) (fr : EthFrame) (s : State) (h_ : Memory.wf s.mem = true) : Memory.wf (opFrameReceived p fr s).mem = true := by
  unfold opFrameReceived
  dsimp only
  split
  · exact h_
  · split
    · simpa using h_
    · (repeat' split) <;> simp [h_]

@[simp] theorem State.readSlot_keep (s : State) (slot : Nat) (len : Nat) : (State.readSlot s slot len).pending = s.pending ∧ (State.readSlot s slot len).clk = s.clk ∧ (State.readSlot s slot len).otp = s.otp ∧ (State.readSlot s slot len).mem = s.mem := by
  simp [State.readSlot]

@[simp] theorem opTransmitRing_keep (f : Fin 4) (s : State) : (opTransmitRing f s).pending = s.pending ∧ (opTransmitRing f s).clk = s.clk ∧ (opTransmitRing f s).otp = s.otp := by
  simp [opTransmitRing, apply_ite State.pending, apply_ite State.clk, apply_ite State.otp]

@[simp] theorem opTransmitRing_wf (f : Fin 4) (s : State) (h_ : Memory.wf s.mem = true) : Memory.wf (opTransmitRing f s).mem = true := by
  simp [opTransmitRing, h_, apply_ite State.mem, apply_ite Memory.wf]

@[simp] theorem State.modPtp_keep (s : State) (f : Ptp → Ptp) : (State.modPtp s f).pending = s.pending ∧ (State.modPtp s f).clk = s.clk ∧ (State.modPtp s f).otp = s.otp ∧ (State.modPtp s f).mem = s.mem := by
  simp [State.modPtp]

@[simp] theorem State.ptpStops_keep (s : State) : (State.ptpStops s).pending = s.pending ∧ (State.ptpStops s).clk = s.clk ∧ (State.ptpStops s).otp = s.otp ∧ (State.ptpStops s).mem = s.mem := by
  simp [State.ptpStops, apply_ite State.pending, apply_ite State.clk, apply_ite State.otp, apply_ite State.mem]

@[simp] theorem State.ptpState_keep (s : State) (n : Nat) : (State.ptpState s n).pending = s.pending ∧ (State.ptpState s n).clk = s.clk ∧ (State.ptpState s n).otp = s.otp ∧ (State.ptpState s n).mem = s.mem := by
  simp [State.ptpState, apply_ite State.pending, apply_ite State.clk, apply_ite State.otp, apply_ite State.mem]

@[simp] theorem State.ptpDiscipline_keep (s : State) (offset : Int) : (State.ptpDiscipline s offset).pending = s.pending ∧ (State.ptpDiscipline s offset).clk = s.clk ∧ (State.ptpDiscipline s offset).otp = s.otp ∧ (State.ptpDiscipline s offset).mem = s.mem := by
  simp [State.ptpDiscipline, apply_ite State.pending, apply_ite State.clk, apply_ite State.otp, apply_ite State.mem]

@[simp] theorem State.ptpAnnounce_keep (s : State) (pt : Fin 4) (gm : List Byte) (steps : Nat) (utc : Option Nat) : (State.ptpAnnounce s pt gm steps utc).pending = s.pending ∧ (State.ptpAnnounce s pt gm steps utc).clk = s.clk ∧ (State.ptpAnnounce s pt gm steps utc).otp = s.otp ∧ (State.ptpAnnounce s pt gm steps utc).mem = s.mem := by
  unfold State.ptpAnnounce
  dsimp only
  (repeat' split) <;> simp [*]

@[simp] theorem State.ptpSync_keep (s : State) (pt : Fin 4) (offset : Int) : (State.ptpSync s pt offset).pending = s.pending ∧ (State.ptpSync s pt offset).clk = s.clk ∧ (State.ptpSync s pt offset).otp = s.otp ∧ (State.ptpSync s pt offset).mem = s.mem := by
  simp [State.ptpSync, apply_ite State.pending, apply_ite State.clk, apply_ite State.otp, apply_ite State.mem]

@[simp] theorem State.ptpPut_keep (s : State) (pt : Fin 4) (b : TxBody) : (State.ptpPut s pt b).pending = s.pending ∧ (State.ptpPut s pt b).clk = s.clk ∧ (State.ptpPut s pt b).otp = s.otp ∧ (State.ptpPut s pt b).mem = s.mem := by
  simp [State.ptpPut]

@[simp] theorem State.ptpSend_keep (s : State) (pt : Fin 4) (event : Bool → TxBody) (followUp : TxBody) : (State.ptpSend s pt event followUp).pending = s.pending ∧ (State.ptpSend s pt event followUp).clk = s.clk ∧ (State.ptpSend s pt event followUp).otp = s.otp ∧ (State.ptpSend s pt event followUp).mem = s.mem := by
  simp [State.ptpSend, apply_ite State.pending, apply_ite State.clk, apply_ite State.otp, apply_ite State.mem]

@[simp] theorem State.ptpRespond_keep (s : State) (pt : Fin 4) : (State.ptpRespond s pt).pending = s.pending ∧ (State.ptpRespond s pt).clk = s.clk ∧ (State.ptpRespond s pt).otp = s.otp ∧ (State.ptpRespond s pt).mem = s.mem := by
  simp [State.ptpRespond, apply_ite State.pending, apply_ite State.clk, apply_ite State.otp, apply_ite State.mem]

@[simp] theorem opPtpMessage_keep (m : PtpMsg) (s : State) : (opPtpMessage m s).pending = s.pending ∧ (opPtpMessage m s).clk = s.clk ∧ (opPtpMessage m s).otp = s.otp ∧ (opPtpMessage m s).mem = s.mem := by
  unfold opPtpMessage
  (repeat' split) <;> simp

@[simp] theorem opAnnounceTimeout_keep (s : State) : (opAnnounceTimeout s).pending = s.pending ∧ (opAnnounceTimeout s).clk = s.clk ∧ (opAnnounceTimeout s).otp = s.otp ∧ (opAnnounceTimeout s).mem = s.mem := by
  unfold opAnnounceTimeout
  (repeat' split) <;> simp

@[simp] theorem opPtpTransmit_keep (pt : Fin 4) (s : State) : (opPtpTransmit pt s).pending = s.pending ∧ (opPtpTransmit pt s).clk = s.clk ∧ (opPtpTransmit pt s).otp = s.otp ∧ (opPtpTransmit pt s).mem = s.mem := by
  simp [opPtpTransmit, apply_ite State.pending, apply_ite State.clk, apply_ite State.otp, apply_ite State.mem]

@[simp] theorem State.modSub_keep (s : State) (k : Fin 256) (f : GooseSub → GooseSub) : (State.modSub s k f).pending = s.pending ∧ (State.modSub s k f).clk = s.clk ∧ (State.modSub s k f).otp = s.otp ∧ (State.modSub s k f).mem = s.mem := by
  simp [State.modSub]

@[simp] theorem State.publishSub_keep (s : State) (k : Fin 256) : (State.publishSub s k).pending = s.pending ∧ (State.publishSub s k).clk = s.clk ∧ (State.publishSub s k).otp = s.otp := by
  simp [State.publishSub]

@[simp] theorem State.publishSub_wf (s : State) (k : Fin 256) (h_ : Memory.wf s.mem = true) : Memory.wf (State.publishSub s k).mem = true := by
  simp [State.publishSub, h_]

@[simp] theorem State.publishIfNew_keep (s : State) (k : Fin 256) (accepted : Bool) : (State.publishIfNew s k accepted).pending = s.pending ∧ (State.publishIfNew s k accepted).clk = s.clk ∧ (State.publishIfNew s k accepted).otp = s.otp := by
  unfold State.publishIfNew
  dsimp only
  (repeat' split) <;> simp [*]

@[simp] theorem State.publishIfNew_wf (s : State) (k : Fin 256) (accepted : Bool) (h_ : Memory.wf s.mem = true) : Memory.wf (State.publishIfNew s k accepted).mem = true := by
  unfold State.publishIfNew
  dsimp only
  (repeat' split) <;> simp [*]

@[simp] theorem State.acceptGoose_keep (s : State) (k : Fin 256) (m : GooseMsg) : (State.acceptGoose s k m).pending = s.pending ∧ (State.acceptGoose s k m).clk = s.clk ∧ (State.acceptGoose s k m).otp = s.otp := by
  simp [State.acceptGoose, apply_ite State.pending, apply_ite State.clk, apply_ite State.otp]

@[simp] theorem State.acceptGoose_wf (s : State) (k : Fin 256) (m : GooseMsg) (h_ : Memory.wf s.mem = true) : Memory.wf (State.acceptGoose s k m).mem = true := by
  simp [State.acceptGoose, h_, apply_ite State.mem]

@[simp] theorem State.judgeGoose_keep (s : State) (k : Fin 256) (m : GooseMsg) : (State.judgeGoose s k m).pending = s.pending ∧ (State.judgeGoose s k m).clk = s.clk ∧ (State.judgeGoose s k m).otp = s.otp := by
  unfold State.judgeGoose
  dsimp only
  (repeat' split) <;> simp [*]

@[simp] theorem State.judgeGoose_wf (s : State) (k : Fin 256) (m : GooseMsg) (h_ : Memory.wf s.mem = true) : Memory.wf (State.judgeGoose s k m).mem = true := by
  unfold State.judgeGoose
  dsimp only
  (repeat' split) <;> simp [*]

@[simp] theorem opGooseFrame_keep (m : GooseMsg) (s : State) : (opGooseFrame m s).pending = s.pending ∧ (opGooseFrame m s).clk = s.clk ∧ (opGooseFrame m s).otp = s.otp := by
  simp [opGooseFrame]

@[simp] theorem opGooseFrame_wf (m : GooseMsg) (s : State) (h_ : Memory.wf s.mem = true) : Memory.wf (opGooseFrame m s).mem = true := by
  simp +contextual [opGooseFrame, h_]

@[simp] theorem opGooseTal_keep (k : Fin 256) (s : State) : (opGooseTal k s).pending = s.pending ∧ (opGooseTal k s).clk = s.clk ∧ (opGooseTal k s).otp = s.otp := by
  simp [opGooseTal, apply_ite State.pending, apply_ite State.clk, apply_ite State.otp]

@[simp] theorem opGooseTal_wf (k : Fin 256) (s : State) (h_ : Memory.wf s.mem = true) : Memory.wf (opGooseTal k s).mem = true := by
  simp [opGooseTal, h_, apply_ite State.mem, apply_ite Memory.wf]

@[simp] theorem State.modPub_keep (s : State) (p : Fin 64) (f : GoosePub → GoosePub) : (State.modPub s p f).pending = s.pending ∧ (State.modPub s p f).clk = s.clk ∧ (State.modPub s p f).otp = s.otp ∧ (State.modPub s p f).mem = s.mem := by
  simp [State.modPub]

@[simp] theorem State.sendGoose_keep (s : State) (p : Fin 64) : (State.sendGoose s p).pending = s.pending ∧ (State.sendGoose s p).clk = s.clk ∧ (State.sendGoose s p).otp = s.otp ∧ (State.sendGoose s p).mem = s.mem := by
  simp [State.sendGoose]

@[simp] theorem State.refreshPub_keep (s : State) (p : Fin 64) : (State.refreshPub s p).pending = s.pending ∧ (State.refreshPub s p).clk = s.clk ∧ (State.refreshPub s p).otp = s.otp ∧ (State.refreshPub s p).mem = s.mem := by
  simp [State.refreshPub]

@[simp] theorem State.gooseChange_keep (s : State) (p : Fin 64) : (State.gooseChange s p).pending = s.pending ∧ (State.gooseChange s p).clk = s.clk ∧ (State.gooseChange s p).otp = s.otp ∧ (State.gooseChange s p).mem = s.mem := by
  simp [State.gooseChange, apply_ite State.pending, apply_ite State.clk, apply_ite State.otp, apply_ite State.mem]

@[simp] theorem State.gooseCommit_keep (s : State) (words : List Nat) : (State.gooseCommit s words).pending = s.pending ∧ (State.gooseCommit s words).clk = s.clk ∧ (State.gooseCommit s words).otp = s.otp ∧ (State.gooseCommit s words).mem = s.mem := by
  simp [State.gooseCommit, apply_ite State.pending, apply_ite State.clk, apply_ite State.otp, apply_ite State.mem]

@[simp] theorem opGooseRepetition_keep (p : Fin 64) (s : State) : (opGooseRepetition p s).pending = s.pending ∧ (opGooseRepetition p s).clk = s.clk ∧ (opGooseRepetition p s).otp = s.otp ∧ (opGooseRepetition p s).mem = s.mem := by
  unfold opGooseRepetition
  (repeat' split) <;> simp

@[simp] theorem State.gooseState_keep (s : State) (wasRun : Bool) : (State.gooseState s wasRun).pending = s.pending ∧ (State.gooseState s wasRun).clk = s.clk ∧ (State.gooseState s wasRun).otp = s.otp ∧ (State.gooseState s wasRun).mem = s.mem := by
  simp [State.gooseState, apply_ite State.pending, apply_ite State.clk, apply_ite State.otp, apply_ite State.mem]

@[simp] theorem State.modSv_keep (s : State) (k : Fin 16) (f : SvSub → SvSub) : (State.modSv s k f).pending = s.pending ∧ (State.modSv s k f).clk = s.clk ∧ (State.modSv s k f).otp = s.otp ∧ (State.modSv s k f).mem = s.mem := by
  simp [State.modSv]

@[simp] theorem State.publishSv_keep (s : State) (k : Fin 16) : (State.publishSv s k).pending = s.pending ∧ (State.publishSv s k).clk = s.clk ∧ (State.publishSv s k).otp = s.otp := by
  simp [State.publishSv]

@[simp] theorem State.publishSv_wf (s : State) (k : Fin 16) (h_ : Memory.wf s.mem = true) : Memory.wf (State.publishSv s k).mem = true := by
  simp [State.publishSv, h_]

@[simp] theorem State.svToEnergy_keep (s : State) (k : Fin 16) (m : SvMsg) (seen : Bool) (last : Nat) : (State.svToEnergy s k m seen last).pending = s.pending ∧ (State.svToEnergy s k m seen last).clk = s.clk ∧ (State.svToEnergy s k m seen last).otp = s.otp ∧ (State.svToEnergy s k m seen last).mem = s.mem := by
  simp [State.svToEnergy, apply_ite State.pending, apply_ite State.clk, apply_ite State.otp, apply_ite State.mem]

@[simp] theorem State.takeSv_keep (s : State) (m : SvMsg) (k : Fin 16) : (State.takeSv s m k).pending = s.pending ∧ (State.takeSv s m k).clk = s.clk ∧ (State.takeSv s m k).otp = s.otp := by
  simp [State.takeSv, apply_ite State.pending, apply_ite State.clk, apply_ite State.otp]

@[simp] theorem State.takeSv_wf (s : State) (m : SvMsg) (k : Fin 16) (h_ : Memory.wf s.mem = true) : Memory.wf (State.takeSv s m k).mem = true := by
  simp [State.takeSv, h_, apply_ite State.mem, apply_ite Memory.wf]

@[simp] theorem opSvFrame_keep (m : SvMsg) (s : State) : (opSvFrame m s).pending = s.pending ∧ (opSvFrame m s).clk = s.clk ∧ (opSvFrame m s).otp = s.otp := by
  simp [opSvFrame]

@[simp] theorem opSvFrame_wf (m : SvMsg) (s : State) (h_ : Memory.wf s.mem = true) : Memory.wf (opSvFrame m s).mem = true := by
  simp +contextual [opSvFrame, h_]

@[simp] theorem opSvLost_keep (k : Fin 16) (s : State) : (opSvLost k s).pending = s.pending ∧ (opSvLost k s).clk = s.clk ∧ (opSvLost k s).otp = s.otp := by
  simp [opSvLost, apply_ite State.pending, apply_ite State.clk, apply_ite State.otp]

@[simp] theorem opSvLost_wf (k : Fin 16) (s : State) (h_ : Memory.wf s.mem = true) : Memory.wf (opSvLost k s).mem = true := by
  simp [opSvLost, h_, apply_ite State.mem, apply_ite Memory.wf]

@[simp] theorem State.admRefuse_keep (s : State) (x : AdmFail) : (State.admRefuse s x).pending = s.pending ∧ (State.admRefuse s x).clk = s.clk ∧ (State.admRefuse s x).otp = s.otp ∧ (State.admRefuse s x).mem = s.mem := by
  simp [State.admRefuse]

@[simp] theorem State.admPass_keep (s : State) (freq : Freq) (set : List AdmTask) : (State.admPass s freq set).pending = s.pending ∧ (State.admPass s freq set).clk = s.clk ∧ (State.admPass s freq set).otp = s.otp ∧ (State.admPass s freq set).mem = s.mem := by
  simp [State.admPass]

@[simp] theorem State.putRt_keep (s : State) (freq : Freq) (set : List AdmTask) : (State.putRt s freq set).pending = s.pending ∧ (State.putRt s freq set).clk = s.clk ∧ (State.putRt s freq set).otp = s.otp ∧ (State.putRt s freq set).mem = s.mem := by
  simp [State.putRt, apply_dite State.mem, apply_dite State.pending, apply_dite State.clk, apply_dite State.otp]

@[simp] theorem State.admitNow_keep (s : State) (freq : Freq) : (State.admitNow s freq).1.pending = s.pending ∧ (State.admitNow s freq).1.clk = s.clk ∧ (State.admitNow s freq).1.otp = s.otp ∧ (State.admitNow s freq).1.mem = s.mem := by
  unfold State.admitNow
  dsimp only
  (repeat' split) <;> simp [*]

@[simp] theorem State.tlRefuse_keep (s : State) (kbs : Nat) : (State.tlRefuse s kbs).pending = s.pending ∧ (State.tlRefuse s kbs).clk = s.clk ∧ (State.tlRefuse s kbs).otp = s.otp ∧ (State.tlRefuse s kbs).mem = s.mem := by
  simp [State.tlRefuse]

end Sys2Proof.Machine
end

