-- ==== Sys2Proof/Laws/KeepInsn.lean ====
section
/-! SUPPORT. What every operation leaves alone: the queue, the clock, the bits of the OTP, and memory or its canonical form
(`_keep`: queue, clock, OTP and memory where they are unchanged; `_bit`: no OTP bit goes back to 0; `_wf`: memory stays
canonical). This file: instructions, programs, the recorder, and what follows a change of state. -/

namespace Sys2Proof.Machine

open Sys2Proof

@[simp] theorem State.emit_keep (s : State) (g : Gctx) (item : LaneItem) (rel : Release) : (State.emit s g item rel).pending = s.pending ∧ (State.emit s g item rel).clk = s.clk ∧ (State.emit s g item rel).otp = s.otp ∧ (State.emit s g item rel).mem = s.mem := by
  simp [State.emit, apply_ite State.pending, apply_ite State.clk, apply_ite State.otp, apply_ite State.mem]

@[simp] theorem State.retire_keep (s : State) (g : Gctx) (cycles : Nat) (f : Regs → Regs) : (State.retire s g cycles f).pending = s.pending ∧ (State.retire s g cycles f).clk = s.clk ∧ (State.retire s g cycles f).otp = s.otp ∧ (State.retire s g cycles f).mem = s.mem := by
  simp [State.retire]

@[simp] theorem State.retireTo_keep (s : State) (g : Gctx) (cycles : Nat) (pc : Word) (f : Regs → Regs) : (State.retireTo s g cycles pc f).pending = s.pending ∧ (State.retireTo s g cycles pc f).clk = s.clk ∧ (State.retireTo s g cycles pc f).otp = s.otp ∧ (State.retireTo s g cycles pc f).mem = s.mem := by
  simp [State.retireTo]

@[simp] theorem State.doubleTrap_keep (s : State) (g : Gctx) (cause : Nat) : (State.doubleTrap s g cause).pending = s.pending ∧ (State.doubleTrap s g cause).clk = s.clk ∧ (State.doubleTrap s g cause).otp = s.otp := by
  simp [State.doubleTrap]

@[simp] theorem State.doubleTrap_wf (s : State) (g : Gctx) (cause : Nat) (h_ : Memory.wf s.mem = true) : Memory.wf (State.doubleTrap s g cause).mem = true := by
  simp [State.doubleTrap, h_]

@[simp] theorem State.trapNow_keep (s : State) (g : Gctx) (insn : Word) (cause : Nat) (status : Nat) (addr : Word) (inj : Bool) : (State.trapNow s g insn cause status addr inj).pending = s.pending ∧ (State.trapNow s g insn cause status addr inj).clk = s.clk ∧ (State.trapNow s g insn cause status addr inj).otp = s.otp := by
  simp [State.trapNow, apply_ite State.pending, apply_ite State.clk, apply_ite State.otp]

@[simp] theorem State.trapNow_wf (s : State) (g : Gctx) (insn : Word) (cause : Nat) (status : Nat) (addr : Word) (inj : Bool) (h_ : Memory.wf s.mem = true) : Memory.wf (State.trapNow s g insn cause status addr inj).mem = true := by
  simp [State.trapNow, h_, apply_ite State.mem, apply_ite Memory.wf]

@[simp] theorem State.trap_keep (s : State) (g : Gctx) (insn : Word) (cause : Nat) (status : Nat) (addr : Word) (inj : Bool) : (State.trap s g insn cause status addr inj).pending = s.pending ∧ (State.trap s g insn cause status addr inj).clk = s.clk ∧ (State.trap s g insn cause status addr inj).otp = s.otp := by
  simp [State.trap, apply_ite State.pending, apply_ite State.clk, apply_ite State.otp]

@[simp] theorem State.trap_wf (s : State) (g : Gctx) (insn : Word) (cause : Nat) (status : Nat) (addr : Word) (inj : Bool) (h_ : Memory.wf s.mem = true) : Memory.wf (State.trap s g insn cause status addr inj).mem = true := by
  simp [State.trap, h_, apply_ite State.mem, apply_ite Memory.wf]

@[simp] theorem State.fetched_keep (s : State) (g : Gctx) : (State.fetched s g).pending = s.pending ∧ (State.fetched s g).clk = s.clk ∧ (State.fetched s g).otp = s.otp ∧ (State.fetched s g).mem = s.mem := by
  simp [State.fetched, apply_ite State.pending, apply_ite State.clk, apply_ite State.otp, apply_ite State.mem]

@[simp] theorem State.finishTxn_keep (s : State) (g : Gctx) (t : Txn) (q : Resp) (inj : Bool) : (State.finishTxn s g t q inj).pending = s.pending ∧ (State.finishTxn s g t q inj).clk = s.clk ∧ (State.finishTxn s g t q inj).otp = s.otp := by
  simp [State.finishTxn, apply_ite State.pending, apply_ite State.clk, apply_ite State.otp]

@[simp] theorem State.finishTxn_wf (s : State) (g : Gctx) (t : Txn) (q : Resp) (inj : Bool) (h_ : Memory.wf s.mem = true) : Memory.wf (State.finishTxn s g t q inj).mem = true := by
  simp [State.finishTxn, h_, apply_ite State.mem, apply_ite Memory.wf]

@[simp] theorem State.deliverResp_keep (s : State) (g : Gctx) (t : Txn) (q : Resp) (inj : Bool) : (State.deliverResp s g t q inj).pending = s.pending ∧ (State.deliverResp s g t q inj).clk = s.clk ∧ (State.deliverResp s g t q inj).otp = s.otp := by
  simp [State.deliverResp, apply_ite State.pending, apply_ite State.clk, apply_ite State.otp]

@[simp] theorem State.deliverResp_wf (s : State) (g : Gctx) (t : Txn) (q : Resp) (inj : Bool) (h_ : Memory.wf s.mem = true) : Memory.wf (State.deliverResp s g t q inj).mem = true := by
  simp [State.deliverResp, h_, apply_ite State.mem, apply_ite Memory.wf]

@[simp] theorem State.resume_keep (s : State) (g : Gctx) : (State.resume s g).pending = s.pending ∧ (State.resume s g).clk = s.clk ∧ (State.resume s g).otp = s.otp := by
  unfold State.resume
  (repeat' split) <;> simp

@[simp] theorem State.resume_wf (s : State) (g : Gctx) (h_ : Memory.wf s.mem = true) : Memory.wf (State.resume s g).mem = true := by
  unfold State.resume
  (repeat' split) <;> simp [h_]

@[simp] theorem State.issued_pending (s : State) (g : Gctx) (insn : Word) (body : State → State) (hb : ∀ s, (body s).pending = s.pending) : (s.issued g insn body).pending = s.pending := by
  unfold State.issued; dsimp only; (repeat' split) <;> simp [hb]

@[simp] theorem State.issued_clk (s : State) (g : Gctx) (insn : Word) (body : State → State) (hb : ∀ s, (body s).clk = s.clk) : (s.issued g insn body).clk = s.clk := by
  unfold State.issued; dsimp only; (repeat' split) <;> simp [hb]

@[simp] theorem State.issued_otp (s : State) (g : Gctx) (insn : Word) (body : State → State) (hb : ∀ s, (body s).otp = s.otp) : (s.issued g insn body).otp = s.otp := by
  unfold State.issued; dsimp only; (repeat' split) <;> simp [hb]

@[simp] theorem State.issued_wf (s : State) (g : Gctx) (insn : Word) (body : State → State) (hb : ∀ s, Memory.wf s.mem = true → Memory.wf (body s).mem = true) (h_ : Memory.wf s.mem = true) : Memory.wf (s.issued g insn body).mem = true := by
  unfold State.issued; dsimp only; (repeat' split) <;> simp [hb, h_]

@[simp] theorem State.run_pending (s : State) (g : Gctx) (insn : Word) (body : State → State) (hb : ∀ s, (body s).pending = s.pending) : (s.run g insn body).pending = s.pending := by
  unfold State.run; dsimp only; (repeat' split) <;> simp [hb]

@[simp] theorem State.run_clk (s : State) (g : Gctx) (insn : Word) (body : State → State) (hb : ∀ s, (body s).clk = s.clk) : (s.run g insn body).clk = s.clk := by
  unfold State.run; dsimp only; (repeat' split) <;> simp [hb]

@[simp] theorem State.run_otp (s : State) (g : Gctx) (insn : Word) (body : State → State) (hb : ∀ s, (body s).otp = s.otp) : (s.run g insn body).otp = s.otp := by
  unfold State.run; dsimp only; (repeat' split) <;> simp [hb]

@[simp] theorem State.run_wf (s : State) (g : Gctx) (insn : Word) (body : State → State) (hb : ∀ s, Memory.wf s.mem = true → Memory.wf (body s).mem = true) (h_ : Memory.wf s.mem = true) : Memory.wf (s.run g insn body).mem = true := by
  unfold State.run; dsimp only; (repeat' split) <;> simp +contextual [hb, h_]

@[simp] theorem State.aluZN_keep (s : State) (g : Gctx) (rd : Reg) (x : Word) : (State.aluZN s g rd x).pending = s.pending ∧ (State.aluZN s g rd x).clk = s.clk ∧ (State.aluZN s g rd x).otp = s.otp ∧ (State.aluZN s g rd x).mem = s.mem := by
  simp [State.aluZN]

@[simp] theorem State.aluZNCV_keep (s : State) (g : Gctx) (rd : Reg) (x : AddRes) : (State.aluZNCV s g rd x).pending = s.pending ∧ (State.aluZNCV s g rd x).clk = s.clk ∧ (State.aluZNCV s g rd x).otp = s.otp ∧ (State.aluZNCV s g rd x).mem = s.mem := by
  simp [State.aluZNCV]

@[simp] theorem opZN_keep (g : Gctx) (rd : Reg) (ra : Reg) (rb : Reg) (fn : Nat) (f : Word → Word → Word) (s : State) : (opZN g rd ra rb fn f s).pending = s.pending ∧ (opZN g rd ra rb fn f s).clk = s.clk ∧ (opZN g rd ra rb fn f s).otp = s.otp := by
  simp [opZN]

@[simp] theorem opZN_wf (g : Gctx) (rd : Reg) (ra : Reg) (rb : Reg) (fn : Nat) (f : Word → Word → Word) (s : State) (h_ : Memory.wf s.mem = true) : Memory.wf (opZN g rd ra rb fn f s).mem = true := by
  simp [opZN, h_]

@[simp] theorem opZNCV_keep (g : Gctx) (rd : Reg) (ra : Reg) (rb : Reg) (fn : Nat) (f : Word → Word → Bool → AddRes) (s : State) : (opZNCV g rd ra rb fn f s).pending = s.pending ∧ (opZNCV g rd ra rb fn f s).clk = s.clk ∧ (opZNCV g rd ra rb fn f s).otp = s.otp := by
  simp [opZNCV]

@[simp] theorem opZNCV_wf (g : Gctx) (rd : Reg) (ra : Reg) (rb : Reg) (fn : Nat) (f : Word → Word → Bool → AddRes) (s : State) (h_ : Memory.wf s.mem = true) : Memory.wf (opZNCV g rd ra rb fn f s).mem = true := by
  simp [opZNCV, h_]

@[simp] theorem opImm_keep (g : Gctx) (rd : Reg) (ra : Reg) (major : Nat) (sub : Nat) (imm : Nat) (f : Word → Word) (s : State) : (opImm g rd ra major sub imm f s).pending = s.pending ∧ (opImm g rd ra major sub imm f s).clk = s.clk ∧ (opImm g rd ra major sub imm f s).otp = s.otp := by
  simp [opImm]

@[simp] theorem opImm_wf (g : Gctx) (rd : Reg) (ra : Reg) (major : Nat) (sub : Nat) (imm : Nat) (f : Word → Word) (s : State) (h_ : Memory.wf s.mem = true) : Memory.wf (opImm g rd ra major sub imm f s).mem = true := by
  simp [opImm, h_]

@[simp] theorem opField_keep (g : Gctx) (rd : Reg) (ra : Reg) (op : Nat) (wm1 : BitVec 5) (pos : BitVec 5) (f : Regs → Nat → Nat → Word) (s : State) : (opField g rd ra op wm1 pos f s).pending = s.pending ∧ (opField g rd ra op wm1 pos f s).clk = s.clk ∧ (opField g rd ra op wm1 pos f s).otp = s.otp := by
  simp [opField, apply_ite State.pending, apply_ite State.clk, apply_ite State.otp]

@[simp] theorem opField_wf (g : Gctx) (rd : Reg) (ra : Reg) (op : Nat) (wm1 : BitVec 5) (pos : BitVec 5) (f : Regs → Nat → Nat → Word) (s : State) (h_ : Memory.wf s.mem = true) : Memory.wf (opField g rd ra op wm1 pos f s).mem = true := by
  simp +contextual [opField, h_, apply_ite State.mem, apply_ite Memory.wf]

@[simp] theorem opLogic_keep (g : Gctx) (rd : Nat) (ra : Nat) (fn : Nat) (f : Regs → Regs) (s : State) : (opLogic g rd ra fn f s).pending = s.pending ∧ (opLogic g rd ra fn f s).clk = s.clk ∧ (opLogic g rd ra fn f s).otp = s.otp := by
  simp [opLogic]

@[simp] theorem opLogic_wf (g : Gctx) (rd : Nat) (ra : Nat) (fn : Nat) (f : Regs → Regs) (s : State) (h_ : Memory.wf s.mem = true) : Memory.wf (opLogic g rd ra fn f s).mem = true := by
  simp [opLogic, h_]

@[simp] theorem State.imgRead_keep (s : State) (g : Gctx) (w : Nat) (ba : Nat) (f : Regs → Word → Regs) : (State.imgRead s g w ba f).pending = s.pending ∧ (State.imgRead s g w ba f).clk = s.clk ∧ (State.imgRead s g w ba f).otp = s.otp ∧ (State.imgRead s g w ba f).mem = s.mem := by
  simp [State.imgRead, apply_ite State.pending, apply_ite State.clk, apply_ite State.otp, apply_ite State.mem]

@[simp] theorem opBitRead_keep (g : Gctx) (major : Nat) (fn : Nat) (w : BitVec 15) (n : BitVec 5) (f : Regs → Bool → Regs) (s : State) : (opBitRead g major fn w n f s).pending = s.pending ∧ (opBitRead g major fn w n f s).clk = s.clk ∧ (opBitRead g major fn w n f s).otp = s.otp := by
  simp [opBitRead]

@[simp] theorem opBitRead_wf (g : Gctx) (major : Nat) (fn : Nat) (w : BitVec 15) (n : BitVec 5) (f : Regs → Bool → Regs) (s : State) (h_ : Memory.wf s.mem = true) : Memory.wf (opBitRead g major fn w n f s).mem = true := by
  simp [opBitRead, h_]

@[simp] theorem State.stageWrite_keep (s : State) (g : Gctx) (insn : Word) (w : Nat) (ba : Nat) (m : Word) (v : Word) : (State.stageWrite s g insn w ba m v).pending = s.pending ∧ (State.stageWrite s g insn w ba m v).clk = s.clk ∧ (State.stageWrite s g insn w ba m v).otp = s.otp := by
  simp [State.stageWrite, apply_ite State.pending, apply_ite State.clk, apply_ite State.otp]

@[simp] theorem State.stageWrite_wf (s : State) (g : Gctx) (insn : Word) (w : Nat) (ba : Nat) (m : Word) (v : Word) (h_ : Memory.wf s.mem = true) : Memory.wf (State.stageWrite s g insn w ba m v).mem = true := by
  simp [State.stageWrite, h_, apply_ite State.mem, apply_ite Memory.wf]

@[simp] theorem State.stageNothing_keep (s : State) (g : Gctx) (insn : Word) (w : Nat) (ba : Nat) : (State.stageNothing s g insn w ba).pending = s.pending ∧ (State.stageNothing s g insn w ba).clk = s.clk ∧ (State.stageNothing s g insn w ba).otp = s.otp := by
  simp [State.stageNothing, apply_ite State.pending, apply_ite State.clk, apply_ite State.otp]

@[simp] theorem State.stageNothing_wf (s : State) (g : Gctx) (insn : Word) (w : Nat) (ba : Nat) (h_ : Memory.wf s.mem = true) : Memory.wf (State.stageNothing s g insn w ba).mem = true := by
  simp [State.stageNothing, h_, apply_ite State.mem, apply_ite Memory.wf]

@[simp] theorem State.ownAccess_keep (s : State) (g : Gctx) (t : Txn) : (State.ownAccess s g t).1.pending = s.pending ∧ (State.ownAccess s g t).1.clk = s.clk ∧ (State.ownAccess s g t).1.otp = s.otp := by
  unfold State.ownAccess
  dsimp only
  (repeat' split) <;> simp [*]

@[simp] theorem State.ownAccess_wf (s : State) (g : Gctx) (t : Txn) (h_ : Memory.wf s.mem = true) : Memory.wf (State.ownAccess s g t).1.mem = true := by
  unfold State.ownAccess
  dsimp only
  (repeat' split) <;> simp [*]

@[simp] theorem State.putTxn_keep (s : State) (g : Gctx) (t : Txn) : (State.putTxn s g t).pending = s.pending ∧ (State.putTxn s g t).clk = s.clk ∧ (State.putTxn s g t).otp = s.otp ∧ (State.putTxn s g t).mem = s.mem := by
  simp [State.putTxn]

@[simp] theorem State.cbAccess_keep (s : State) (g : Gctx) (insn : Word) (op : TxnOp) (a : Word) (size : BitVec 2) (x : Word) : (State.cbAccess s g insn op a size x).pending = s.pending ∧ (State.cbAccess s g insn op a size x).clk = s.clk ∧ (State.cbAccess s g insn op a size x).otp = s.otp := by
  simp [State.cbAccess, apply_ite State.pending, apply_ite State.clk, apply_ite State.otp]

@[simp] theorem State.cbAccess_wf (s : State) (g : Gctx) (insn : Word) (op : TxnOp) (a : Word) (size : BitVec 2) (x : Word) (h_ : Memory.wf s.mem = true) : Memory.wf (State.cbAccess s g insn op a size x).mem = true := by
  simp [State.cbAccess, h_, apply_ite State.mem, apply_ite Memory.wf]

@[simp] theorem State.fabricIssue_keep (s : State) (g : Gctx) (insn : Word) (op : TxnOp) (a : Word) (size : BitVec 2) (x : Word) : (State.fabricIssue s g insn op a size x).pending = s.pending ∧ (State.fabricIssue s g insn op a size x).clk = s.clk ∧ (State.fabricIssue s g insn op a size x).otp = s.otp ∧ (State.fabricIssue s g insn op a size x).mem = s.mem := by
  simp [State.fabricIssue]

@[simp] theorem State.memAccess_keep (s : State) (g : Gctx) (insn : Word) (op : TxnOp) (a : Word) (size : BitVec 2) (x : Word) : (State.memAccess s g insn op a size x).pending = s.pending ∧ (State.memAccess s g insn op a size x).clk = s.clk ∧ (State.memAccess s g insn op a size x).otp = s.otp := by
  simp [State.memAccess, apply_ite State.pending, apply_ite State.clk, apply_ite State.otp]

@[simp] theorem State.memAccess_wf (s : State) (g : Gctx) (insn : Word) (op : TxnOp) (a : Word) (size : BitVec 2) (x : Word) (h_ : Memory.wf s.mem = true) : Memory.wf (State.memAccess s g insn op a size x).mem = true := by
  simp [State.memAccess, h_, apply_ite State.mem, apply_ite Memory.wf]

@[simp] theorem opMem_keep (g : Gctx) (major : Nat) (rd : Reg) (ra : Reg) (size : BitVec 2) (off : BitVec 16) (wordOnly : Bool) (op : TxnOp) (s : State) : (opMem g major rd ra size off wordOnly op s).pending = s.pending ∧ (opMem g major rd ra size off wordOnly op s).clk = s.clk ∧ (opMem g major rd ra size off wordOnly op s).otp = s.otp := by
  simp [opMem, apply_ite State.pending, apply_ite State.clk, apply_ite State.otp]

@[simp] theorem opMem_wf (g : Gctx) (major : Nat) (rd : Reg) (ra : Reg) (size : BitVec 2) (off : BitVec 16) (wordOnly : Bool) (op : TxnOp) (s : State) (h_ : Memory.wf s.mem = true) : Memory.wf (opMem g major rd ra size off wordOnly op s).mem = true := by
  simp +contextual [opMem, h_, apply_ite State.mem, apply_ite Memory.wf]

@[simp] theorem opImmNZCV_keep (g : Gctx) (rd : Reg) (ra : Reg) (sub : Nat) (imm : Nat) (discard : Bool) (f : Word → AddRes) (s : State) : (opImmNZCV g rd ra sub imm discard f s).pending = s.pending ∧ (opImmNZCV g rd ra sub imm discard f s).clk = s.clk ∧ (opImmNZCV g rd ra sub imm discard f s).otp = s.otp := by
  simp [opImmNZCV, apply_ite State.pending, apply_ite State.clk, apply_ite State.otp]

@[simp] theorem opImmNZCV_wf (g : Gctx) (rd : Reg) (ra : Reg) (sub : Nat) (imm : Nat) (discard : Bool) (f : Word → AddRes) (s : State) (h_ : Memory.wf s.mem = true) : Memory.wf (opImmNZCV g rd ra sub imm discard f s).mem = true := by
  simp [opImmNZCV, h_, apply_ite State.mem]

@[simp] theorem opWordRead_keep (g : Gctx) (rd : Reg) (w : BitVec 15) (s : State) : (opWordRead g rd w s).pending = s.pending ∧ (opWordRead g rd w s).clk = s.clk ∧ (opWordRead g rd w s).otp = s.otp := by
  simp [opWordRead]

@[simp] theorem opWordRead_wf (g : Gctx) (rd : Reg) (w : BitVec 15) (s : State) (h_ : Memory.wf s.mem = true) : Memory.wf (opWordRead g rd w s).mem = true := by
  simp [opWordRead, h_]

@[simp] theorem opBitWrite_keep (g : Gctx) (fn : Nat) (w : BitVec 15) (n : BitVec 5) (on : Regs → Bool) (v : Regs → Word) (s : State) : (opBitWrite g fn w n on v s).pending = s.pending ∧ (opBitWrite g fn w n on v s).clk = s.clk ∧ (opBitWrite g fn w n on v s).otp = s.otp := by
  simp [opBitWrite, apply_ite State.pending, apply_ite State.clk, apply_ite State.otp]

@[simp] theorem opBitWrite_wf (g : Gctx) (fn : Nat) (w : BitVec 15) (n : BitVec 5) (on : Regs → Bool) (v : Regs → Word) (s : State) (h_ : Memory.wf s.mem = true) : Memory.wf (opBitWrite g fn w n on v s).mem = true := by
  simp +contextual [opBitWrite, h_, apply_ite State.mem, apply_ite Memory.wf]

@[simp] theorem opWordWrite_keep (g : Gctx) (rd : Reg) (w : BitVec 15) (s : State) : (opWordWrite g rd w s).pending = s.pending ∧ (opWordWrite g rd w s).clk = s.clk ∧ (opWordWrite g rd w s).otp = s.otp := by
  simp [opWordWrite]

@[simp] theorem opWordWrite_wf (g : Gctx) (rd : Reg) (w : BitVec 15) (s : State) (h_ : Memory.wf s.mem = true) : Memory.wf (opWordWrite g rd w s).mem = true := by
  simp +contextual [opWordWrite, h_]

@[simp] theorem opWordBitWrite_keep (g : Gctx) (rd : Reg) (w : BitVec 15) (n : BitVec 5) (s : State) : (opWordBitWrite g rd w n s).pending = s.pending ∧ (opWordBitWrite g rd w n s).clk = s.clk ∧ (opWordBitWrite g rd w n s).otp = s.otp := by
  simp [opWordBitWrite]

@[simp] theorem opWordBitWrite_wf (g : Gctx) (rd : Reg) (w : BitVec 15) (n : BitVec 5) (s : State) (h_ : Memory.wf s.mem = true) : Memory.wf (opWordBitWrite g rd w n s).mem = true := by
  simp +contextual [opWordBitWrite, h_]

@[simp] theorem opLdlx_keep (g : Gctx) (ra : Reg) (s : State) : (opLdlx g ra s).pending = s.pending ∧ (opLdlx g ra s).clk = s.clk ∧ (opLdlx g ra s).otp = s.otp := by
  simp [opLdlx]

@[simp] theorem opLdlx_wf (g : Gctx) (ra : Reg) (s : State) (h_ : Memory.wf s.mem = true) : Memory.wf (opLdlx g ra s).mem = true := by
  simp [opLdlx, h_]

@[simp] theorem opIrdx_keep (g : Gctx) (rd : Reg) (ra : Reg) (s : State) : (opIrdx g rd ra s).pending = s.pending ∧ (opIrdx g rd ra s).clk = s.clk ∧ (opIrdx g rd ra s).otp = s.otp := by
  simp [opIrdx]

@[simp] theorem opIrdx_wf (g : Gctx) (rd : Reg) (ra : Reg) (s : State) (h_ : Memory.wf s.mem = true) : Memory.wf (opIrdx g rd ra s).mem = true := by
  simp [opIrdx, h_]

@[simp] theorem opStlx_keep (g : Gctx) (ra : Reg) (s : State) : (opStlx g ra s).pending = s.pending ∧ (opStlx g ra s).clk = s.clk ∧ (opStlx g ra s).otp = s.otp := by
  simp [opStlx]

@[simp] theorem opStlx_wf (g : Gctx) (ra : Reg) (s : State) (h_ : Memory.wf s.mem = true) : Memory.wf (opStlx g ra s).mem = true := by
  simp +contextual [opStlx, h_]

@[simp] theorem opIwrx_keep (g : Gctx) (rd : Reg) (ra : Reg) (rb : Reg) (s : State) : (opIwrx g rd ra rb s).pending = s.pending ∧ (opIwrx g rd ra rb s).clk = s.clk ∧ (opIwrx g rd ra rb s).otp = s.otp := by
  simp [opIwrx, apply_ite State.pending, apply_ite State.clk, apply_ite State.otp]

@[simp] theorem opIwrx_wf (g : Gctx) (rd : Reg) (ra : Reg) (rb : Reg) (s : State) (h_ : Memory.wf s.mem = true) : Memory.wf (opIwrx g rd ra rb s).mem = true := by
  simp +contextual [opIwrx, h_, apply_ite State.mem, apply_ite Memory.wf]

@[simp] theorem opBranch_keep (g : Gctx) (cond : BitVec 4) (off : BitVec 22) (s : State) : (opBranch g cond off s).pending = s.pending ∧ (opBranch g cond off s).clk = s.clk ∧ (opBranch g cond off s).otp = s.otp := by
  simp [opBranch, apply_ite State.pending, apply_ite State.clk, apply_ite State.otp]

@[simp] theorem opBranch_wf (g : Gctx) (cond : BitVec 4) (off : BitVec 22) (s : State) (h_ : Memory.wf s.mem = true) : Memory.wf (opBranch g cond off s).mem = true := by
  simp [opBranch, h_, apply_ite State.mem]

@[simp] theorem State.call_keep (s : State) (g : Gctx) (insn : Word) (target : Word) : (State.call s g insn target).pending = s.pending ∧ (State.call s g insn target).clk = s.clk ∧ (State.call s g insn target).otp = s.otp := by
  simp [State.call, apply_ite State.pending, apply_ite State.clk, apply_ite State.otp]

@[simp] theorem State.call_wf (s : State) (g : Gctx) (insn : Word) (target : Word) (h_ : Memory.wf s.mem = true) : Memory.wf (State.call s g insn target).mem = true := by
  simp [State.call, h_, apply_ite State.mem, apply_ite Memory.wf]

@[simp] theorem opCall_keep (g : Gctx) (cond : BitVec 4) (off : BitVec 22) (s : State) : (opCall g cond off s).pending = s.pending ∧ (opCall g cond off s).clk = s.clk ∧ (opCall g cond off s).otp = s.otp := by
  simp [opCall, apply_ite State.pending, apply_ite State.clk, apply_ite State.otp]

@[simp] theorem opCall_wf (g : Gctx) (cond : BitVec 4) (off : BitVec 22) (s : State) (h_ : Memory.wf s.mem = true) : Memory.wf (opCall g cond off s).mem = true := by
  simp +contextual [opCall, h_, apply_ite State.mem, apply_ite Memory.wf]

@[simp] theorem opJr_keep (g : Gctx) (ra : Reg) (s : State) : (opJr g ra s).pending = s.pending ∧ (opJr g ra s).clk = s.clk ∧ (opJr g ra s).otp = s.otp := by
  simp [opJr]

@[simp] theorem opJr_wf (g : Gctx) (ra : Reg) (s : State) (h_ : Memory.wf s.mem = true) : Memory.wf (opJr g ra s).mem = true := by
  simp [opJr, h_]

@[simp] theorem opCallr_keep (g : Gctx) (ra : Reg) (s : State) : (opCallr g ra s).pending = s.pending ∧ (opCallr g ra s).clk = s.clk ∧ (opCallr g ra s).otp = s.otp := by
  simp [opCallr]

@[simp] theorem opCallr_wf (g : Gctx) (ra : Reg) (s : State) (h_ : Memory.wf s.mem = true) : Memory.wf (opCallr g ra s).mem = true := by
  simp +contextual [opCallr, h_]

@[simp] theorem opRet_keep (g : Gctx) (s : State) : (opRet g s).pending = s.pending ∧ (opRet g s).clk = s.clk ∧ (opRet g s).otp = s.otp := by
  refine ⟨State.run_pending _ _ _ _ fun s => ?_, State.run_clk _ _ _ _ fun s => ?_, State.run_otp _ _ _ _ fun s => ?_⟩ <;> split <;> simp

@[simp] theorem opRet_wf (g : Gctx) (s : State) (h_ : Memory.wf s.mem = true) : Memory.wf (opRet g s).mem = true := by
  refine State.run_wf _ _ _ _ (fun s h => ?_) h_
  split <;> simp [h]

@[simp] theorem State.modProg_keep (s : State) (f : Prog → Prog) : (State.modProg s f).pending = s.pending ∧ (State.modProg s f).clk = s.clk ∧ (State.modProg s f).otp = s.otp ∧ (State.modProg s f).mem = s.mem := by
  simp [State.modProg]

@[simp] theorem State.modEdit_keep (s : State) (f : Edit → Edit) : (State.modEdit s f).pending = s.pending ∧ (State.modEdit s f).clk = s.clk ∧ (State.modEdit s f).otp = s.otp ∧ (State.modEdit s f).mem = s.mem := by
  simp [State.modEdit]

@[simp] theorem State.readObj_keep (s : State) (o : AppObj) : (State.readObj s o).pending = s.pending ∧ (State.readObj s o).clk = s.clk ∧ (State.readObj s o).otp = s.otp ∧ (State.readObj s o).mem = s.mem := by
  simp [State.readObj]

@[simp] theorem State.storeObj_keep (s : State) (o : AppObj) (v : List Byte) : (State.storeObj s o v).pending = s.pending ∧ (State.storeObj s o v).clk = s.clk ∧ (State.storeObj s o v).otp = s.otp := by
  simp [State.storeObj]

@[simp] theorem State.storeObj_wf (s : State) (o : AppObj) (v : List Byte) (h_ : Memory.wf s.mem = true) : Memory.wf (State.storeObj s o v).mem = true := by
  simp [State.storeObj, h_]

@[simp] theorem State.takeObjs_keep (s : State) (old : List AppObj) (new_ : List AppObj) (keep : Bool) : (State.takeObjs s old new_ keep).pending = s.pending ∧ (State.takeObjs s old new_ keep).clk = s.clk ∧ (State.takeObjs s old new_ keep).otp = s.otp := by
  simp [State.takeObjs, apply_ite State.pending, apply_ite State.clk, apply_ite State.otp]

@[simp] theorem State.takeObjs_wf (s : State) (old : List AppObj) (new_ : List AppObj) (keep : Bool) (h_ : Memory.wf s.mem = true) : Memory.wf (State.takeObjs s old new_ keep).mem = true := by
  simp +contextual [State.takeObjs, h_, apply_ite State.mem]

@[simp] theorem State.refuseProg_keep (s : State) (kind : Nat) (x : ChkFail) : (State.refuseProg s kind x).1.pending = s.pending ∧ (State.refuseProg s kind x).1.clk = s.clk ∧ (State.refuseProg s kind x).1.otp = s.otp ∧ (State.refuseProg s kind x).1.mem = s.mem := by
  simp [State.refuseProg, apply_ite State.pending, apply_ite State.clk, apply_ite State.otp, apply_ite State.mem]

@[simp] theorem State.refuseAdm_keep (s : State) (kind : Nat) (x : AdmFail) : (State.refuseAdm s kind x).1.pending = s.pending ∧ (State.refuseAdm s kind x).1.clk = s.clk ∧ (State.refuseAdm s kind x).1.otp = s.otp ∧ (State.refuseAdm s kind x).1.mem = s.mem := by
  simp [State.refuseAdm]

@[simp] theorem State.checkEdits_keep (s : State) (v : Ver) (n : Nat) (l : List (List Byte)) : (s.checkEdits v n l).1.pending = s.pending ∧ (s.checkEdits v n l).1.clk = s.clk ∧ (s.checkEdits v n l).1.otp = s.otp ∧ (s.checkEdits v n l).1.mem = s.mem := by
  induction l generalizing s v n with
  | nil => simp [State.checkEdits]
  | cons a r ih =>
    unfold State.checkEdits
    split
    · simp
    · dsimp only
      split <;> simp [ih]

@[simp] theorem State.checkSlot_keep (s : State) (slot : Nat) : (State.checkSlot s slot).1.pending = s.pending ∧ (State.checkSlot s slot).1.clk = s.clk ∧ (State.checkSlot s slot).1.otp = s.otp ∧ (State.checkSlot s slot).1.mem = s.mem := by
  unfold State.checkSlot
  dsimp only
  (repeat' split) <;> simp [*]

@[simp] theorem State.putBlocks_keep (s : State) (l : List (Nat × List Byte)) : (State.putBlocks s l).pending = s.pending ∧ (State.putBlocks s l).clk = s.clk ∧ (State.putBlocks s l).otp = s.otp := by
  simp [State.putBlocks]

@[simp] theorem State.putBlocks_wf (s : State) (l : List (Nat × List Byte)) (h_ : Memory.wf s.mem = true) : Memory.wf (State.putBlocks s l).mem = true := by
  simp +contextual [State.putBlocks, h_]

@[simp] theorem State.nvPut_keep (s : State) (off : Nat) (l : List Word) :
    (s.nvPut off l).pending = s.pending ∧ (s.nvPut off l).clk = s.clk ∧ (s.nvPut off l).otp = s.otp := by
  induction l generalizing s off with
  | nil => simp [State.nvPut]
  | cons a r ih => simp [State.nvPut, ih]

@[simp] theorem State.nvPut_wf (s : State) (off : Nat) (l : List Word) (h_ : Memory.wf s.mem = true) : Memory.wf (s.nvPut off l).mem = true := by
  induction l generalizing s off with
  | nil => simpa [State.nvPut]
  | cons a r ih => exact ih _ _ (by simp [h_])

@[simp] theorem State.raiseProg_keep (s : State) (n : Nat) : (State.raiseProg s n).pending = s.pending ∧ (State.raiseProg s n).clk = s.clk ∧ (State.raiseProg s n).mem = s.mem := by
  simp [State.raiseProg, apply_ite State.pending, apply_ite State.clk, apply_ite State.mem]

@[simp] theorem State.raiseProg_bit (s : State) (n : Nat) (i_ : Nat) (h_ : s.otp.getLsbD i_ = true) : (State.raiseProg s n).otp.getLsbD i_ = true := by
  unfold State.raiseProg
  dsimp only
  (repeat' split) <;> simp [*]

@[simp] theorem State.cancelEdit_keep (s : State) (cause : Nat) : (State.cancelEdit s cause).pending = s.pending ∧ (State.cancelEdit s cause).clk = s.clk ∧ (State.cancelEdit s cause).otp = s.otp ∧ (State.cancelEdit s cause).mem = s.mem := by
  simp [State.cancelEdit, apply_ite State.pending, apply_ite State.clk, apply_ite State.otp, apply_ite State.mem]

@[simp] theorem State.powerFor_keep (s : State) (tasks : List (Nat × Task)) : (State.powerFor s tasks).pending = s.pending ∧ (State.powerFor s tasks).clk = s.clk ∧ (State.powerFor s tasks).otp = s.otp ∧ (State.powerFor s tasks).mem = s.mem := by
  simp [State.powerFor]

@[simp] theorem State.recCleared_keep (s : State) : (State.recCleared s).pending = s.pending ∧ (State.recCleared s).clk = s.clk ∧ (State.recCleared s).otp = s.otp ∧ (State.recCleared s).mem = s.mem := by
  simp [State.recCleared, apply_ite State.pending, apply_ite State.clk, apply_ite State.otp, apply_ite State.mem]

@[simp] theorem State.putVer_keep (s : State) (v : Ver) (slot : Nat) (roll : Nat) (startup : Bool) : (State.putVer s v slot roll startup).pending = s.pending ∧ (State.putVer s v slot roll startup).clk = s.clk := by
  simp [State.putVer, apply_ite State.pending, apply_ite State.clk, apply_ite State.otp, apply_ite State.mem]

@[simp] theorem State.putVer_bit (s : State) (v : Ver) (slot : Nat) (roll : Nat) (startup : Bool) (i_ : Nat) (h_ : s.otp.getLsbD i_ = true) : (State.putVer s v slot roll startup).otp.getLsbD i_ = true := by
  simp [State.putVer, h_, apply_ite State.otp]

@[simp] theorem State.putVer_wf (s : State) (v : Ver) (slot : Nat) (roll : Nat) (startup : Bool) (h_ : Memory.wf s.mem = true) : Memory.wf (State.putVer s v slot roll startup).mem = true := by
  simp [State.putVer, h_, apply_ite State.mem, apply_ite Memory.wf]

@[simp] theorem State.loadBroken_keep (s : State) (v : Ver) (n : Nat) : (State.loadBroken s v n).pending = s.pending ∧ (State.loadBroken s v n).clk = s.clk ∧ (State.loadBroken s v n).otp = s.otp := by
  simp [State.loadBroken, apply_ite State.pending, apply_ite State.clk, apply_ite State.otp]

@[simp] theorem State.loadBroken_wf (s : State) (v : Ver) (n : Nat) (h_ : Memory.wf s.mem = true) : Memory.wf (State.loadBroken s v n).mem = true := by
  simp [State.loadBroken, h_, apply_ite State.mem]

@[simp] theorem State.loadSlot_keep (s : State) (slot : Nat) (startup : Bool) : (State.loadSlot s slot startup).1.pending = s.pending ∧ (State.loadSlot s slot startup).1.clk = s.clk := by
  unfold State.loadSlot
  dsimp only
  (repeat' split) <;> simp [*]

@[simp] theorem State.loadSlot_bit (s : State) (slot : Nat) (startup : Bool) (i_ : Nat) (h_ : s.otp.getLsbD i_ = true) : (State.loadSlot s slot startup).1.otp.getLsbD i_ = true := by
  unfold State.loadSlot
  dsimp only
  (repeat' split) <;> simp [*]

@[simp] theorem State.loadSlot_wf (s : State) (slot : Nat) (startup : Bool) (h_ : Memory.wf s.mem = true) : Memory.wf (State.loadSlot s slot startup).1.mem = true := by
  unfold State.loadSlot
  dsimp only
  (repeat' split) <;> simp [*]

@[simp] theorem State.loadReq_keep (s : State) (slot : Nat) : (State.loadReq s slot).1.pending = s.pending ∧ (State.loadReq s slot).1.clk = s.clk := by
  unfold State.loadReq
  (repeat' split) <;> simp

@[simp] theorem State.loadReq_bit (s : State) (slot : Nat) (i_ : Nat) (h_ : s.otp.getLsbD i_ = true) : (State.loadReq s slot).1.otp.getLsbD i_ = true := by
  unfold State.loadReq
  (repeat' split) <;> simp [h_]

@[simp] theorem State.loadReq_wf (s : State) (slot : Nat) (h_ : Memory.wf s.mem = true) : Memory.wf (State.loadReq s slot).1.mem = true := by
  unfold State.loadReq
  (repeat' split) <;> simp [h_]

@[simp] theorem State.checkEdit_keep (s : State) (c : List Byte) (req : Option Req) : (State.checkEdit s c req).1.pending = s.pending ∧ (State.checkEdit s c req).1.clk = s.clk ∧ (State.checkEdit s c req).1.otp = s.otp ∧ (State.checkEdit s c req).1.mem = s.mem := by
  unfold State.checkEdit
  dsimp only
  (repeat' split) <;> simp [*]

@[simp] theorem State.applyEdit_keep (s : State) (r : Req) : (State.applyEdit s r).1.pending = s.pending ∧ (State.applyEdit s r).1.clk = s.clk ∧ (State.applyEdit s r).1.otp = s.otp ∧ (State.applyEdit s r).1.mem = s.mem := by
  unfold State.applyEdit
  dsimp only
  (repeat' split) <;> simp [*]

@[simp] theorem State.armEdit_keep (s : State) (ts : Nat) : (State.armEdit s ts).pending = s.pending ∧ (State.armEdit s ts).clk = s.clk ∧ (State.armEdit s ts).otp = s.otp := by
  simp [State.armEdit]

@[simp] theorem State.armEdit_wf (s : State) (ts : Nat) (h_ : Memory.wf s.mem = true) : Memory.wf (State.armEdit s ts).mem = true := by
  simp [State.armEdit, h_]

@[simp] theorem State.switchAll_keep (s : State) (l : List (Nat × Option Task)) (ts : Word64) : (State.switchAll s l ts).pending = s.pending ∧ (State.switchAll s l ts).clk = s.clk ∧ (State.switchAll s l ts).otp = s.otp ∧ (State.switchAll s l ts).mem = s.mem := by
  simp [State.switchAll, apply_ite State.pending, apply_ite State.clk, apply_ite State.otp, apply_ite State.mem, apply_dite State.mem, apply_dite State.pending, apply_dite State.clk, apply_dite State.otp]

@[simp] theorem State.putRetained_keep (s : State) (half : Bool) (ws : List (Nat × Nat × Word)) : (State.putRetained s half ws).pending = s.pending ∧ (State.putRetained s half ws).clk = s.clk ∧ (State.putRetained s half ws).otp = s.otp := by
  simp [State.putRetained]

@[simp] theorem State.putRetained_wf (s : State) (half : Bool) (ws : List (Nat × Nat × Word)) (h_ : Memory.wf s.mem = true) : Memory.wf (State.putRetained s half ws).mem = true := by
  simp [State.putRetained, h_]

@[simp] theorem State.switchEdit_keep (s : State) : (State.switchEdit s).pending = s.pending ∧ (State.switchEdit s).clk = s.clk ∧ (State.switchEdit s).otp = s.otp := by
  simp [State.switchEdit, apply_ite State.pending, apply_ite State.clk, apply_ite State.otp]

@[simp] theorem State.switchEdit_wf (s : State) (h_ : Memory.wf s.mem = true) : Memory.wf s.switchEdit.mem = true := by
  unfold State.switchEdit
  dsimp only
  simp only [State.rec__keep, State.modEdit_keep, State.modProg_keep]
  apply State.takeObjs_wf
  split
  · exact foldl_wf _ (fun s g h => by simp [h]) _ _ (by simp [h_])
  · simp [h_]

@[simp] theorem State.migrateNow_keep (s : State) (g : Gctx) : (State.migrateNow s g).pending = s.pending ∧ (State.migrateNow s g).clk = s.clk ∧ (State.migrateNow s g).otp = s.otp := by
  simp [State.migrateNow]

@[simp] theorem State.migrateNow_wf (s : State) (g : Gctx) (h_ : Memory.wf s.mem = true) : Memory.wf (State.migrateNow s g).mem = true := by
  simp [State.migrateNow, h_]

@[simp] theorem State.migrateLeft_keep (s : State) (l : Leave) (g : Gctx) : (State.migrateLeft s l g).pending = s.pending ∧ (State.migrateLeft s l g).clk = s.clk ∧ (State.migrateLeft s l g).otp = s.otp := by
  simp [State.migrateLeft]

@[simp] theorem State.migrateLeft_wf (s : State) (l : Leave) (g : Gctx) (h_ : Memory.wf s.mem = true) : Memory.wf (State.migrateLeft s l g).mem = true := by
  simp [State.migrateLeft, h_]

@[simp] theorem State.migrate_keep (s : State) (g : Gctx) : (State.migrate s g).pending = s.pending ∧ (State.migrate s g).clk = s.clk ∧ (State.migrate s g).otp = s.otp := by
  unfold State.migrate
  dsimp only
  (repeat' split) <;> simp [*]

@[simp] theorem State.migrate_wf (s : State) (g : Gctx) (h_ : Memory.wf s.mem = true) : Memory.wf (State.migrate s g).mem = true := by
  unfold State.migrate
  dsimp only
  (repeat' split) <;> simp [*]

@[simp] theorem State.leaveVer_keep (s : State) (new_ : Bool) (l : Leave) : (State.leaveVer s new_ l).pending = s.pending ∧ (State.leaveVer s new_ l).clk = s.clk ∧ (State.leaveVer s new_ l).otp = s.otp ∧ (State.leaveVer s new_ l).mem = s.mem := by
  simp [State.leaveVer]

@[simp] theorem State.acceptEdit_keep (s : State) (cause : Nat) : (State.acceptEdit s cause).pending = s.pending ∧ (State.acceptEdit s cause).clk = s.clk ∧ (State.acceptEdit s cause).mem = s.mem := by
  simp [State.acceptEdit]

@[simp] theorem State.acceptEdit_bit (s : State) (cause : Nat) (i_ : Nat) (h_ : s.otp.getLsbD i_ = true) : (State.acceptEdit s cause).otp.getLsbD i_ = true := by
  simp [State.acceptEdit, h_]

@[simp] theorem State.revertEdit_keep (s : State) : (State.revertEdit s).1.pending = s.pending ∧ (State.revertEdit s).1.clk = s.clk ∧ (State.revertEdit s).1.otp = s.otp ∧ (State.revertEdit s).1.mem = s.mem := by
  unfold State.revertEdit
  (repeat' split) <;> simp

@[simp] theorem State.migrateReleased_keep (s : State) : (State.migrateReleased s).pending = s.pending ∧ (State.migrateReleased s).clk = s.clk ∧ (State.migrateReleased s).otp = s.otp := by
  simp [State.migrateReleased, apply_ite State.pending, apply_ite State.clk, apply_ite State.otp]

@[simp] theorem State.migrateReleased_wf (s : State) (h_ : Memory.wf s.mem = true) : Memory.wf (State.migrateReleased s).mem = true := by
  simp +contextual [State.migrateReleased, h_, apply_ite State.mem, apply_ite Memory.wf]

@[simp] theorem State.revertSwitch_keep (s : State) : (State.revertSwitch s).pending = s.pending ∧ (State.revertSwitch s).clk = s.clk ∧ (State.revertSwitch s).otp = s.otp := by
  simp [State.revertSwitch]

@[simp] theorem State.revertSwitch_wf (s : State) (h_ : Memory.wf s.mem = true) : Memory.wf (State.revertSwitch s).mem = true := by
  simp [State.revertSwitch, h_]

@[simp] theorem State.editCmd_keep (s : State) (cmd : Nat) : (State.editCmd s cmd).1.pending = s.pending ∧ (State.editCmd s cmd).1.clk = s.clk ∧ (State.editCmd s cmd).1.mem = s.mem := by
  unfold State.editCmd
  dsimp only
  (repeat' split) <;> simp [*]

@[simp] theorem State.editCmd_bit (s : State) (cmd : Nat) (i_ : Nat) (h_ : s.otp.getLsbD i_ = true) : (State.editCmd s cmd).1.otp.getLsbD i_ = true := by
  unfold State.editCmd
  dsimp only
  (repeat' split) <;> simp [*]

@[simp] theorem State.modRcd_keep (s : State) (f : Rcd → Rcd) : (State.modRcd s f).pending = s.pending ∧ (State.modRcd s f).clk = s.clk ∧ (State.modRcd s f).otp = s.otp ∧ (State.modRcd s f).mem = s.mem := by
  simp [State.modRcd]

@[simp] theorem State.programRec_keep (s : State) (r : Rec) (i : Nat) : (State.programRec s r i).pending = s.pending ∧ (State.programRec s r i).clk = s.clk ∧ (State.programRec s r i).otp = s.otp := by
  simp [State.programRec]

@[simp] theorem State.programRec_wf (s : State) (r : Rec) (i : Nat) (h_ : Memory.wf s.mem = true) : Memory.wf (State.programRec s r i).mem = true := by
  simp [State.programRec, h_]

@[simp] theorem State.writeRec_keep (s : State) (r : Rec) : (State.writeRec s r).pending = s.pending ∧ (State.writeRec s r).clk = s.clk ∧ (State.writeRec s r).otp = s.otp := by
  simp [State.writeRec]

@[simp] theorem State.writeRec_wf (s : State) (r : Rec) (h_ : Memory.wf s.mem = true) : Memory.wf (State.writeRec s r).mem = true := by
  simp [State.writeRec, h_]

@[simp] theorem State.recLost_keep (s : State) : (State.recLost s).pending = s.pending ∧ (State.recLost s).clk = s.clk ∧ (State.recLost s).otp = s.otp ∧ (State.recLost s).mem = s.mem := by
  simp [State.recLost, apply_ite State.pending, apply_ite State.clk, apply_ite State.otp, apply_ite State.mem]

@[simp] theorem opRecordWrite_keep (s : State) : (opRecordWrite s).pending = s.pending ∧ (opRecordWrite s).clk = s.clk ∧ (opRecordWrite s).otp = s.otp := by
  unfold opRecordWrite
  (repeat' split) <;> simp

@[simp] theorem opRecordWrite_wf (s : State) (h_ : Memory.wf s.mem = true) : Memory.wf (opRecordWrite s).mem = true := by
  unfold opRecordWrite
  (repeat' split) <;> simp [h_]

@[simp] theorem State.flushRecs_keep (s : State) : (State.flushRecs s).pending = s.pending ∧ (State.flushRecs s).clk = s.clk ∧ (State.flushRecs s).otp = s.otp := by
  simp [State.flushRecs, apply_ite State.pending, apply_ite State.clk, apply_ite State.otp]

@[simp] theorem State.flushRecs_wf (s : State) (h_ : Memory.wf s.mem = true) : Memory.wf (State.flushRecs s).mem = true := by
  simp +contextual [State.flushRecs, h_, apply_ite State.mem, apply_ite Memory.wf]

@[simp] theorem State.recPending_keep (s : State) (code : Nat) : (State.recPending s code).pending = s.pending ∧ (State.recPending s code).clk = s.clk ∧ (State.recPending s code).otp = s.otp ∧ (State.recPending s code).mem = s.mem := by
  simp [State.recPending, apply_ite State.pending, apply_ite State.clk, apply_ite State.otp, apply_ite State.mem]

@[simp] theorem State.recAllPending_keep (s : State) : (State.recAllPending s).pending = s.pending ∧ (State.recAllPending s).clk = s.clk ∧ (State.recAllPending s).otp = s.otp := by
  simp [State.recAllPending]

@[simp] theorem State.recAllPending_wf (s : State) (h_ : Memory.wf s.mem = true) : Memory.wf (State.recAllPending s).mem = true := by
  simp +contextual [State.recAllPending, h_]

@[simp] theorem opTokenRefill_keep (code : Nat) (s : State) : (opTokenRefill code s).pending = s.pending ∧ (opTokenRefill code s).clk = s.clk ∧ (opTokenRefill code s).otp = s.otp ∧ (opTokenRefill code s).mem = s.mem := by
  simp [opTokenRefill]

@[simp] theorem State.checkSlots_keep (s : State) : (State.checkSlots s).pending = s.pending ∧ (State.checkSlots s).clk = s.clk ∧ (State.checkSlots s).otp = s.otp ∧ (State.checkSlots s).mem = s.mem := by
  simp [State.checkSlots]

@[simp] theorem State.startRecorder_keep (s : State) : (State.startRecorder s).pending = s.pending ∧ (State.startRecorder s).clk = s.clk ∧ (State.startRecorder s).otp = s.otp := by
  simp [State.startRecorder]

@[simp] theorem State.startRecorder_wf (s : State) (h_ : Memory.wf s.mem = true) : Memory.wf s.startRecorder.mem = true := by
  unfold State.startRecorder
  dsimp only
  simp only [State.modRcd_keep]
  exact State.writeRec_wf _ _ (foldl_wf _ (fun s a h => State.programRec_wf _ _ _ h) _ _ (by simp [h_]))

@[simp] theorem State.closeWhere_keep (s : State) (p : Session → Bool) (cause : Nat) : (State.closeWhere s p cause).pending = s.pending ∧ (State.closeWhere s p cause).clk = s.clk ∧ (State.closeWhere s p cause).otp = s.otp ∧ (State.closeWhere s p cause).mem = s.mem := by
  simp [State.closeWhere]

@[simp] theorem State.closeAll_keep (s : State) (cause : Nat) : (State.closeAll s cause).pending = s.pending ∧ (State.closeAll s cause).clk = s.clk ∧ (State.closeAll s cause).otp = s.otp ∧ (State.closeAll s cause).mem = s.mem := by
  simp [State.closeAll]

@[simp] theorem State.dropIntlk_keep (s : State) : (State.dropIntlk s).pending = s.pending ∧ (State.dropIntlk s).clk = s.clk ∧ (State.dropIntlk s).otp = s.otp := by
  simp [State.dropIntlk, apply_ite State.pending, apply_ite State.clk, apply_ite State.otp]

@[simp] theorem State.dropIntlk_wf (s : State) (h_ : Memory.wf s.mem = true) : Memory.wf (State.dropIntlk s).mem = true := by
  simp [State.dropIntlk, h_, apply_ite State.mem, apply_ite Memory.wf]

@[simp] theorem State.giveUp_keep (s : State) : (State.giveUp s).pending = s.pending ∧ (State.giveUp s).clk = s.clk ∧ (State.giveUp s).otp = s.otp := by
  simp [State.giveUp]

@[simp] theorem State.giveUp_wf (s : State) (h_ : Memory.wf s.mem = true) : Memory.wf (State.giveUp s).mem = true := by
  simp [State.giveUp, h_]

@[simp] theorem State.failover_keep (s : State) : (State.failover s).pending = s.pending ∧ (State.failover s).clk = s.clk ∧ (State.failover s).otp = s.otp := by
  simp [State.failover, apply_ite State.pending, apply_ite State.clk, apply_ite State.otp]

@[simp] theorem State.failover_wf (s : State) (h_ : Memory.wf s.mem = true) : Memory.wf (State.failover s).mem = true := by
  simp [State.failover, h_, apply_ite State.mem, apply_ite Memory.wf]

@[simp] theorem State.endInjections_keep (s : State) : (State.endInjections s).pending = s.pending ∧ (State.endInjections s).clk = s.clk ∧ (State.endInjections s).otp = s.otp ∧ (State.endInjections s).mem = s.mem := by
  simp [State.endInjections]

@[simp] theorem State.keyRun_keep (s : State) : (State.keyRun s).pending = s.pending ∧ (State.keyRun s).clk = s.clk ∧ (State.keyRun s).otp = s.otp ∧ (State.keyRun s).mem = s.mem := by
  simp [State.keyRun]

@[simp] theorem State.notRun_keep (s : State) : (State.notRun s).pending = s.pending ∧ (State.notRun s).clk = s.clk ∧ (State.notRun s).otp = s.otp ∧ (State.notRun s).mem = s.mem := by
  simp [State.notRun, apply_ite State.pending, apply_ite State.clk, apply_ite State.otp, apply_ite State.mem]

@[simp] theorem State.settle_keep (s0 s : State) : (s0.settle s).pending = s.pending ∧ (s0.settle s).clk = s.clk ∧ (s0.settle s).otp = s.otp := by
  simp [State.settle]

@[simp] theorem State.settle_wf (s0 s : State) (h_ : Memory.wf s.mem = true) : Memory.wf (s0.settle s).mem = true := by
  simp +contextual [State.settle, h_]

@[simp] theorem settled_pending (f : State → State) (s : State) (hf : ∀ s, (f s).pending = s.pending) : (settled f s).pending = s.pending := by
  simp [settled, hf]

@[simp] theorem settled_clk (f : State → State) (s : State) (hf : ∀ s, (f s).clk = s.clk) : (settled f s).clk = s.clk := by
  simp [settled, hf]

@[simp] theorem settled_otp (f : State → State) (s : State) (hf : ∀ s, (f s).otp = s.otp) : (settled f s).otp = s.otp := by
  simp [settled, hf]

@[simp] theorem settled_wf (f : State → State) (s : State) (h_ : Memory.wf (f s).mem = true) : Memory.wf (settled f s).mem = true := by
  simp [settled, h_]

@[simp] theorem settled_bit (f : State → State) (s : State) (i_ : Nat) (h_ : (f s).otp.getLsbD i_ = true) : (settled f s).otp.getLsbD i_ = true := by
  simpa [settled] using h_

@[simp] theorem settledInsn_pending (f : State → State) (s : State) (hf : ∀ s, (f s).pending = s.pending) : (settledInsn f s).pending = s.pending := by
  unfold settledInsn; split <;> simp [hf]

@[simp] theorem settledInsn_clk (f : State → State) (s : State) (hf : ∀ s, (f s).clk = s.clk) : (settledInsn f s).clk = s.clk := by
  unfold settledInsn; split <;> simp [hf]

@[simp] theorem settledInsn_otp (f : State → State) (s : State) (hf : ∀ s, (f s).otp = s.otp) : (settledInsn f s).otp = s.otp := by
  unfold settledInsn; split <;> simp [hf]

@[simp] theorem settledInsn_wf (f : State → State) (s : State) (h_ : Memory.wf (f s).mem = true) : Memory.wf (settledInsn f s).mem = true := by
  unfold settledInsn; split <;> simp [h_]

@[simp] theorem settledInsn_bit (f : State → State) (s : State) (i_ : Nat) (h_ : (f s).otp.getLsbD i_ = true) : (settledInsn f s).otp.getLsbD i_ = true := by
  unfold settledInsn; split <;> simpa using h_

end Sys2Proof.Machine
end

