-- ==== Sys2Proof/Laws/State.lean ====
section
/-! SUPPORT. The state after each of its updates, field by field. -/

namespace Sys2Proof.Machine

open Sys2Proof

/-! ### `State.modCx` -/

@[simp] theorem State.modCx_pending (s : State) (g : Gctx) (f : Ctx → Ctx) : (s.modCx g f).pending = s.pending := rfl
@[simp] theorem State.modCx_clk (s : State) (g : Gctx) (f : Ctx → Ctx) : (s.modCx g f).clk = s.clk := rfl
@[simp] theorem State.modCx_freeCtr (s : State) (g : Gctx) (f : Ctx → Ctx) : (s.modCx g f).freeCtr = s.freeCtr := rfl
@[simp] theorem State.modCx_mem (s : State) (g : Gctx) (f : Ctx → Ctx) : (s.modCx g f).mem = s.mem := rfl
@[simp] theorem State.modCx_errs (s : State) (g : Gctx) (f : Ctx → Ctx) : (s.modCx g f).errs = s.errs := rfl
@[simp] theorem State.modCx_bank (s : State) (g : Gctx) (f : Ctx → Ctx) : (s.modCx g f).bank = s.bank := rfl
@[simp] theorem State.modCx_bus (s : State) (g : Gctx) (f : Ctx → Ctx) : (s.modCx g f).bus = s.bus := rfl
@[simp] theorem State.modCx_nv (s : State) (g : Gctx) (f : Ctx → Ctx) : (s.modCx g f).nv = s.nv := rfl
@[simp] theorem State.modCx_ctx (s : State) (g : Gctx) (f : Ctx → Ctx) : (s.modCx g f).ctx = s.ctx.set g (f s.ctx[g]) := rfl
@[simp] theorem State.modCx_core (s : State) (g : Gctx) (f : Ctx → Ctx) : (s.modCx g f).core = s.core := rfl
@[simp] theorem State.modCx_op (s : State) (g : Gctx) (f : Ctx → Ctx) : (s.modCx g f).op = s.op := rfl
@[simp] theorem State.modCx_img (s : State) (g : Gctx) (f : Ctx → Ctx) : (s.modCx g f).img = s.img := rfl
@[simp] theorem State.modCx_evCount (s : State) (g : Gctx) (f : Ctx → Ctx) : (s.modCx g f).evCount = s.evCount := rfl
@[simp] theorem State.modCx_pair (s : State) (g : Gctx) (f : Ctx → Ctx) : (s.modCx g f).pair = s.pair := rfl
@[simp] theorem State.modCx_prog (s : State) (g : Gctx) (f : Ctx → Ctx) : (s.modCx g f).prog = s.prog := rfl
@[simp] theorem State.modCx_dict (s : State) (g : Gctx) (f : Ctx → Ctx) : (s.modCx g f).dict = s.dict := rfl
@[simp] theorem State.modCx_time (s : State) (g : Gctx) (f : Ctx → Ctx) : (s.modCx g f).time = s.time := rfl
@[simp] theorem State.modCx_rcd (s : State) (g : Gctx) (f : Ctx → Ctx) : (s.modCx g f).rcd = s.rcd := rfl
@[simp] theorem State.modCx_inj (s : State) (g : Gctx) (f : Ctx → Ctx) : (s.modCx g f).inj = s.inj := rfl
@[simp] theorem State.modCx_sup (s : State) (g : Gctx) (f : Ctx → Ctx) : (s.modCx g f).sup = s.sup := rfl
@[simp] theorem State.modCx_pwr (s : State) (g : Gctx) (f : Ctx → Ctx) : (s.modCx g f).pwr = s.pwr := rfl
@[simp] theorem State.modCx_fld (s : State) (g : Gctx) (f : Ctx → Ctx) : (s.modCx g f).fld = s.fld := rfl
@[simp] theorem State.modCx_nrg (s : State) (g : Gctx) (f : Ctx → Ctx) : (s.modCx g f).nrg = s.nrg := rfl
@[simp] theorem State.modCx_net (s : State) (g : Gctx) (f : Ctx → Ctx) : (s.modCx g f).net = s.net := rfl
@[simp] theorem State.modCx_can (s : State) (g : Gctx) (f : Ctx → Ctx) : (s.modCx g f).can = s.can := rfl
@[simp] theorem State.modCx_hier (s : State) (g : Gctx) (f : Ctx → Ctx) : (s.modCx g f).hier = s.hier := rfl
@[simp] theorem State.modCx_tdm (s : State) (g : Gctx) (f : Ctx → Ctx) : (s.modCx g f).tdm = s.tdm := rfl
@[simp] theorem State.modCx_otp (s : State) (g : Gctx) (f : Ctx → Ctx) : (s.modCx g f).otp = s.otp := rfl
@[simp] theorem State.modCx_sec (s : State) (g : Gctx) (f : Ctx → Ctx) : (s.modCx g f).sec = s.sec := rfl

/-! ### `State.modCore` -/

@[simp] theorem State.modCore_pending (s : State) (n : CoreId) (f : Core → Core) : (s.modCore n f).pending = s.pending := rfl
@[simp] theorem State.modCore_clk (s : State) (n : CoreId) (f : Core → Core) : (s.modCore n f).clk = s.clk := rfl
@[simp] theorem State.modCore_freeCtr (s : State) (n : CoreId) (f : Core → Core) : (s.modCore n f).freeCtr = s.freeCtr := rfl
@[simp] theorem State.modCore_mem (s : State) (n : CoreId) (f : Core → Core) : (s.modCore n f).mem = s.mem := rfl
@[simp] theorem State.modCore_errs (s : State) (n : CoreId) (f : Core → Core) : (s.modCore n f).errs = s.errs := rfl
@[simp] theorem State.modCore_bank (s : State) (n : CoreId) (f : Core → Core) : (s.modCore n f).bank = s.bank := rfl
@[simp] theorem State.modCore_bus (s : State) (n : CoreId) (f : Core → Core) : (s.modCore n f).bus = s.bus := rfl
@[simp] theorem State.modCore_nv (s : State) (n : CoreId) (f : Core → Core) : (s.modCore n f).nv = s.nv := rfl
@[simp] theorem State.modCore_ctx (s : State) (n : CoreId) (f : Core → Core) : (s.modCore n f).ctx = s.ctx := rfl
@[simp] theorem State.modCore_core (s : State) (n : CoreId) (f : Core → Core) : (s.modCore n f).core = s.core.set n (f s.core[n]) := rfl
@[simp] theorem State.modCore_op (s : State) (n : CoreId) (f : Core → Core) : (s.modCore n f).op = s.op := rfl
@[simp] theorem State.modCore_img (s : State) (n : CoreId) (f : Core → Core) : (s.modCore n f).img = s.img := rfl
@[simp] theorem State.modCore_evCount (s : State) (n : CoreId) (f : Core → Core) : (s.modCore n f).evCount = s.evCount := rfl
@[simp] theorem State.modCore_pair (s : State) (n : CoreId) (f : Core → Core) : (s.modCore n f).pair = s.pair := rfl
@[simp] theorem State.modCore_prog (s : State) (n : CoreId) (f : Core → Core) : (s.modCore n f).prog = s.prog := rfl
@[simp] theorem State.modCore_dict (s : State) (n : CoreId) (f : Core → Core) : (s.modCore n f).dict = s.dict := rfl
@[simp] theorem State.modCore_time (s : State) (n : CoreId) (f : Core → Core) : (s.modCore n f).time = s.time := rfl
@[simp] theorem State.modCore_rcd (s : State) (n : CoreId) (f : Core → Core) : (s.modCore n f).rcd = s.rcd := rfl
@[simp] theorem State.modCore_inj (s : State) (n : CoreId) (f : Core → Core) : (s.modCore n f).inj = s.inj := rfl
@[simp] theorem State.modCore_sup (s : State) (n : CoreId) (f : Core → Core) : (s.modCore n f).sup = s.sup := rfl
@[simp] theorem State.modCore_pwr (s : State) (n : CoreId) (f : Core → Core) : (s.modCore n f).pwr = s.pwr := rfl
@[simp] theorem State.modCore_fld (s : State) (n : CoreId) (f : Core → Core) : (s.modCore n f).fld = s.fld := rfl
@[simp] theorem State.modCore_nrg (s : State) (n : CoreId) (f : Core → Core) : (s.modCore n f).nrg = s.nrg := rfl
@[simp] theorem State.modCore_net (s : State) (n : CoreId) (f : Core → Core) : (s.modCore n f).net = s.net := rfl
@[simp] theorem State.modCore_can (s : State) (n : CoreId) (f : Core → Core) : (s.modCore n f).can = s.can := rfl
@[simp] theorem State.modCore_hier (s : State) (n : CoreId) (f : Core → Core) : (s.modCore n f).hier = s.hier := rfl
@[simp] theorem State.modCore_tdm (s : State) (n : CoreId) (f : Core → Core) : (s.modCore n f).tdm = s.tdm := rfl
@[simp] theorem State.modCore_otp (s : State) (n : CoreId) (f : Core → Core) : (s.modCore n f).otp = s.otp := rfl
@[simp] theorem State.modCore_sec (s : State) (n : CoreId) (f : Core → Core) : (s.modCore n f).sec = s.sec := rfl

/-! ### `State.modPair` -/

@[simp] theorem State.modPair_pending (s : State) (p : PairId) (f : Pair → Pair) : (s.modPair p f).pending = s.pending := rfl
@[simp] theorem State.modPair_clk (s : State) (p : PairId) (f : Pair → Pair) : (s.modPair p f).clk = s.clk := rfl
@[simp] theorem State.modPair_freeCtr (s : State) (p : PairId) (f : Pair → Pair) : (s.modPair p f).freeCtr = s.freeCtr := rfl
@[simp] theorem State.modPair_mem (s : State) (p : PairId) (f : Pair → Pair) : (s.modPair p f).mem = s.mem := rfl
@[simp] theorem State.modPair_errs (s : State) (p : PairId) (f : Pair → Pair) : (s.modPair p f).errs = s.errs := rfl
@[simp] theorem State.modPair_bank (s : State) (p : PairId) (f : Pair → Pair) : (s.modPair p f).bank = s.bank := rfl
@[simp] theorem State.modPair_bus (s : State) (p : PairId) (f : Pair → Pair) : (s.modPair p f).bus = s.bus := rfl
@[simp] theorem State.modPair_nv (s : State) (p : PairId) (f : Pair → Pair) : (s.modPair p f).nv = s.nv := rfl
@[simp] theorem State.modPair_ctx (s : State) (p : PairId) (f : Pair → Pair) : (s.modPair p f).ctx = s.ctx := rfl
@[simp] theorem State.modPair_core (s : State) (p : PairId) (f : Pair → Pair) : (s.modPair p f).core = s.core := rfl
@[simp] theorem State.modPair_op (s : State) (p : PairId) (f : Pair → Pair) : (s.modPair p f).op = s.op := rfl
@[simp] theorem State.modPair_img (s : State) (p : PairId) (f : Pair → Pair) : (s.modPair p f).img = s.img := rfl
@[simp] theorem State.modPair_evCount (s : State) (p : PairId) (f : Pair → Pair) : (s.modPair p f).evCount = s.evCount := rfl
@[simp] theorem State.modPair_pair (s : State) (p : PairId) (f : Pair → Pair) : (s.modPair p f).pair = s.pair.set p (f s.pair[p]) := rfl
@[simp] theorem State.modPair_prog (s : State) (p : PairId) (f : Pair → Pair) : (s.modPair p f).prog = s.prog := rfl
@[simp] theorem State.modPair_dict (s : State) (p : PairId) (f : Pair → Pair) : (s.modPair p f).dict = s.dict := rfl
@[simp] theorem State.modPair_time (s : State) (p : PairId) (f : Pair → Pair) : (s.modPair p f).time = s.time := rfl
@[simp] theorem State.modPair_rcd (s : State) (p : PairId) (f : Pair → Pair) : (s.modPair p f).rcd = s.rcd := rfl
@[simp] theorem State.modPair_inj (s : State) (p : PairId) (f : Pair → Pair) : (s.modPair p f).inj = s.inj := rfl
@[simp] theorem State.modPair_sup (s : State) (p : PairId) (f : Pair → Pair) : (s.modPair p f).sup = s.sup := rfl
@[simp] theorem State.modPair_pwr (s : State) (p : PairId) (f : Pair → Pair) : (s.modPair p f).pwr = s.pwr := rfl
@[simp] theorem State.modPair_fld (s : State) (p : PairId) (f : Pair → Pair) : (s.modPair p f).fld = s.fld := rfl
@[simp] theorem State.modPair_nrg (s : State) (p : PairId) (f : Pair → Pair) : (s.modPair p f).nrg = s.nrg := rfl
@[simp] theorem State.modPair_net (s : State) (p : PairId) (f : Pair → Pair) : (s.modPair p f).net = s.net := rfl
@[simp] theorem State.modPair_can (s : State) (p : PairId) (f : Pair → Pair) : (s.modPair p f).can = s.can := rfl
@[simp] theorem State.modPair_hier (s : State) (p : PairId) (f : Pair → Pair) : (s.modPair p f).hier = s.hier := rfl
@[simp] theorem State.modPair_tdm (s : State) (p : PairId) (f : Pair → Pair) : (s.modPair p f).tdm = s.tdm := rfl
@[simp] theorem State.modPair_otp (s : State) (p : PairId) (f : Pair → Pair) : (s.modPair p f).otp = s.otp := rfl
@[simp] theorem State.modPair_sec (s : State) (p : PairId) (f : Pair → Pair) : (s.modPair p f).sec = s.sec := rfl

/-! ### `State.modBank` -/

@[simp] theorem State.modBank_pending (s : State) (b : BankId) (f : Bank → Bank) : (s.modBank b f).pending = s.pending := rfl
@[simp] theorem State.modBank_clk (s : State) (b : BankId) (f : Bank → Bank) : (s.modBank b f).clk = s.clk := rfl
@[simp] theorem State.modBank_freeCtr (s : State) (b : BankId) (f : Bank → Bank) : (s.modBank b f).freeCtr = s.freeCtr := rfl
@[simp] theorem State.modBank_mem (s : State) (b : BankId) (f : Bank → Bank) : (s.modBank b f).mem = s.mem := rfl
@[simp] theorem State.modBank_errs (s : State) (b : BankId) (f : Bank → Bank) : (s.modBank b f).errs = s.errs := rfl
@[simp] theorem State.modBank_bank (s : State) (b : BankId) (f : Bank → Bank) : (s.modBank b f).bank = s.bank.set b (f s.bank[b]) := rfl
@[simp] theorem State.modBank_bus (s : State) (b : BankId) (f : Bank → Bank) : (s.modBank b f).bus = s.bus := rfl
@[simp] theorem State.modBank_nv (s : State) (b : BankId) (f : Bank → Bank) : (s.modBank b f).nv = s.nv := rfl
@[simp] theorem State.modBank_ctx (s : State) (b : BankId) (f : Bank → Bank) : (s.modBank b f).ctx = s.ctx := rfl
@[simp] theorem State.modBank_core (s : State) (b : BankId) (f : Bank → Bank) : (s.modBank b f).core = s.core := rfl
@[simp] theorem State.modBank_op (s : State) (b : BankId) (f : Bank → Bank) : (s.modBank b f).op = s.op := rfl
@[simp] theorem State.modBank_img (s : State) (b : BankId) (f : Bank → Bank) : (s.modBank b f).img = s.img := rfl
@[simp] theorem State.modBank_evCount (s : State) (b : BankId) (f : Bank → Bank) : (s.modBank b f).evCount = s.evCount := rfl
@[simp] theorem State.modBank_pair (s : State) (b : BankId) (f : Bank → Bank) : (s.modBank b f).pair = s.pair := rfl
@[simp] theorem State.modBank_prog (s : State) (b : BankId) (f : Bank → Bank) : (s.modBank b f).prog = s.prog := rfl
@[simp] theorem State.modBank_dict (s : State) (b : BankId) (f : Bank → Bank) : (s.modBank b f).dict = s.dict := rfl
@[simp] theorem State.modBank_time (s : State) (b : BankId) (f : Bank → Bank) : (s.modBank b f).time = s.time := rfl
@[simp] theorem State.modBank_rcd (s : State) (b : BankId) (f : Bank → Bank) : (s.modBank b f).rcd = s.rcd := rfl
@[simp] theorem State.modBank_inj (s : State) (b : BankId) (f : Bank → Bank) : (s.modBank b f).inj = s.inj := rfl
@[simp] theorem State.modBank_sup (s : State) (b : BankId) (f : Bank → Bank) : (s.modBank b f).sup = s.sup := rfl
@[simp] theorem State.modBank_pwr (s : State) (b : BankId) (f : Bank → Bank) : (s.modBank b f).pwr = s.pwr := rfl
@[simp] theorem State.modBank_fld (s : State) (b : BankId) (f : Bank → Bank) : (s.modBank b f).fld = s.fld := rfl
@[simp] theorem State.modBank_nrg (s : State) (b : BankId) (f : Bank → Bank) : (s.modBank b f).nrg = s.nrg := rfl
@[simp] theorem State.modBank_net (s : State) (b : BankId) (f : Bank → Bank) : (s.modBank b f).net = s.net := rfl
@[simp] theorem State.modBank_can (s : State) (b : BankId) (f : Bank → Bank) : (s.modBank b f).can = s.can := rfl
@[simp] theorem State.modBank_hier (s : State) (b : BankId) (f : Bank → Bank) : (s.modBank b f).hier = s.hier := rfl
@[simp] theorem State.modBank_tdm (s : State) (b : BankId) (f : Bank → Bank) : (s.modBank b f).tdm = s.tdm := rfl
@[simp] theorem State.modBank_otp (s : State) (b : BankId) (f : Bank → Bank) : (s.modBank b f).otp = s.otp := rfl
@[simp] theorem State.modBank_sec (s : State) (b : BankId) (f : Bank → Bank) : (s.modBank b f).sec = s.sec := rfl

/-! ### `State.modImg` -/

@[simp] theorem State.modImg_pending (s : State) (f : Img → Img) : (s.modImg f).pending = s.pending := rfl
@[simp] theorem State.modImg_clk (s : State) (f : Img → Img) : (s.modImg f).clk = s.clk := rfl
@[simp] theorem State.modImg_freeCtr (s : State) (f : Img → Img) : (s.modImg f).freeCtr = s.freeCtr := rfl
@[simp] theorem State.modImg_mem (s : State) (f : Img → Img) : (s.modImg f).mem = s.mem := rfl
@[simp] theorem State.modImg_errs (s : State) (f : Img → Img) : (s.modImg f).errs = s.errs := rfl
@[simp] theorem State.modImg_bank (s : State) (f : Img → Img) : (s.modImg f).bank = s.bank := rfl
@[simp] theorem State.modImg_bus (s : State) (f : Img → Img) : (s.modImg f).bus = s.bus := rfl
@[simp] theorem State.modImg_nv (s : State) (f : Img → Img) : (s.modImg f).nv = s.nv := rfl
@[simp] theorem State.modImg_ctx (s : State) (f : Img → Img) : (s.modImg f).ctx = s.ctx := rfl
@[simp] theorem State.modImg_core (s : State) (f : Img → Img) : (s.modImg f).core = s.core := rfl
@[simp] theorem State.modImg_op (s : State) (f : Img → Img) : (s.modImg f).op = s.op := rfl
@[simp] theorem State.modImg_img (s : State) (f : Img → Img) : (s.modImg f).img = f s.img := rfl
@[simp] theorem State.modImg_evCount (s : State) (f : Img → Img) : (s.modImg f).evCount = s.evCount := rfl
@[simp] theorem State.modImg_pair (s : State) (f : Img → Img) : (s.modImg f).pair = s.pair := rfl
@[simp] theorem State.modImg_prog (s : State) (f : Img → Img) : (s.modImg f).prog = s.prog := rfl
@[simp] theorem State.modImg_dict (s : State) (f : Img → Img) : (s.modImg f).dict = s.dict := rfl
@[simp] theorem State.modImg_time (s : State) (f : Img → Img) : (s.modImg f).time = s.time := rfl
@[simp] theorem State.modImg_rcd (s : State) (f : Img → Img) : (s.modImg f).rcd = s.rcd := rfl
@[simp] theorem State.modImg_inj (s : State) (f : Img → Img) : (s.modImg f).inj = s.inj := rfl
@[simp] theorem State.modImg_sup (s : State) (f : Img → Img) : (s.modImg f).sup = s.sup := rfl
@[simp] theorem State.modImg_pwr (s : State) (f : Img → Img) : (s.modImg f).pwr = s.pwr := rfl
@[simp] theorem State.modImg_fld (s : State) (f : Img → Img) : (s.modImg f).fld = s.fld := rfl
@[simp] theorem State.modImg_nrg (s : State) (f : Img → Img) : (s.modImg f).nrg = s.nrg := rfl
@[simp] theorem State.modImg_net (s : State) (f : Img → Img) : (s.modImg f).net = s.net := rfl
@[simp] theorem State.modImg_can (s : State) (f : Img → Img) : (s.modImg f).can = s.can := rfl
@[simp] theorem State.modImg_hier (s : State) (f : Img → Img) : (s.modImg f).hier = s.hier := rfl
@[simp] theorem State.modImg_tdm (s : State) (f : Img → Img) : (s.modImg f).tdm = s.tdm := rfl
@[simp] theorem State.modImg_otp (s : State) (f : Img → Img) : (s.modImg f).otp = s.otp := rfl
@[simp] theorem State.modImg_sec (s : State) (f : Img → Img) : (s.modImg f).sec = s.sec := rfl

/-! ### `State.modNv` -/

@[simp] theorem State.modNv_pending (s : State) (f : Nv → Nv) : (s.modNv f).pending = s.pending := rfl
@[simp] theorem State.modNv_clk (s : State) (f : Nv → Nv) : (s.modNv f).clk = s.clk := rfl
@[simp] theorem State.modNv_freeCtr (s : State) (f : Nv → Nv) : (s.modNv f).freeCtr = s.freeCtr := rfl
@[simp] theorem State.modNv_mem (s : State) (f : Nv → Nv) : (s.modNv f).mem = s.mem := rfl
@[simp] theorem State.modNv_errs (s : State) (f : Nv → Nv) : (s.modNv f).errs = s.errs := rfl
@[simp] theorem State.modNv_bank (s : State) (f : Nv → Nv) : (s.modNv f).bank = s.bank := rfl
@[simp] theorem State.modNv_bus (s : State) (f : Nv → Nv) : (s.modNv f).bus = s.bus := rfl
@[simp] theorem State.modNv_nv (s : State) (f : Nv → Nv) : (s.modNv f).nv = f s.nv := rfl
@[simp] theorem State.modNv_ctx (s : State) (f : Nv → Nv) : (s.modNv f).ctx = s.ctx := rfl
@[simp] theorem State.modNv_core (s : State) (f : Nv → Nv) : (s.modNv f).core = s.core := rfl
@[simp] theorem State.modNv_op (s : State) (f : Nv → Nv) : (s.modNv f).op = s.op := rfl
@[simp] theorem State.modNv_img (s : State) (f : Nv → Nv) : (s.modNv f).img = s.img := rfl
@[simp] theorem State.modNv_evCount (s : State) (f : Nv → Nv) : (s.modNv f).evCount = s.evCount := rfl
@[simp] theorem State.modNv_pair (s : State) (f : Nv → Nv) : (s.modNv f).pair = s.pair := rfl
@[simp] theorem State.modNv_prog (s : State) (f : Nv → Nv) : (s.modNv f).prog = s.prog := rfl
@[simp] theorem State.modNv_dict (s : State) (f : Nv → Nv) : (s.modNv f).dict = s.dict := rfl
@[simp] theorem State.modNv_time (s : State) (f : Nv → Nv) : (s.modNv f).time = s.time := rfl
@[simp] theorem State.modNv_rcd (s : State) (f : Nv → Nv) : (s.modNv f).rcd = s.rcd := rfl
@[simp] theorem State.modNv_inj (s : State) (f : Nv → Nv) : (s.modNv f).inj = s.inj := rfl
@[simp] theorem State.modNv_sup (s : State) (f : Nv → Nv) : (s.modNv f).sup = s.sup := rfl
@[simp] theorem State.modNv_pwr (s : State) (f : Nv → Nv) : (s.modNv f).pwr = s.pwr := rfl
@[simp] theorem State.modNv_fld (s : State) (f : Nv → Nv) : (s.modNv f).fld = s.fld := rfl
@[simp] theorem State.modNv_nrg (s : State) (f : Nv → Nv) : (s.modNv f).nrg = s.nrg := rfl
@[simp] theorem State.modNv_net (s : State) (f : Nv → Nv) : (s.modNv f).net = s.net := rfl
@[simp] theorem State.modNv_can (s : State) (f : Nv → Nv) : (s.modNv f).can = s.can := rfl
@[simp] theorem State.modNv_hier (s : State) (f : Nv → Nv) : (s.modNv f).hier = s.hier := rfl
@[simp] theorem State.modNv_tdm (s : State) (f : Nv → Nv) : (s.modNv f).tdm = s.tdm := rfl
@[simp] theorem State.modNv_otp (s : State) (f : Nv → Nv) : (s.modNv f).otp = s.otp := rfl
@[simp] theorem State.modNv_sec (s : State) (f : Nv → Nv) : (s.modNv f).sec = s.sec := rfl

/-! ### `State.modOp` -/

@[simp] theorem State.modOp_pending (s : State) (f : Op → Op) : (s.modOp f).pending = s.pending := rfl
@[simp] theorem State.modOp_clk (s : State) (f : Op → Op) : (s.modOp f).clk = s.clk := rfl
@[simp] theorem State.modOp_freeCtr (s : State) (f : Op → Op) : (s.modOp f).freeCtr = s.freeCtr := rfl
@[simp] theorem State.modOp_mem (s : State) (f : Op → Op) : (s.modOp f).mem = s.mem := rfl
@[simp] theorem State.modOp_errs (s : State) (f : Op → Op) : (s.modOp f).errs = s.errs := rfl
@[simp] theorem State.modOp_bank (s : State) (f : Op → Op) : (s.modOp f).bank = s.bank := rfl
@[simp] theorem State.modOp_bus (s : State) (f : Op → Op) : (s.modOp f).bus = s.bus := rfl
@[simp] theorem State.modOp_nv (s : State) (f : Op → Op) : (s.modOp f).nv = s.nv := rfl
@[simp] theorem State.modOp_ctx (s : State) (f : Op → Op) : (s.modOp f).ctx = s.ctx := rfl
@[simp] theorem State.modOp_core (s : State) (f : Op → Op) : (s.modOp f).core = s.core := rfl
@[simp] theorem State.modOp_op (s : State) (f : Op → Op) : (s.modOp f).op = f s.op := rfl
@[simp] theorem State.modOp_img (s : State) (f : Op → Op) : (s.modOp f).img = s.img := rfl
@[simp] theorem State.modOp_evCount (s : State) (f : Op → Op) : (s.modOp f).evCount = s.evCount := rfl
@[simp] theorem State.modOp_pair (s : State) (f : Op → Op) : (s.modOp f).pair = s.pair := rfl
@[simp] theorem State.modOp_prog (s : State) (f : Op → Op) : (s.modOp f).prog = s.prog := rfl
@[simp] theorem State.modOp_dict (s : State) (f : Op → Op) : (s.modOp f).dict = s.dict := rfl
@[simp] theorem State.modOp_time (s : State) (f : Op → Op) : (s.modOp f).time = s.time := rfl
@[simp] theorem State.modOp_rcd (s : State) (f : Op → Op) : (s.modOp f).rcd = s.rcd := rfl
@[simp] theorem State.modOp_inj (s : State) (f : Op → Op) : (s.modOp f).inj = s.inj := rfl
@[simp] theorem State.modOp_sup (s : State) (f : Op → Op) : (s.modOp f).sup = s.sup := rfl
@[simp] theorem State.modOp_pwr (s : State) (f : Op → Op) : (s.modOp f).pwr = s.pwr := rfl
@[simp] theorem State.modOp_fld (s : State) (f : Op → Op) : (s.modOp f).fld = s.fld := rfl
@[simp] theorem State.modOp_nrg (s : State) (f : Op → Op) : (s.modOp f).nrg = s.nrg := rfl
@[simp] theorem State.modOp_net (s : State) (f : Op → Op) : (s.modOp f).net = s.net := rfl
@[simp] theorem State.modOp_can (s : State) (f : Op → Op) : (s.modOp f).can = s.can := rfl
@[simp] theorem State.modOp_hier (s : State) (f : Op → Op) : (s.modOp f).hier = s.hier := rfl
@[simp] theorem State.modOp_tdm (s : State) (f : Op → Op) : (s.modOp f).tdm = s.tdm := rfl
@[simp] theorem State.modOp_otp (s : State) (f : Op → Op) : (s.modOp f).otp = s.otp := rfl
@[simp] theorem State.modOp_sec (s : State) (f : Op → Op) : (s.modOp f).sec = s.sec := rfl

/-! ### `State.modDict` -/

@[simp] theorem State.modDict_pending (s : State) (f : Dict → Dict) : (s.modDict f).pending = s.pending := rfl
@[simp] theorem State.modDict_clk (s : State) (f : Dict → Dict) : (s.modDict f).clk = s.clk := rfl
@[simp] theorem State.modDict_freeCtr (s : State) (f : Dict → Dict) : (s.modDict f).freeCtr = s.freeCtr := rfl
@[simp] theorem State.modDict_mem (s : State) (f : Dict → Dict) : (s.modDict f).mem = s.mem := rfl
@[simp] theorem State.modDict_errs (s : State) (f : Dict → Dict) : (s.modDict f).errs = s.errs := rfl
@[simp] theorem State.modDict_bank (s : State) (f : Dict → Dict) : (s.modDict f).bank = s.bank := rfl
@[simp] theorem State.modDict_bus (s : State) (f : Dict → Dict) : (s.modDict f).bus = s.bus := rfl
@[simp] theorem State.modDict_nv (s : State) (f : Dict → Dict) : (s.modDict f).nv = s.nv := rfl
@[simp] theorem State.modDict_ctx (s : State) (f : Dict → Dict) : (s.modDict f).ctx = s.ctx := rfl
@[simp] theorem State.modDict_core (s : State) (f : Dict → Dict) : (s.modDict f).core = s.core := rfl
@[simp] theorem State.modDict_op (s : State) (f : Dict → Dict) : (s.modDict f).op = s.op := rfl
@[simp] theorem State.modDict_img (s : State) (f : Dict → Dict) : (s.modDict f).img = s.img := rfl
@[simp] theorem State.modDict_evCount (s : State) (f : Dict → Dict) : (s.modDict f).evCount = s.evCount := rfl
@[simp] theorem State.modDict_pair (s : State) (f : Dict → Dict) : (s.modDict f).pair = s.pair := rfl
@[simp] theorem State.modDict_prog (s : State) (f : Dict → Dict) : (s.modDict f).prog = s.prog := rfl
@[simp] theorem State.modDict_dict (s : State) (f : Dict → Dict) : (s.modDict f).dict = f s.dict := rfl
@[simp] theorem State.modDict_time (s : State) (f : Dict → Dict) : (s.modDict f).time = s.time := rfl
@[simp] theorem State.modDict_rcd (s : State) (f : Dict → Dict) : (s.modDict f).rcd = s.rcd := rfl
@[simp] theorem State.modDict_inj (s : State) (f : Dict → Dict) : (s.modDict f).inj = s.inj := rfl
@[simp] theorem State.modDict_sup (s : State) (f : Dict → Dict) : (s.modDict f).sup = s.sup := rfl
@[simp] theorem State.modDict_pwr (s : State) (f : Dict → Dict) : (s.modDict f).pwr = s.pwr := rfl
@[simp] theorem State.modDict_fld (s : State) (f : Dict → Dict) : (s.modDict f).fld = s.fld := rfl
@[simp] theorem State.modDict_nrg (s : State) (f : Dict → Dict) : (s.modDict f).nrg = s.nrg := rfl
@[simp] theorem State.modDict_net (s : State) (f : Dict → Dict) : (s.modDict f).net = s.net := rfl
@[simp] theorem State.modDict_can (s : State) (f : Dict → Dict) : (s.modDict f).can = s.can := rfl
@[simp] theorem State.modDict_hier (s : State) (f : Dict → Dict) : (s.modDict f).hier = s.hier := rfl
@[simp] theorem State.modDict_tdm (s : State) (f : Dict → Dict) : (s.modDict f).tdm = s.tdm := rfl
@[simp] theorem State.modDict_otp (s : State) (f : Dict → Dict) : (s.modDict f).otp = s.otp := rfl
@[simp] theorem State.modDict_sec (s : State) (f : Dict → Dict) : (s.modDict f).sec = s.sec := rfl

/-! ### `State.modTime` -/

@[simp] theorem State.modTime_pending (s : State) (f : Time → Time) : (s.modTime f).pending = s.pending := rfl
@[simp] theorem State.modTime_clk (s : State) (f : Time → Time) : (s.modTime f).clk = s.clk := rfl
@[simp] theorem State.modTime_freeCtr (s : State) (f : Time → Time) : (s.modTime f).freeCtr = s.freeCtr := rfl
@[simp] theorem State.modTime_mem (s : State) (f : Time → Time) : (s.modTime f).mem = s.mem := rfl
@[simp] theorem State.modTime_errs (s : State) (f : Time → Time) : (s.modTime f).errs = s.errs := rfl
@[simp] theorem State.modTime_bank (s : State) (f : Time → Time) : (s.modTime f).bank = s.bank := rfl
@[simp] theorem State.modTime_bus (s : State) (f : Time → Time) : (s.modTime f).bus = s.bus := rfl
@[simp] theorem State.modTime_nv (s : State) (f : Time → Time) : (s.modTime f).nv = s.nv := rfl
@[simp] theorem State.modTime_ctx (s : State) (f : Time → Time) : (s.modTime f).ctx = s.ctx := rfl
@[simp] theorem State.modTime_core (s : State) (f : Time → Time) : (s.modTime f).core = s.core := rfl
@[simp] theorem State.modTime_op (s : State) (f : Time → Time) : (s.modTime f).op = s.op := rfl
@[simp] theorem State.modTime_img (s : State) (f : Time → Time) : (s.modTime f).img = s.img := rfl
@[simp] theorem State.modTime_evCount (s : State) (f : Time → Time) : (s.modTime f).evCount = s.evCount := rfl
@[simp] theorem State.modTime_pair (s : State) (f : Time → Time) : (s.modTime f).pair = s.pair := rfl
@[simp] theorem State.modTime_prog (s : State) (f : Time → Time) : (s.modTime f).prog = s.prog := rfl
@[simp] theorem State.modTime_dict (s : State) (f : Time → Time) : (s.modTime f).dict = s.dict := rfl
@[simp] theorem State.modTime_time (s : State) (f : Time → Time) : (s.modTime f).time = f s.time := rfl
@[simp] theorem State.modTime_rcd (s : State) (f : Time → Time) : (s.modTime f).rcd = s.rcd := rfl
@[simp] theorem State.modTime_inj (s : State) (f : Time → Time) : (s.modTime f).inj = s.inj := rfl
@[simp] theorem State.modTime_sup (s : State) (f : Time → Time) : (s.modTime f).sup = s.sup := rfl
@[simp] theorem State.modTime_pwr (s : State) (f : Time → Time) : (s.modTime f).pwr = s.pwr := rfl
@[simp] theorem State.modTime_fld (s : State) (f : Time → Time) : (s.modTime f).fld = s.fld := rfl
@[simp] theorem State.modTime_nrg (s : State) (f : Time → Time) : (s.modTime f).nrg = s.nrg := rfl
@[simp] theorem State.modTime_net (s : State) (f : Time → Time) : (s.modTime f).net = s.net := rfl
@[simp] theorem State.modTime_can (s : State) (f : Time → Time) : (s.modTime f).can = s.can := rfl
@[simp] theorem State.modTime_hier (s : State) (f : Time → Time) : (s.modTime f).hier = s.hier := rfl
@[simp] theorem State.modTime_tdm (s : State) (f : Time → Time) : (s.modTime f).tdm = s.tdm := rfl
@[simp] theorem State.modTime_otp (s : State) (f : Time → Time) : (s.modTime f).otp = s.otp := rfl
@[simp] theorem State.modTime_sec (s : State) (f : Time → Time) : (s.modTime f).sec = s.sec := rfl

/-! ### `State.modTdm` -/

@[simp] theorem State.modTdm_pending (s : State) (f : Tdm → Tdm) : (s.modTdm f).pending = s.pending := rfl
@[simp] theorem State.modTdm_clk (s : State) (f : Tdm → Tdm) : (s.modTdm f).clk = s.clk := rfl
@[simp] theorem State.modTdm_freeCtr (s : State) (f : Tdm → Tdm) : (s.modTdm f).freeCtr = s.freeCtr := rfl
@[simp] theorem State.modTdm_mem (s : State) (f : Tdm → Tdm) : (s.modTdm f).mem = s.mem := rfl
@[simp] theorem State.modTdm_errs (s : State) (f : Tdm → Tdm) : (s.modTdm f).errs = s.errs := rfl
@[simp] theorem State.modTdm_bank (s : State) (f : Tdm → Tdm) : (s.modTdm f).bank = s.bank := rfl
@[simp] theorem State.modTdm_bus (s : State) (f : Tdm → Tdm) : (s.modTdm f).bus = s.bus := rfl
@[simp] theorem State.modTdm_nv (s : State) (f : Tdm → Tdm) : (s.modTdm f).nv = s.nv := rfl
@[simp] theorem State.modTdm_ctx (s : State) (f : Tdm → Tdm) : (s.modTdm f).ctx = s.ctx := rfl
@[simp] theorem State.modTdm_core (s : State) (f : Tdm → Tdm) : (s.modTdm f).core = s.core := rfl
@[simp] theorem State.modTdm_op (s : State) (f : Tdm → Tdm) : (s.modTdm f).op = s.op := rfl
@[simp] theorem State.modTdm_img (s : State) (f : Tdm → Tdm) : (s.modTdm f).img = s.img := rfl
@[simp] theorem State.modTdm_evCount (s : State) (f : Tdm → Tdm) : (s.modTdm f).evCount = s.evCount := rfl
@[simp] theorem State.modTdm_pair (s : State) (f : Tdm → Tdm) : (s.modTdm f).pair = s.pair := rfl
@[simp] theorem State.modTdm_prog (s : State) (f : Tdm → Tdm) : (s.modTdm f).prog = s.prog := rfl
@[simp] theorem State.modTdm_dict (s : State) (f : Tdm → Tdm) : (s.modTdm f).dict = s.dict := rfl
@[simp] theorem State.modTdm_time (s : State) (f : Tdm → Tdm) : (s.modTdm f).time = s.time := rfl
@[simp] theorem State.modTdm_rcd (s : State) (f : Tdm → Tdm) : (s.modTdm f).rcd = s.rcd := rfl
@[simp] theorem State.modTdm_inj (s : State) (f : Tdm → Tdm) : (s.modTdm f).inj = s.inj := rfl
@[simp] theorem State.modTdm_sup (s : State) (f : Tdm → Tdm) : (s.modTdm f).sup = s.sup := rfl
@[simp] theorem State.modTdm_pwr (s : State) (f : Tdm → Tdm) : (s.modTdm f).pwr = s.pwr := rfl
@[simp] theorem State.modTdm_fld (s : State) (f : Tdm → Tdm) : (s.modTdm f).fld = s.fld := rfl
@[simp] theorem State.modTdm_nrg (s : State) (f : Tdm → Tdm) : (s.modTdm f).nrg = s.nrg := rfl
@[simp] theorem State.modTdm_net (s : State) (f : Tdm → Tdm) : (s.modTdm f).net = s.net := rfl
@[simp] theorem State.modTdm_can (s : State) (f : Tdm → Tdm) : (s.modTdm f).can = s.can := rfl
@[simp] theorem State.modTdm_hier (s : State) (f : Tdm → Tdm) : (s.modTdm f).hier = s.hier := rfl
@[simp] theorem State.modTdm_tdm (s : State) (f : Tdm → Tdm) : (s.modTdm f).tdm = f s.tdm := rfl
@[simp] theorem State.modTdm_otp (s : State) (f : Tdm → Tdm) : (s.modTdm f).otp = s.otp := rfl
@[simp] theorem State.modTdm_sec (s : State) (f : Tdm → Tdm) : (s.modTdm f).sec = s.sec := rfl

/-! ### `State.modProg` -/

@[simp] theorem State.modProg_pending (s : State) (f : Prog → Prog) : (s.modProg f).pending = s.pending := rfl
@[simp] theorem State.modProg_clk (s : State) (f : Prog → Prog) : (s.modProg f).clk = s.clk := rfl
@[simp] theorem State.modProg_freeCtr (s : State) (f : Prog → Prog) : (s.modProg f).freeCtr = s.freeCtr := rfl
@[simp] theorem State.modProg_mem (s : State) (f : Prog → Prog) : (s.modProg f).mem = s.mem := rfl
@[simp] theorem State.modProg_errs (s : State) (f : Prog → Prog) : (s.modProg f).errs = s.errs := rfl
@[simp] theorem State.modProg_bank (s : State) (f : Prog → Prog) : (s.modProg f).bank = s.bank := rfl
@[simp] theorem State.modProg_bus (s : State) (f : Prog → Prog) : (s.modProg f).bus = s.bus := rfl
@[simp] theorem State.modProg_nv (s : State) (f : Prog → Prog) : (s.modProg f).nv = s.nv := rfl
@[simp] theorem State.modProg_ctx (s : State) (f : Prog → Prog) : (s.modProg f).ctx = s.ctx := rfl
@[simp] theorem State.modProg_core (s : State) (f : Prog → Prog) : (s.modProg f).core = s.core := rfl
@[simp] theorem State.modProg_op (s : State) (f : Prog → Prog) : (s.modProg f).op = s.op := rfl
@[simp] theorem State.modProg_img (s : State) (f : Prog → Prog) : (s.modProg f).img = s.img := rfl
@[simp] theorem State.modProg_evCount (s : State) (f : Prog → Prog) : (s.modProg f).evCount = s.evCount := rfl
@[simp] theorem State.modProg_pair (s : State) (f : Prog → Prog) : (s.modProg f).pair = s.pair := rfl
@[simp] theorem State.modProg_prog (s : State) (f : Prog → Prog) : (s.modProg f).prog = f s.prog := rfl
@[simp] theorem State.modProg_dict (s : State) (f : Prog → Prog) : (s.modProg f).dict = s.dict := rfl
@[simp] theorem State.modProg_time (s : State) (f : Prog → Prog) : (s.modProg f).time = s.time := rfl
@[simp] theorem State.modProg_rcd (s : State) (f : Prog → Prog) : (s.modProg f).rcd = s.rcd := rfl
@[simp] theorem State.modProg_inj (s : State) (f : Prog → Prog) : (s.modProg f).inj = s.inj := rfl
@[simp] theorem State.modProg_sup (s : State) (f : Prog → Prog) : (s.modProg f).sup = s.sup := rfl
@[simp] theorem State.modProg_pwr (s : State) (f : Prog → Prog) : (s.modProg f).pwr = s.pwr := rfl
@[simp] theorem State.modProg_fld (s : State) (f : Prog → Prog) : (s.modProg f).fld = s.fld := rfl
@[simp] theorem State.modProg_nrg (s : State) (f : Prog → Prog) : (s.modProg f).nrg = s.nrg := rfl
@[simp] theorem State.modProg_net (s : State) (f : Prog → Prog) : (s.modProg f).net = s.net := rfl
@[simp] theorem State.modProg_can (s : State) (f : Prog → Prog) : (s.modProg f).can = s.can := rfl
@[simp] theorem State.modProg_hier (s : State) (f : Prog → Prog) : (s.modProg f).hier = s.hier := rfl
@[simp] theorem State.modProg_tdm (s : State) (f : Prog → Prog) : (s.modProg f).tdm = s.tdm := rfl
@[simp] theorem State.modProg_otp (s : State) (f : Prog → Prog) : (s.modProg f).otp = s.otp := rfl
@[simp] theorem State.modProg_sec (s : State) (f : Prog → Prog) : (s.modProg f).sec = s.sec := rfl

/-! ### `State.modRcd` -/

@[simp] theorem State.modRcd_pending (s : State) (f : Rcd → Rcd) : (s.modRcd f).pending = s.pending := rfl
@[simp] theorem State.modRcd_clk (s : State) (f : Rcd → Rcd) : (s.modRcd f).clk = s.clk := rfl
@[simp] theorem State.modRcd_freeCtr (s : State) (f : Rcd → Rcd) : (s.modRcd f).freeCtr = s.freeCtr := rfl
@[simp] theorem State.modRcd_mem (s : State) (f : Rcd → Rcd) : (s.modRcd f).mem = s.mem := rfl
@[simp] theorem State.modRcd_errs (s : State) (f : Rcd → Rcd) : (s.modRcd f).errs = s.errs := rfl
@[simp] theorem State.modRcd_bank (s : State) (f : Rcd → Rcd) : (s.modRcd f).bank = s.bank := rfl
@[simp] theorem State.modRcd_bus (s : State) (f : Rcd → Rcd) : (s.modRcd f).bus = s.bus := rfl
@[simp] theorem State.modRcd_nv (s : State) (f : Rcd → Rcd) : (s.modRcd f).nv = s.nv := rfl
@[simp] theorem State.modRcd_ctx (s : State) (f : Rcd → Rcd) : (s.modRcd f).ctx = s.ctx := rfl
@[simp] theorem State.modRcd_core (s : State) (f : Rcd → Rcd) : (s.modRcd f).core = s.core := rfl
@[simp] theorem State.modRcd_op (s : State) (f : Rcd → Rcd) : (s.modRcd f).op = s.op := rfl
@[simp] theorem State.modRcd_img (s : State) (f : Rcd → Rcd) : (s.modRcd f).img = s.img := rfl
@[simp] theorem State.modRcd_evCount (s : State) (f : Rcd → Rcd) : (s.modRcd f).evCount = s.evCount := rfl
@[simp] theorem State.modRcd_pair (s : State) (f : Rcd → Rcd) : (s.modRcd f).pair = s.pair := rfl
@[simp] theorem State.modRcd_prog (s : State) (f : Rcd → Rcd) : (s.modRcd f).prog = s.prog := rfl
@[simp] theorem State.modRcd_dict (s : State) (f : Rcd → Rcd) : (s.modRcd f).dict = s.dict := rfl
@[simp] theorem State.modRcd_time (s : State) (f : Rcd → Rcd) : (s.modRcd f).time = s.time := rfl
@[simp] theorem State.modRcd_rcd (s : State) (f : Rcd → Rcd) : (s.modRcd f).rcd = f s.rcd := rfl
@[simp] theorem State.modRcd_inj (s : State) (f : Rcd → Rcd) : (s.modRcd f).inj = s.inj := rfl
@[simp] theorem State.modRcd_sup (s : State) (f : Rcd → Rcd) : (s.modRcd f).sup = s.sup := rfl
@[simp] theorem State.modRcd_pwr (s : State) (f : Rcd → Rcd) : (s.modRcd f).pwr = s.pwr := rfl
@[simp] theorem State.modRcd_fld (s : State) (f : Rcd → Rcd) : (s.modRcd f).fld = s.fld := rfl
@[simp] theorem State.modRcd_nrg (s : State) (f : Rcd → Rcd) : (s.modRcd f).nrg = s.nrg := rfl
@[simp] theorem State.modRcd_net (s : State) (f : Rcd → Rcd) : (s.modRcd f).net = s.net := rfl
@[simp] theorem State.modRcd_can (s : State) (f : Rcd → Rcd) : (s.modRcd f).can = s.can := rfl
@[simp] theorem State.modRcd_hier (s : State) (f : Rcd → Rcd) : (s.modRcd f).hier = s.hier := rfl
@[simp] theorem State.modRcd_tdm (s : State) (f : Rcd → Rcd) : (s.modRcd f).tdm = s.tdm := rfl
@[simp] theorem State.modRcd_otp (s : State) (f : Rcd → Rcd) : (s.modRcd f).otp = s.otp := rfl
@[simp] theorem State.modRcd_sec (s : State) (f : Rcd → Rcd) : (s.modRcd f).sec = s.sec := rfl

/-! ### `State.modSec` -/

@[simp] theorem State.modSec_pending (s : State) (f : Sec → Sec) : (s.modSec f).pending = s.pending := rfl
@[simp] theorem State.modSec_clk (s : State) (f : Sec → Sec) : (s.modSec f).clk = s.clk := rfl
@[simp] theorem State.modSec_freeCtr (s : State) (f : Sec → Sec) : (s.modSec f).freeCtr = s.freeCtr := rfl
@[simp] theorem State.modSec_mem (s : State) (f : Sec → Sec) : (s.modSec f).mem = s.mem := rfl
@[simp] theorem State.modSec_errs (s : State) (f : Sec → Sec) : (s.modSec f).errs = s.errs := rfl
@[simp] theorem State.modSec_bank (s : State) (f : Sec → Sec) : (s.modSec f).bank = s.bank := rfl
@[simp] theorem State.modSec_bus (s : State) (f : Sec → Sec) : (s.modSec f).bus = s.bus := rfl
@[simp] theorem State.modSec_nv (s : State) (f : Sec → Sec) : (s.modSec f).nv = s.nv := rfl
@[simp] theorem State.modSec_ctx (s : State) (f : Sec → Sec) : (s.modSec f).ctx = s.ctx := rfl
@[simp] theorem State.modSec_core (s : State) (f : Sec → Sec) : (s.modSec f).core = s.core := rfl
@[simp] theorem State.modSec_op (s : State) (f : Sec → Sec) : (s.modSec f).op = s.op := rfl
@[simp] theorem State.modSec_img (s : State) (f : Sec → Sec) : (s.modSec f).img = s.img := rfl
@[simp] theorem State.modSec_evCount (s : State) (f : Sec → Sec) : (s.modSec f).evCount = s.evCount := rfl
@[simp] theorem State.modSec_pair (s : State) (f : Sec → Sec) : (s.modSec f).pair = s.pair := rfl
@[simp] theorem State.modSec_prog (s : State) (f : Sec → Sec) : (s.modSec f).prog = s.prog := rfl
@[simp] theorem State.modSec_dict (s : State) (f : Sec → Sec) : (s.modSec f).dict = s.dict := rfl
@[simp] theorem State.modSec_time (s : State) (f : Sec → Sec) : (s.modSec f).time = s.time := rfl
@[simp] theorem State.modSec_rcd (s : State) (f : Sec → Sec) : (s.modSec f).rcd = s.rcd := rfl
@[simp] theorem State.modSec_inj (s : State) (f : Sec → Sec) : (s.modSec f).inj = s.inj := rfl
@[simp] theorem State.modSec_sup (s : State) (f : Sec → Sec) : (s.modSec f).sup = s.sup := rfl
@[simp] theorem State.modSec_pwr (s : State) (f : Sec → Sec) : (s.modSec f).pwr = s.pwr := rfl
@[simp] theorem State.modSec_fld (s : State) (f : Sec → Sec) : (s.modSec f).fld = s.fld := rfl
@[simp] theorem State.modSec_nrg (s : State) (f : Sec → Sec) : (s.modSec f).nrg = s.nrg := rfl
@[simp] theorem State.modSec_net (s : State) (f : Sec → Sec) : (s.modSec f).net = s.net := rfl
@[simp] theorem State.modSec_can (s : State) (f : Sec → Sec) : (s.modSec f).can = s.can := rfl
@[simp] theorem State.modSec_hier (s : State) (f : Sec → Sec) : (s.modSec f).hier = s.hier := rfl
@[simp] theorem State.modSec_tdm (s : State) (f : Sec → Sec) : (s.modSec f).tdm = s.tdm := rfl
@[simp] theorem State.modSec_otp (s : State) (f : Sec → Sec) : (s.modSec f).otp = s.otp := rfl
@[simp] theorem State.modSec_sec (s : State) (f : Sec → Sec) : (s.modSec f).sec = f s.sec := rfl

/-! ### `State.modSup` -/

@[simp] theorem State.modSup_pending (s : State) (f : Sup → Sup) : (s.modSup f).pending = s.pending := rfl
@[simp] theorem State.modSup_clk (s : State) (f : Sup → Sup) : (s.modSup f).clk = s.clk := rfl
@[simp] theorem State.modSup_freeCtr (s : State) (f : Sup → Sup) : (s.modSup f).freeCtr = s.freeCtr := rfl
@[simp] theorem State.modSup_mem (s : State) (f : Sup → Sup) : (s.modSup f).mem = s.mem := rfl
@[simp] theorem State.modSup_errs (s : State) (f : Sup → Sup) : (s.modSup f).errs = s.errs := rfl
@[simp] theorem State.modSup_bank (s : State) (f : Sup → Sup) : (s.modSup f).bank = s.bank := rfl
@[simp] theorem State.modSup_bus (s : State) (f : Sup → Sup) : (s.modSup f).bus = s.bus := rfl
@[simp] theorem State.modSup_nv (s : State) (f : Sup → Sup) : (s.modSup f).nv = s.nv := rfl
@[simp] theorem State.modSup_ctx (s : State) (f : Sup → Sup) : (s.modSup f).ctx = s.ctx := rfl
@[simp] theorem State.modSup_core (s : State) (f : Sup → Sup) : (s.modSup f).core = s.core := rfl
@[simp] theorem State.modSup_op (s : State) (f : Sup → Sup) : (s.modSup f).op = s.op := rfl
@[simp] theorem State.modSup_img (s : State) (f : Sup → Sup) : (s.modSup f).img = s.img := rfl
@[simp] theorem State.modSup_evCount (s : State) (f : Sup → Sup) : (s.modSup f).evCount = s.evCount := rfl
@[simp] theorem State.modSup_pair (s : State) (f : Sup → Sup) : (s.modSup f).pair = s.pair := rfl
@[simp] theorem State.modSup_prog (s : State) (f : Sup → Sup) : (s.modSup f).prog = s.prog := rfl
@[simp] theorem State.modSup_dict (s : State) (f : Sup → Sup) : (s.modSup f).dict = s.dict := rfl
@[simp] theorem State.modSup_time (s : State) (f : Sup → Sup) : (s.modSup f).time = s.time := rfl
@[simp] theorem State.modSup_rcd (s : State) (f : Sup → Sup) : (s.modSup f).rcd = s.rcd := rfl
@[simp] theorem State.modSup_inj (s : State) (f : Sup → Sup) : (s.modSup f).inj = s.inj := rfl
@[simp] theorem State.modSup_sup (s : State) (f : Sup → Sup) : (s.modSup f).sup = f s.sup := rfl
@[simp] theorem State.modSup_pwr (s : State) (f : Sup → Sup) : (s.modSup f).pwr = s.pwr := rfl
@[simp] theorem State.modSup_fld (s : State) (f : Sup → Sup) : (s.modSup f).fld = s.fld := rfl
@[simp] theorem State.modSup_nrg (s : State) (f : Sup → Sup) : (s.modSup f).nrg = s.nrg := rfl
@[simp] theorem State.modSup_net (s : State) (f : Sup → Sup) : (s.modSup f).net = s.net := rfl
@[simp] theorem State.modSup_can (s : State) (f : Sup → Sup) : (s.modSup f).can = s.can := rfl
@[simp] theorem State.modSup_hier (s : State) (f : Sup → Sup) : (s.modSup f).hier = s.hier := rfl
@[simp] theorem State.modSup_tdm (s : State) (f : Sup → Sup) : (s.modSup f).tdm = s.tdm := rfl
@[simp] theorem State.modSup_otp (s : State) (f : Sup → Sup) : (s.modSup f).otp = s.otp := rfl
@[simp] theorem State.modSup_sec (s : State) (f : Sup → Sup) : (s.modSup f).sec = s.sec := rfl

/-! ### `State.modPwr` -/

@[simp] theorem State.modPwr_pending (s : State) (f : Pwr → Pwr) : (s.modPwr f).pending = s.pending := rfl
@[simp] theorem State.modPwr_clk (s : State) (f : Pwr → Pwr) : (s.modPwr f).clk = s.clk := rfl
@[simp] theorem State.modPwr_freeCtr (s : State) (f : Pwr → Pwr) : (s.modPwr f).freeCtr = s.freeCtr := rfl
@[simp] theorem State.modPwr_mem (s : State) (f : Pwr → Pwr) : (s.modPwr f).mem = s.mem := rfl
@[simp] theorem State.modPwr_errs (s : State) (f : Pwr → Pwr) : (s.modPwr f).errs = s.errs := rfl
@[simp] theorem State.modPwr_bank (s : State) (f : Pwr → Pwr) : (s.modPwr f).bank = s.bank := rfl
@[simp] theorem State.modPwr_bus (s : State) (f : Pwr → Pwr) : (s.modPwr f).bus = s.bus := rfl
@[simp] theorem State.modPwr_nv (s : State) (f : Pwr → Pwr) : (s.modPwr f).nv = s.nv := rfl
@[simp] theorem State.modPwr_ctx (s : State) (f : Pwr → Pwr) : (s.modPwr f).ctx = s.ctx := rfl
@[simp] theorem State.modPwr_core (s : State) (f : Pwr → Pwr) : (s.modPwr f).core = s.core := rfl
@[simp] theorem State.modPwr_op (s : State) (f : Pwr → Pwr) : (s.modPwr f).op = s.op := rfl
@[simp] theorem State.modPwr_img (s : State) (f : Pwr → Pwr) : (s.modPwr f).img = s.img := rfl
@[simp] theorem State.modPwr_evCount (s : State) (f : Pwr → Pwr) : (s.modPwr f).evCount = s.evCount := rfl
@[simp] theorem State.modPwr_pair (s : State) (f : Pwr → Pwr) : (s.modPwr f).pair = s.pair := rfl
@[simp] theorem State.modPwr_prog (s : State) (f : Pwr → Pwr) : (s.modPwr f).prog = s.prog := rfl
@[simp] theorem State.modPwr_dict (s : State) (f : Pwr → Pwr) : (s.modPwr f).dict = s.dict := rfl
@[simp] theorem State.modPwr_time (s : State) (f : Pwr → Pwr) : (s.modPwr f).time = s.time := rfl
@[simp] theorem State.modPwr_rcd (s : State) (f : Pwr → Pwr) : (s.modPwr f).rcd = s.rcd := rfl
@[simp] theorem State.modPwr_inj (s : State) (f : Pwr → Pwr) : (s.modPwr f).inj = s.inj := rfl
@[simp] theorem State.modPwr_sup (s : State) (f : Pwr → Pwr) : (s.modPwr f).sup = s.sup := rfl
@[simp] theorem State.modPwr_pwr (s : State) (f : Pwr → Pwr) : (s.modPwr f).pwr = f s.pwr := rfl
@[simp] theorem State.modPwr_fld (s : State) (f : Pwr → Pwr) : (s.modPwr f).fld = s.fld := rfl
@[simp] theorem State.modPwr_nrg (s : State) (f : Pwr → Pwr) : (s.modPwr f).nrg = s.nrg := rfl
@[simp] theorem State.modPwr_net (s : State) (f : Pwr → Pwr) : (s.modPwr f).net = s.net := rfl
@[simp] theorem State.modPwr_can (s : State) (f : Pwr → Pwr) : (s.modPwr f).can = s.can := rfl
@[simp] theorem State.modPwr_hier (s : State) (f : Pwr → Pwr) : (s.modPwr f).hier = s.hier := rfl
@[simp] theorem State.modPwr_tdm (s : State) (f : Pwr → Pwr) : (s.modPwr f).tdm = s.tdm := rfl
@[simp] theorem State.modPwr_otp (s : State) (f : Pwr → Pwr) : (s.modPwr f).otp = s.otp := rfl
@[simp] theorem State.modPwr_sec (s : State) (f : Pwr → Pwr) : (s.modPwr f).sec = s.sec := rfl

/-! ### `State.modFld` -/

@[simp] theorem State.modFld_pending (s : State) (f : Field → Field) : (s.modFld f).pending = s.pending := rfl
@[simp] theorem State.modFld_clk (s : State) (f : Field → Field) : (s.modFld f).clk = s.clk := rfl
@[simp] theorem State.modFld_freeCtr (s : State) (f : Field → Field) : (s.modFld f).freeCtr = s.freeCtr := rfl
@[simp] theorem State.modFld_mem (s : State) (f : Field → Field) : (s.modFld f).mem = s.mem := rfl
@[simp] theorem State.modFld_errs (s : State) (f : Field → Field) : (s.modFld f).errs = s.errs := rfl
@[simp] theorem State.modFld_bank (s : State) (f : Field → Field) : (s.modFld f).bank = s.bank := rfl
@[simp] theorem State.modFld_bus (s : State) (f : Field → Field) : (s.modFld f).bus = s.bus := rfl
@[simp] theorem State.modFld_nv (s : State) (f : Field → Field) : (s.modFld f).nv = s.nv := rfl
@[simp] theorem State.modFld_ctx (s : State) (f : Field → Field) : (s.modFld f).ctx = s.ctx := rfl
@[simp] theorem State.modFld_core (s : State) (f : Field → Field) : (s.modFld f).core = s.core := rfl
@[simp] theorem State.modFld_op (s : State) (f : Field → Field) : (s.modFld f).op = s.op := rfl
@[simp] theorem State.modFld_img (s : State) (f : Field → Field) : (s.modFld f).img = s.img := rfl
@[simp] theorem State.modFld_evCount (s : State) (f : Field → Field) : (s.modFld f).evCount = s.evCount := rfl
@[simp] theorem State.modFld_pair (s : State) (f : Field → Field) : (s.modFld f).pair = s.pair := rfl
@[simp] theorem State.modFld_prog (s : State) (f : Field → Field) : (s.modFld f).prog = s.prog := rfl
@[simp] theorem State.modFld_dict (s : State) (f : Field → Field) : (s.modFld f).dict = s.dict := rfl
@[simp] theorem State.modFld_time (s : State) (f : Field → Field) : (s.modFld f).time = s.time := rfl
@[simp] theorem State.modFld_rcd (s : State) (f : Field → Field) : (s.modFld f).rcd = s.rcd := rfl
@[simp] theorem State.modFld_inj (s : State) (f : Field → Field) : (s.modFld f).inj = s.inj := rfl
@[simp] theorem State.modFld_sup (s : State) (f : Field → Field) : (s.modFld f).sup = s.sup := rfl
@[simp] theorem State.modFld_pwr (s : State) (f : Field → Field) : (s.modFld f).pwr = s.pwr := rfl
@[simp] theorem State.modFld_fld (s : State) (f : Field → Field) : (s.modFld f).fld = f s.fld := rfl
@[simp] theorem State.modFld_nrg (s : State) (f : Field → Field) : (s.modFld f).nrg = s.nrg := rfl
@[simp] theorem State.modFld_net (s : State) (f : Field → Field) : (s.modFld f).net = s.net := rfl
@[simp] theorem State.modFld_can (s : State) (f : Field → Field) : (s.modFld f).can = s.can := rfl
@[simp] theorem State.modFld_hier (s : State) (f : Field → Field) : (s.modFld f).hier = s.hier := rfl
@[simp] theorem State.modFld_tdm (s : State) (f : Field → Field) : (s.modFld f).tdm = s.tdm := rfl
@[simp] theorem State.modFld_otp (s : State) (f : Field → Field) : (s.modFld f).otp = s.otp := rfl
@[simp] theorem State.modFld_sec (s : State) (f : Field → Field) : (s.modFld f).sec = s.sec := rfl

/-! ### `State.modNet` -/

@[simp] theorem State.modNet_pending (s : State) (f : Net → Net) : (s.modNet f).pending = s.pending := rfl
@[simp] theorem State.modNet_clk (s : State) (f : Net → Net) : (s.modNet f).clk = s.clk := rfl
@[simp] theorem State.modNet_freeCtr (s : State) (f : Net → Net) : (s.modNet f).freeCtr = s.freeCtr := rfl
@[simp] theorem State.modNet_mem (s : State) (f : Net → Net) : (s.modNet f).mem = s.mem := rfl
@[simp] theorem State.modNet_errs (s : State) (f : Net → Net) : (s.modNet f).errs = s.errs := rfl
@[simp] theorem State.modNet_bank (s : State) (f : Net → Net) : (s.modNet f).bank = s.bank := rfl
@[simp] theorem State.modNet_bus (s : State) (f : Net → Net) : (s.modNet f).bus = s.bus := rfl
@[simp] theorem State.modNet_nv (s : State) (f : Net → Net) : (s.modNet f).nv = s.nv := rfl
@[simp] theorem State.modNet_ctx (s : State) (f : Net → Net) : (s.modNet f).ctx = s.ctx := rfl
@[simp] theorem State.modNet_core (s : State) (f : Net → Net) : (s.modNet f).core = s.core := rfl
@[simp] theorem State.modNet_op (s : State) (f : Net → Net) : (s.modNet f).op = s.op := rfl
@[simp] theorem State.modNet_img (s : State) (f : Net → Net) : (s.modNet f).img = s.img := rfl
@[simp] theorem State.modNet_evCount (s : State) (f : Net → Net) : (s.modNet f).evCount = s.evCount := rfl
@[simp] theorem State.modNet_pair (s : State) (f : Net → Net) : (s.modNet f).pair = s.pair := rfl
@[simp] theorem State.modNet_prog (s : State) (f : Net → Net) : (s.modNet f).prog = s.prog := rfl
@[simp] theorem State.modNet_dict (s : State) (f : Net → Net) : (s.modNet f).dict = s.dict := rfl
@[simp] theorem State.modNet_time (s : State) (f : Net → Net) : (s.modNet f).time = s.time := rfl
@[simp] theorem State.modNet_rcd (s : State) (f : Net → Net) : (s.modNet f).rcd = s.rcd := rfl
@[simp] theorem State.modNet_inj (s : State) (f : Net → Net) : (s.modNet f).inj = s.inj := rfl
@[simp] theorem State.modNet_sup (s : State) (f : Net → Net) : (s.modNet f).sup = s.sup := rfl
@[simp] theorem State.modNet_pwr (s : State) (f : Net → Net) : (s.modNet f).pwr = s.pwr := rfl
@[simp] theorem State.modNet_fld (s : State) (f : Net → Net) : (s.modNet f).fld = s.fld := rfl
@[simp] theorem State.modNet_nrg (s : State) (f : Net → Net) : (s.modNet f).nrg = s.nrg := rfl
@[simp] theorem State.modNet_net (s : State) (f : Net → Net) : (s.modNet f).net = f s.net := rfl
@[simp] theorem State.modNet_can (s : State) (f : Net → Net) : (s.modNet f).can = s.can := rfl
@[simp] theorem State.modNet_hier (s : State) (f : Net → Net) : (s.modNet f).hier = s.hier := rfl
@[simp] theorem State.modNet_tdm (s : State) (f : Net → Net) : (s.modNet f).tdm = s.tdm := rfl
@[simp] theorem State.modNet_otp (s : State) (f : Net → Net) : (s.modNet f).otp = s.otp := rfl
@[simp] theorem State.modNet_sec (s : State) (f : Net → Net) : (s.modNet f).sec = s.sec := rfl

/-! ### `State.modHier` -/

@[simp] theorem State.modHier_pending (s : State) (f : Hier → Hier) : (s.modHier f).pending = s.pending := rfl
@[simp] theorem State.modHier_clk (s : State) (f : Hier → Hier) : (s.modHier f).clk = s.clk := rfl
@[simp] theorem State.modHier_freeCtr (s : State) (f : Hier → Hier) : (s.modHier f).freeCtr = s.freeCtr := rfl
@[simp] theorem State.modHier_mem (s : State) (f : Hier → Hier) : (s.modHier f).mem = s.mem := rfl
@[simp] theorem State.modHier_errs (s : State) (f : Hier → Hier) : (s.modHier f).errs = s.errs := rfl
@[simp] theorem State.modHier_bank (s : State) (f : Hier → Hier) : (s.modHier f).bank = s.bank := rfl
@[simp] theorem State.modHier_bus (s : State) (f : Hier → Hier) : (s.modHier f).bus = s.bus := rfl
@[simp] theorem State.modHier_nv (s : State) (f : Hier → Hier) : (s.modHier f).nv = s.nv := rfl
@[simp] theorem State.modHier_ctx (s : State) (f : Hier → Hier) : (s.modHier f).ctx = s.ctx := rfl
@[simp] theorem State.modHier_core (s : State) (f : Hier → Hier) : (s.modHier f).core = s.core := rfl
@[simp] theorem State.modHier_op (s : State) (f : Hier → Hier) : (s.modHier f).op = s.op := rfl
@[simp] theorem State.modHier_img (s : State) (f : Hier → Hier) : (s.modHier f).img = s.img := rfl
@[simp] theorem State.modHier_evCount (s : State) (f : Hier → Hier) : (s.modHier f).evCount = s.evCount := rfl
@[simp] theorem State.modHier_pair (s : State) (f : Hier → Hier) : (s.modHier f).pair = s.pair := rfl
@[simp] theorem State.modHier_prog (s : State) (f : Hier → Hier) : (s.modHier f).prog = s.prog := rfl
@[simp] theorem State.modHier_dict (s : State) (f : Hier → Hier) : (s.modHier f).dict = s.dict := rfl
@[simp] theorem State.modHier_time (s : State) (f : Hier → Hier) : (s.modHier f).time = s.time := rfl
@[simp] theorem State.modHier_rcd (s : State) (f : Hier → Hier) : (s.modHier f).rcd = s.rcd := rfl
@[simp] theorem State.modHier_inj (s : State) (f : Hier → Hier) : (s.modHier f).inj = s.inj := rfl
@[simp] theorem State.modHier_sup (s : State) (f : Hier → Hier) : (s.modHier f).sup = s.sup := rfl
@[simp] theorem State.modHier_pwr (s : State) (f : Hier → Hier) : (s.modHier f).pwr = s.pwr := rfl
@[simp] theorem State.modHier_fld (s : State) (f : Hier → Hier) : (s.modHier f).fld = s.fld := rfl
@[simp] theorem State.modHier_nrg (s : State) (f : Hier → Hier) : (s.modHier f).nrg = s.nrg := rfl
@[simp] theorem State.modHier_net (s : State) (f : Hier → Hier) : (s.modHier f).net = s.net := rfl
@[simp] theorem State.modHier_can (s : State) (f : Hier → Hier) : (s.modHier f).can = s.can := rfl
@[simp] theorem State.modHier_hier (s : State) (f : Hier → Hier) : (s.modHier f).hier = f s.hier := rfl
@[simp] theorem State.modHier_tdm (s : State) (f : Hier → Hier) : (s.modHier f).tdm = s.tdm := rfl
@[simp] theorem State.modHier_otp (s : State) (f : Hier → Hier) : (s.modHier f).otp = s.otp := rfl
@[simp] theorem State.modHier_sec (s : State) (f : Hier → Hier) : (s.modHier f).sec = s.sec := rfl

/-! ### `State.modCan` -/

@[simp] theorem State.modCan_pending (s : State) (c : Fin 2) (f : Can → Can) : (s.modCan c f).pending = s.pending := rfl
@[simp] theorem State.modCan_clk (s : State) (c : Fin 2) (f : Can → Can) : (s.modCan c f).clk = s.clk := rfl
@[simp] theorem State.modCan_freeCtr (s : State) (c : Fin 2) (f : Can → Can) : (s.modCan c f).freeCtr = s.freeCtr := rfl
@[simp] theorem State.modCan_mem (s : State) (c : Fin 2) (f : Can → Can) : (s.modCan c f).mem = s.mem := rfl
@[simp] theorem State.modCan_errs (s : State) (c : Fin 2) (f : Can → Can) : (s.modCan c f).errs = s.errs := rfl
@[simp] theorem State.modCan_bank (s : State) (c : Fin 2) (f : Can → Can) : (s.modCan c f).bank = s.bank := rfl
@[simp] theorem State.modCan_bus (s : State) (c : Fin 2) (f : Can → Can) : (s.modCan c f).bus = s.bus := rfl
@[simp] theorem State.modCan_nv (s : State) (c : Fin 2) (f : Can → Can) : (s.modCan c f).nv = s.nv := rfl
@[simp] theorem State.modCan_ctx (s : State) (c : Fin 2) (f : Can → Can) : (s.modCan c f).ctx = s.ctx := rfl
@[simp] theorem State.modCan_core (s : State) (c : Fin 2) (f : Can → Can) : (s.modCan c f).core = s.core := rfl
@[simp] theorem State.modCan_op (s : State) (c : Fin 2) (f : Can → Can) : (s.modCan c f).op = s.op := rfl
@[simp] theorem State.modCan_img (s : State) (c : Fin 2) (f : Can → Can) : (s.modCan c f).img = s.img := rfl
@[simp] theorem State.modCan_evCount (s : State) (c : Fin 2) (f : Can → Can) : (s.modCan c f).evCount = s.evCount := rfl
@[simp] theorem State.modCan_pair (s : State) (c : Fin 2) (f : Can → Can) : (s.modCan c f).pair = s.pair := rfl
@[simp] theorem State.modCan_prog (s : State) (c : Fin 2) (f : Can → Can) : (s.modCan c f).prog = s.prog := rfl
@[simp] theorem State.modCan_dict (s : State) (c : Fin 2) (f : Can → Can) : (s.modCan c f).dict = s.dict := rfl
@[simp] theorem State.modCan_time (s : State) (c : Fin 2) (f : Can → Can) : (s.modCan c f).time = s.time := rfl
@[simp] theorem State.modCan_rcd (s : State) (c : Fin 2) (f : Can → Can) : (s.modCan c f).rcd = s.rcd := rfl
@[simp] theorem State.modCan_inj (s : State) (c : Fin 2) (f : Can → Can) : (s.modCan c f).inj = s.inj := rfl
@[simp] theorem State.modCan_sup (s : State) (c : Fin 2) (f : Can → Can) : (s.modCan c f).sup = s.sup := rfl
@[simp] theorem State.modCan_pwr (s : State) (c : Fin 2) (f : Can → Can) : (s.modCan c f).pwr = s.pwr := rfl
@[simp] theorem State.modCan_fld (s : State) (c : Fin 2) (f : Can → Can) : (s.modCan c f).fld = s.fld := rfl
@[simp] theorem State.modCan_nrg (s : State) (c : Fin 2) (f : Can → Can) : (s.modCan c f).nrg = s.nrg := rfl
@[simp] theorem State.modCan_net (s : State) (c : Fin 2) (f : Can → Can) : (s.modCan c f).net = s.net := rfl
@[simp] theorem State.modCan_can (s : State) (c : Fin 2) (f : Can → Can) : (s.modCan c f).can = s.can.set c (f s.can[c]) := rfl
@[simp] theorem State.modCan_hier (s : State) (c : Fin 2) (f : Can → Can) : (s.modCan c f).hier = s.hier := rfl
@[simp] theorem State.modCan_tdm (s : State) (c : Fin 2) (f : Can → Can) : (s.modCan c f).tdm = s.tdm := rfl
@[simp] theorem State.modCan_otp (s : State) (c : Fin 2) (f : Can → Can) : (s.modCan c f).otp = s.otp := rfl
@[simp] theorem State.modCan_sec (s : State) (c : Fin 2) (f : Can → Can) : (s.modCan c f).sec = s.sec := rfl

/-! ### `State.draw` -/

@[simp] theorem State.draw_pending (s : State) : (s.draw).pending = s.pending := rfl
@[simp] theorem State.draw_clk (s : State) : (s.draw).clk = s.clk := rfl
@[simp] theorem State.draw_freeCtr (s : State) : (s.draw).freeCtr = s.freeCtr + 1 := rfl
@[simp] theorem State.draw_mem (s : State) : (s.draw).mem = s.mem := rfl
@[simp] theorem State.draw_errs (s : State) : (s.draw).errs = s.errs := rfl
@[simp] theorem State.draw_bank (s : State) : (s.draw).bank = s.bank := rfl
@[simp] theorem State.draw_bus (s : State) : (s.draw).bus = s.bus := rfl
@[simp] theorem State.draw_nv (s : State) : (s.draw).nv = s.nv := rfl
@[simp] theorem State.draw_ctx (s : State) : (s.draw).ctx = s.ctx := rfl
@[simp] theorem State.draw_core (s : State) : (s.draw).core = s.core := rfl
@[simp] theorem State.draw_op (s : State) : (s.draw).op = s.op := rfl
@[simp] theorem State.draw_img (s : State) : (s.draw).img = s.img := rfl
@[simp] theorem State.draw_evCount (s : State) : (s.draw).evCount = s.evCount := rfl
@[simp] theorem State.draw_pair (s : State) : (s.draw).pair = s.pair := rfl
@[simp] theorem State.draw_prog (s : State) : (s.draw).prog = s.prog := rfl
@[simp] theorem State.draw_dict (s : State) : (s.draw).dict = s.dict := rfl
@[simp] theorem State.draw_time (s : State) : (s.draw).time = s.time := rfl
@[simp] theorem State.draw_rcd (s : State) : (s.draw).rcd = s.rcd := rfl
@[simp] theorem State.draw_inj (s : State) : (s.draw).inj = s.inj := rfl
@[simp] theorem State.draw_sup (s : State) : (s.draw).sup = s.sup := rfl
@[simp] theorem State.draw_pwr (s : State) : (s.draw).pwr = s.pwr := rfl
@[simp] theorem State.draw_fld (s : State) : (s.draw).fld = s.fld := rfl
@[simp] theorem State.draw_nrg (s : State) : (s.draw).nrg = s.nrg := rfl
@[simp] theorem State.draw_net (s : State) : (s.draw).net = s.net := rfl
@[simp] theorem State.draw_can (s : State) : (s.draw).can = s.can := rfl
@[simp] theorem State.draw_hier (s : State) : (s.draw).hier = s.hier := rfl
@[simp] theorem State.draw_tdm (s : State) : (s.draw).tdm = s.tdm := rfl
@[simp] theorem State.draw_otp (s : State) : (s.draw).otp = s.otp := rfl
@[simp] theorem State.draw_sec (s : State) : (s.draw).sec = s.sec := rfl

/-! ### `State.burn` -/

@[simp] theorem State.burn_pending (s : State) (m : BitVec 8192) : (s.burn m).pending = s.pending := rfl
@[simp] theorem State.burn_clk (s : State) (m : BitVec 8192) : (s.burn m).clk = s.clk := rfl
@[simp] theorem State.burn_freeCtr (s : State) (m : BitVec 8192) : (s.burn m).freeCtr = s.freeCtr := rfl
@[simp] theorem State.burn_mem (s : State) (m : BitVec 8192) : (s.burn m).mem = s.mem := rfl
@[simp] theorem State.burn_errs (s : State) (m : BitVec 8192) : (s.burn m).errs = s.errs := rfl
@[simp] theorem State.burn_bank (s : State) (m : BitVec 8192) : (s.burn m).bank = s.bank := rfl
@[simp] theorem State.burn_bus (s : State) (m : BitVec 8192) : (s.burn m).bus = s.bus := rfl
@[simp] theorem State.burn_nv (s : State) (m : BitVec 8192) : (s.burn m).nv = s.nv := rfl
@[simp] theorem State.burn_ctx (s : State) (m : BitVec 8192) : (s.burn m).ctx = s.ctx := rfl
@[simp] theorem State.burn_core (s : State) (m : BitVec 8192) : (s.burn m).core = s.core := rfl
@[simp] theorem State.burn_op (s : State) (m : BitVec 8192) : (s.burn m).op = s.op := rfl
@[simp] theorem State.burn_img (s : State) (m : BitVec 8192) : (s.burn m).img = s.img := rfl
@[simp] theorem State.burn_evCount (s : State) (m : BitVec 8192) : (s.burn m).evCount = s.evCount := rfl
@[simp] theorem State.burn_pair (s : State) (m : BitVec 8192) : (s.burn m).pair = s.pair := rfl
@[simp] theorem State.burn_prog (s : State) (m : BitVec 8192) : (s.burn m).prog = s.prog := rfl
@[simp] theorem State.burn_dict (s : State) (m : BitVec 8192) : (s.burn m).dict = s.dict := rfl
@[simp] theorem State.burn_time (s : State) (m : BitVec 8192) : (s.burn m).time = s.time := rfl
@[simp] theorem State.burn_rcd (s : State) (m : BitVec 8192) : (s.burn m).rcd = s.rcd := rfl
@[simp] theorem State.burn_inj (s : State) (m : BitVec 8192) : (s.burn m).inj = s.inj := rfl
@[simp] theorem State.burn_sup (s : State) (m : BitVec 8192) : (s.burn m).sup = s.sup := rfl
@[simp] theorem State.burn_pwr (s : State) (m : BitVec 8192) : (s.burn m).pwr = s.pwr := rfl
@[simp] theorem State.burn_fld (s : State) (m : BitVec 8192) : (s.burn m).fld = s.fld := rfl
@[simp] theorem State.burn_nrg (s : State) (m : BitVec 8192) : (s.burn m).nrg = s.nrg := rfl
@[simp] theorem State.burn_net (s : State) (m : BitVec 8192) : (s.burn m).net = s.net := rfl
@[simp] theorem State.burn_can (s : State) (m : BitVec 8192) : (s.burn m).can = s.can := rfl
@[simp] theorem State.burn_hier (s : State) (m : BitVec 8192) : (s.burn m).hier = s.hier := rfl
@[simp] theorem State.burn_tdm (s : State) (m : BitVec 8192) : (s.burn m).tdm = s.tdm := rfl
@[simp] theorem State.burn_otp (s : State) (m : BitVec 8192) : (s.burn m).otp = s.otp ||| m := rfl
@[simp] theorem State.burn_sec (s : State) (m : BitVec 8192) : (s.burn m).sec = s.sec := rfl

/-! ### `State.recInj` -/

@[simp] theorem State.recInj_pending (s : State) (code src p1 p2 p3 : Nat) (inj : Bool) : (s.recInj code src p1 p2 p3 inj).pending = s.pending := rfl
@[simp] theorem State.recInj_clk (s : State) (code src p1 p2 p3 : Nat) (inj : Bool) : (s.recInj code src p1 p2 p3 inj).clk = s.clk := rfl
@[simp] theorem State.recInj_freeCtr (s : State) (code src p1 p2 p3 : Nat) (inj : Bool) : (s.recInj code src p1 p2 p3 inj).freeCtr = s.freeCtr := rfl
@[simp] theorem State.recInj_mem (s : State) (code src p1 p2 p3 : Nat) (inj : Bool) : (s.recInj code src p1 p2 p3 inj).mem = s.mem := rfl
@[simp] theorem State.recInj_errs (s : State) (code src p1 p2 p3 : Nat) (inj : Bool) : (s.recInj code src p1 p2 p3 inj).errs = s.errs := rfl
@[simp] theorem State.recInj_bank (s : State) (code src p1 p2 p3 : Nat) (inj : Bool) : (s.recInj code src p1 p2 p3 inj).bank = s.bank := rfl
@[simp] theorem State.recInj_bus (s : State) (code src p1 p2 p3 : Nat) (inj : Bool) : (s.recInj code src p1 p2 p3 inj).bus = s.bus := rfl
@[simp] theorem State.recInj_nv (s : State) (code src p1 p2 p3 : Nat) (inj : Bool) : (s.recInj code src p1 p2 p3 inj).nv = s.nv := rfl
@[simp] theorem State.recInj_ctx (s : State) (code src p1 p2 p3 : Nat) (inj : Bool) : (s.recInj code src p1 p2 p3 inj).ctx = s.ctx := rfl
@[simp] theorem State.recInj_core (s : State) (code src p1 p2 p3 : Nat) (inj : Bool) : (s.recInj code src p1 p2 p3 inj).core = s.core := rfl
@[simp] theorem State.recInj_op (s : State) (code src p1 p2 p3 : Nat) (inj : Bool) : (s.recInj code src p1 p2 p3 inj).op = s.op := rfl
@[simp] theorem State.recInj_img (s : State) (code src p1 p2 p3 : Nat) (inj : Bool) : (s.recInj code src p1 p2 p3 inj).img = s.img := rfl
@[simp] theorem State.recInj_evCount (s : State) (code src p1 p2 p3 : Nat) (inj : Bool) : (s.recInj code src p1 p2 p3 inj).evCount = s.evCount := rfl
@[simp] theorem State.recInj_pair (s : State) (code src p1 p2 p3 : Nat) (inj : Bool) : (s.recInj code src p1 p2 p3 inj).pair = s.pair := rfl
@[simp] theorem State.recInj_prog (s : State) (code src p1 p2 p3 : Nat) (inj : Bool) : (s.recInj code src p1 p2 p3 inj).prog = s.prog := rfl
@[simp] theorem State.recInj_dict (s : State) (code src p1 p2 p3 : Nat) (inj : Bool) : (s.recInj code src p1 p2 p3 inj).dict = s.dict := rfl
@[simp] theorem State.recInj_time (s : State) (code src p1 p2 p3 : Nat) (inj : Bool) : (s.recInj code src p1 p2 p3 inj).time = s.time := rfl
@[simp] theorem State.recInj_rcd (s : State) (code src p1 p2 p3 : Nat) (inj : Bool) : (s.recInj code src p1 p2 p3 inj).rcd = s.judge code src p1 p2 p3 inj := rfl
@[simp] theorem State.recInj_inj (s : State) (code src p1 p2 p3 : Nat) (inj : Bool) : (s.recInj code src p1 p2 p3 inj).inj = s.inj := rfl
@[simp] theorem State.recInj_sup (s : State) (code src p1 p2 p3 : Nat) (inj : Bool) : (s.recInj code src p1 p2 p3 inj).sup = s.sup := rfl
@[simp] theorem State.recInj_pwr (s : State) (code src p1 p2 p3 : Nat) (inj : Bool) : (s.recInj code src p1 p2 p3 inj).pwr = s.pwr := rfl
@[simp] theorem State.recInj_fld (s : State) (code src p1 p2 p3 : Nat) (inj : Bool) : (s.recInj code src p1 p2 p3 inj).fld = s.fld := rfl
@[simp] theorem State.recInj_nrg (s : State) (code src p1 p2 p3 : Nat) (inj : Bool) : (s.recInj code src p1 p2 p3 inj).nrg = s.nrg := rfl
@[simp] theorem State.recInj_net (s : State) (code src p1 p2 p3 : Nat) (inj : Bool) : (s.recInj code src p1 p2 p3 inj).net = s.net := rfl
@[simp] theorem State.recInj_can (s : State) (code src p1 p2 p3 : Nat) (inj : Bool) : (s.recInj code src p1 p2 p3 inj).can = s.can := rfl
@[simp] theorem State.recInj_hier (s : State) (code src p1 p2 p3 : Nat) (inj : Bool) : (s.recInj code src p1 p2 p3 inj).hier = s.hier := rfl
@[simp] theorem State.recInj_tdm (s : State) (code src p1 p2 p3 : Nat) (inj : Bool) : (s.recInj code src p1 p2 p3 inj).tdm = s.tdm := rfl
@[simp] theorem State.recInj_otp (s : State) (code src p1 p2 p3 : Nat) (inj : Bool) : (s.recInj code src p1 p2 p3 inj).otp = s.otp := rfl
@[simp] theorem State.recInj_sec (s : State) (code src p1 p2 p3 : Nat) (inj : Bool) : (s.recInj code src p1 p2 p3 inj).sec = s.sec := rfl

/-! ### `State.rec_` -/

@[simp] theorem State.rec__pending (s : State) (code src p1 p2 p3 : Nat) : (s.rec_ code src p1 p2 p3).pending = s.pending := rfl
@[simp] theorem State.rec__clk (s : State) (code src p1 p2 p3 : Nat) : (s.rec_ code src p1 p2 p3).clk = s.clk := rfl
@[simp] theorem State.rec__freeCtr (s : State) (code src p1 p2 p3 : Nat) : (s.rec_ code src p1 p2 p3).freeCtr = s.freeCtr := rfl
@[simp] theorem State.rec__mem (s : State) (code src p1 p2 p3 : Nat) : (s.rec_ code src p1 p2 p3).mem = s.mem := rfl
@[simp] theorem State.rec__errs (s : State) (code src p1 p2 p3 : Nat) : (s.rec_ code src p1 p2 p3).errs = s.errs := rfl
@[simp] theorem State.rec__bank (s : State) (code src p1 p2 p3 : Nat) : (s.rec_ code src p1 p2 p3).bank = s.bank := rfl
@[simp] theorem State.rec__bus (s : State) (code src p1 p2 p3 : Nat) : (s.rec_ code src p1 p2 p3).bus = s.bus := rfl
@[simp] theorem State.rec__nv (s : State) (code src p1 p2 p3 : Nat) : (s.rec_ code src p1 p2 p3).nv = s.nv := rfl
@[simp] theorem State.rec__ctx (s : State) (code src p1 p2 p3 : Nat) : (s.rec_ code src p1 p2 p3).ctx = s.ctx := rfl
@[simp] theorem State.rec__core (s : State) (code src p1 p2 p3 : Nat) : (s.rec_ code src p1 p2 p3).core = s.core := rfl
@[simp] theorem State.rec__op (s : State) (code src p1 p2 p3 : Nat) : (s.rec_ code src p1 p2 p3).op = s.op := rfl
@[simp] theorem State.rec__img (s : State) (code src p1 p2 p3 : Nat) : (s.rec_ code src p1 p2 p3).img = s.img := rfl
@[simp] theorem State.rec__evCount (s : State) (code src p1 p2 p3 : Nat) : (s.rec_ code src p1 p2 p3).evCount = s.evCount := rfl
@[simp] theorem State.rec__pair (s : State) (code src p1 p2 p3 : Nat) : (s.rec_ code src p1 p2 p3).pair = s.pair := rfl
@[simp] theorem State.rec__prog (s : State) (code src p1 p2 p3 : Nat) : (s.rec_ code src p1 p2 p3).prog = s.prog := rfl
@[simp] theorem State.rec__dict (s : State) (code src p1 p2 p3 : Nat) : (s.rec_ code src p1 p2 p3).dict = s.dict := rfl
@[simp] theorem State.rec__time (s : State) (code src p1 p2 p3 : Nat) : (s.rec_ code src p1 p2 p3).time = s.time := rfl
@[simp] theorem State.rec__rcd (s : State) (code src p1 p2 p3 : Nat) : (s.rec_ code src p1 p2 p3).rcd = s.judge code src p1 p2 p3 false := rfl
@[simp] theorem State.rec__inj (s : State) (code src p1 p2 p3 : Nat) : (s.rec_ code src p1 p2 p3).inj = s.inj := rfl
@[simp] theorem State.rec__sup (s : State) (code src p1 p2 p3 : Nat) : (s.rec_ code src p1 p2 p3).sup = s.sup := rfl
@[simp] theorem State.rec__pwr (s : State) (code src p1 p2 p3 : Nat) : (s.rec_ code src p1 p2 p3).pwr = s.pwr := rfl
@[simp] theorem State.rec__fld (s : State) (code src p1 p2 p3 : Nat) : (s.rec_ code src p1 p2 p3).fld = s.fld := rfl
@[simp] theorem State.rec__nrg (s : State) (code src p1 p2 p3 : Nat) : (s.rec_ code src p1 p2 p3).nrg = s.nrg := rfl
@[simp] theorem State.rec__net (s : State) (code src p1 p2 p3 : Nat) : (s.rec_ code src p1 p2 p3).net = s.net := rfl
@[simp] theorem State.rec__can (s : State) (code src p1 p2 p3 : Nat) : (s.rec_ code src p1 p2 p3).can = s.can := rfl
@[simp] theorem State.rec__hier (s : State) (code src p1 p2 p3 : Nat) : (s.rec_ code src p1 p2 p3).hier = s.hier := rfl
@[simp] theorem State.rec__tdm (s : State) (code src p1 p2 p3 : Nat) : (s.rec_ code src p1 p2 p3).tdm = s.tdm := rfl
@[simp] theorem State.rec__otp (s : State) (code src p1 p2 p3 : Nat) : (s.rec_ code src p1 p2 p3).otp = s.otp := rfl
@[simp] theorem State.rec__sec (s : State) (code src p1 p2 p3 : Nat) : (s.rec_ code src p1 p2 p3).sec = s.sec := rfl

/-! ### `State.injDone` -/

@[simp] theorem State.injDone_pending (s : State) (d : Nat) : (s.injDone d).pending = s.pending := rfl
@[simp] theorem State.injDone_clk (s : State) (d : Nat) : (s.injDone d).clk = s.clk := rfl
@[simp] theorem State.injDone_freeCtr (s : State) (d : Nat) : (s.injDone d).freeCtr = s.freeCtr := rfl
@[simp] theorem State.injDone_mem (s : State) (d : Nat) : (s.injDone d).mem = s.mem := rfl
@[simp] theorem State.injDone_errs (s : State) (d : Nat) : (s.injDone d).errs = s.errs := rfl
@[simp] theorem State.injDone_bank (s : State) (d : Nat) : (s.injDone d).bank = s.bank := rfl
@[simp] theorem State.injDone_bus (s : State) (d : Nat) : (s.injDone d).bus = s.bus := rfl
@[simp] theorem State.injDone_nv (s : State) (d : Nat) : (s.injDone d).nv = s.nv := rfl
@[simp] theorem State.injDone_ctx (s : State) (d : Nat) : (s.injDone d).ctx = s.ctx := rfl
@[simp] theorem State.injDone_core (s : State) (d : Nat) : (s.injDone d).core = s.core := rfl
@[simp] theorem State.injDone_op (s : State) (d : Nat) : (s.injDone d).op = s.op := rfl
@[simp] theorem State.injDone_img (s : State) (d : Nat) : (s.injDone d).img = s.img := rfl
@[simp] theorem State.injDone_evCount (s : State) (d : Nat) : (s.injDone d).evCount = s.evCount := rfl
@[simp] theorem State.injDone_pair (s : State) (d : Nat) : (s.injDone d).pair = s.pair := rfl
@[simp] theorem State.injDone_prog (s : State) (d : Nat) : (s.injDone d).prog = s.prog := rfl
@[simp] theorem State.injDone_dict (s : State) (d : Nat) : (s.injDone d).dict = s.dict := rfl
@[simp] theorem State.injDone_time (s : State) (d : Nat) : (s.injDone d).time = s.time := rfl
@[simp] theorem State.injDone_rcd (s : State) (d : Nat) : (s.injDone d).rcd = s.rcd := rfl
@[simp] theorem State.injDone_inj (s : State) (d : Nat) : (s.injDone d).inj = if (s.det d).st = 1 then sset ⟨0, 0, 0, 0⟩ s.inj d { s.det d with st := 0 } else s.inj := rfl
@[simp] theorem State.injDone_sup (s : State) (d : Nat) : (s.injDone d).sup = s.sup := rfl
@[simp] theorem State.injDone_pwr (s : State) (d : Nat) : (s.injDone d).pwr = s.pwr := rfl
@[simp] theorem State.injDone_fld (s : State) (d : Nat) : (s.injDone d).fld = s.fld := rfl
@[simp] theorem State.injDone_nrg (s : State) (d : Nat) : (s.injDone d).nrg = s.nrg := rfl
@[simp] theorem State.injDone_net (s : State) (d : Nat) : (s.injDone d).net = s.net := rfl
@[simp] theorem State.injDone_can (s : State) (d : Nat) : (s.injDone d).can = s.can := rfl
@[simp] theorem State.injDone_hier (s : State) (d : Nat) : (s.injDone d).hier = s.hier := rfl
@[simp] theorem State.injDone_tdm (s : State) (d : Nat) : (s.injDone d).tdm = s.tdm := rfl
@[simp] theorem State.injDone_otp (s : State) (d : Nat) : (s.injDone d).otp = s.otp := rfl
@[simp] theorem State.injDone_sec (s : State) (d : Nat) : (s.injDone d).sec = s.sec := rfl

/-! ### `State.putEntry` -/

@[simp] theorem State.putEntry_pending (s : State) (idx sub : Nat) (bs : List Byte) : (s.putEntry idx sub bs).pending = s.pending := rfl
@[simp] theorem State.putEntry_clk (s : State) (idx sub : Nat) (bs : List Byte) : (s.putEntry idx sub bs).clk = s.clk := rfl
@[simp] theorem State.putEntry_freeCtr (s : State) (idx sub : Nat) (bs : List Byte) : (s.putEntry idx sub bs).freeCtr = s.freeCtr := rfl
@[simp] theorem State.putEntry_mem (s : State) (idx sub : Nat) (bs : List Byte) : (s.putEntry idx sub bs).mem = s.mem := rfl
@[simp] theorem State.putEntry_errs (s : State) (idx sub : Nat) (bs : List Byte) : (s.putEntry idx sub bs).errs = s.errs := rfl
@[simp] theorem State.putEntry_bank (s : State) (idx sub : Nat) (bs : List Byte) : (s.putEntry idx sub bs).bank = s.bank := rfl
@[simp] theorem State.putEntry_bus (s : State) (idx sub : Nat) (bs : List Byte) : (s.putEntry idx sub bs).bus = s.bus := rfl
@[simp] theorem State.putEntry_nv (s : State) (idx sub : Nat) (bs : List Byte) : (s.putEntry idx sub bs).nv = s.nv := rfl
@[simp] theorem State.putEntry_ctx (s : State) (idx sub : Nat) (bs : List Byte) : (s.putEntry idx sub bs).ctx = s.ctx := rfl
@[simp] theorem State.putEntry_core (s : State) (idx sub : Nat) (bs : List Byte) : (s.putEntry idx sub bs).core = s.core := rfl
@[simp] theorem State.putEntry_op (s : State) (idx sub : Nat) (bs : List Byte) : (s.putEntry idx sub bs).op = s.op := rfl
@[simp] theorem State.putEntry_img (s : State) (idx sub : Nat) (bs : List Byte) : (s.putEntry idx sub bs).img = s.img := rfl
@[simp] theorem State.putEntry_evCount (s : State) (idx sub : Nat) (bs : List Byte) : (s.putEntry idx sub bs).evCount = s.evCount := rfl
@[simp] theorem State.putEntry_pair (s : State) (idx sub : Nat) (bs : List Byte) : (s.putEntry idx sub bs).pair = s.pair := rfl
@[simp] theorem State.putEntry_prog (s : State) (idx sub : Nat) (bs : List Byte) : (s.putEntry idx sub bs).prog = s.prog := rfl
@[simp] theorem State.putEntry_time (s : State) (idx sub : Nat) (bs : List Byte) : (s.putEntry idx sub bs).time = s.time := rfl
@[simp] theorem State.putEntry_rcd (s : State) (idx sub : Nat) (bs : List Byte) : (s.putEntry idx sub bs).rcd = s.rcd := rfl
@[simp] theorem State.putEntry_inj (s : State) (idx sub : Nat) (bs : List Byte) : (s.putEntry idx sub bs).inj = s.inj := rfl
@[simp] theorem State.putEntry_sup (s : State) (idx sub : Nat) (bs : List Byte) : (s.putEntry idx sub bs).sup = s.sup := rfl
@[simp] theorem State.putEntry_pwr (s : State) (idx sub : Nat) (bs : List Byte) : (s.putEntry idx sub bs).pwr = s.pwr := rfl
@[simp] theorem State.putEntry_fld (s : State) (idx sub : Nat) (bs : List Byte) : (s.putEntry idx sub bs).fld = s.fld := rfl
@[simp] theorem State.putEntry_nrg (s : State) (idx sub : Nat) (bs : List Byte) : (s.putEntry idx sub bs).nrg = s.nrg := rfl
@[simp] theorem State.putEntry_net (s : State) (idx sub : Nat) (bs : List Byte) : (s.putEntry idx sub bs).net = s.net := rfl
@[simp] theorem State.putEntry_can (s : State) (idx sub : Nat) (bs : List Byte) : (s.putEntry idx sub bs).can = s.can := rfl
@[simp] theorem State.putEntry_hier (s : State) (idx sub : Nat) (bs : List Byte) : (s.putEntry idx sub bs).hier = s.hier := rfl
@[simp] theorem State.putEntry_tdm (s : State) (idx sub : Nat) (bs : List Byte) : (s.putEntry idx sub bs).tdm = s.tdm := rfl
@[simp] theorem State.putEntry_otp (s : State) (idx sub : Nat) (bs : List Byte) : (s.putEntry idx sub bs).otp = s.otp := rfl
@[simp] theorem State.putEntry_sec (s : State) (idx sub : Nat) (bs : List Byte) : (s.putEntry idx sub bs).sec = s.sec := rfl

/-! ### `State.modRegs` -/

@[simp] theorem State.modRegs_pending (s : State) (g : Gctx) (f : Regs → Regs) : (s.modRegs g f).pending = s.pending := rfl
@[simp] theorem State.modRegs_clk (s : State) (g : Gctx) (f : Regs → Regs) : (s.modRegs g f).clk = s.clk := rfl
@[simp] theorem State.modRegs_freeCtr (s : State) (g : Gctx) (f : Regs → Regs) : (s.modRegs g f).freeCtr = s.freeCtr := rfl
@[simp] theorem State.modRegs_mem (s : State) (g : Gctx) (f : Regs → Regs) : (s.modRegs g f).mem = s.mem := rfl
@[simp] theorem State.modRegs_errs (s : State) (g : Gctx) (f : Regs → Regs) : (s.modRegs g f).errs = s.errs := rfl
@[simp] theorem State.modRegs_bank (s : State) (g : Gctx) (f : Regs → Regs) : (s.modRegs g f).bank = s.bank := rfl
@[simp] theorem State.modRegs_bus (s : State) (g : Gctx) (f : Regs → Regs) : (s.modRegs g f).bus = s.bus := rfl
@[simp] theorem State.modRegs_nv (s : State) (g : Gctx) (f : Regs → Regs) : (s.modRegs g f).nv = s.nv := rfl
@[simp] theorem State.modRegs_core (s : State) (g : Gctx) (f : Regs → Regs) : (s.modRegs g f).core = s.core := rfl
@[simp] theorem State.modRegs_op (s : State) (g : Gctx) (f : Regs → Regs) : (s.modRegs g f).op = s.op := rfl
@[simp] theorem State.modRegs_img (s : State) (g : Gctx) (f : Regs → Regs) : (s.modRegs g f).img = s.img := rfl
@[simp] theorem State.modRegs_evCount (s : State) (g : Gctx) (f : Regs → Regs) : (s.modRegs g f).evCount = s.evCount := rfl
@[simp] theorem State.modRegs_pair (s : State) (g : Gctx) (f : Regs → Regs) : (s.modRegs g f).pair = s.pair := rfl
@[simp] theorem State.modRegs_prog (s : State) (g : Gctx) (f : Regs → Regs) : (s.modRegs g f).prog = s.prog := rfl
@[simp] theorem State.modRegs_dict (s : State) (g : Gctx) (f : Regs → Regs) : (s.modRegs g f).dict = s.dict := rfl
@[simp] theorem State.modRegs_time (s : State) (g : Gctx) (f : Regs → Regs) : (s.modRegs g f).time = s.time := rfl
@[simp] theorem State.modRegs_rcd (s : State) (g : Gctx) (f : Regs → Regs) : (s.modRegs g f).rcd = s.rcd := rfl
@[simp] theorem State.modRegs_inj (s : State) (g : Gctx) (f : Regs → Regs) : (s.modRegs g f).inj = s.inj := rfl
@[simp] theorem State.modRegs_sup (s : State) (g : Gctx) (f : Regs → Regs) : (s.modRegs g f).sup = s.sup := rfl
@[simp] theorem State.modRegs_pwr (s : State) (g : Gctx) (f : Regs → Regs) : (s.modRegs g f).pwr = s.pwr := rfl
@[simp] theorem State.modRegs_fld (s : State) (g : Gctx) (f : Regs → Regs) : (s.modRegs g f).fld = s.fld := rfl
@[simp] theorem State.modRegs_nrg (s : State) (g : Gctx) (f : Regs → Regs) : (s.modRegs g f).nrg = s.nrg := rfl
@[simp] theorem State.modRegs_net (s : State) (g : Gctx) (f : Regs → Regs) : (s.modRegs g f).net = s.net := rfl
@[simp] theorem State.modRegs_can (s : State) (g : Gctx) (f : Regs → Regs) : (s.modRegs g f).can = s.can := rfl
@[simp] theorem State.modRegs_hier (s : State) (g : Gctx) (f : Regs → Regs) : (s.modRegs g f).hier = s.hier := rfl
@[simp] theorem State.modRegs_tdm (s : State) (g : Gctx) (f : Regs → Regs) : (s.modRegs g f).tdm = s.tdm := rfl
@[simp] theorem State.modRegs_otp (s : State) (g : Gctx) (f : Regs → Regs) : (s.modRegs g f).otp = s.otp := rfl
@[simp] theorem State.modRegs_sec (s : State) (g : Gctx) (f : Regs → Regs) : (s.modRegs g f).sec = s.sec := rfl

/-! ### `State.modAct` -/

@[simp] theorem State.modAct_pending (s : State) (g : Gctx) (f : Act → Act) : (s.modAct g f).pending = s.pending := rfl
@[simp] theorem State.modAct_clk (s : State) (g : Gctx) (f : Act → Act) : (s.modAct g f).clk = s.clk := rfl
@[simp] theorem State.modAct_freeCtr (s : State) (g : Gctx) (f : Act → Act) : (s.modAct g f).freeCtr = s.freeCtr := rfl
@[simp] theorem State.modAct_mem (s : State) (g : Gctx) (f : Act → Act) : (s.modAct g f).mem = s.mem := rfl
@[simp] theorem State.modAct_errs (s : State) (g : Gctx) (f : Act → Act) : (s.modAct g f).errs = s.errs := rfl
@[simp] theorem State.modAct_bank (s : State) (g : Gctx) (f : Act → Act) : (s.modAct g f).bank = s.bank := rfl
@[simp] theorem State.modAct_bus (s : State) (g : Gctx) (f : Act → Act) : (s.modAct g f).bus = s.bus := rfl
@[simp] theorem State.modAct_nv (s : State) (g : Gctx) (f : Act → Act) : (s.modAct g f).nv = s.nv := rfl
@[simp] theorem State.modAct_core (s : State) (g : Gctx) (f : Act → Act) : (s.modAct g f).core = s.core := rfl
@[simp] theorem State.modAct_op (s : State) (g : Gctx) (f : Act → Act) : (s.modAct g f).op = s.op := rfl
@[simp] theorem State.modAct_img (s : State) (g : Gctx) (f : Act → Act) : (s.modAct g f).img = s.img := rfl
@[simp] theorem State.modAct_evCount (s : State) (g : Gctx) (f : Act → Act) : (s.modAct g f).evCount = s.evCount := rfl
@[simp] theorem State.modAct_pair (s : State) (g : Gctx) (f : Act → Act) : (s.modAct g f).pair = s.pair := rfl
@[simp] theorem State.modAct_prog (s : State) (g : Gctx) (f : Act → Act) : (s.modAct g f).prog = s.prog := rfl
@[simp] theorem State.modAct_dict (s : State) (g : Gctx) (f : Act → Act) : (s.modAct g f).dict = s.dict := rfl
@[simp] theorem State.modAct_time (s : State) (g : Gctx) (f : Act → Act) : (s.modAct g f).time = s.time := rfl
@[simp] theorem State.modAct_rcd (s : State) (g : Gctx) (f : Act → Act) : (s.modAct g f).rcd = s.rcd := rfl
@[simp] theorem State.modAct_inj (s : State) (g : Gctx) (f : Act → Act) : (s.modAct g f).inj = s.inj := rfl
@[simp] theorem State.modAct_sup (s : State) (g : Gctx) (f : Act → Act) : (s.modAct g f).sup = s.sup := rfl
@[simp] theorem State.modAct_pwr (s : State) (g : Gctx) (f : Act → Act) : (s.modAct g f).pwr = s.pwr := rfl
@[simp] theorem State.modAct_fld (s : State) (g : Gctx) (f : Act → Act) : (s.modAct g f).fld = s.fld := rfl
@[simp] theorem State.modAct_nrg (s : State) (g : Gctx) (f : Act → Act) : (s.modAct g f).nrg = s.nrg := rfl
@[simp] theorem State.modAct_net (s : State) (g : Gctx) (f : Act → Act) : (s.modAct g f).net = s.net := rfl
@[simp] theorem State.modAct_can (s : State) (g : Gctx) (f : Act → Act) : (s.modAct g f).can = s.can := rfl
@[simp] theorem State.modAct_hier (s : State) (g : Gctx) (f : Act → Act) : (s.modAct g f).hier = s.hier := rfl
@[simp] theorem State.modAct_tdm (s : State) (g : Gctx) (f : Act → Act) : (s.modAct g f).tdm = s.tdm := rfl
@[simp] theorem State.modAct_otp (s : State) (g : Gctx) (f : Act → Act) : (s.modAct g f).otp = s.otp := rfl
@[simp] theorem State.modAct_sec (s : State) (g : Gctx) (f : Act → Act) : (s.modAct g f).sec = s.sec := rfl

/-! ### `State.modImgCtx` -/

@[simp] theorem State.modImgCtx_pending (s : State) (g : Gctx) (f : ImgCtx → ImgCtx) : (s.modImgCtx g f).pending = s.pending := rfl
@[simp] theorem State.modImgCtx_clk (s : State) (g : Gctx) (f : ImgCtx → ImgCtx) : (s.modImgCtx g f).clk = s.clk := rfl
@[simp] theorem State.modImgCtx_freeCtr (s : State) (g : Gctx) (f : ImgCtx → ImgCtx) : (s.modImgCtx g f).freeCtr = s.freeCtr := rfl
@[simp] theorem State.modImgCtx_mem (s : State) (g : Gctx) (f : ImgCtx → ImgCtx) : (s.modImgCtx g f).mem = s.mem := rfl
@[simp] theorem State.modImgCtx_errs (s : State) (g : Gctx) (f : ImgCtx → ImgCtx) : (s.modImgCtx g f).errs = s.errs := rfl
@[simp] theorem State.modImgCtx_bank (s : State) (g : Gctx) (f : ImgCtx → ImgCtx) : (s.modImgCtx g f).bank = s.bank := rfl
@[simp] theorem State.modImgCtx_bus (s : State) (g : Gctx) (f : ImgCtx → ImgCtx) : (s.modImgCtx g f).bus = s.bus := rfl
@[simp] theorem State.modImgCtx_nv (s : State) (g : Gctx) (f : ImgCtx → ImgCtx) : (s.modImgCtx g f).nv = s.nv := rfl
@[simp] theorem State.modImgCtx_core (s : State) (g : Gctx) (f : ImgCtx → ImgCtx) : (s.modImgCtx g f).core = s.core := rfl
@[simp] theorem State.modImgCtx_op (s : State) (g : Gctx) (f : ImgCtx → ImgCtx) : (s.modImgCtx g f).op = s.op := rfl
@[simp] theorem State.modImgCtx_img (s : State) (g : Gctx) (f : ImgCtx → ImgCtx) : (s.modImgCtx g f).img = s.img := rfl
@[simp] theorem State.modImgCtx_evCount (s : State) (g : Gctx) (f : ImgCtx → ImgCtx) : (s.modImgCtx g f).evCount = s.evCount := rfl
@[simp] theorem State.modImgCtx_pair (s : State) (g : Gctx) (f : ImgCtx → ImgCtx) : (s.modImgCtx g f).pair = s.pair := rfl
@[simp] theorem State.modImgCtx_prog (s : State) (g : Gctx) (f : ImgCtx → ImgCtx) : (s.modImgCtx g f).prog = s.prog := rfl
@[simp] theorem State.modImgCtx_dict (s : State) (g : Gctx) (f : ImgCtx → ImgCtx) : (s.modImgCtx g f).dict = s.dict := rfl
@[simp] theorem State.modImgCtx_time (s : State) (g : Gctx) (f : ImgCtx → ImgCtx) : (s.modImgCtx g f).time = s.time := rfl
@[simp] theorem State.modImgCtx_rcd (s : State) (g : Gctx) (f : ImgCtx → ImgCtx) : (s.modImgCtx g f).rcd = s.rcd := rfl
@[simp] theorem State.modImgCtx_inj (s : State) (g : Gctx) (f : ImgCtx → ImgCtx) : (s.modImgCtx g f).inj = s.inj := rfl
@[simp] theorem State.modImgCtx_sup (s : State) (g : Gctx) (f : ImgCtx → ImgCtx) : (s.modImgCtx g f).sup = s.sup := rfl
@[simp] theorem State.modImgCtx_pwr (s : State) (g : Gctx) (f : ImgCtx → ImgCtx) : (s.modImgCtx g f).pwr = s.pwr := rfl
@[simp] theorem State.modImgCtx_fld (s : State) (g : Gctx) (f : ImgCtx → ImgCtx) : (s.modImgCtx g f).fld = s.fld := rfl
@[simp] theorem State.modImgCtx_nrg (s : State) (g : Gctx) (f : ImgCtx → ImgCtx) : (s.modImgCtx g f).nrg = s.nrg := rfl
@[simp] theorem State.modImgCtx_net (s : State) (g : Gctx) (f : ImgCtx → ImgCtx) : (s.modImgCtx g f).net = s.net := rfl
@[simp] theorem State.modImgCtx_can (s : State) (g : Gctx) (f : ImgCtx → ImgCtx) : (s.modImgCtx g f).can = s.can := rfl
@[simp] theorem State.modImgCtx_hier (s : State) (g : Gctx) (f : ImgCtx → ImgCtx) : (s.modImgCtx g f).hier = s.hier := rfl
@[simp] theorem State.modImgCtx_tdm (s : State) (g : Gctx) (f : ImgCtx → ImgCtx) : (s.modImgCtx g f).tdm = s.tdm := rfl
@[simp] theorem State.modImgCtx_otp (s : State) (g : Gctx) (f : ImgCtx → ImgCtx) : (s.modImgCtx g f).otp = s.otp := rfl
@[simp] theorem State.modImgCtx_sec (s : State) (g : Gctx) (f : ImgCtx → ImgCtx) : (s.modImgCtx g f).sec = s.sec := rfl

/-! ### `State.modPort` -/

@[simp] theorem State.modPort_pending (s : State) (g : Gctx) (f : Port → Port) : (s.modPort g f).pending = s.pending := rfl
@[simp] theorem State.modPort_clk (s : State) (g : Gctx) (f : Port → Port) : (s.modPort g f).clk = s.clk := rfl
@[simp] theorem State.modPort_freeCtr (s : State) (g : Gctx) (f : Port → Port) : (s.modPort g f).freeCtr = s.freeCtr := rfl
@[simp] theorem State.modPort_mem (s : State) (g : Gctx) (f : Port → Port) : (s.modPort g f).mem = s.mem := rfl
@[simp] theorem State.modPort_errs (s : State) (g : Gctx) (f : Port → Port) : (s.modPort g f).errs = s.errs := rfl
@[simp] theorem State.modPort_bank (s : State) (g : Gctx) (f : Port → Port) : (s.modPort g f).bank = s.bank := rfl
@[simp] theorem State.modPort_bus (s : State) (g : Gctx) (f : Port → Port) : (s.modPort g f).bus = s.bus := rfl
@[simp] theorem State.modPort_nv (s : State) (g : Gctx) (f : Port → Port) : (s.modPort g f).nv = s.nv := rfl
@[simp] theorem State.modPort_core (s : State) (g : Gctx) (f : Port → Port) : (s.modPort g f).core = s.core := rfl
@[simp] theorem State.modPort_op (s : State) (g : Gctx) (f : Port → Port) : (s.modPort g f).op = s.op := rfl
@[simp] theorem State.modPort_img (s : State) (g : Gctx) (f : Port → Port) : (s.modPort g f).img = s.img := rfl
@[simp] theorem State.modPort_evCount (s : State) (g : Gctx) (f : Port → Port) : (s.modPort g f).evCount = s.evCount := rfl
@[simp] theorem State.modPort_pair (s : State) (g : Gctx) (f : Port → Port) : (s.modPort g f).pair = s.pair := rfl
@[simp] theorem State.modPort_prog (s : State) (g : Gctx) (f : Port → Port) : (s.modPort g f).prog = s.prog := rfl
@[simp] theorem State.modPort_dict (s : State) (g : Gctx) (f : Port → Port) : (s.modPort g f).dict = s.dict := rfl
@[simp] theorem State.modPort_time (s : State) (g : Gctx) (f : Port → Port) : (s.modPort g f).time = s.time := rfl
@[simp] theorem State.modPort_rcd (s : State) (g : Gctx) (f : Port → Port) : (s.modPort g f).rcd = s.rcd := rfl
@[simp] theorem State.modPort_inj (s : State) (g : Gctx) (f : Port → Port) : (s.modPort g f).inj = s.inj := rfl
@[simp] theorem State.modPort_sup (s : State) (g : Gctx) (f : Port → Port) : (s.modPort g f).sup = s.sup := rfl
@[simp] theorem State.modPort_pwr (s : State) (g : Gctx) (f : Port → Port) : (s.modPort g f).pwr = s.pwr := rfl
@[simp] theorem State.modPort_fld (s : State) (g : Gctx) (f : Port → Port) : (s.modPort g f).fld = s.fld := rfl
@[simp] theorem State.modPort_nrg (s : State) (g : Gctx) (f : Port → Port) : (s.modPort g f).nrg = s.nrg := rfl
@[simp] theorem State.modPort_net (s : State) (g : Gctx) (f : Port → Port) : (s.modPort g f).net = s.net := rfl
@[simp] theorem State.modPort_can (s : State) (g : Gctx) (f : Port → Port) : (s.modPort g f).can = s.can := rfl
@[simp] theorem State.modPort_hier (s : State) (g : Gctx) (f : Port → Port) : (s.modPort g f).hier = s.hier := rfl
@[simp] theorem State.modPort_tdm (s : State) (g : Gctx) (f : Port → Port) : (s.modPort g f).tdm = s.tdm := rfl
@[simp] theorem State.modPort_otp (s : State) (g : Gctx) (f : Port → Port) : (s.modPort g f).otp = s.otp := rfl
@[simp] theorem State.modPort_sec (s : State) (g : Gctx) (f : Port → Port) : (s.modPort g f).sec = s.sec := rfl

/-! ### One context -/

@[simp] theorem State.modCx_cx (s : State) (g : Gctx) (f : Ctx → Ctx) : (s.modCx g f).cx g = f (s.cx g) := by
  simp [State.cx, State.modCx]

theorem State.modCx_cx_ne (s : State) (g h : Gctx) (f : Ctx → Ctx) (hne : h ≠ g) : (s.modCx g f).cx h = s.cx h := by
  have : g.val ≠ h.val := fun e => hne (Fin.ext e.symm)
  simp [State.cx, State.modCx, this]

@[simp] theorem State.modRegs_cx (s : State) (g : Gctx) (f : Regs → Regs) :
    (s.modRegs g f).cx g = { s.cx g with regs := f (s.cx g).regs } := State.modCx_cx _ _ _

theorem State.modRegs_cx_ne (s : State) (g h : Gctx) (f : Regs → Regs) (hne : h ≠ g) : (s.modRegs g f).cx h = s.cx h :=
  State.modCx_cx_ne _ _ _ _ hne

@[simp] theorem State.modAct_cx (s : State) (g : Gctx) (f : Act → Act) :
    (s.modAct g f).cx g = { s.cx g with act := f (s.cx g).act } := State.modCx_cx _ _ _

theorem State.modAct_cx_ne (s : State) (g h : Gctx) (f : Act → Act) (hne : h ≠ g) : (s.modAct g f).cx h = s.cx h :=
  State.modCx_cx_ne _ _ _ _ hne

@[simp] theorem State.modImgCtx_cx (s : State) (g : Gctx) (f : ImgCtx → ImgCtx) :
    (s.modImgCtx g f).cx g = { s.cx g with img := f (s.cx g).img } := State.modCx_cx _ _ _

theorem State.modImgCtx_cx_ne (s : State) (g h : Gctx) (f : ImgCtx → ImgCtx) (hne : h ≠ g) : (s.modImgCtx g f).cx h = s.cx h :=
  State.modCx_cx_ne _ _ _ _ hne

@[simp] theorem State.modPort_cx (s : State) (g : Gctx) (f : Port → Port) :
    (s.modPort g f).cx g = { s.cx g with port := f (s.cx g).port } := State.modCx_cx _ _ _

theorem State.modPort_cx_ne (s : State) (g h : Gctx) (f : Port → Port) (hne : h ≠ g) : (s.modPort g f).cx h = s.cx h :=
  State.modCx_cx_ne _ _ _ _ hne

/-! ### Elements of the other vectors -/

@[simp] theorem State.modCore_core_same (s : State) (n : CoreId) (f : Core → Core) : (s.modCore n f).core[n] = f s.core[n] := by
  simp [State.modCore]

theorem State.modCore_core_ne (s : State) (n k : CoreId) (f : Core → Core) (hne : k ≠ n) : (s.modCore n f).core[k] = s.core[k] := by
  have : n.val ≠ k.val := fun e => hne (Fin.ext e.symm)
  simp [State.modCore, this]

@[simp] theorem State.modBank_bank_same (s : State) (b : BankId) (f : Bank → Bank) : (s.modBank b f).bank[b] = f s.bank[b] := by
  simp [State.modBank]

theorem State.modBank_bank_ne (s : State) (b k : BankId) (f : Bank → Bank) (hne : k ≠ b) : (s.modBank b f).bank[k] = s.bank[k] := by
  have : b.val ≠ k.val := fun e => hne (Fin.ext e.symm)
  simp [State.modBank, this]

@[simp] theorem State.modPair_pair_same (s : State) (p : PairId) (f : Pair → Pair) : (s.modPair p f).pair[p] = f s.pair[p] := by
  simp [State.modPair]

theorem State.modPair_pair_ne (s : State) (p k : PairId) (f : Pair → Pair) (hne : k ≠ p) : (s.modPair p f).pair[k] = s.pair[k] := by
  have : p.val ≠ k.val := fun e => hne (Fin.ext e.symm)
  simp [State.modPair, this]

@[simp] theorem State.modCan_can_same (s : State) (c : Fin 2) (f : Can → Can) : (s.modCan c f).can[c] = f s.can[c] := by
  simp [State.modCan]

theorem State.modCan_can_ne (s : State) (c k : Fin 2) (f : Can → Can) (hne : k ≠ c) : (s.modCan c f).can[k] = s.can[k] := by
  have : c.val ≠ k.val := fun e => hne (Fin.ext e.symm)
  simp [State.modCan, this]

/-! ### Registers of a context (R197) -/

@[simp] theorem Regs.get_zero (r : Regs) : r.get 0 = 0 := by simp [Regs.get]

/-- A register after a write: the one written holds the value, unless it is g0; the others are what they were. -/
theorem Regs.get_put (r : Regs) (i j : Reg) (x : Word) : (r.put i x).get j = if j = i ∧ i ≠ 0 then x else r.get j := by
  unfold Regs.put Regs.get
  by_cases hj : j.val = 0
  · have : ¬ (j = i ∧ i ≠ 0) := fun h => h.2 (h.1 ▸ Fin.ext hj)
    simp only [hj, dite_true, if_neg this]
  · by_cases hi : i.val = 0
    · have : ¬ (j = i ∧ i ≠ 0) := fun h => h.2 (Fin.ext hi)
      simp only [hj, hi, dite_true, dite_false, if_neg this]
    · simp only [hj, hi, dite_false]
      by_cases hij : j = i
      · subst hij
        have : j = j ∧ j ≠ 0 := ⟨rfl, fun h => hj (by simp [h])⟩
        rw [if_pos this]; simp
      · have h1 : ¬ (j = i ∧ i ≠ 0) := fun h => hij h.1
        have h2 : i.val - 1 ≠ j.val - 1 := by
          intro h; apply hij; ext; omega
        rw [if_neg h1]; simp [h2]

@[simp] theorem Regs.put_zero (r : Regs) (x : Word) : r.put 0 x = r := by simp [Regs.put]

end Sys2Proof.Machine
end

