-- ==== Sys2Proof/Laws/Insn.lean ====
section
/-! SUPPORT. What an instruction that issues does: the body of its meaning runs, a retirement changes registers and counters
only, a trap writes the trap registers. -/

namespace Sys2Proof.Machine

open Sys2Proof Sys2Proof.Safety

/-- A word that meets no error reports none. -/
theorem eccCheck_clean {s : State} {b : BankId} {a : Nat} (h1 : s.meetsUe b a = false) (h2 : s.meetsCe b a = false) (how : Nat) :
    s.eccCheck b a how = s := by
  unfold State.eccCheck; rw [h1, h2]; rfl

/-- A fetch of status OK meets no uncorrectable error. -/
theorem fetchStatus_ok {s : State} {g : Gctx} (h : s.fetchStatus g = 0) : s.meetsUe (cbOf (coreOf g)) (s.cx g).regs.pc.toNat = false := by
  unfold State.fetchStatus at h
  dsimp only at h
  (repeat' split at h) <;> simp_all

/-- A good fetch leaves nothing. -/
theorem fetched_clean {s : State} {g : Gctx} (h0 : s.fetchStatus g = 0) (h : CleanFetch s g) : s.fetched g = s := by
  unfold State.fetched
  dsimp only
  rw [eccCheck_clean (fetchStatus_ok h0) h.1]
  split
  · rename_i hp
    have k := h.2 hp
    rw [k.1]
    exact eccCheck_clean k.1 k.2 0
  · rfl

/-- An instruction that issues runs its body. -/
theorem run_of_issues {s : State} {g : Gctx} (h : Issues s g) (insn : Word) (body : State → State) : s.run g insn body = body s := by
  obtain ⟨h1, h2, h3, h4, h5, h6, h7⟩ := h
  have hr : s.resume g = s := by unfold State.resume; rw [h3]
  have hc : s.canIssue g = true := by simp only [State.canIssue, h1, h3, h4]; rfl
  unfold State.run
  simp only [h1, h2, if_true, hr, hc, Bool.false_eq_true, if_false]
  unfold State.issued
  simp only [h5, h7, true_or, if_true, fetched_clean h5 h6, ne_eq, not_true_eq_false, if_false, Bool.false_eq_true]

/-- An instruction that leaves the operating state brings nothing else with it. -/
theorem settledInsn_of_op {f : State → State} {s : State} (h : (f s).op = s.op) : settledInsn f s = f s := if_pos h

/-! ## Retirement -/

@[simp] theorem retired_op (s : State) (g : Gctx) (pc : Word) : (s.retired g pc).op = s.op := by
  unfold State.retired; dsimp only; split <;> rfl

theorem retired_cx (s : State) (g : Gctx) (pc : Word) :
    (s.retired g pc).cx g = { s.cx g with act := { (s.cx g).act with retiredAt := s.clk, lastPc := pc } } := by
  have : ∀ (t : State) n f, (t.modCore n f).cx g = t.cx g := fun _ _ _ => rfl
  unfold State.retired
  dsimp only
  split
  · rw [this, this]; exact State.modCx_cx _ _ _
  · rw [this]; exact State.modCx_cx _ _ _

theorem retired_cx_ne (s : State) (g h : Gctx) (pc : Word) (hne : h ≠ g) : (s.retired g pc).cx h = s.cx h := by
  have : ∀ (t : State) n f, (t.modCore n f).cx h = t.cx h := fun _ _ _ => rfl
  unfold State.retired
  dsimp only
  split
  · rw [this, this]; exact State.modCx_cx_ne _ _ _ _ hne
  · rw [this]; exact State.modCx_cx_ne _ _ _ _ hne

theorem retired_core (s : State) (g : Gctx) (pc : Word) (n : CoreId) :
    (s.retired g pc).core[n] = { s.core[n] with retired := (s.retired g pc).core[n].retired, lastRetire := (s.retired g pc).core[n].lastRetire } := by
  have up : ∀ (t : State) (k : CoreId) (v : Nat), (t.modCore k fun c => { c with retired := c.retired + 1, lastRetire := v }).core[n] =
      { t.core[n] with retired := ((t.modCore k fun c => { c with retired := c.retired + 1, lastRetire := v }).core[n]).retired
                       lastRetire := ((t.modCore k fun c => { c with retired := c.retired + 1, lastRetire := v }).core[n]).lastRetire } := by
    intro t k v
    by_cases e : n = k
    · subst e; simp only [State.modCore_core_same]
    · rw [State.modCore_core_ne _ _ _ _ e]
  unfold State.retired
  dsimp only
  split
  · have h1 := up ((s.modAct g fun a => { a with retiredAt := s.clk, lastPc := pc }).modCore (coreOf g) fun c =>
      { c with retired := c.retired + 1, lastRetire := s.clk }) (checkerCore g) s.clk
    have h2 := up (s.modAct g fun a => { a with retiredAt := s.clk, lastPc := pc }) (coreOf g) s.clk
    rw [h2] at h1
    exact h1
  · exact up (s.modAct g fun a => { a with retiredAt := s.clk, lastPc := pc }) (coreOf g) s.clk

theorem retired_frame (s : State) (g : Gctx) (pc : Word) :
    s.retired g pc = { s with ctx := (s.retired g pc).ctx, core := (s.retired g pc).core } := by
  unfold State.retired; dsimp only; split <;> rfl

/-- A retirement: the registers as given, the budget counter, the counters of retired instructions; nothing else. -/
theorem retireTo_spec (s : State) (g : Gctx) (cycles : Nat) (pc : Word) (f : Regs → Regs) :
    OnlyRegs s (s.retireTo g cycles pc f) g ∧ ((s.retireTo g cycles pc f).cx g).regs = { f (s.cx g).regs with pc := pc } ∧
      ((s.retireTo g cycles pc f).cx g).act.used = (s.cx g).act.used + cycles ∧ (s.retireTo g cycles pc f).op = s.op := by
  have hcx : (s.retireTo g cycles pc f).cx g = { s.cx g with
      regs := { f (s.cx g).regs with pc := pc }
      act := { (s.cx g).act with used := (s.cx g).act.used + cycles, retiredAt := s.clk, lastPc := (s.cx g).regs.pc } } := by
    unfold State.retireTo
    rw [retired_cx, State.modAct_cx, State.modRegs_cx]
    rfl
  refine ⟨⟨?_, ?_, ?_, ?_⟩, ?_, ?_, ?_⟩
  · unfold State.retireTo; rw [retired_frame]; rfl
  · intro h hne
    unfold State.retireTo
    rw [retired_cx_ne _ _ _ _ hne, State.modAct_cx_ne _ _ _ _ hne, State.modRegs_cx_ne _ _ _ _ hne]
  · rw [hcx]
  · intro n; unfold State.retireTo; rw [retired_core]; rfl
  · rw [hcx]
  · rw [hcx]
  · unfold State.retireTo; rw [retired_op]; rfl

theorem retire_spec (s : State) (g : Gctx) (cycles : Nat) (f : Regs → Regs) :
    OnlyRegs s (s.retire g cycles f) g ∧
      ((s.retire g cycles f).cx g).regs = { f (s.cx g).regs with pc := (s.cx g).regs.pc + 4 } ∧
      ((s.retire g cycles f).cx g).act.used = (s.cx g).act.used + cycles ∧ (s.retire g cycles f).op = s.op := by
  have hcx : (s.retire g cycles f).cx g = { s.cx g with
      regs := { f (s.cx g).regs with pc := (s.cx g).regs.pc + 4 }
      act := { (s.cx g).act with used := (s.cx g).act.used + cycles, retiredAt := s.clk, lastPc := (s.cx g).regs.pc } } := by
    unfold State.retire
    rw [retired_cx, State.modAct_cx, State.modRegs_cx]
    rfl
  refine ⟨⟨?_, ?_, ?_, ?_⟩, ?_, ?_, ?_⟩
  · unfold State.retire; rw [retired_frame]; rfl
  · intro h hne
    unfold State.retire
    rw [retired_cx_ne _ _ _ _ hne, State.modAct_cx_ne _ _ _ _ hne, State.modRegs_cx_ne _ _ _ _ hne]
  · rw [hcx]
  · intro n; unfold State.retire; rw [retired_core]; rfl
  · rw [hcx]
  · rw [hcx]
  · unfold State.retire; rw [retired_op]; rfl

/-- A command whose operation is a retirement retires. -/
theorem retires_of {c : Instr} {s : State} {g : Gctx} {cycles : Nat} {f : Regs → Regs} {op : State → State}
    (hc : exec c s = .next (settledInsn op s)) (ho : op s = s.retire g cycles f) :
    Retires c s g cycles { f (s.cx g).regs with pc := (s.cx g).regs.pc + 4 } := by
  have h := retire_spec s g cycles f
  refine ⟨s.retire g cycles f, ?_, h.1, h.2.1, h.2.2.1⟩
  rw [hc, settledInsn_of_op (by rw [ho]; exact h.2.2.2), ho]

/-- A command whose operation is a retirement that goes on elsewhere retires there. -/
theorem retires_to_of {c : Instr} {s : State} {g : Gctx} {cycles : Nat} {pc : Word} {f : Regs → Regs} {op : State → State}
    (hc : exec c s = .next (settledInsn op s)) (ho : op s = s.retireTo g cycles pc f) :
    Retires c s g cycles { f (s.cx g).regs with pc := pc } := by
  have h := retireTo_spec s g cycles pc f
  refine ⟨s.retireTo g cycles pc f, ?_, h.1, h.2.1, h.2.2.1⟩
  rw [hc, settledInsn_of_op (by rw [ho]; exact h.2.2.2), ho]

/-! ## Traps -/

theorem emit_frame (s : State) (g : Gctx) (i : LaneItem) (r : Release) : s.emit g i r = { s with pair := (s.emit g i r).pair } := by
  unfold State.emit; split <;> rfl

theorem emit_unpaired (s : State) (g : Gctx) (i : LaneItem) (r : Release) (h : (s.cx g).act.paired = false) : s.emit g i r = s := by
  unfold State.emit; rw [h]; rfl

/-- A trap that is taken while none is active (R166). -/
theorem trapNow_taken (s : State) (g : Gctx) (insn : Word) (cause status : Nat) (addr : Word) (h : (s.cx g).regs.trapact = false) :
    TrapTaken s (s.trapNow g insn cause status addr) g insn (BitVec.ofNat 8 cause) (BitVec.ofNat 8 status) addr := by
  have ht : s.trapNow g insn cause status addr =
      (s.modRegs g fun r => r.trapped cause status addr insn (s.cx g).act.paired false).modAct g (·.spend 3) := by
    unfold State.trapNow; rw [h]; rfl
  rw [ht]
  refine ⟨rfl, ?_, ?_⟩
  · intro k hk; rw [State.modAct_cx_ne _ _ _ _ hk, State.modRegs_cx_ne _ _ _ _ hk]
  · rw [State.modAct_cx, State.modRegs_cx]; rfl

/-- What a paired activation emits goes to its pair unit (R247). -/
theorem emit_hands (s : State) (g : Gctx) (i : LaneItem) (r : Release) (h : (s.cx g).act.paired = true) : Hands s (s.emit g i r) g i r := by
  refine ⟨emit_frame s g i r, fun p => ?_⟩
  unfold State.emit
  rw [if_pos h]
  by_cases e : p = pairOf g
  · subst e; simp [State.modPair]
  · simp only [e, if_false]
    exact State.modPair_pair_ne _ _ _ _ e

/-- A trap of an instruction: taken at once, or handed to the pair unit (R166, R246). -/
theorem trap_spec (s : State) (g : Gctx) (insn : Word) (cause status : Nat) (addr : Word) (hc : ownTrap cause = true)
    (h : (s.cx g).regs.trapact = false) :
    ((s.cx g).act.paired = false → TrapTaken s (s.trap g insn cause status addr) g insn (BitVec.ofNat 8 cause) (BitVec.ofNat 8 status) addr) ∧
    ((s.cx g).act.paired = true → Hands s (s.trap g insn cause status addr) g (sysItem 6 cause) (.trap insn cause status addr)) := by
  unfold State.trap
  constructor
  · intro hp; rw [hp]; exact trapNow_taken _ _ _ _ _ _ h
  · intro hp; rw [hp, hc]; exact emit_hands _ _ _ _ hp

theorem trap_op (s : State) (g : Gctx) (insn : Word) (cause status : Nat) (addr : Word) (h : (s.cx g).regs.trapact = false) :
    (s.trap g insn cause status addr).op = s.op := by
  unfold State.trap
  split
  · rw [emit_frame]
  · rw [(trapNow_taken _ _ _ _ _ _ h).1]

/-- A command whose operation is a trap traps. -/
theorem traps_of {c : Instr} {s : State} {g : Gctx} {insn addr : Word} {cause status : Nat} {op : State → State}
    (hc : exec c s = .next (settledInsn op s)) (ho : op s = s.trap g insn cause status addr) (h : (s.cx g).regs.trapact = false)
    (h1 : ownTrap cause = true) (h2 : cause < 256) (h3 : status < 256) :
    Traps c s g insn (BitVec.ofNat 8 cause) (BitVec.ofNat 8 status) addr := by
  have e1 : (BitVec.ofNat 8 cause).toNat = cause := by rw [BitVec.toNat_ofNat]; exact Nat.mod_eq_of_lt h2
  have e2 : (BitVec.ofNat 8 status).toNat = status := by rw [BitVec.toNat_ofNat]; exact Nat.mod_eq_of_lt h3
  refine ⟨s.trap g insn cause status addr, ?_, ?_⟩
  · rw [hc, settledInsn_of_op (by rw [ho]; exact trap_op _ _ _ _ _ _ h), ho]
  · rw [e1, e2]; exact trap_spec s g insn cause status addr h1 h

end Sys2Proof.Machine
end

