-- ==== Sys2Proof/Laws/KeepStore.lean ====
section
/-! SUPPORT. What every operation leaves alone: the queue, the clock, the bits of the OTP, and memory or its canonical form
(`_keep`: queue, clock, OTP and memory where they are unchanged; `_bit`: no OTP bit goes back to 0; `_wf`: memory stays
canonical). This file: record store, banks, trust, image engine, supervision and power. -/

namespace Sys2Proof.Machine

open Sys2Proof

@[simp] theorem opNvGrant_keep (s : State) : (opNvGrant s).pending = s.pending ∧ (opNvGrant s).clk = s.clk ∧ (opNvGrant s).otp = s.otp ∧ (opNvGrant s).mem = s.mem := by
  unfold opNvGrant
  dsimp only
  (repeat' split) <;> simp [*]

@[simp] theorem opJournalDrain_keep (s : State) : (opJournalDrain s).pending = s.pending ∧ (opJournalDrain s).clk = s.clk ∧ (opJournalDrain s).otp = s.otp := by
  unfold opJournalDrain
  (repeat' split) <;> simp

@[simp] theorem opJournalDrain_wf (s : State) (h_ : Memory.wf s.mem = true) : Memory.wf (opJournalDrain s).mem = true := by
  unfold opJournalDrain
  (repeat' split) <;> simp [h_]

@[simp] theorem State.modPb_keep (s : State) (n : CoreId) (f : PageBuf → PageBuf) : (State.modPb s n f).pending = s.pending ∧ (State.modPb s n f).clk = s.clk ∧ (State.modPb s n f).otp = s.otp ∧ (State.modPb s n f).mem = s.mem := by
  simp [State.modPb]

@[simp] theorem State.pbCtrl_keep (s : State) (n : CoreId) (v : Word) : ((State.pbCtrl s n v).getD s).pending = s.pending ∧ ((State.pbCtrl s n v).getD s).clk = s.clk ∧ ((State.pbCtrl s n v).getD s).otp = s.otp ∧ ((State.pbCtrl s n v).getD s).mem = s.mem := by
  unfold State.pbCtrl
  (try dsimp only)
  (repeat' split) <;> simp

@[simp] theorem State.programPage_keep (s : State) (n : CoreId) : (State.programPage s n).pending = s.pending ∧ (State.programPage s n).clk = s.clk ∧ (State.programPage s n).otp = s.otp := by
  unfold State.programPage
  dsimp only
  (repeat' split) <;> simp [*]

@[simp] theorem State.programPage_wf (s : State) (n : CoreId) (h_ : Memory.wf s.mem = true) : Memory.wf (State.programPage s n).mem = true := by
  unfold State.programPage
  dsimp only
  (repeat' split) <;> simp [*]

@[simp] theorem opPageProgramDone_keep (n : CoreId) (s : State) : (opPageProgramDone n s).pending = s.pending ∧ (opPageProgramDone n s).clk = s.clk ∧ (opPageProgramDone n s).otp = s.otp := by
  simp [opPageProgramDone, apply_ite State.pending, apply_ite State.clk, apply_ite State.otp]

@[simp] theorem opPageProgramDone_wf (n : CoreId) (s : State) (h_ : Memory.wf s.mem = true) : Memory.wf (opPageProgramDone n s).mem = true := by
  simp [opPageProgramDone, h_, apply_ite State.mem, apply_ite Memory.wf]

@[simp] theorem State.foldSwitching_keep (s : State) : (State.foldSwitching s).pending = s.pending ∧ (State.foldSwitching s).clk = s.clk ∧ (State.foldSwitching s).otp = s.otp := by
  simp [State.foldSwitching]

@[simp] theorem State.foldSwitching_wf (s : State) (h_ : Memory.wf s.mem = true) : Memory.wf (State.foldSwitching s).mem = true := by
  simp +contextual [State.foldSwitching, h_]

@[simp] theorem State.foldSectors_keep (s : State) : (State.foldSectors s).pending = s.pending ∧ (State.foldSectors s).clk = s.clk ∧ (State.foldSectors s).otp = s.otp := by
  simp [State.foldSectors]

@[simp] theorem State.foldSectors_wf (s : State) (h_ : Memory.wf s.mem = true) : Memory.wf (State.foldSectors s).mem = true := by
  simp +contextual [State.foldSectors, h_]

@[simp] theorem State.foldTime_keep (s : State) : (State.foldTime s).pending = s.pending ∧ (State.foldTime s).clk = s.clk ∧ (State.foldTime s).otp = s.otp := by
  simp [State.foldTime]

@[simp] theorem State.foldTime_wf (s : State) (h_ : Memory.wf s.mem = true) : Memory.wf (State.foldTime s).mem = true := by
  simp [State.foldTime, h_]

@[simp] theorem opCounterFold_keep (s : State) : (opCounterFold s).pending = s.pending ∧ (opCounterFold s).clk = s.clk ∧ (opCounterFold s).otp = s.otp := by
  simp [opCounterFold, apply_ite State.pending, apply_ite State.clk, apply_ite State.otp]

@[simp] theorem opCounterFold_wf (s : State) (h_ : Memory.wf s.mem = true) : Memory.wf (opCounterFold s).mem = true := by
  unfold opCounterFold
  split
  · exact State.foldTime_wf _ (State.foldSectors_wf _ (State.foldSwitching_wf _ (by simp [h_])))
  · exact h_

@[simp] theorem State.lehrStep3_keep (s : State) : (State.lehrStep3 s).pending = s.pending ∧ (State.lehrStep3 s).clk = s.clk ∧ (State.lehrStep3 s).otp = s.otp := by
  simp [State.lehrStep3]

@[simp] theorem State.lehrStep3_wf (s : State) (h_ : Memory.wf s.mem = true) : Memory.wf (State.lehrStep3 s).mem = true := by
  simp +contextual [State.lehrStep3, h_]

@[simp] theorem opLehrStep3_keep (s : State) : (opLehrStep3 s).pending = s.pending ∧ (opLehrStep3 s).clk = s.clk ∧ (opLehrStep3 s).otp = s.otp := by
  simp [opLehrStep3, apply_ite State.pending, apply_ite State.clk, apply_ite State.otp]

@[simp] theorem opLehrStep3_wf (s : State) (h_ : Memory.wf s.mem = true) : Memory.wf (opLehrStep3 s).mem = true := by
  simp [opLehrStep3, h_, apply_ite State.mem, apply_ite Memory.wf]

@[simp] theorem State.modPwr_keep (s : State) (f : Pwr → Pwr) : (State.modPwr s f).pending = s.pending ∧ (State.modPwr s f).clk = s.clk ∧ (State.modPwr s f).otp = s.otp ∧ (State.modPwr s f).mem = s.mem := by
  simp [State.modPwr]

@[simp] theorem State.requestReset_keep (s : State) (cause : Nat) : (State.requestReset s cause).pending = s.pending ∧ (State.requestReset s cause).clk = s.clk ∧ (State.requestReset s cause).otp = s.otp := by
  simp [State.requestReset, apply_ite State.pending, apply_ite State.clk, apply_ite State.otp]

@[simp] theorem State.requestReset_wf (s : State) (cause : Nat) (h_ : Memory.wf s.mem = true) : Memory.wf (State.requestReset s cause).mem = true := by
  simp [State.requestReset, h_, apply_ite State.mem, apply_ite Memory.wf]

@[simp] theorem State.modSec_keep (s : State) (f : Sec → Sec) : (State.modSec s f).pending = s.pending ∧ (State.modSec s f).clk = s.clk ∧ (State.modSec s f).otp = s.otp ∧ (State.modSec s f).mem = s.mem := by
  simp [State.modSec]

@[simp] theorem State.modPar_keep (s : State) (t : Fin 3) (f : Parison → Parison) : (State.modPar s t f).pending = s.pending ∧ (State.modPar s t f).clk = s.clk ∧ (State.modPar s t f).otp = s.otp ∧ (State.modPar s t f).mem = s.mem := by
  simp [State.modPar]

@[simp] theorem State.provision_keep (s : State) (key : List Byte) : (State.provision s key).1.pending = s.pending ∧ (State.provision s key).1.clk = s.clk ∧ (State.provision s key).1.mem = s.mem := by
  unfold State.provision
  (repeat' split) <;> simp

@[simp] theorem State.provision_bit (s : State) (key : List Byte) (i_ : Nat) (h_ : s.otp.getLsbD i_ = true) : (State.provision s key).1.otp.getLsbD i_ = true := by
  unfold State.provision
  (repeat' split) <;> simp [h_]

@[simp] theorem State.revoke_keep (s : State) (k : Nat) : (State.revoke s k).1.pending = s.pending ∧ (State.revoke s k).1.clk = s.clk ∧ (State.revoke s k).1.mem = s.mem := by
  unfold State.revoke
  (repeat' split) <;> simp

@[simp] theorem State.revoke_bit (s : State) (k : Nat) (i_ : Nat) (h_ : s.otp.getLsbD i_ = true) : (State.revoke s k).1.otp.getLsbD i_ = true := by
  unfold State.revoke
  (repeat' split) <;> simp [h_]

@[simp] theorem State.eraseFor_keep (s : State) (t : Fin 3) (h : List Byte) : (State.eraseFor s t h).pending = s.pending ∧ (State.eraseFor s t h).clk = s.clk ∧ (State.eraseFor s t h).otp = s.otp ∧ (State.eraseFor s t h).mem = s.mem := by
  simp [State.eraseFor, apply_ite State.pending, apply_ite State.clk, apply_ite State.otp, apply_ite State.mem]

@[simp] theorem State.storeWhole_keep (s : State) (t : Fin 3) (c : List Byte) : (State.storeWhole s t c).pending = s.pending ∧ (State.storeWhole s t c).clk = s.clk ∧ (State.storeWhole s t c).otp = s.otp ∧ (State.storeWhole s t c).mem = s.mem := by
  simp [State.storeWhole, apply_ite State.pending, apply_ite State.clk, apply_ite State.otp, apply_ite State.mem]

@[simp] theorem State.parHash_keep (s : State) (t : Fin 3) : (State.parHash s t).1.pending = s.pending ∧ (State.parHash s t).1.clk = s.clk ∧ (State.parHash s t).1.otp = s.otp ∧ (State.parHash s t).1.mem = s.mem := by
  unfold State.parHash
  dsimp only
  (repeat' split) <;> simp [*]

@[simp] theorem State.parHeader_keep (s : State) (t : Fin 3) : (s.parHeader t).1.pending = s.pending ∧ (s.parHeader t).1.clk = s.clk ∧ (s.parHeader t).1.otp = s.otp ∧ (s.parHeader t).1.mem = s.mem := by
  unfold State.parHeader
  dsimp only
  cases s.hdrCheck t s.sec.par[t].bytes <;> simp

@[simp] theorem State.parBlock_keep (s : State) (t : Fin 3) (mine : List Nat) (off : Nat) (data : List Byte) : (State.parBlock s t mine off data).1.pending = s.pending ∧ (State.parBlock s t mine off data).1.clk = s.clk ∧ (State.parBlock s t mine off data).1.otp = s.otp ∧ (State.parBlock s t mine off data).1.mem = s.mem := by
  unfold State.parBlock
  dsimp only
  (repeat' split) <;> simp [*]

@[simp] theorem State.activateFw_keep (s : State) (mode : Nat) : (State.activateFw s mode).pending = s.pending ∧ (State.activateFw s mode).clk = s.clk ∧ (State.activateFw s mode).otp = s.otp ∧ (State.activateFw s mode).mem = s.mem := by
  simp [State.activateFw]

@[simp] theorem State.actNow_keep (s : State) (t : Fin 3) : (State.actNow s t).1.pending = s.pending ∧ (State.actNow s t).1.clk = s.clk := by
  unfold State.actNow
  (repeat' split) <;> simp

@[simp] theorem State.actNow_bit (s : State) (t : Fin 3) (i_ : Nat) (h_ : s.otp.getLsbD i_ = true) : (State.actNow s t).1.otp.getLsbD i_ = true := by
  unfold State.actNow
  (repeat' split) <;> simp [h_]

@[simp] theorem State.actNow_wf (s : State) (t : Fin 3) (h_ : Memory.wf s.mem = true) : Memory.wf (State.actNow s t).1.mem = true := by
  unfold State.actNow
  (repeat' split) <;> simp [h_]

@[simp] theorem State.actAt_keep (s : State) (t : Fin 3) : (State.actAt s t).1.pending = s.pending ∧ (State.actAt s t).1.clk = s.clk ∧ (State.actAt s t).1.otp = s.otp ∧ (State.actAt s t).1.mem = s.mem := by
  unfold State.actAt
  (repeat' split) <;> simp

@[simp] theorem State.discard_keep (s : State) (t : Fin 3) : (State.discard s t).pending = s.pending ∧ (State.discard s t).clk = s.clk ∧ (State.discard s t).otp = s.otp ∧ (State.discard s t).mem = s.mem := by
  simp [State.discard, apply_ite State.pending, apply_ite State.clk, apply_ite State.otp, apply_ite State.mem]

@[simp] theorem State.activate_keep (s : State) (t : Fin 3) (c : Nat) : (State.activate s t c).1.pending = s.pending ∧ (State.activate s t c).1.clk = s.clk := by
  unfold State.activate
  (repeat' split) <;> simp

@[simp] theorem State.activate_bit (s : State) (t : Fin 3) (c : Nat) (i_ : Nat) (h_ : s.otp.getLsbD i_ = true) : (State.activate s t c).1.otp.getLsbD i_ = true := by
  unfold State.activate
  (repeat' split) <;> simp [h_]

@[simp] theorem State.activate_wf (s : State) (t : Fin 3) (c : Nat) (h_ : Memory.wf s.mem = true) : Memory.wf (State.activate s t c).1.mem = true := by
  unfold State.activate
  (repeat' split) <;> simp [h_]

@[simp] theorem State.confirm_keep (s : State) (cause : Nat) : (State.confirm s cause).pending = s.pending ∧ (State.confirm s cause).clk = s.clk ∧ (State.confirm s cause).mem = s.mem := by
  simp [State.confirm, apply_ite State.pending, apply_ite State.clk, apply_ite State.mem]

@[simp] theorem State.confirm_bit (s : State) (cause : Nat) (i_ : Nat) (h_ : s.otp.getLsbD i_ = true) : (State.confirm s cause).otp.getLsbD i_ = true := by
  unfold State.confirm
  dsimp only
  (repeat' split) <;> simp [*]

@[simp] theorem State.quoteFor_keep (s : State) (nonce : List Byte) : (State.quoteFor s nonce).1.pending = s.pending ∧ (State.quoteFor s nonce).1.clk = s.clk ∧ (State.quoteFor s nonce).1.otp = s.otp ∧ (State.quoteFor s nonce).1.mem = s.mem := by
  simp [State.quoteFor]

@[simp] theorem State.sendResp_keep (s : State) (m : MdpResp) : (State.sendResp s m).pending = s.pending ∧ (State.sendResp s m).clk = s.clk ∧ (State.sendResp s m).otp = s.otp ∧ (State.sendResp s m).mem = s.mem := by
  unfold State.sendResp
  (repeat' split) <;> simp

@[simp] theorem State.answer_keep (s : State) (r : Req) (op : Nat) (ab : Option Abort) (body : List Byte) : (State.answer s r op ab body).pending = s.pending ∧ (State.answer s r op ab body).clk = s.clk ∧ (State.answer s r op ab body).otp = s.otp ∧ (State.answer s r op ab body).mem = s.mem := by
  simp [State.answer]

@[simp] theorem State.answerLate_keep (s : State) (r : Req) (ab : Option Abort) : (State.answerLate s r ab).pending = s.pending ∧ (State.answerLate s r ab).clk = s.clk ∧ (State.answerLate s r ab).otp = s.otp ∧ (State.answerLate s r ab).mem = s.mem := by
  unfold State.answerLate
  (repeat' split) <;> simp

@[simp] theorem State.share_keep (s : State) (i : Instr) (lead : Nat) : (State.share s i lead).pending = s.pending ∧ (State.share s i lead).clk = s.clk ∧ (State.share s i lead).otp = s.otp ∧ (State.share s i lead).mem = s.mem := by
  simp [State.share]

@[simp] theorem opScrubRead_keep (b : BankId) (s : State) : (opScrubRead b s).pending = s.pending ∧ (opScrubRead b s).clk = s.clk ∧ (opScrubRead b s).otp = s.otp ∧ (opScrubRead b s).mem = s.mem := by
  simp [opScrubRead, apply_ite State.pending, apply_ite State.clk, apply_ite State.otp, apply_ite State.mem]

@[simp] theorem opWriteBack_keep (b : BankId) (s : State) : (opWriteBack b s).pending = s.pending ∧ (opWriteBack b s).clk = s.clk ∧ (opWriteBack b s).otp = s.otp ∧ (opWriteBack b s).mem = s.mem := by
  unfold opWriteBack
  (repeat' split) <;> simp

@[simp] theorem opHeldWrite_keep (b : BankId) (s : State) : (opHeldWrite b s).pending = s.pending ∧ (opHeldWrite b s).clk = s.clk ∧ (opHeldWrite b s).otp = s.otp := by
  unfold opHeldWrite
  (repeat' split) <;> simp

@[simp] theorem opHeldWrite_wf (b : BankId) (s : State) (h_ : Memory.wf s.mem = true) : Memory.wf (opHeldWrite b s).mem = true := by
  unfold opHeldWrite
  (repeat' split) <;> simp [h_]

@[simp] theorem State.loadCb_keep (s : State) (n : CoreId) : (State.loadCb s n).pending = s.pending ∧ (State.loadCb s n).clk = s.clk ∧ (State.loadCb s n).otp = s.otp := by
  simp [State.loadCb, apply_ite State.pending, apply_ite State.clk, apply_ite State.otp]

@[simp] theorem State.loadCb_wf (s : State) (n : CoreId) (h_ : Memory.wf s.mem = true) : Memory.wf (State.loadCb s n).mem = true := by
  simp [State.loadCb, h_, apply_ite State.mem, apply_ite Memory.wf]

@[simp] theorem State.reloadFails_keep (s : State) (n : CoreId) : (State.reloadFails s n).pending = s.pending ∧ (State.reloadFails s n).clk = s.clk ∧ (State.reloadFails s n).otp = s.otp := by
  simp [State.reloadFails]

@[simp] theorem State.reloadFails_wf (s : State) (n : CoreId) (h_ : Memory.wf s.mem = true) : Memory.wf (State.reloadFails s n).mem = true := by
  simp [State.reloadFails, h_]

@[simp] theorem State.startMarch_keep (s : State) (b : BankId) (destructive : Bool) (startup : Bool) : (State.startMarch s b destructive startup).pending = s.pending ∧ (State.startMarch s b destructive startup).clk = s.clk ∧ (State.startMarch s b destructive startup).otp = s.otp ∧ (State.startMarch s b destructive startup).mem = s.mem := by
  simp [State.startMarch]

@[simp] theorem State.marchReq_keep (s : State) (g : Gctx) (b : BankId) (v : Word) : ((State.marchReq s g b v).getD s).pending = s.pending ∧ ((State.marchReq s g b v).getD s).clk = s.clk ∧ ((State.marchReq s g b v).getD s).otp = s.otp ∧ ((State.marchReq s g b v).getD s).mem = s.mem := by
  unfold State.marchReq
  (try dsimp only)
  (repeat' split) <;> simp

@[simp] theorem State.marchCmd_keep (s : State) (b : BankId) (destructive : Bool) : (State.marchCmd s b destructive).1.pending = s.pending ∧ (State.marchCmd s b destructive).1.clk = s.clk ∧ (State.marchCmd s b destructive).1.otp = s.otp ∧ (State.marchCmd s b destructive).1.mem = s.mem := by
  unfold State.marchCmd
  (repeat' split) <;> simp

@[simp] theorem State.marchPass_keep (s : State) (b : BankId) (m : March) : (State.marchPass s b m).pending = s.pending ∧ (State.marchPass s b m).clk = s.clk ∧ (State.marchPass s b m).otp = s.otp ∧ (State.marchPass s b m).mem = s.mem := by
  simp [State.marchPass]

@[simp] theorem State.marchFail_keep (s : State) (b : BankId) (addr : Nat) (element : Nat) (inj : Bool) : (State.marchFail s b addr element inj).pending = s.pending ∧ (State.marchFail s b addr element inj).clk = s.clk ∧ (State.marchFail s b addr element inj).otp = s.otp ∧ (State.marchFail s b addr element inj).mem = s.mem := by
  simp [State.marchFail]

@[simp] theorem State.repair_keep (s : State) (b : BankId) (m : March) (row : Nat) (slot : Nat) : (State.repair s b m row slot).pending = s.pending ∧ (State.repair s b m row slot).clk = s.clk ∧ (State.repair s b m row slot).otp = s.otp ∧ (State.repair s b m row slot).mem = s.mem := by
  simp [State.repair]

@[simp] theorem State.failedAt_keep (s : State) (b : BankId) (w : Nat) (e : Nat) : (State.failedAt s b w e).pending = s.pending ∧ (State.failedAt s b w e).clk = s.clk ∧ (State.failedAt s b w e).otp = s.otp := by
  simp [State.failedAt]

@[simp] theorem State.failedAt_wf (s : State) (b : BankId) (w e : Nat) (h_ : Memory.wf s.mem = true) : Memory.wf (s.failedAt b w e).mem = true := by
  simpa [State.failedAt] using wf_leftBy s h_ b w e

@[simp] theorem State.zeroed_keep (s : State) (b : BankId) : (State.zeroed s b).pending = s.pending ∧ (State.zeroed s b).clk = s.clk ∧ (State.zeroed s b).otp = s.otp := by
  simp [State.zeroed]

@[simp] theorem State.zeroed_wf (s : State) (b : BankId) (h_ : Memory.wf s.mem = true) : Memory.wf (State.zeroed s b).mem = true := by
  simp [State.zeroed, h_]

@[simp] theorem State.refill_keep (s : State) (b : BankId) (m : March) : (State.refill s b m).pending = s.pending ∧ (State.refill s b m).clk = s.clk ∧ (State.refill s b m).otp = s.otp := by
  unfold State.refill
  (repeat' split) <;> simp

@[simp] theorem State.refill_wf (s : State) (b : BankId) (m : March) (h_ : Memory.wf s.mem = true) : Memory.wf (State.refill s b m).mem = true := by
  unfold State.refill
  (repeat' split) <;> simp [h_]

@[simp] theorem State.endDestructive_keep (s : State) (b : BankId) (m : March) (o : MarchOutcome) : (State.endDestructive s b m o).pending = s.pending ∧ (State.endDestructive s b m o).clk = s.clk ∧ (State.endDestructive s b m o).otp = s.otp := by
  unfold State.endDestructive
  dsimp only
  (repeat' split) <;> simp [*]

@[simp] theorem State.endDestructive_wf (s : State) (b : BankId) (m : March) (o : MarchOutcome) (h_ : Memory.wf s.mem = true) : Memory.wf (State.endDestructive s b m o).mem = true := by
  unfold State.endDestructive
  dsimp only
  (repeat' split) <;> simp [*]

@[simp] theorem State.signature_keep (s : State) (b : BankId) : (State.signature s b).pending = s.pending ∧ (State.signature s b).clk = s.clk ∧ (State.signature s b).otp = s.otp ∧ (State.signature s b).mem = s.mem := by
  simp [State.signature, apply_ite State.pending, apply_ite State.clk, apply_ite State.otp, apply_ite State.mem]

@[simp] theorem State.endTransparent_keep (s : State) (b : BankId) (m : March) (o : MarchOutcome) : (State.endTransparent s b m o).pending = s.pending ∧ (State.endTransparent s b m o).clk = s.clk ∧ (State.endTransparent s b m o).otp = s.otp ∧ (State.endTransparent s b m o).mem = s.mem := by
  unfold State.endTransparent
  dsimp only
  (repeat' split) <;> simp [*]

@[simp] theorem State.endInjected_keep (s : State) (b : BankId) (m : March) : (State.endInjected s b m).pending = s.pending ∧ (State.endInjected s b m).clk = s.clk ∧ (State.endInjected s b m).otp = s.otp := by
  simp [State.endInjected, apply_ite State.pending, apply_ite State.clk, apply_ite State.otp]

@[simp] theorem State.endInjected_wf (s : State) (b : BankId) (m : March) (h_ : Memory.wf s.mem = true) : Memory.wf (State.endInjected s b m).mem = true := by
  simp [State.endInjected, h_, apply_ite State.mem, apply_ite Memory.wf]

@[simp] theorem State.marchEnd_keep (s : State) (b : BankId) (o : MarchOutcome) : (State.marchEnd s b o).pending = s.pending ∧ (State.marchEnd s b o).clk = s.clk ∧ (State.marchEnd s b o).otp = s.otp := by
  unfold State.marchEnd
  dsimp only
  (repeat' split) <;> simp [*]

@[simp] theorem State.marchEnd_wf (s : State) (b : BankId) (o : MarchOutcome) (h_ : Memory.wf s.mem = true) : Memory.wf (State.marchEnd s b o).mem = true := by
  unfold State.marchEnd
  dsimp only
  (repeat' split) <;> simp [*]

@[simp] theorem State.waitedLoad_keep (s : State) : (State.waitedLoad s).pending = s.pending ∧ (State.waitedLoad s).clk = s.clk := by
  unfold State.waitedLoad
  (repeat' split) <;> simp

@[simp] theorem State.waitedLoad_bit (s : State) (i_ : Nat) (h_ : s.otp.getLsbD i_ = true) : (State.waitedLoad s).otp.getLsbD i_ = true := by
  unfold State.waitedLoad
  (repeat' split) <;> simp [h_]

@[simp] theorem State.waitedLoad_wf (s : State) (h_ : Memory.wf s.mem = true) : Memory.wf (State.waitedLoad s).mem = true := by
  unfold State.waitedLoad
  (repeat' split) <;> simp [h_]

@[simp] theorem State.clearRepairs_keep (s : State) (b : BankId) : (State.clearRepairs s b).1.pending = s.pending ∧ (State.clearRepairs s b).1.clk = s.clk ∧ (State.clearRepairs s b).1.otp = s.otp ∧ (State.clearRepairs s b).1.mem = s.mem := by
  simp [State.clearRepairs]

@[simp] theorem State.reportDrop_keep (s : State) (g : Gctx) (w : Nat) (mask : Word) (inj : Bool) : (State.reportDrop s g w mask inj).pending = s.pending ∧ (State.reportDrop s g w mask inj).clk = s.clk ∧ (State.reportDrop s g w mask inj).otp = s.otp ∧ (State.reportDrop s g w mask inj).mem = s.mem := by
  simp [State.reportDrop]

@[simp] theorem State.reportDrops_keep (s : State) (c : Commit) : (State.reportDrops s c).pending = s.pending ∧ (State.reportDrops s c).clk = s.clk ∧ (State.reportDrops s c).otp = s.otp ∧ (State.reportDrops s c).mem = s.mem := by
  simp [State.reportDrops, apply_ite State.pending, apply_ite State.clk, apply_ite State.otp, apply_ite State.mem]

@[simp] theorem State.countWait_keep (s : State) : (State.countWait s).pending = s.pending ∧ (State.countWait s).clk = s.clk ∧ (State.countWait s).otp = s.otp ∧ (State.countWait s).mem = s.mem := by
  simp [State.countWait]

@[simp] theorem State.recWait_keep (s : State) (c : Commit) (inj : Bool) : (State.recWait s c inj).pending = s.pending ∧ (State.recWait s c inj).clk = s.clk ∧ (State.recWait s c inj).otp = s.otp ∧ (State.recWait s c inj).mem = s.mem := by
  simp [State.recWait]

@[simp] theorem State.sampleField_keep (s : State) : (State.sampleField s).pending = s.pending ∧ (State.sampleField s).clk = s.clk ∧ (State.sampleField s).otp = s.otp ∧ (State.sampleField s).mem = s.mem := by
  simp [State.sampleField]

@[simp] theorem State.sampled_keep (s : State) (words : List Nat) : (State.sampled s words).pending = s.pending ∧ (State.sampled s words).clk = s.clk ∧ (State.sampled s words).otp = s.otp ∧ (State.sampled s words).mem = s.mem := by
  simp [State.sampled]

@[simp] theorem State.again_keep (s : State) (g : Gctx) : (State.again s g).pending = s.pending ∧ (State.again s g).clk = s.clk ∧ (State.again s g).otp = s.otp := by
  simp [State.again, apply_ite State.pending, apply_ite State.clk, apply_ite State.otp]

@[simp] theorem State.again_wf (s : State) (g : Gctx) (h_ : Memory.wf s.mem = true) : Memory.wf (State.again s g).mem = true := by
  simp [State.again, h_, apply_ite State.mem, apply_ite Memory.wf]

@[simp] theorem State.commitRetires_keep (s : State) (g : Gctx) : (State.commitRetires s g).pending = s.pending ∧ (State.commitRetires s g).clk = s.clk ∧ (State.commitRetires s g).otp = s.otp := by
  unfold State.commitRetires
  dsimp only
  (repeat' split) <;> simp [*]

@[simp] theorem State.commitRetires_wf (s : State) (g : Gctx) (h_ : Memory.wf s.mem = true) : Memory.wf (State.commitRetires s g).mem = true := by
  unfold State.commitRetires
  dsimp only
  (repeat' split) <;> simp [*]

@[simp] theorem State.commitEnds_keep (s : State) (c : Commit) : (State.commitEnds s c).pending = s.pending ∧ (State.commitEnds s c).clk = s.clk ∧ (State.commitEnds s c).otp = s.otp := by
  simp [State.commitEnds, apply_ite State.pending, apply_ite State.clk, apply_ite State.otp]

@[simp] theorem State.commitEnds_wf (s : State) (c : Commit) (h_ : Memory.wf s.mem = true) : Memory.wf (State.commitEnds s c).mem = true := by
  simp [State.commitEnds, h_, apply_ite State.mem, apply_ite Memory.wf]

@[simp] theorem State.applyCommit_keep (s : State) (c : Commit) : (State.applyCommit s c).pending = s.pending ∧ (State.applyCommit s c).clk = s.clk ∧ (State.applyCommit s c).otp = s.otp := by
  simp [State.applyCommit]

@[simp] theorem State.applyCommit_wf (s : State) (c : Commit) (h_ : Memory.wf s.mem = true) : Memory.wf (State.applyCommit s c).mem = true := by
  simp [State.applyCommit, h_]

@[simp] theorem State.holdCommit_keep (s : State) (c : Commit) : (State.holdCommit s c).pending = s.pending ∧ (State.holdCommit s c).clk = s.clk ∧ (State.holdCommit s c).otp = s.otp ∧ (State.holdCommit s c).mem = s.mem := by
  simp [State.holdCommit]

@[simp] theorem opCommitComplete_keep (s : State) : (opCommitComplete s).pending = s.pending ∧ (opCommitComplete s).clk = s.clk ∧ (opCommitComplete s).otp = s.otp := by
  unfold opCommitComplete
  (repeat' split) <;> simp

@[simp] theorem opCommitComplete_wf (s : State) (h_ : Memory.wf s.mem = true) : Memory.wf (opCommitComplete s).mem = true := by
  unfold opCommitComplete
  (repeat' split) <;> simp [h_]

@[simp] theorem opJournalRoom_keep (s : State) : (opJournalRoom s).pending = s.pending ∧ (opJournalRoom s).clk = s.clk ∧ (opJournalRoom s).otp = s.otp := by
  unfold opJournalRoom
  (repeat' split) <;> simp

@[simp] theorem opJournalRoom_wf (s : State) (h_ : Memory.wf s.mem = true) : Memory.wf (opJournalRoom s).mem = true := by
  unfold opJournalRoom
  (repeat' split) <;> simp [h_]

@[simp] theorem opHeldPublication_keep (src : Nat) (s : State) : (opHeldPublication src s).pending = s.pending ∧ (opHeldPublication src s).clk = s.clk ∧ (opHeldPublication src s).otp = s.otp := by
  unfold opHeldPublication
  (repeat' split) <;> simp

@[simp] theorem opHeldPublication_wf (src : Nat) (s : State) (h_ : Memory.wf s.mem = true) : Memory.wf (opHeldPublication src s).mem = true := by
  unfold opHeldPublication
  (repeat' split) <;> simp [h_]

@[simp] theorem State.age_keep (s : State) : (State.age s).pending = s.pending ∧ (State.age s).clk = s.clk ∧ (State.age s).otp = s.otp ∧ (State.age s).mem = s.mem := by
  simp [State.age]

@[simp] theorem opSweepComplete_keep (s : State) : (opSweepComplete s).pending = s.pending ∧ (opSweepComplete s).clk = s.clk ∧ (opSweepComplete s).otp = s.otp ∧ (opSweepComplete s).mem = s.mem := by
  simp [opSweepComplete, apply_ite State.pending, apply_ite State.clk, apply_ite State.otp, apply_ite State.mem]

@[simp] theorem State.forceSet_keep (s : State) : (State.forceSet s).1.pending = s.pending ∧ (State.forceSet s).1.clk = s.clk ∧ (State.forceSet s).1.otp = s.otp ∧ (State.forceSet s).1.mem = s.mem := by
  unfold State.forceSet
  dsimp only
  (repeat' split) <;> simp [*]

@[simp] theorem State.forceClear_keep (s : State) : (State.forceClear s).1.pending = s.pending ∧ (State.forceClear s).1.clk = s.clk ∧ (State.forceClear s).1.otp = s.otp ∧ (State.forceClear s).1.mem = s.mem := by
  unfold State.forceClear
  dsimp only
  (repeat' split) <;> simp [*]

@[simp] theorem State.forceClearAll_keep (s : State) : (State.forceClearAll s).1.pending = s.pending ∧ (State.forceClearAll s).1.clk = s.clk ∧ (State.forceClearAll s).1.otp = s.otp ∧ (State.forceClearAll s).1.mem = s.mem := by
  unfold State.forceClearAll
  (repeat' split) <;> simp

@[simp] theorem State.resetRegs_keep (s : State) (n : CoreId) : (State.resetRegs s n).pending = s.pending ∧ (State.resetRegs s n).clk = s.clk ∧ (State.resetRegs s n).otp = s.otp ∧ (State.resetRegs s n).mem = s.mem := by
  simp [State.resetRegs]

@[simp] theorem State.startReload_keep (s : State) (n : CoreId) (cause : Nat) : (State.startReload s n cause).pending = s.pending ∧ (State.startReload s n cause).clk = s.clk ∧ (State.startReload s n cause).otp = s.otp := by
  simp [State.startReload, apply_ite State.pending, apply_ite State.clk, apply_ite State.otp]

@[simp] theorem State.startReload_wf (s : State) (n : CoreId) (cause : Nat) (h_ : Memory.wf s.mem = true) : Memory.wf (State.startReload s n cause).mem = true := by
  simp +contextual [State.startReload, h_, apply_ite State.mem, apply_ite Memory.wf]

@[simp] theorem State.resumeTask_keep (s : State) (g : Gctx) : (State.resumeTask s g).pending = s.pending ∧ (State.resumeTask s g).clk = s.clk ∧ (State.resumeTask s g).otp = s.otp ∧ (State.resumeTask s g).mem = s.mem := by
  simp [State.resumeTask, apply_ite State.pending, apply_ite State.clk, apply_ite State.otp, apply_ite State.mem]

@[simp] theorem State.restoreWord_keep (s : State) (w : Nat × Nat) : (State.restoreWord s w).pending = s.pending ∧ (State.restoreWord s w).clk = s.clk ∧ (State.restoreWord s w).otp = s.otp := by
  simp [State.restoreWord]

@[simp] theorem State.restoreWord_wf (s : State) (w : Nat × Nat) (h_ : Memory.wf s.mem = true) : Memory.wf (State.restoreWord s w).mem = true := by
  simp [State.restoreWord, h_]

@[simp] theorem State.endReload_keep (s : State) (n : CoreId) (cause : Nat) : (State.endReload s n cause).pending = s.pending ∧ (State.endReload s n cause).clk = s.clk ∧ (State.endReload s n cause).otp = s.otp := by
  simp [State.endReload, apply_ite State.pending, apply_ite State.clk, apply_ite State.otp]

@[simp] theorem State.endReload_wf (s : State) (n : CoreId) (cause : Nat) (h_ : Memory.wf s.mem = true) : Memory.wf (State.endReload s n cause).mem = true := by
  simp +contextual [State.endReload, h_, apply_ite State.mem]

@[simp] theorem opCoreReloaded_keep (n : CoreId) (ok : Bool) (s : State) : (opCoreReloaded n ok s).pending = s.pending ∧ (opCoreReloaded n ok s).clk = s.clk ∧ (opCoreReloaded n ok s).otp = s.otp := by
  unfold opCoreReloaded
  (repeat' split) <;> simp

@[simp] theorem opCoreReloaded_wf (n : CoreId) (ok : Bool) (s : State) (h_ : Memory.wf s.mem = true) : Memory.wf (opCoreReloaded n ok s).mem = true := by
  unfold opCoreReloaded
  (repeat' split) <;> simp [h_]

@[simp] theorem opContextStalled_keep (g : Gctx) (s : State) : (opContextStalled g s).pending = s.pending ∧ (opContextStalled g s).clk = s.clk ∧ (opContextStalled g s).otp = s.otp := by
  simp [opContextStalled, apply_ite State.pending, apply_ite State.clk, apply_ite State.otp]

@[simp] theorem opContextStalled_wf (g : Gctx) (s : State) (h_ : Memory.wf s.mem = true) : Memory.wf (opContextStalled g s).mem = true := by
  simp [opContextStalled, h_, apply_ite State.mem, apply_ite Memory.wf]

@[simp] theorem opCoreWatchdog_keep (n : CoreId) (s : State) : (opCoreWatchdog n s).pending = s.pending ∧ (opCoreWatchdog n s).clk = s.clk ∧ (opCoreWatchdog n s).otp = s.otp := by
  simp [opCoreWatchdog, apply_ite State.pending, apply_ite State.clk, apply_ite State.otp]

@[simp] theorem opCoreWatchdog_wf (n : CoreId) (s : State) (h_ : Memory.wf s.mem = true) : Memory.wf (opCoreWatchdog n s).mem = true := by
  simp [opCoreWatchdog, h_, apply_ite State.mem, apply_ite Memory.wf]

@[simp] theorem State.modEngine_keep (s : State) (e : Fin 3) (f : EngineSup → EngineSup) : (State.modEngine s e f).pending = s.pending ∧ (State.modEngine s e f).clk = s.clk ∧ (State.modEngine s e f).otp = s.otp ∧ (State.modEngine s e f).mem = s.mem := by
  simp [State.modEngine]

@[simp] theorem State.failCommand_keep (s : State) (e : Fin 3) : (State.failCommand s e).pending = s.pending ∧ (State.failCommand s e).clk = s.clk ∧ (State.failCommand s e).otp = s.otp := by
  unfold State.failCommand
  (repeat' split) <;> simp

@[simp] theorem State.failCommand_wf (s : State) (e : Fin 3) (h_ : Memory.wf s.mem = true) : Memory.wf (State.failCommand s e).mem = true := by
  unfold State.failCommand
  (repeat' split) <;> simp [h_]

@[simp] theorem opEngineTimeout_keep (e : Fin 3) (bad : Bool) (s : State) : (opEngineTimeout e bad s).pending = s.pending ∧ (opEngineTimeout e bad s).clk = s.clk ∧ (opEngineTimeout e bad s).otp = s.otp := by
  unfold opEngineTimeout
  dsimp only
  (repeat' split) <;> simp [*]

@[simp] theorem opEngineTimeout_wf (e : Fin 3) (bad : Bool) (s : State) (h_ : Memory.wf s.mem = true) : Memory.wf (opEngineTimeout e bad s).mem = true := by
  unfold opEngineTimeout
  dsimp only
  (repeat' split) <;> simp [*]

@[simp] theorem State.wdgExpire_keep (s : State) (cause : Nat) (inj : Bool) : (State.wdgExpire s cause inj).pending = s.pending ∧ (State.wdgExpire s cause inj).clk = s.clk ∧ (State.wdgExpire s cause inj).otp = s.otp := by
  simp [State.wdgExpire]

@[simp] theorem State.wdgExpire_wf (s : State) (cause : Nat) (inj : Bool) (h_ : Memory.wf s.mem = true) : Memory.wf (State.wdgExpire s cause inj).mem = true := by
  simp [State.wdgExpire, h_]

@[simp] theorem opWdgExpired_keep (s : State) : (opWdgExpired s).pending = s.pending ∧ (opWdgExpired s).clk = s.clk ∧ (opWdgExpired s).otp = s.otp := by
  simp [opWdgExpired, apply_ite State.pending, apply_ite State.clk, apply_ite State.otp]

@[simp] theorem opWdgExpired_wf (s : State) (h_ : Memory.wf s.mem = true) : Memory.wf (opWdgExpired s).mem = true := by
  simp [opWdgExpired, h_, apply_ite State.mem, apply_ite Memory.wf]

@[simp] theorem State.wdgError_keep (s : State) (code : Nat) (p1 : Nat) (p3 : Nat) (inj : Bool) : (State.wdgError s code p1 p3 inj).pending = s.pending ∧ (State.wdgError s code p1 p3 inj).clk = s.clk ∧ (State.wdgError s code p1 p3 inj).otp = s.otp := by
  simp [State.wdgError, apply_ite State.pending, apply_ite State.clk, apply_ite State.otp]

@[simp] theorem State.wdgError_wf (s : State) (code : Nat) (p1 : Nat) (p3 : Nat) (inj : Bool) (h_ : Memory.wf s.mem = true) : Memory.wf (State.wdgError s code p1 p3 inj).mem = true := by
  simp [State.wdgError, h_, apply_ite State.mem, apply_ite Memory.wf]

@[simp] theorem State.wdgAccepted_keep (s : State) : (State.wdgAccepted s).pending = s.pending ∧ (State.wdgAccepted s).clk = s.clk ∧ (State.wdgAccepted s).otp = s.otp ∧ (State.wdgAccepted s).mem = s.mem := by
  simp [State.wdgAccepted]

@[simp] theorem State.wdgEarly_keep (s : State) (inj : Bool) : (State.wdgEarly s inj).pending = s.pending ∧ (State.wdgEarly s inj).clk = s.clk ∧ (State.wdgEarly s inj).otp = s.otp := by
  simp [State.wdgEarly]

@[simp] theorem State.wdgEarly_wf (s : State) (inj : Bool) (h_ : Memory.wf s.mem = true) : Memory.wf (State.wdgEarly s inj).mem = true := by
  simp [State.wdgEarly, h_]

@[simp] theorem State.wdgWrong_keep (s : State) (inj : Bool) : (State.wdgWrong s inj).pending = s.pending ∧ (State.wdgWrong s inj).clk = s.clk ∧ (State.wdgWrong s inj).otp = s.otp := by
  simp [State.wdgWrong]

@[simp] theorem State.wdgWrong_wf (s : State) (inj : Bool) (h_ : Memory.wf s.mem = true) : Memory.wf (State.wdgWrong s inj).mem = true := by
  simp [State.wdgWrong, h_]

@[simp] theorem State.wdgService_keep (s : State) (answer : Word) : (State.wdgService s answer).pending = s.pending ∧ (State.wdgService s answer).clk = s.clk ∧ (State.wdgService s answer).otp = s.otp := by
  simp [State.wdgService, apply_ite State.pending, apply_ite State.clk, apply_ite State.otp]

@[simp] theorem State.wdgService_wf (s : State) (answer : Word) (h_ : Memory.wf s.mem = true) : Memory.wf (State.wdgService s answer).mem = true := by
  simp [State.wdgService, h_, apply_ite State.mem, apply_ite Memory.wf]

@[simp] theorem State.injWatchdog_keep (s : State) : (State.injWatchdog s).pending = s.pending ∧ (State.injWatchdog s).clk = s.clk ∧ (State.injWatchdog s).otp = s.otp := by
  simp [State.injWatchdog, apply_ite State.pending, apply_ite State.clk, apply_ite State.otp]

@[simp] theorem State.injWatchdog_wf (s : State) (h_ : Memory.wf s.mem = true) : Memory.wf (State.injWatchdog s).mem = true := by
  simp [State.injWatchdog, h_, apply_ite State.mem, apply_ite Memory.wf]

@[simp] theorem State.wdgOn_keep (s : State) (tc : Nat) (to_ : Nat) : (State.wdgOn s tc to_).pending = s.pending ∧ (State.wdgOn s tc to_).clk = s.clk ∧ (State.wdgOn s tc to_).otp = s.otp ∧ (State.wdgOn s tc to_).mem = s.mem := by
  simp [State.wdgOn]

@[simp] theorem State.wdgStart_keep (s : State) : (State.wdgStart s).pending = s.pending ∧ (State.wdgStart s).clk = s.clk ∧ (State.wdgStart s).otp = s.otp ∧ (State.wdgStart s).mem = s.mem := by
  simp [State.wdgStart, apply_ite State.pending, apply_ite State.clk, apply_ite State.otp, apply_ite State.mem]

@[simp] theorem State.wdgCfg_keep (s : State) (tc : Nat) (to_ : Nat) : (State.wdgCfg s tc to_).pending = s.pending ∧ (State.wdgCfg s tc to_).clk = s.clk ∧ (State.wdgCfg s tc to_).otp = s.otp := by
  simp [State.wdgCfg, apply_ite State.pending, apply_ite State.clk, apply_ite State.otp]

@[simp] theorem State.wdgCfg_wf (s : State) (tc : Nat) (to_ : Nat) (h_ : Memory.wf s.mem = true) : Memory.wf (State.wdgCfg s tc to_).mem = true := by
  simp [State.wdgCfg, h_, apply_ite State.mem, apply_ite Memory.wf]

@[simp] theorem opGafferSelfWdg_keep (pc : Word) (s : State) : (opGafferSelfWdg pc s).pending = s.pending ∧ (opGafferSelfWdg pc s).clk = s.clk ∧ (opGafferSelfWdg pc s).otp = s.otp := by
  simp [opGafferSelfWdg, apply_ite State.pending, apply_ite State.clk, apply_ite State.otp]

@[simp] theorem opGafferSelfWdg_wf (pc : Word) (s : State) (h_ : Memory.wf s.mem = true) : Memory.wf (opGafferSelfWdg pc s).mem = true := by
  simp [opGafferSelfWdg, h_, apply_ite State.mem, apply_ite Memory.wf]

@[simp] theorem State.checkinAction_keep (s : State) (g : Gctx) : (State.checkinAction s g).pending = s.pending ∧ (State.checkinAction s g).clk = s.clk ∧ (State.checkinAction s g).otp = s.otp := by
  unfold State.checkinAction
  (repeat' split) <;> simp

@[simp] theorem State.checkinAction_wf (s : State) (g : Gctx) (h_ : Memory.wf s.mem = true) : Memory.wf (State.checkinAction s g).mem = true := by
  unfold State.checkinAction
  (repeat' split) <;> simp [h_]

@[simp] theorem opCheckinFault_keep (s : State) : (opCheckinFault s).pending = s.pending ∧ (opCheckinFault s).clk = s.clk ∧ (opCheckinFault s).otp = s.otp := by
  simp [opCheckinFault, apply_ite State.pending, apply_ite State.clk, apply_ite State.otp]

@[simp] theorem opCheckinFault_wf (s : State) (h_ : Memory.wf s.mem = true) : Memory.wf (opCheckinFault s).mem = true := by
  simp +contextual [opCheckinFault, h_, apply_ite State.mem, apply_ite Memory.wf]

@[simp] theorem State.clearEvidence_keep (s : State) : (State.clearEvidence s).1.pending = s.pending ∧ (State.clearEvidence s).1.clk = s.clk ∧ (State.clearEvidence s).1.otp = s.otp ∧ (State.clearEvidence s).1.mem = s.mem := by
  simp [State.clearEvidence]

@[simp] theorem State.fresh_keep (s : State) (dev : Bool) : (State.fresh s dev).pending = s.pending ∧ (State.fresh s dev).clk = s.clk ∧ (State.fresh s dev).otp = s.otp := by
  simp [State.fresh]

@[simp] theorem State.fresh_wf (s : State) (dev : Bool) (h_ : Memory.wf s.mem = true) : Memory.wf (State.fresh s dev).mem = true := by
  simp [State.fresh, h_]

@[simp] theorem State.porStart_keep (s : State) : (State.porStart s).pending = s.pending ∧ (State.porStart s).clk = s.clk ∧ (State.porStart s).otp = s.otp := by
  simp [State.porStart]

@[simp] theorem State.porStart_wf (s : State) (h_ : Memory.wf s.mem = true) : Memory.wf (State.porStart s).mem = true := by
  simp [State.porStart, h_]

@[simp] theorem State.turnOff_keep (s : State) : (State.turnOff s).pending = s.pending ∧ (State.turnOff s).clk = s.clk ∧ (State.turnOff s).otp = s.otp := by
  simp [State.turnOff]

@[simp] theorem State.turnOff_wf (s : State) (h_ : Memory.wf s.mem = true) : Memory.wf (State.turnOff s).mem = true := by
  simp [State.turnOff, h_]

@[simp] theorem opPowerOnReset_keep (mv : Nat) (s : State) : (opPowerOnReset mv s).pending = s.pending ∧ (opPowerOnReset mv s).clk = s.clk ∧ (opPowerOnReset mv s).otp = s.otp := by
  simp [opPowerOnReset, apply_ite State.pending, apply_ite State.clk, apply_ite State.otp]

@[simp] theorem opPowerOnReset_wf (mv : Nat) (s : State) (h_ : Memory.wf s.mem = true) : Memory.wf (opPowerOnReset mv s).mem = true := by
  simp [opPowerOnReset, h_, apply_ite State.mem, apply_ite Memory.wf]

@[simp] theorem State.lehrStep1_keep (s : State) (inj : Bool) : (State.lehrStep1 s inj).pending = s.pending ∧ (State.lehrStep1 s inj).clk = s.clk ∧ (State.lehrStep1 s inj).otp = s.otp := by
  simp [State.lehrStep1]

@[simp] theorem State.lehrStep1_wf (s : State) (inj : Bool) (h_ : Memory.wf s.mem = true) : Memory.wf (State.lehrStep1 s inj).mem = true := by
  simp [State.lehrStep1, h_]

@[simp] theorem State.powerFails_keep (s : State) (inj : Bool) : (State.powerFails s inj).pending = s.pending ∧ (State.powerFails s inj).clk = s.clk ∧ (State.powerFails s inj).otp = s.otp := by
  unfold State.powerFails
  dsimp only
  (repeat' split) <;> simp

@[simp] theorem State.powerFails_wf (s : State) (inj : Bool) (h_ : Memory.wf s.mem = true) : Memory.wf (State.powerFails s inj).mem = true := by
  unfold State.powerFails
  dsimp only
  (repeat' split) <;> simp [h_]

@[simp] theorem opPowerFail_keep (mv : Nat) (s : State) : (opPowerFail mv s).pending = s.pending ∧ (opPowerFail mv s).clk = s.clk ∧ (opPowerFail mv s).otp = s.otp := by
  simp [opPowerFail, apply_ite State.pending, apply_ite State.clk, apply_ite State.otp]

@[simp] theorem opPowerFail_wf (mv : Nat) (s : State) (h_ : Memory.wf s.mem = true) : Memory.wf (opPowerFail mv s).mem = true := by
  simp [opPowerFail, h_, apply_ite State.mem, apply_ite Memory.wf]

@[simp] theorem State.lehrEnd_keep (s : State) : (State.lehrEnd s).pending = s.pending ∧ (State.lehrEnd s).clk = s.clk ∧ (State.lehrEnd s).otp = s.otp := by
  simp [State.lehrEnd]

@[simp] theorem State.lehrEnd_wf (s : State) (h_ : Memory.wf s.mem = true) : Memory.wf s.lehrEnd.mem = true := by
  have H := fun s h => State.foldTime_wf _ (State.foldSectors_wf _ (State.foldSwitching_wf s h))
  unfold State.lehrEnd
  dsimp only
  simp only [State.modNv_keep, State.saveEnergies_keep, State.twinWrite_keep]
  apply H
  apply State.flushRecs_wf
  simp [h_]

@[simp] theorem State.lehrThen_keep (s : State) : (State.lehrThen s).pending = s.pending ∧ (State.lehrThen s).clk = s.clk ∧ (State.lehrThen s).otp = s.otp := by
  simp [State.lehrThen, apply_ite State.pending, apply_ite State.clk, apply_ite State.otp]

@[simp] theorem State.lehrThen_wf (s : State) (h_ : Memory.wf s.mem = true) : Memory.wf (State.lehrThen s).mem = true := by
  simp [State.lehrThen, h_, apply_ite State.mem, apply_ite Memory.wf]

@[simp] theorem opLehrStep5_keep (s : State) : (opLehrStep5 s).pending = s.pending ∧ (opLehrStep5 s).clk = s.clk ∧ (opLehrStep5 s).otp = s.otp := by
  simp [opLehrStep5, apply_ite State.pending, apply_ite State.clk, apply_ite State.otp]

@[simp] theorem opLehrStep5_wf (s : State) (h_ : Memory.wf s.mem = true) : Memory.wf (opLehrStep5 s).mem = true := by
  simp [opLehrStep5, h_, apply_ite State.mem, apply_ite Memory.wf]

@[simp] theorem State.spoil_keep (s : State) (b : Bool) : (State.spoil s b).pending = s.pending ∧ (State.spoil s b).clk = s.clk ∧ (State.spoil s b).otp = s.otp := by
  simp [State.spoil]

@[simp] theorem State.spoil_wf (s : State) (b : Bool) (h_ : Memory.wf s.mem = true) : Memory.wf (State.spoil s b).mem = true := by
  simp [State.spoil, h_]

@[simp] theorem opHoldupExhausted_keep (s : State) : (opHoldupExhausted s).pending = s.pending ∧ (opHoldupExhausted s).clk = s.clk ∧ (opHoldupExhausted s).otp = s.otp := by
  simp [opHoldupExhausted, apply_ite State.pending, apply_ite State.clk, apply_ite State.otp]

@[simp] theorem opHoldupExhausted_wf (s : State) (h_ : Memory.wf s.mem = true) : Memory.wf (opHoldupExhausted s).mem = true := by
  have H := State.turnOff_wf _ (State.spoil_wf _ true (State.spoil_wf s false h_))
  unfold opHoldupExhausted
  split
  · simpa using h_
  · split
    · simpa using H
    · exact h_

@[simp] theorem opDeviceReset_keep (s : State) : (opDeviceReset s).pending = s.pending ∧ (opDeviceReset s).clk = s.clk ∧ (opDeviceReset s).otp = s.otp := by
  unfold opDeviceReset
  dsimp only
  (repeat' split) <;> simp [*]

@[simp] theorem opDeviceReset_wf (s : State) (h_ : Memory.wf s.mem = true) : Memory.wf (opDeviceReset s).mem = true := by
  unfold opDeviceReset
  dsimp only
  (repeat' split) <;> simp [*]

@[simp] theorem opResetNLow_keep (ticks : Nat) (s : State) : (opResetNLow ticks s).pending = s.pending ∧ (opResetNLow ticks s).clk = s.clk ∧ (opResetNLow ticks s).otp = s.otp := by
  simp [opResetNLow, apply_ite State.pending, apply_ite State.clk, apply_ite State.otp]

@[simp] theorem opResetNLow_wf (ticks : Nat) (s : State) (h_ : Memory.wf s.mem = true) : Memory.wf (opResetNLow ticks s).mem = true := by
  simp [opResetNLow, h_, apply_ite State.mem, apply_ite Memory.wf]

@[simp] theorem opVinHigh_keep (mv : Nat) (ms : Nat) (s : State) : (opVinHigh mv ms s).pending = s.pending ∧ (opVinHigh mv ms s).clk = s.clk ∧ (opVinHigh mv ms s).otp = s.otp ∧ (opVinHigh mv ms s).mem = s.mem := by
  simp [opVinHigh, apply_ite State.pending, apply_ite State.clk, apply_ite State.otp, apply_ite State.mem]

end Sys2Proof.Machine
end

