-- ==== Sys2Proof/Laws/KeepHier.lean ====
section
/-! SUPPORT. What every operation leaves alone: the queue, the clock, the bits of the OTP, and memory or its canonical form
(`_keep`: queue, clock, OTP and memory where they are unchanged; `_bit`: no OTP bit goes back to 0; `_wf`: memory stays
canonical). This file: hierarchy, tasks and program commands. -/

namespace Sys2Proof.Machine

open Sys2Proof

@[simp] theorem State.modHier_keep (s : State) (f : Hier → Hier) : (State.modHier s f).pending = s.pending ∧ (State.modHier s f).clk = s.clk ∧ (State.modHier s f).otp = s.otp ∧ (State.modHier s f).mem = s.mem := by
  simp [State.modHier]

@[simp] theorem State.modWorker_keep (s : State) (w : Nat) (f : Worker → Worker) : (State.modWorker s w f).pending = s.pending ∧ (State.modWorker s w f).clk = s.clk ∧ (State.modWorker s w f).otp = s.otp ∧ (State.modWorker s w f).mem = s.mem := by
  simp [State.modWorker]

@[simp] theorem State.modLink_keep (s : State) (w : Nat) (f : PLink → PLink) : (State.modLink s w f).pending = s.pending ∧ (State.modLink s w f).clk = s.clk ∧ (State.modLink s w f).otp = s.otp ∧ (State.modLink s w f).mem = s.mem := by
  simp [State.modLink, apply_ite State.pending, apply_ite State.clk, apply_ite State.otp, apply_ite State.mem]

@[simp] theorem State.putPunty_keep (s : State) (w : Nat) (body : Option Word → TxBody) : (State.putPunty s w body).pending = s.pending ∧ (State.putPunty s w body).clk = s.clk ∧ (State.putPunty s w body).otp = s.otp ∧ (State.putPunty s w body).mem = s.mem := by
  simp [State.putPunty, apply_ite State.pending, apply_ite State.clk, apply_ite State.otp, apply_ite State.mem]

@[simp] theorem State.sendPunty_keep (s : State) (kind : Nat) (fl : Nat) (w : Nat) (cycle : Word) (payload : List Byte) : (State.sendPunty s kind fl w cycle payload).pending = s.pending ∧ (State.sendPunty s kind fl w cycle payload).clk = s.clk ∧ (State.sendPunty s kind fl w cycle payload).otp = s.otp ∧ (State.sendPunty s kind fl w cycle payload).mem = s.mem := by
  simp [State.sendPunty, apply_ite State.pending, apply_ite State.clk, apply_ite State.otp, apply_ite State.mem]

@[simp] theorem State.badPunty_keep (s : State) : (State.badPunty s).pending = s.pending ∧ (State.badPunty s).clk = s.clk ∧ (State.badPunty s).otp = s.otp ∧ (State.badPunty s).mem = s.mem := by
  simp [State.badPunty]

@[simp] theorem State.badTag_keep (s : State) : (State.badTag s).pending = s.pending ∧ (State.badTag s).clk = s.clk ∧ (State.badTag s).otp = s.otp ∧ (State.badTag s).mem = s.mem := by
  simp [State.badTag]

@[simp] theorem State.puntyIn_pending (s : State) (kind : Byte) (mine : Bool) (f : PuntyFrame) (okLen : Bool) (k : State → State) (hf : ∀ s, (k s).pending = s.pending) : (s.puntyIn kind mine f okLen k).pending = s.pending := by
  unfold State.puntyIn; (repeat' split) <;> simp [hf]

@[simp] theorem State.puntyIn_clk (s : State) (kind : Byte) (mine : Bool) (f : PuntyFrame) (okLen : Bool) (k : State → State) (hf : ∀ s, (k s).clk = s.clk) : (s.puntyIn kind mine f okLen k).clk = s.clk := by
  unfold State.puntyIn; (repeat' split) <;> simp [hf]

@[simp] theorem State.puntyIn_otp (s : State) (kind : Byte) (mine : Bool) (f : PuntyFrame) (okLen : Bool) (k : State → State) (hf : ∀ s, (k s).otp = s.otp) : (s.puntyIn kind mine f okLen k).otp = s.otp := by
  unfold State.puntyIn; (repeat' split) <;> simp [hf]

@[simp] theorem State.puntyIn_mem (s : State) (kind : Byte) (mine : Bool) (f : PuntyFrame) (okLen : Bool) (k : State → State) (hf : ∀ s, (k s).mem = s.mem) : (s.puntyIn kind mine f okLen k).mem = s.mem := by
  unfold State.puntyIn; (repeat' split) <;> simp [hf]

@[simp] theorem State.puntyIn_wf (s : State) (kind : Byte) (mine : Bool) (f : PuntyFrame) (okLen : Bool) (k : State → State) (hf : ∀ s, Memory.wf s.mem = true → Memory.wf (k s).mem = true) (h_ : Memory.wf s.mem = true) : Memory.wf (s.puntyIn kind mine f okLen k).mem = true := by
  unfold State.puntyIn; (repeat' split) <;> simp [hf, h_]

@[simp] theorem State.linkIn_pending (s : State) (mine : Bool) (f : PuntyFrame) (okLen : Bool) (k : State → State) (hf : ∀ s, (k s).pending = s.pending) : (s.linkIn mine f okLen k).pending = s.pending := by
  unfold State.linkIn; (repeat' split) <;> simp [hf]

@[simp] theorem State.linkIn_clk (s : State) (mine : Bool) (f : PuntyFrame) (okLen : Bool) (k : State → State) (hf : ∀ s, (k s).clk = s.clk) : (s.linkIn mine f okLen k).clk = s.clk := by
  unfold State.linkIn; (repeat' split) <;> simp [hf]

@[simp] theorem State.linkIn_otp (s : State) (mine : Bool) (f : PuntyFrame) (okLen : Bool) (k : State → State) (hf : ∀ s, (k s).otp = s.otp) : (s.linkIn mine f okLen k).otp = s.otp := by
  unfold State.linkIn; (repeat' split) <;> simp [hf]

@[simp] theorem State.linkIn_mem (s : State) (mine : Bool) (f : PuntyFrame) (okLen : Bool) (k : State → State) (hf : ∀ s, (k s).mem = s.mem) : (s.linkIn mine f okLen k).mem = s.mem := by
  unfold State.linkIn; (repeat' split) <;> simp [hf]

@[simp] theorem State.linkIn_wf (s : State) (mine : Bool) (f : PuntyFrame) (okLen : Bool) (k : State → State) (hf : ∀ s, Memory.wf s.mem = true → Memory.wf (k s).mem = true) (h_ : Memory.wf s.mem = true) : Memory.wf (s.linkIn mine f okLen k).mem = true := by
  unfold State.linkIn; (repeat' split) <;> simp [hf, h_]

@[simp] theorem State.loseExchange_keep (s : State) (w : Nat) : (State.loseExchange s w).pending = s.pending ∧ (State.loseExchange s w).clk = s.clk ∧ (State.loseExchange s w).otp = s.otp ∧ (State.loseExchange s w).mem = s.mem := by
  simp [State.loseExchange]

@[simp] theorem State.closeOpen_keep (s : State) : (State.closeOpen s).pending = s.pending ∧ (State.closeOpen s).clk = s.clk ∧ (State.closeOpen s).otp = s.otp ∧ (State.closeOpen s).mem = s.mem := by
  simp [State.closeOpen, apply_ite State.pending, apply_ite State.clk, apply_ite State.otp, apply_ite State.mem]

@[simp] theorem opHierarchyCycle_keep (s : State) : (opHierarchyCycle s).pending = s.pending ∧ (opHierarchyCycle s).clk = s.clk ∧ (opHierarchyCycle s).otp = s.otp := by
  simp [opHierarchyCycle, apply_ite State.pending, apply_ite State.clk, apply_ite State.otp]

@[simp] theorem opHierarchyCycle_wf (s : State) (h_ : Memory.wf s.mem = true) : Memory.wf (opHierarchyCycle s).mem = true := by
  simp [opHierarchyCycle, h_, apply_ite State.mem, apply_ite Memory.wf]

@[simp] theorem opSlotStart_keep (b : Byte) (s : State) : (opSlotStart b s).pending = s.pending ∧ (opSlotStart b s).clk = s.clk ∧ (opSlotStart b s).otp = s.otp ∧ (opSlotStart b s).mem = s.mem := by
  simp [opSlotStart, apply_ite State.pending, apply_ite State.clk, apply_ite State.otp, apply_ite State.mem]

@[simp] theorem opExchangeClose_keep (b : Byte) (s : State) : (opExchangeClose b s).pending = s.pending ∧ (opExchangeClose b s).clk = s.clk ∧ (opExchangeClose b s).otp = s.otp ∧ (opExchangeClose b s).mem = s.mem := by
  unfold opExchangeClose
  dsimp only
  (repeat' split) <;> simp [*]

@[simp] theorem opUp_keep (f : PuntyFrame) (s : State) : (opUp f s).pending = s.pending ∧ (opUp f s).clk = s.clk ∧ (opUp f s).otp = s.otp := by
  simp [opUp, apply_ite State.pending, apply_ite State.clk, apply_ite State.otp]

@[simp] theorem opUp_wf (f : PuntyFrame) (s : State) (h_ : Memory.wf s.mem = true) : Memory.wf (opUp f s).mem = true := by
  simp +contextual [opUp, h_, apply_ite State.mem, apply_ite Memory.wf]

@[simp] theorem State.ownLink_keep (s : State) (n : Nat) (inj : Bool) : (State.ownLink s n inj).pending = s.pending ∧ (State.ownLink s n inj).clk = s.clk ∧ (State.ownLink s n inj).otp = s.otp ∧ (State.ownLink s n inj).mem = s.mem := by
  simp [State.ownLink, apply_ite State.pending, apply_ite State.clk, apply_ite State.otp, apply_ite State.mem]

@[simp] theorem opDown_keep (f : PuntyFrame) (s : State) : (opDown f s).pending = s.pending ∧ (opDown f s).clk = s.clk ∧ (opDown f s).otp = s.otp := by
  simp [opDown, apply_ite State.pending, apply_ite State.clk, apply_ite State.otp]

@[simp] theorem opDown_wf (f : PuntyFrame) (s : State) (h_ : Memory.wf s.mem = true) : Memory.wf (opDown f s).mem = true := by
  simp +contextual [opDown, h_, apply_ite State.mem, apply_ite Memory.wf]

@[simp] theorem opNoManager_keep (s : State) : (opNoManager s).pending = s.pending ∧ (opNoManager s).clk = s.clk ∧ (opNoManager s).otp = s.otp ∧ (opNoManager s).mem = s.mem := by
  simp [opNoManager, apply_ite State.pending, apply_ite State.clk, apply_ite State.otp, apply_ite State.mem]

@[simp] theorem State.sendLink1_keep (s : State) : (State.sendLink1 s).pending = s.pending ∧ (State.sendLink1 s).clk = s.clk ∧ (State.sendLink1 s).otp = s.otp ∧ (State.sendLink1 s).mem = s.mem := by
  simp [State.sendLink1]

@[simp] theorem State.linkToTrail_keep (s : State) : (State.linkToTrail s).pending = s.pending ∧ (State.linkToTrail s).clk = s.clk ∧ (State.linkToTrail s).otp = s.otp ∧ (State.linkToTrail s).mem = s.mem := by
  unfold State.linkToTrail
  (repeat' split) <;> simp

@[simp] theorem opHeartbeatTimer_keep (s : State) : (opHeartbeatTimer s).pending = s.pending ∧ (opHeartbeatTimer s).clk = s.clk ∧ (opHeartbeatTimer s).otp = s.otp ∧ (opHeartbeatTimer s).mem = s.mem := by
  unfold opHeartbeatTimer
  dsimp only
  (repeat' split) <;> simp

@[simp] theorem State.workerTo_keep (s : State) (w : Nat) (n : Nat) (inj : Bool) : (State.workerTo s w n inj).pending = s.pending ∧ (State.workerTo s w n inj).clk = s.clk ∧ (State.workerTo s w n inj).otp = s.otp ∧ (State.workerTo s w n inj).mem = s.mem := by
  simp [State.workerTo, apply_ite State.pending, apply_ite State.clk, apply_ite State.otp, apply_ite State.mem]

@[simp] theorem State.askQuote_keep (s : State) (w : Nat) : (State.askQuote s w).pending = s.pending ∧ (State.askQuote s w).clk = s.clk ∧ (State.askQuote s w).otp = s.otp ∧ (State.askQuote s w).mem = s.mem := by
  simp [State.askQuote]

@[simp] theorem State.judgeHeartbeat_keep (s : State) (w : Nat) (digest : List Byte) : (State.judgeHeartbeat s w digest).pending = s.pending ∧ (State.judgeHeartbeat s w digest).clk = s.clk ∧ (State.judgeHeartbeat s w digest).otp = s.otp ∧ (State.judgeHeartbeat s w digest).mem = s.mem := by
  simp [State.judgeHeartbeat, apply_ite State.pending, apply_ite State.clk, apply_ite State.otp, apply_ite State.mem]

@[simp] theorem opHeartbeat_keep (f : PuntyFrame) (s : State) : (opHeartbeat f s).pending = s.pending ∧ (opHeartbeat f s).clk = s.clk ∧ (opHeartbeat f s).otp = s.otp ∧ (opHeartbeat f s).mem = s.mem := by
  simp [opHeartbeat, apply_ite State.pending, apply_ite State.clk, apply_ite State.otp, apply_ite State.mem]

@[simp] theorem opSilent_keep (b : Byte) (s : State) : (opSilent b s).pending = s.pending ∧ (opSilent b s).clk = s.clk ∧ (opSilent b s).otp = s.otp ∧ (opSilent b s).mem = s.mem := by
  simp [opSilent, apply_ite State.pending, apply_ite State.clk, apply_ite State.otp, apply_ite State.mem]

@[simp] theorem opLink1_keep (f : PuntyFrame) (s : State) : (opLink1 f s).pending = s.pending ∧ (opLink1 f s).clk = s.clk ∧ (opLink1 f s).otp = s.otp ∧ (opLink1 f s).mem = s.mem := by
  simp [opLink1]

@[simp] theorem opLink2_keep (f : PuntyFrame) (s : State) : (opLink2 f s).pending = s.pending ∧ (opLink2 f s).clk = s.clk ∧ (opLink2 f s).otp = s.otp ∧ (opLink2 f s).mem = s.mem := by
  simp [opLink2, apply_ite State.pending, apply_ite State.clk, apply_ite State.otp, apply_ite State.mem]

@[simp] theorem State.linkOpens_keep (s : State) (w : Nat) (cert : List Byte) : (State.linkOpens s w cert).pending = s.pending ∧ (State.linkOpens s w cert).clk = s.clk ∧ (State.linkOpens s w cert).otp = s.otp ∧ (State.linkOpens s w cert).mem = s.mem := by
  simp [State.linkOpens, apply_ite State.pending, apply_ite State.clk, apply_ite State.otp, apply_ite State.mem]

@[simp] theorem opLink3_keep (f : PuntyFrame) (s : State) : (opLink3 f s).pending = s.pending ∧ (opLink3 f s).clk = s.clk ∧ (opLink3 f s).otp = s.otp ∧ (opLink3 f s).mem = s.mem := by
  refine ⟨State.linkIn_pending _ _ _ _ _ fun s => ?_, State.linkIn_clk _ _ _ _ _ fun s => ?_, State.linkIn_otp _ _ _ _ _ fun s => ?_, State.linkIn_mem _ _ _ _ _ fun s => ?_⟩ <;>
    (dsimp only; (repeat' split) <;> simp)

@[simp] theorem opLink4_keep (f : PuntyFrame) (s : State) : (opLink4 f s).pending = s.pending ∧ (opLink4 f s).clk = s.clk ∧ (opLink4 f s).otp = s.otp ∧ (opLink4 f s).mem = s.mem := by
  refine ⟨State.linkIn_pending _ _ _ _ _ fun s => ?_, State.linkIn_clk _ _ _ _ _ fun s => ?_, State.linkIn_otp _ _ _ _ _ fun s => ?_, State.linkIn_mem _ _ _ _ _ fun s => ?_⟩ <;>
    (dsimp only; (repeat' split) <;> simp)

@[simp] theorem opQuoteReq_keep (f : PuntyFrame) (s : State) : (opQuoteReq f s).pending = s.pending ∧ (opQuoteReq f s).clk = s.clk ∧ (opQuoteReq f s).otp = s.otp ∧ (opQuoteReq f s).mem = s.mem := by
  simp [opQuoteReq]

@[simp] theorem opQuote_keep (f : PuntyFrame) (s : State) : (opQuote f s).pending = s.pending ∧ (opQuote f s).clk = s.clk ∧ (opQuote f s).otp = s.otp ∧ (opQuote f s).mem = s.mem := by
  refine ⟨State.puntyIn_pending _ _ _ _ _ _ fun s => ?_, State.puntyIn_clk _ _ _ _ _ _ fun s => ?_, State.puntyIn_otp _ _ _ _ _ _ fun s => ?_, State.puntyIn_mem _ _ _ _ _ _ fun s => ?_⟩ <;>
    (dsimp only; (repeat' split) <;> simp)

@[simp] theorem opQuoteRepeat_keep (b : Byte) (s : State) : (opQuoteRepeat b s).pending = s.pending ∧ (opQuoteRepeat b s).clk = s.clk ∧ (opQuoteRepeat b s).otp = s.otp ∧ (opQuoteRepeat b s).mem = s.mem := by
  simp [opQuoteRepeat, apply_ite State.pending, apply_ite State.clk, apply_ite State.otp, apply_ite State.mem]

@[simp] theorem opLinkRenewal_keep (b : Byte) (s : State) : (opLinkRenewal b s).pending = s.pending ∧ (opLinkRenewal b s).clk = s.clk ∧ (opLinkRenewal b s).otp = s.otp ∧ (opLinkRenewal b s).mem = s.mem := by
  simp [opLinkRenewal, apply_ite State.pending, apply_ite State.clk, apply_ite State.otp, apply_ite State.mem]

@[simp] theorem opKeyOverlapEnd_keep (b : Byte) (s : State) : (opKeyOverlapEnd b s).pending = s.pending ∧ (opKeyOverlapEnd b s).clk = s.clk ∧ (opKeyOverlapEnd b s).otp = s.otp ∧ (opKeyOverlapEnd b s).mem = s.mem := by
  unfold opKeyOverlapEnd
  (repeat' split) <;> simp

@[simp] theorem State.quoteOf_keep (s : State) (w : Nat) : (s.quoteOf w).2.pending = s.pending ∧ (s.quoteOf w).2.clk = s.clk ∧ (s.quoteOf w).2.otp = s.otp ∧ (s.quoteOf w).2.mem = s.mem := by
  unfold State.quoteOf; split <;> simp

@[simp] theorem opCommit_keep (g : Gctx) (sop : Nat) (byEnd : Bool) (s : State) : (opCommit g sop byEnd s).pending = s.pending ∧ (opCommit g sop byEnd s).clk = s.clk ∧ (opCommit g sop byEnd s).otp = s.otp := by
  simp [opCommit, apply_ite State.pending, apply_ite State.clk, apply_ite State.otp]

@[simp] theorem opCommit_wf (g : Gctx) (sop : Nat) (byEnd : Bool) (s : State) (h_ : Memory.wf s.mem = true) : Memory.wf (opCommit g sop byEnd s).mem = true := by
  simp [opCommit, h_, apply_ite State.mem]

@[simp] theorem State.drainStall_keep (s : State) (g : Gctx) : (State.drainStall s g).pending = s.pending ∧ (State.drainStall s g).clk = s.clk ∧ (State.drainStall s g).otp = s.otp ∧ (State.drainStall s g).mem = s.mem := by
  simp [State.drainStall, apply_ite State.pending, apply_ite State.clk, apply_ite State.otp, apply_ite State.mem]

@[simp] theorem opWfe_keep (g : Gctx) (s : State) : (opWfe g s).pending = s.pending ∧ (opWfe g s).clk = s.clk ∧ (opWfe g s).otp = s.otp := by
  simp [opWfe, apply_ite State.pending, apply_ite State.clk, apply_ite State.otp]

@[simp] theorem opWfe_wf (g : Gctx) (s : State) (h_ : Memory.wf s.mem = true) : Memory.wf (opWfe g s).mem = true := by
  simp [opWfe, h_, apply_ite State.mem]

@[simp] theorem opSev_keep (g : Gctx) (line : BitVec 6) (s : State) : (opSev g line s).pending = s.pending ∧ (opSev g line s).clk = s.clk ∧ (opSev g line s).otp = s.otp := by
  simp [opSev, apply_ite State.pending, apply_ite State.clk, apply_ite State.otp]

@[simp] theorem opSev_wf (g : Gctx) (line : BitVec 6) (s : State) (h_ : Memory.wf s.mem = true) : Memory.wf (opSev g line s).mem = true := by
  simp +contextual [opSev, h_, apply_ite State.mem, apply_ite Memory.wf]

@[simp] theorem State.waitTime_keep (s : State) (g : Gctx) (v : Word64) : (State.waitTime s g v).pending = s.pending ∧ (State.waitTime s g v).clk = s.clk ∧ (State.waitTime s g v).otp = s.otp ∧ (State.waitTime s g v).mem = s.mem := by
  simp [State.waitTime, apply_ite State.pending, apply_ite State.clk, apply_ite State.otp, apply_ite State.mem]

@[simp] theorem opWaitt_keep (g : Gctx) (i : Reg) (s : State) : (opWaitt g i s).pending = s.pending ∧ (opWaitt g i s).clk = s.clk ∧ (opWaitt g i s).otp = s.otp := by
  simp [opWaitt, apply_ite State.pending, apply_ite State.clk, apply_ite State.otp]

@[simp] theorem opWaitt_wf (g : Gctx) (i : Reg) (s : State) (h_ : Memory.wf s.mem = true) : Memory.wf (opWaitt g i s).mem = true := by
  simp +contextual [opWaitt, h_, apply_ite State.mem, apply_ite Memory.wf]

@[simp] theorem opMfcr_keep (g : Gctx) (i : Reg) (cr : BitVec 6) (s : State) : (opMfcr g i cr s).pending = s.pending ∧ (opMfcr g i cr s).clk = s.clk ∧ (opMfcr g i cr s).otp = s.otp := by
  simp [opMfcr, apply_ite State.pending, apply_ite State.clk, apply_ite State.otp]

@[simp] theorem opMfcr_wf (g : Gctx) (i : Reg) (cr : BitVec 6) (s : State) (h_ : Memory.wf s.mem = true) : Memory.wf (opMfcr g i cr s).mem = true := by
  simp +contextual [opMfcr, h_, apply_ite State.mem, apply_ite Memory.wf]

@[simp] theorem opMtcr_keep (g : Gctx) (cr : BitVec 6) (i : Reg) (s : State) : (opMtcr g cr i s).pending = s.pending ∧ (opMtcr g cr i s).clk = s.clk ∧ (opMtcr g cr i s).otp = s.otp := by
  simp [opMtcr, apply_ite State.pending, apply_ite State.clk, apply_ite State.otp]

@[simp] theorem opMtcr_wf (g : Gctx) (cr : BitVec 6) (i : Reg) (s : State) (h_ : Memory.wf s.mem = true) : Memory.wf (opMtcr g cr i s).mem = true := by
  simp +contextual [opMtcr, h_, apply_ite State.mem, apply_ite Memory.wf]

@[simp] theorem opRett_keep (g : Gctx) (s : State) : (opRett g s).pending = s.pending ∧ (opRett g s).clk = s.clk ∧ (opRett g s).otp = s.otp := by
  simp [opRett, apply_ite State.pending, apply_ite State.clk, apply_ite State.otp]

@[simp] theorem opRett_wf (g : Gctx) (s : State) (h_ : Memory.wf s.mem = true) : Memory.wf (opRett g s).mem = true := by
  simp +contextual [opRett, h_, apply_ite State.mem, apply_ite Memory.wf]

@[simp] theorem opUndef_keep (g : Gctx) (insn : Word) (s : State) : (opUndef g insn s).pending = s.pending ∧ (opUndef g insn s).clk = s.clk ∧ (opUndef g insn s).otp = s.otp := by
  simp [opUndef, apply_ite State.pending, apply_ite State.clk, apply_ite State.otp]

@[simp] theorem opUndef_wf (g : Gctx) (insn : Word) (s : State) (h_ : Memory.wf s.mem = true) : Memory.wf (opUndef g insn s).mem = true := by
  simp +contextual [opUndef, h_, apply_ite State.mem, apply_ite Memory.wf]

@[simp] theorem opWaittWake_keep (g : Gctx) (s : State) : (opWaittWake g s).pending = s.pending ∧ (opWaittWake g s).clk = s.clk ∧ (opWaittWake g s).otp = s.otp ∧ (opWaittWake g s).mem = s.mem := by
  unfold opWaittWake
  (repeat' split) <;> simp

@[simp] theorem State.cyclicAt_keep (s : State) (g : Gctx) (r : Word64) (extra : Nat) : (State.cyclicAt s g r extra).pending = s.pending ∧ (State.cyclicAt s g r extra).clk = s.clk ∧ (State.cyclicAt s g r extra).otp = s.otp := by
  simp [State.cyclicAt, apply_ite State.pending, apply_ite State.clk, apply_ite State.otp]

@[simp] theorem State.cyclicAt_wf (s : State) (g : Gctx) (r : Word64) (extra : Nat) (h_ : Memory.wf s.mem = true) : Memory.wf (State.cyclicAt s g r extra).mem = true := by
  simp [State.cyclicAt, h_, apply_ite State.mem, apply_ite Memory.wf]

@[simp] theorem opCyclicRelease_keep (g : Gctx) (s : State) : (opCyclicRelease g s).pending = s.pending ∧ (opCyclicRelease g s).clk = s.clk ∧ (opCyclicRelease g s).otp = s.otp := by
  unfold opCyclicRelease
  dsimp only
  (repeat' split) <;> simp [*]

@[simp] theorem opCyclicRelease_wf (g : Gctx) (s : State) (h_ : Memory.wf s.mem = true) : Memory.wf (opCyclicRelease g s).mem = true := by
  unfold opCyclicRelease
  dsimp only
  (repeat' split) <;> simp [*]

@[simp] theorem opHeldRelease_keep (g : Gctx) (s : State) : (opHeldRelease g s).pending = s.pending ∧ (opHeldRelease g s).clk = s.clk ∧ (opHeldRelease g s).otp = s.otp := by
  simp [opHeldRelease, apply_ite State.pending, apply_ite State.clk, apply_ite State.otp]

@[simp] theorem opHeldRelease_wf (g : Gctx) (s : State) (h_ : Memory.wf s.mem = true) : Memory.wf (opHeldRelease g s).mem = true := by
  simp [opHeldRelease, h_, apply_ite State.mem, apply_ite Memory.wf]

@[simp] theorem opBackgroundRelease_keep (g : Gctx) (s : State) : (opBackgroundRelease g s).pending = s.pending ∧ (opBackgroundRelease g s).clk = s.clk ∧ (opBackgroundRelease g s).otp = s.otp ∧ (opBackgroundRelease g s).mem = s.mem := by
  simp [opBackgroundRelease, apply_ite State.pending, apply_ite State.clk, apply_ite State.otp, apply_ite State.mem]

@[simp] theorem opEventLinesArmed_keep (s : State) : (opEventLinesArmed s).pending = s.pending ∧ (opEventLinesArmed s).clk = s.clk ∧ (opEventLinesArmed s).otp = s.otp ∧ (opEventLinesArmed s).mem = s.mem := by
  simp [opEventLinesArmed, apply_ite State.pending, apply_ite State.clk, apply_ite State.otp, apply_ite State.mem]

@[simp] theorem State.laggedAt_keep (s : State) (g : Gctx) (f : Fwd) : (State.laggedAt s g f).pending = s.pending ∧ (State.laggedAt s g f).clk = s.clk ∧ (State.laggedAt s g f).otp = s.otp := by
  simp [State.laggedAt, apply_ite State.pending, apply_ite State.clk, apply_ite State.otp]

@[simp] theorem State.laggedAt_wf (s : State) (g : Gctx) (f : Fwd) (h_ : Memory.wf s.mem = true) : Memory.wf (State.laggedAt s g f).mem = true := by
  simp [State.laggedAt, h_, apply_ite State.mem, apply_ite Memory.wf]

@[simp] theorem opLaggedRelease_keep (g : Gctx) (s : State) : (opLaggedRelease g s).pending = s.pending ∧ (opLaggedRelease g s).clk = s.clk ∧ (opLaggedRelease g s).otp = s.otp := by
  unfold opLaggedRelease
  (repeat' split) <;> simp

@[simp] theorem opLaggedRelease_wf (g : Gctx) (s : State) (h_ : Memory.wf s.mem = true) : Memory.wf (opLaggedRelease g s).mem = true := by
  unfold opLaggedRelease
  (repeat' split) <;> simp [h_]

@[simp] theorem State.reportOverrun_keep (s : State) (g : Gctx) (inj : Bool) : (State.reportOverrun s g inj).pending = s.pending ∧ (State.reportOverrun s g inj).clk = s.clk ∧ (State.reportOverrun s g inj).otp = s.otp ∧ (State.reportOverrun s g inj).mem = s.mem := by
  simp [State.reportOverrun]

@[simp] theorem opBudgetOverrun_keep (g : Gctx) (s : State) : (opBudgetOverrun g s).pending = s.pending ∧ (opBudgetOverrun g s).clk = s.clk ∧ (opBudgetOverrun g s).otp = s.otp := by
  simp [opBudgetOverrun, apply_ite State.pending, apply_ite State.clk, apply_ite State.otp]

@[simp] theorem opBudgetOverrun_wf (g : Gctx) (s : State) (h_ : Memory.wf s.mem = true) : Memory.wf (opBudgetOverrun g s).mem = true := by
  simp [opBudgetOverrun, h_, apply_ite State.mem, apply_ite Memory.wf]

@[simp] theorem opDeadlineMiss_keep (g : Gctx) (s : State) : (opDeadlineMiss g s).pending = s.pending ∧ (opDeadlineMiss g s).clk = s.clk ∧ (opDeadlineMiss g s).otp = s.otp := by
  simp [opDeadlineMiss, apply_ite State.pending, apply_ite State.clk, apply_ite State.otp]

@[simp] theorem opDeadlineMiss_wf (g : Gctx) (s : State) (h_ : Memory.wf s.mem = true) : Memory.wf (opDeadlineMiss g s).mem = true := by
  simp [opDeadlineMiss, h_, apply_ite State.mem, apply_ite Memory.wf]

@[simp] theorem opKeyInput_keep (a : Bool) (b : Bool) (s : State) : (opKeyInput a b s).pending = s.pending ∧ (opKeyInput a b s).clk = s.clk ∧ (opKeyInput a b s).otp = s.otp ∧ (opKeyInput a b s).mem = s.mem := by
  simp [opKeyInput, apply_ite State.pending, apply_ite State.clk, apply_ite State.otp, apply_ite State.mem]

@[simp] theorem State.tryRun_keep (s : State) (cause : Nat) : (State.tryRun s cause).pending = s.pending ∧ (State.tryRun s cause).clk = s.clk ∧ (State.tryRun s cause).otp = s.otp := by
  simp [State.tryRun, apply_ite State.pending, apply_ite State.clk, apply_ite State.otp]

@[simp] theorem State.tryRun_wf (s : State) (cause : Nat) (h_ : Memory.wf s.mem = true) : Memory.wf (State.tryRun s cause).mem = true := by
  simp [State.tryRun, h_, apply_ite State.mem, apply_ite Memory.wf]

@[simp] theorem State.keyActs_keep (s : State) (k : BitVec 2) : (State.keyActs s k).pending = s.pending ∧ (State.keyActs s k).clk = s.clk ∧ (State.keyActs s k).otp = s.otp := by
  simp [State.keyActs, apply_ite State.pending, apply_ite State.clk, apply_ite State.otp]

@[simp] theorem State.keyActs_wf (s : State) (k : BitVec 2) (h_ : Memory.wf s.mem = true) : Memory.wf (State.keyActs s k).mem = true := by
  simp [State.keyActs, h_, apply_ite State.mem, apply_ite Memory.wf]

@[simp] theorem opKeyChange_keep (s : State) : (opKeyChange s).pending = s.pending ∧ (opKeyChange s).clk = s.clk ∧ (opKeyChange s).otp = s.otp := by
  unfold opKeyChange
  dsimp only
  (repeat' split) <;> simp [*]

@[simp] theorem opKeyChange_wf (s : State) (h_ : Memory.wf s.mem = true) : Memory.wf (opKeyChange s).mem = true := by
  unfold opKeyChange
  dsimp only
  (repeat' split) <;> simp [*]

@[simp] theorem opStopLimit_keep (s : State) : (opStopLimit s).pending = s.pending ∧ (opStopLimit s).clk = s.clk ∧ (opStopLimit s).otp = s.otp := by
  unfold opStopLimit
  (repeat' split) <;> simp

@[simp] theorem opStopLimit_wf (s : State) (h_ : Memory.wf s.mem = true) : Memory.wf (opStopLimit s).mem = true := by
  unfold opStopLimit
  (repeat' split) <;> simp [h_]

@[simp] theorem State.startReq_keep (s : State) : (State.startReq s).1.pending = s.pending ∧ (State.startReq s).1.clk = s.clk ∧ (State.startReq s).1.otp = s.otp := by
  unfold State.startReq
  (repeat' split) <;> simp

@[simp] theorem State.startReq_wf (s : State) (h_ : Memory.wf s.mem = true) : Memory.wf (State.startReq s).1.mem = true := by
  unfold State.startReq
  (repeat' split) <;> simp [h_]

@[simp] theorem State.stopReq_keep (s : State) : (State.stopReq s).1.pending = s.pending ∧ (State.stopReq s).1.clk = s.clk ∧ (State.stopReq s).1.otp = s.otp := by
  unfold State.stopReq
  (repeat' split) <;> simp

@[simp] theorem State.stopReq_wf (s : State) (h_ : Memory.wf s.mem = true) : Memory.wf (State.stopReq s).1.mem = true := by
  unfold State.stopReq
  (repeat' split) <;> simp [h_]

@[simp] theorem State.restartTask_keep (s : State) (g : Gctx) : (State.restartTask s g).pending = s.pending ∧ (State.restartTask s g).clk = s.clk ∧ (State.restartTask s g).otp = s.otp ∧ (State.restartTask s g).mem = s.mem := by
  simp [State.restartTask, apply_ite State.pending, apply_ite State.clk, apply_ite State.otp, apply_ite State.mem]

@[simp] theorem State.restartReq_keep (s : State) (g : Gctx) : (State.restartReq s g).1.pending = s.pending ∧ (State.restartReq s g).1.clk = s.clk ∧ (State.restartReq s g).1.otp = s.otp ∧ (State.restartReq s g).1.mem = s.mem := by
  unfold State.restartReq
  (repeat' split) <;> simp

@[simp] theorem State.answerEdit_keep (s : State) (ab : Option Abort) : (State.answerEdit s ab).pending = s.pending ∧ (State.answerEdit s ab).clk = s.clk ∧ (State.answerEdit s ab).otp = s.otp ∧ (State.answerEdit s ab).mem = s.mem := by
  unfold State.answerEdit
  (repeat' split) <;> simp

@[simp] theorem State.readyEdit_keep (s : State) : (State.readyEdit s).pending = s.pending ∧ (State.readyEdit s).clk = s.clk ∧ (State.readyEdit s).otp = s.otp := by
  unfold State.readyEdit
  dsimp only
  (repeat' split) <;> simp [*]

@[simp] theorem State.readyEdit_wf (s : State) (h_ : Memory.wf s.mem = true) : Memory.wf (State.readyEdit s).mem = true := by
  unfold State.readyEdit
  dsimp only
  (repeat' split) <;> simp [*]

@[simp] theorem opReadyTime_keep (s : State) : (opReadyTime s).pending = s.pending ∧ (opReadyTime s).clk = s.clk ∧ (opReadyTime s).otp = s.otp := by
  simp [opReadyTime, apply_ite State.pending, apply_ite State.clk, apply_ite State.otp]

@[simp] theorem opReadyTime_wf (s : State) (h_ : Memory.wf s.mem = true) : Memory.wf (opReadyTime s).mem = true := by
  simp [opReadyTime, h_, apply_ite State.mem, apply_ite Memory.wf]

@[simp] theorem opSwitchInstant_keep (s : State) : (opSwitchInstant s).pending = s.pending ∧ (opSwitchInstant s).clk = s.clk ∧ (opSwitchInstant s).otp = s.otp := by
  simp [opSwitchInstant, apply_ite State.pending, apply_ite State.clk, apply_ite State.otp]

@[simp] theorem opSwitchInstant_wf (s : State) (h_ : Memory.wf s.mem = true) : Memory.wf (opSwitchInstant s).mem = true := by
  simp [opSwitchInstant, h_, apply_ite State.mem, apply_ite Memory.wf]

@[simp] theorem opMigration_keep (g : Gctx) (s : State) : (opMigration g s).pending = s.pending ∧ (opMigration g s).clk = s.clk ∧ (opMigration g s).otp = s.otp := by
  simp [opMigration]

@[simp] theorem opMigration_wf (g : Gctx) (s : State) (h_ : Memory.wf s.mem = true) : Memory.wf (opMigration g s).mem = true := by
  simp [opMigration, h_]

@[simp] theorem opRevertSwitch_keep (s : State) : (opRevertSwitch s).pending = s.pending ∧ (opRevertSwitch s).clk = s.clk ∧ (opRevertSwitch s).otp = s.otp := by
  simp [opRevertSwitch, apply_ite State.pending, apply_ite State.clk, apply_ite State.otp]

@[simp] theorem opRevertSwitch_wf (s : State) (h_ : Memory.wf s.mem = true) : Memory.wf (opRevertSwitch s).mem = true := by
  simp [opRevertSwitch, h_, apply_ite State.mem, apply_ite Memory.wf]

@[simp] theorem opAutomaticAccept_keep (s : State) : (opAutomaticAccept s).pending = s.pending ∧ (opAutomaticAccept s).clk = s.clk ∧ (opAutomaticAccept s).mem = s.mem := by
  simp [opAutomaticAccept, apply_ite State.pending, apply_ite State.clk, apply_ite State.mem]

@[simp] theorem opAutomaticAccept_bit (s : State) (i_ : Nat) (h_ : s.otp.getLsbD i_ = true) : (opAutomaticAccept s).otp.getLsbD i_ = true := by
  unfold opAutomaticAccept
  (repeat' split) <;> simp [h_]

@[simp] theorem opTrailReadyTimeout_keep (s : State) : (opTrailReadyTimeout s).pending = s.pending ∧ (opTrailReadyTimeout s).clk = s.clk ∧ (opTrailReadyTimeout s).otp = s.otp ∧ (opTrailReadyTimeout s).mem = s.mem := by
  unfold opTrailReadyTimeout
  dsimp only
  (repeat' split) <;> simp [*]

end Sys2Proof.Machine
end

