-- ==== Sys2Proof/Laws/KeepTandem.lean ====
section
/-! SUPPORT. What every operation leaves alone: the queue, the clock, the bits of the OTP, and memory or its canonical form
(`_keep`: queue, clock, OTP and memory where they are unchanged; `_bit`: no OTP bit goes back to 0; `_wf`: memory stays
canonical). This file: tandem, pairs, injection, cores and time commands. -/

namespace Sys2Proof.Machine

open Sys2Proof

@[simp] theorem State.beginJoin_keep (s : State) : (State.beginJoin s).pending = s.pending ∧ (State.beginJoin s).clk = s.clk ∧ (State.beginJoin s).otp = s.otp ∧ (State.beginJoin s).mem = s.mem := by
  simp [State.beginJoin]

@[simp] theorem State.outOfStep_keep (s : State) (cause : Nat) (inj : Bool) : (State.outOfStep s cause inj).pending = s.pending ∧ (State.outOfStep s cause inj).clk = s.clk ∧ (State.outOfStep s cause inj).otp = s.otp ∧ (State.outOfStep s cause inj).mem = s.mem := by
  simp [State.outOfStep, apply_ite State.pending, apply_ite State.clk, apply_ite State.otp, apply_ite State.mem]

@[simp] theorem State.joinFails_keep (s : State) (step : Nat) (cause : Nat) : (State.joinFails s step cause).pending = s.pending ∧ (State.joinFails s step cause).clk = s.clk ∧ (State.joinFails s step cause).otp = s.otp ∧ (State.joinFails s step cause).mem = s.mem := by
  simp [State.joinFails]

@[simp] theorem State.takeState_keep (s : State) (n : Nat) (hc : Nat) (cause : Nat) : (State.takeState s n hc cause).pending = s.pending ∧ (State.takeState s n hc cause).clk = s.clk ∧ (State.takeState s n hc cause).otp = s.otp := by
  simp [State.takeState, apply_ite State.pending, apply_ite State.clk, apply_ite State.otp]

@[simp] theorem State.takeState_wf (s : State) (n : Nat) (hc : Nat) (cause : Nat) (h_ : Memory.wf s.mem = true) : Memory.wf (State.takeState s n hc cause).mem = true := by
  simp [State.takeState, h_, apply_ite State.mem, apply_ite Memory.wf]

@[simp] theorem State.keyDiffers_keep (s : State) (pos : BitVec 2) : (State.keyDiffers s pos).pending = s.pending ∧ (State.keyDiffers s pos).clk = s.clk ∧ (State.keyDiffers s pos).otp = s.otp ∧ (State.keyDiffers s pos).mem = s.mem := by
  simp [State.keyDiffers, apply_ite State.pending, apply_ite State.clk, apply_ite State.otp, apply_ite State.mem]

@[simp] theorem State.followLead_keep (s : State) (pos : BitVec 2) (n : Nat) (hc : Nat) : (State.followLead s pos n hc).pending = s.pending ∧ (State.followLead s pos n hc).clk = s.clk ∧ (State.followLead s pos n hc).otp = s.otp := by
  simp [State.followLead, apply_ite State.pending, apply_ite State.clk, apply_ite State.otp]

@[simp] theorem State.followLead_wf (s : State) (pos : BitVec 2) (n : Nat) (hc : Nat) (h_ : Memory.wf s.mem = true) : Memory.wf (State.followLead s pos n hc).mem = true := by
  simp [State.followLead, h_, apply_ite State.mem]

@[simp] theorem State.joined_keep (s : State) : (State.joined s).pending = s.pending ∧ (State.joined s).clk = s.clk ∧ (State.joined s).otp = s.otp := by
  simp [State.joined]

@[simp] theorem State.joined_wf (s : State) (h_ : Memory.wf s.mem = true) : Memory.wf (State.joined s).mem = true := by
  simp [State.joined, h_]

@[simp] theorem opJoin_keep (p : PartnerId) (s : State) : (opJoin p s).pending = s.pending ∧ (opJoin p s).clk = s.clk ∧ (opJoin p s).otp = s.otp := by
  unfold opJoin
  (repeat' split) <;> simp

@[simp] theorem opJoin_wf (p : PartnerId) (s : State) (h_ : Memory.wf s.mem = true) : Memory.wf (opJoin p s).mem = true := by
  unfold opJoin
  (repeat' split) <;> simp [h_]

@[simp] theorem opJoinTimeout_keep (s : State) : (opJoinTimeout s).pending = s.pending ∧ (opJoinTimeout s).clk = s.clk ∧ (opJoinTimeout s).otp = s.otp ∧ (opJoinTimeout s).mem = s.mem := by
  simp [opJoinTimeout, apply_ite State.pending, apply_ite State.clk, apply_ite State.otp, apply_ite State.mem]

@[simp] theorem opRejoinTimer_keep (s : State) : (opRejoinTimer s).pending = s.pending ∧ (opRejoinTimer s).clk = s.clk ∧ (opRejoinTimer s).otp = s.otp ∧ (opRejoinTimer s).mem = s.mem := by
  simp [opRejoinTimer, apply_ite State.pending, apply_ite State.clk, apply_ite State.otp, apply_ite State.mem]

@[simp] theorem opCycleTimeout_keep (s : State) : (opCycleTimeout s).pending = s.pending ∧ (opCycleTimeout s).clk = s.clk ∧ (opCycleTimeout s).otp = s.otp ∧ (opCycleTimeout s).mem = s.mem := by
  simp [opCycleTimeout, apply_ite State.pending, apply_ite State.clk, apply_ite State.otp, apply_ite State.mem]

@[simp] theorem State.takeWorkers_keep (s : State) : (State.takeWorkers s).pending = s.pending ∧ (State.takeWorkers s).clk = s.clk ∧ (State.takeWorkers s).otp = s.otp ∧ (State.takeWorkers s).mem = s.mem := by
  simp [State.takeWorkers]

@[simp] theorem State.loseUnsent_keep (s : State) : (State.loseUnsent s).pending = s.pending ∧ (State.loseUnsent s).clk = s.clk ∧ (State.loseUnsent s).otp = s.otp ∧ (State.loseUnsent s).mem = s.mem := by
  simp [State.loseUnsent, apply_ite State.pending, apply_ite State.clk, apply_ite State.otp, apply_ite State.mem]

@[simp] theorem State.takeManager_keep (s : State) : (State.takeManager s).pending = s.pending ∧ (State.takeManager s).clk = s.clk ∧ (State.takeManager s).otp = s.otp ∧ (State.takeManager s).mem = s.mem := by
  simp [State.takeManager, apply_ite State.pending, apply_ite State.clk, apply_ite State.otp, apply_ite State.mem]

@[simp] theorem State.takeOver_keep (s : State) : (State.takeOver s).pending = s.pending ∧ (State.takeOver s).clk = s.clk ∧ (State.takeOver s).otp = s.otp := by
  simp [State.takeOver, apply_dite State.pending, apply_dite State.clk, apply_dite State.otp]

@[simp] theorem State.takeOver_wf (s : State) (h_ : Memory.wf s.mem = true) : Memory.wf s.takeOver.mem = true := by
  unfold State.takeOver
  dsimp only
  simp only [State.takeManager_keep]
  refine foldl_wf _ (fun s a h => opCyclicRelease_wf _ _ h) _ _ (foldl_wf _ (fun s a h => by unfold State.forwardedLine; split <;> simp [h]) _ _ (foldl_wf _ (fun s a h => ?_) _ _ (by simp [h_])))
  split
  · exact State.laggedAt_wf _ _ _ h
  · exact h

@[simp] theorem State.becomeLead_keep (s : State) : (State.becomeLead s).pending = s.pending ∧ (State.becomeLead s).clk = s.clk ∧ (State.becomeLead s).otp = s.otp := by
  simp [State.becomeLead, apply_ite State.pending, apply_ite State.clk, apply_ite State.otp]

@[simp] theorem State.becomeLead_wf (s : State) (h_ : Memory.wf s.mem = true) : Memory.wf (State.becomeLead s).mem = true := by
  simp [State.becomeLead, h_, apply_ite State.mem, apply_ite Memory.wf]

@[simp] theorem opIntlkReleased_keep (s : State) : (opIntlkReleased s).pending = s.pending ∧ (opIntlkReleased s).clk = s.clk ∧ (opIntlkReleased s).otp = s.otp := by
  simp [opIntlkReleased, apply_ite State.pending, apply_ite State.clk, apply_ite State.otp]

@[simp] theorem opIntlkReleased_wf (s : State) (h_ : Memory.wf s.mem = true) : Memory.wf (opIntlkReleased s).mem = true := by
  simp [opIntlkReleased, h_, apply_ite State.mem, apply_ite Memory.wf]

@[simp] theorem opIntlkHeld_keep (s : State) : (opIntlkHeld s).pending = s.pending ∧ (opIntlkHeld s).clk = s.clk ∧ (opIntlkHeld s).otp = s.otp := by
  simp [opIntlkHeld, apply_ite State.pending, apply_ite State.clk, apply_ite State.otp]

@[simp] theorem opIntlkHeld_wf (s : State) (h_ : Memory.wf s.mem = true) : Memory.wf (opIntlkHeld s).mem = true := by
  simp [opIntlkHeld, h_, apply_ite State.mem, apply_ite Memory.wf]

@[simp] theorem opIntlkClaim_keep (s : State) : (opIntlkClaim s).pending = s.pending ∧ (opIntlkClaim s).clk = s.clk ∧ (opIntlkClaim s).otp = s.otp := by
  simp [opIntlkClaim, apply_ite State.pending, apply_ite State.clk, apply_ite State.otp]

@[simp] theorem opIntlkClaim_wf (s : State) (h_ : Memory.wf s.mem = true) : Memory.wf (opIntlkClaim s).mem = true := by
  simp [opIntlkClaim, h_, apply_ite State.mem, apply_ite Memory.wf]

@[simp] theorem opPresInChange_keep (high : Bool) (s : State) : (opPresInChange high s).pending = s.pending ∧ (opPresInChange high s).clk = s.clk ∧ (opPresInChange high s).otp = s.otp ∧ (opPresInChange high s).mem = s.mem := by
  simp [opPresInChange, apply_ite State.pending, apply_ite State.clk, apply_ite State.otp, apply_ite State.mem]

@[simp] theorem State.switchover_keep (s : State) : (State.switchover s).1.pending = s.pending ∧ (State.switchover s).1.clk = s.clk ∧ (State.switchover s).1.otp = s.otp := by
  unfold State.switchover
  (repeat' split) <;> simp

@[simp] theorem State.switchover_wf (s : State) (h_ : Memory.wf s.mem = true) : Memory.wf (State.switchover s).1.mem = true := by
  unfold State.switchover
  (repeat' split) <;> simp [h_]

@[simp] theorem State.rejoinReq_keep (s : State) : (State.rejoinReq s).1.pending = s.pending ∧ (State.rejoinReq s).1.clk = s.clk ∧ (State.rejoinReq s).1.otp = s.otp ∧ (State.rejoinReq s).1.mem = s.mem := by
  unfold State.rejoinReq
  (repeat' split) <;> simp

@[simp] theorem State.tandemUp_keep (s : State) : (State.tandemUp s).pending = s.pending ∧ (State.tandemUp s).clk = s.clk ∧ (State.tandemUp s).otp = s.otp ∧ (State.tandemUp s).mem = s.mem := by
  unfold State.tandemUp
  dsimp only
  (repeat' split) <;> simp

@[simp] theorem State.tandemDown_keep (s : State) : (State.tandemDown s).pending = s.pending ∧ (State.tandemDown s).clk = s.clk ∧ (State.tandemDown s).otp = s.otp := by
  simp [State.tandemDown]

@[simp] theorem State.tandemDown_wf (s : State) (h_ : Memory.wf s.mem = true) : Memory.wf (State.tandemDown s).mem = true := by
  simp [State.tandemDown, h_]

@[simp] theorem State.tlIn_pending (s : State) (ty : Nat) (f : TdmFrame) (k : State → State) (hf : ∀ s, (k s).pending = s.pending) : (s.tlIn ty f k).pending = s.pending := by
  unfold State.tlIn; dsimp only; (repeat' split) <;> simp [hf]

@[simp] theorem State.tlIn_clk (s : State) (ty : Nat) (f : TdmFrame) (k : State → State) (hf : ∀ s, (k s).clk = s.clk) : (s.tlIn ty f k).clk = s.clk := by
  unfold State.tlIn; dsimp only; (repeat' split) <;> simp [hf]

@[simp] theorem State.tlIn_otp (s : State) (ty : Nat) (f : TdmFrame) (k : State → State) (hf : ∀ s, (k s).otp = s.otp) : (s.tlIn ty f k).otp = s.otp := by
  unfold State.tlIn; dsimp only; (repeat' split) <;> simp [hf]

@[simp] theorem State.tlIn_mem (s : State) (ty : Nat) (f : TdmFrame) (k : State → State) (hf : ∀ s, (k s).mem = s.mem) : (s.tlIn ty f k).mem = s.mem := by
  unfold State.tlIn; dsimp only; (repeat' split) <;> simp [hf]

@[simp] theorem State.tlIn_wf (s : State) (ty : Nat) (f : TdmFrame) (k : State → State) (hf : ∀ s, Memory.wf s.mem = true → Memory.wf (k s).mem = true) (h_ : Memory.wf s.mem = true) : Memory.wf (s.tlIn ty f k).mem = true := by
  unfold State.tlIn; dsimp only; (repeat' split) <;> simp [hf, h_]

@[simp] theorem opCycle_keep (f : TdmFrame) (s : State) : (opCycle f s).pending = s.pending ∧ (opCycle f s).clk = s.clk ∧ (opCycle f s).otp = s.otp ∧ (opCycle f s).mem = s.mem := by
  simp [opCycle, apply_ite State.pending, apply_ite State.clk, apply_ite State.otp, apply_ite State.mem]

@[simp] theorem opPublish_keep (f : TdmFrame) (s : State) : (opPublish f s).pending = s.pending ∧ (opPublish f s).clk = s.clk ∧ (opPublish f s).otp = s.otp ∧ (opPublish f s).mem = s.mem := by
  simp [opPublish, apply_ite State.pending, apply_ite State.clk, apply_ite State.otp, apply_ite State.mem]

@[simp] theorem opTandemRelease_keep (f : TdmFrame) (s : State) : (opTandemRelease f s).pending = s.pending ∧ (opTandemRelease f s).clk = s.clk ∧ (opTandemRelease f s).otp = s.otp ∧ (opTandemRelease f s).mem = s.mem := by
  simp [opTandemRelease, apply_ite State.pending, apply_ite State.clk, apply_ite State.otp, apply_ite State.mem]

@[simp] theorem State.noteSeq_keep (s : State) (n : NetSeq) : (State.noteSeq s n).pending = s.pending ∧ (State.noteSeq s n).clk = s.clk ∧ (State.noteSeq s n).otp = s.otp ∧ (State.noteSeq s n).mem = s.mem := by
  simp [State.noteSeq, apply_ite State.pending, apply_ite State.clk, apply_ite State.otp, apply_ite State.mem]

@[simp] theorem opNetseq_keep (f : TdmFrame) (s : State) : (opNetseq f s).pending = s.pending ∧ (opNetseq f s).clk = s.clk ∧ (opNetseq f s).otp = s.otp ∧ (opNetseq f s).mem = s.mem := by
  refine ⟨State.tlIn_pending _ _ _ _ fun s => ?_, State.tlIn_clk _ _ _ _ fun s => ?_, State.tlIn_otp _ _ _ _ fun s => ?_, State.tlIn_mem _ _ _ _ fun s => ?_⟩ <;>
    (dsimp only; (repeat' split) <;> simp)

@[simp] theorem State.disagrees_keep (s : State) (k : Nat) (a8 : Word) (aA : Word) (b8 : Word) (bA : Word) (real : Bool) : (State.disagrees s k a8 aA b8 bA real).pending = s.pending ∧ (State.disagrees s k a8 aA b8 bA real).clk = s.clk ∧ (State.disagrees s k a8 aA b8 bA real).otp = s.otp ∧ (State.disagrees s k a8 aA b8 bA real).mem = s.mem := by
  simp [State.disagrees, apply_ite State.pending, apply_ite State.clk, apply_ite State.otp, apply_ite State.mem]

@[simp] theorem State.agreeScan_keep (s : State) (set : PubSet) (theirs : List Word) : (State.agreeScan s set theirs).pending = s.pending ∧ (State.agreeScan s set theirs).clk = s.clk ∧ (State.agreeScan s set theirs).otp = s.otp := by
  simp [State.agreeScan, apply_ite State.pending, apply_ite State.clk, apply_ite State.otp]

@[simp] theorem State.agreeScan_wf (s : State) (set : PubSet) (theirs : List Word) (h_ : Memory.wf s.mem = true) : Memory.wf (State.agreeScan s set theirs).mem = true := by
  simp [State.agreeScan, h_, apply_ite State.mem]

@[simp] theorem opScan_keep (f : TdmFrame) (s : State) : (opScan f s).pending = s.pending ∧ (opScan f s).clk = s.clk ∧ (opScan f s).otp = s.otp := by
  refine ⟨State.tlIn_pending _ _ _ _ fun s => ?_, State.tlIn_clk _ _ _ _ fun s => ?_, State.tlIn_otp _ _ _ _ fun s => ?_⟩ <;>
    ((repeat' split) <;> simp)

@[simp] theorem opScan_wf (f : TdmFrame) (s : State) (h_ : Memory.wf s.mem = true) : Memory.wf (opScan f s).mem = true := by
  refine State.tlIn_wf _ _ _ _ (fun s h => ?_) h_
  (repeat' split) <;> simp [h]

@[simp] theorem opScanTimeout_keep (s : State) : (opScanTimeout s).pending = s.pending ∧ (opScanTimeout s).clk = s.clk ∧ (opScanTimeout s).otp = s.otp := by
  unfold opScanTimeout
  (repeat' split) <;> simp

@[simp] theorem opScanTimeout_wf (s : State) (h_ : Memory.wf s.mem = true) : Memory.wf (opScanTimeout s).mem = true := by
  unfold opScanTimeout
  (repeat' split) <;> simp [h_]

@[simp] theorem State.meetCrc_keep (s : State) (c : Nat) : (State.meetCrc s c).pending = s.pending ∧ (State.meetCrc s c).clk = s.clk ∧ (State.meetCrc s c).otp = s.otp ∧ (State.meetCrc s c).mem = s.mem := by
  unfold State.meetCrc
  dsimp only
  (repeat' split) <;> simp [*]

@[simp] theorem State.sendCheck_keep (s : State) (c : Nat) : (State.sendCheck s c).pending = s.pending ∧ (State.sendCheck s c).clk = s.clk ∧ (State.sendCheck s c).otp = s.otp ∧ (State.sendCheck s c).mem = s.mem := by
  simp [State.sendCheck]

@[simp] theorem opCheck_keep (f : TdmFrame) (s : State) : (opCheck f s).pending = s.pending ∧ (opCheck f s).clk = s.clk ∧ (opCheck f s).otp = s.otp ∧ (opCheck f s).mem = s.mem := by
  simp [opCheck]

@[simp] theorem opHealth_keep (f : TdmFrame) (s : State) : (opHealth f s).pending = s.pending ∧ (opHealth f s).clk = s.clk ∧ (opHealth f s).otp = s.otp ∧ (opHealth f s).mem = s.mem := by
  simp [opHealth, apply_ite State.pending, apply_ite State.clk, apply_ite State.otp, apply_ite State.mem]

@[simp] theorem opHealthTimer_keep (bits : Word) (s : State) : (opHealthTimer bits s).pending = s.pending ∧ (opHealthTimer bits s).clk = s.clk ∧ (opHealthTimer bits s).otp = s.otp ∧ (opHealthTimer bits s).mem = s.mem := by
  simp [opHealthTimer, apply_ite State.pending, apply_ite State.clk, apply_ite State.otp, apply_ite State.mem]

@[simp] theorem opPartnerHealthLost_keep (s : State) : (opPartnerHealthLost s).pending = s.pending ∧ (opPartnerHealthLost s).clk = s.clk ∧ (opPartnerHealthLost s).otp = s.otp := by
  unfold opPartnerHealthLost
  dsimp only
  (repeat' split) <;> simp [*]

@[simp] theorem opPartnerHealthLost_wf (s : State) (h_ : Memory.wf s.mem = true) : Memory.wf (opPartnerHealthLost s).mem = true := by
  unfold opPartnerHealthLost
  dsimp only
  (repeat' split) <;> simp [*]

@[simp] theorem opOutputDisagree_keep (ch : Ch) (partner : Bool) (node : Bool) (n : Nat) (s : State) : (opOutputDisagree ch partner node n s).pending = s.pending ∧ (opOutputDisagree ch partner node n s).clk = s.clk ∧ (opOutputDisagree ch partner node n s).otp = s.otp ∧ (opOutputDisagree ch partner node n s).mem = s.mem := by
  simp [opOutputDisagree, apply_ite State.pending, apply_ite State.clk, apply_ite State.otp, apply_ite State.mem]

@[simp] theorem State.trailEdit_keep (s : State) (c : List Byte) : (State.trailEdit s c).pending = s.pending ∧ (State.trailEdit s c).clk = s.clk ∧ (State.trailEdit s c).otp = s.otp ∧ (State.trailEdit s c).mem = s.mem := by
  unfold State.trailEdit
  (repeat' split) <;> simp

@[simp] theorem State.trailReady_keep (s : State) : (State.trailReady s).pending = s.pending ∧ (State.trailReady s).clk = s.clk ∧ (State.trailReady s).otp = s.otp := by
  unfold State.trailReady
  dsimp only
  (repeat' split) <;> simp

@[simp] theorem State.trailReady_wf (s : State) (h_ : Memory.wf s.mem = true) : Memory.wf (State.trailReady s).mem = true := by
  unfold State.trailReady
  dsimp only
  (repeat' split) <;> simp [h_]

@[simp] theorem opCommand_keep (f : TdmFrame) (s : State) : (opCommand f s).pending = s.pending ∧ (opCommand f s).clk = s.clk ∧ (opCommand f s).otp = s.otp := by
  refine ⟨State.tlIn_pending _ _ _ _ fun s => ?_, State.tlIn_clk _ _ _ _ fun s => ?_, State.tlIn_otp _ _ _ _ fun s => ?_⟩ <;>
    (dsimp only; (repeat' split) <;> simp)

@[simp] theorem opCommand_wf (f : TdmFrame) (s : State) (h_ : Memory.wf s.mem = true) : Memory.wf (opCommand f s).mem = true := by
  refine State.tlIn_wf _ _ _ _ (fun s h => ?_) h_
  dsimp only; (repeat' split) <;> simp [h]

@[simp] theorem State.sendCopyOf_keep (s : State) (l : List TlCopy) : (State.sendCopyOf s l).pending = s.pending ∧ (State.sendCopyOf s l).clk = s.clk ∧ (State.sendCopyOf s l).otp = s.otp ∧ (State.sendCopyOf s l).mem = s.mem := by
  simp [State.sendCopyOf]

@[simp] theorem State.copyMarked_keep (s : State) (n : Nat) : (State.copyMarked s n).pending = s.pending ∧ (State.copyMarked s n).clk = s.clk ∧ (State.copyMarked s n).otp = s.otp ∧ (State.copyMarked s n).mem = s.mem := by
  unfold State.copyMarked
  dsimp only
  (repeat' split) <;> simp [*]

@[simp] theorem State.sendCopies_keep (s : State) : (State.sendCopies s).pending = s.pending ∧ (State.sendCopies s).clk = s.clk ∧ (State.sendCopies s).otp = s.otp ∧ (State.sendCopies s).mem = s.mem := by
  simp [State.sendCopies]

@[simp] theorem State.authLead_keep (s : State) (p : List Byte) : (State.authLead s p).pending = s.pending ∧ (State.authLead s p).clk = s.clk ∧ (State.authLead s p).otp = s.otp ∧ (State.authLead s p).mem = s.mem := by
  simp [State.authLead, apply_ite State.pending, apply_ite State.clk, apply_ite State.otp, apply_ite State.mem]

@[simp] theorem State.authTrail_keep (s : State) (p : List Byte) : (State.authTrail s p).pending = s.pending ∧ (State.authTrail s p).clk = s.clk ∧ (State.authTrail s p).otp = s.otp ∧ (State.authTrail s p).mem = s.mem := by
  simp [State.authTrail, apply_ite State.pending, apply_ite State.clk, apply_ite State.otp, apply_ite State.mem]

@[simp] theorem opAuth_keep (f : TdmFrame) (s : State) : (opAuth f s).pending = s.pending ∧ (opAuth f s).clk = s.clk ∧ (opAuth f s).otp = s.otp ∧ (opAuth f s).mem = s.mem := by
  simp [opAuth, apply_ite State.pending, apply_ite State.clk, apply_ite State.otp, apply_ite State.mem]

@[simp] theorem State.copyTasks_keep (s : State) (l : List (Task × Option Task)) : (State.copyTasks s l).pending = s.pending ∧ (State.copyTasks s l).clk = s.clk ∧ (State.copyTasks s l).otp = s.otp ∧ (State.copyTasks s l).mem = s.mem := by
  simp [State.copyTasks]

@[simp] theorem State.applyCopy_keep (s : State) (x1 : TlCopy) : (State.applyCopy s x1).pending = s.pending ∧ (State.applyCopy s x1).clk = s.clk ∧ (State.applyCopy s x1).otp = s.otp := by
  unfold State.applyCopy
  (repeat' split) <;> simp

@[simp] theorem State.applyCopy_wf (s : State) (c : TlCopy) (h_ : Memory.wf s.mem = true) : Memory.wf (s.applyCopy c).mem = true := by
  cases c with
  | memory cs => exact wf_foldl _ (fun m c h => wf_sset m h _ _) _ _ (wf_filter _ h_ _)
  | cells cs =>
    refine wf_foldl _ (fun m c h => ?_) _ _ h_
    split
    · exact wf_sset m h _ _
    · exact h
  | _ => simpa [State.applyCopy] using h_

@[simp] theorem opCopy_keep (f : TdmFrame) (s : State) : (opCopy f s).pending = s.pending ∧ (opCopy f s).clk = s.clk ∧ (opCopy f s).otp = s.otp := by
  simp [opCopy, apply_ite State.pending, apply_ite State.clk, apply_ite State.otp]

@[simp] theorem opCopy_wf (f : TdmFrame) (s : State) (h_ : Memory.wf s.mem = true) : Memory.wf (opCopy f s).mem = true := by
  simp +contextual [opCopy, h_, apply_ite State.mem, apply_ite Memory.wf]

@[simp] theorem State.leave_keep (s : State) (g : Gctx) (x2 : Release) : (State.leave s g x2).pending = s.pending ∧ (State.leave s g x2).clk = s.clk ∧ (State.leave s g x2).otp = s.otp := by
  unfold State.leave
  (repeat' split) <;> simp

@[simp] theorem State.leave_wf (s : State) (g : Gctx) (x2 : Release) (h_ : Memory.wf s.mem = true) : Memory.wf (State.leave s g x2).mem = true := by
  unfold State.leave
  (repeat' split) <;> simp [h_]

@[simp] theorem State.mismatch_keep (s : State) (p : PairId) (g : Gctx) (lane : Nat) (bit : Nat) (pc : Word) (inj : Bool) : (State.mismatch s p g lane bit pc inj).pending = s.pending ∧ (State.mismatch s p g lane bit pc inj).clk = s.clk ∧ (State.mismatch s p g lane bit pc inj).otp = s.otp := by
  unfold State.mismatch
  dsimp only
  (repeat' split) <;> simp

@[simp] theorem State.mismatch_wf (s : State) (p : PairId) (g : Gctx) (lane bit : Nat) (pc : Word) (inj : Bool) (h_ : Memory.wf s.mem = true) : Memory.wf (s.mismatch p g lane bit pc inj).mem = true := by
  unfold State.mismatch
  dsimp only
  split
  · simp [h_]
  · exact State.stopIfIdle_wf _ (State.mismatchAction_wf _ _ _ (State.abandon_wf _ _ (by simp [h_])))

@[simp] theorem opCheckerCompare_keep (p : PairId) (item : Option LaneItem) (s : State) : (opCheckerCompare p item s).pending = s.pending ∧ (opCheckerCompare p item s).clk = s.clk ∧ (opCheckerCompare p item s).otp = s.otp := by
  unfold opCheckerCompare
  (repeat' split) <;> simp

@[simp] theorem opCheckerCompare_wf (p : PairId) (item : Option LaneItem) (s : State) (h_ : Memory.wf s.mem = true) : Memory.wf (opCheckerCompare p item s).mem = true := by
  unfold opCheckerCompare
  (repeat' split) <;> simp [h_]

@[simp] theorem State.compFail_keep (s : State) (p : PairId) (param : Nat) (phase : Nat) (inj : Bool) : (State.compFail s p param phase inj).pending = s.pending ∧ (State.compFail s p param phase inj).clk = s.clk ∧ (State.compFail s p param phase inj).otp = s.otp ∧ (State.compFail s p param phase inj).mem = s.mem := by
  simp [State.compFail]

@[simp] theorem State.oweAll_keep (s : State) (p : PairId) : (State.oweAll s p).pending = s.pending ∧ (State.oweAll s p).clk = s.clk ∧ (State.oweAll s p).otp = s.otp ∧ (State.oweAll s p).mem = s.mem := by
  simp [State.oweAll]

@[simp] theorem opComparatorStep_keep (p : PairId) (found : Option (Nat × Nat)) (s : State) : (opComparatorStep p found s).pending = s.pending ∧ (opComparatorStep p found s).clk = s.clk ∧ (opComparatorStep p found s).otp = s.otp ∧ (opComparatorStep p found s).mem = s.mem := by
  simp [opComparatorStep, apply_ite State.pending, apply_ite State.clk, apply_ite State.otp, apply_ite State.mem]

@[simp] theorem State.repeatTest_keep (s : State) (p : PairId) : (State.repeatTest s p).1.pending = s.pending ∧ (State.repeatTest s p).1.clk = s.clk ∧ (State.repeatTest s p).1.otp = s.otp ∧ (State.repeatTest s p).1.mem = s.mem := by
  unfold State.repeatTest
  dsimp only
  (repeat' split) <;> simp [*]

@[simp] theorem opDebugHalt_keep (g0 : Gctx) (s : State) : (opDebugHalt g0 s).pending = s.pending ∧ (opDebugHalt g0 s).clk = s.clk ∧ (opDebugHalt g0 s).otp = s.otp := by
  simp [opDebugHalt, apply_ite State.pending, apply_ite State.clk, apply_ite State.otp]

@[simp] theorem opDebugHalt_wf (g0 : Gctx) (s : State) (h_ : Memory.wf s.mem = true) : Memory.wf (opDebugHalt g0 s).mem = true := by
  simp +contextual [opDebugHalt, h_, apply_ite State.mem, apply_ite Memory.wf]

@[simp] theorem opDebugResume_keep (g0 : Gctx) (s : State) : (opDebugResume g0 s).pending = s.pending ∧ (opDebugResume g0 s).clk = s.clk ∧ (opDebugResume g0 s).otp = s.otp ∧ (opDebugResume g0 s).mem = s.mem := by
  simp [opDebugResume, apply_ite State.pending, apply_ite State.clk, apply_ite State.otp, apply_ite State.mem]

@[simp] theorem State.arm_keep (s : State) (d : Nat) (st : Nat) : (State.arm s d st).pending = s.pending ∧ (State.arm s d st).clk = s.clk ∧ (State.arm s d st).otp = s.otp ∧ (State.arm s d st).mem = s.mem := by
  simp [State.arm]

@[simp] theorem State.injOnce_keep (s : State) (d : Fin 128) (role : Nat) : (State.injOnce s d role).1.pending = s.pending ∧ (State.injOnce s d role).1.clk = s.clk ∧ (State.injOnce s d role).1.otp = s.otp ∧ (State.injOnce s d role).1.mem = s.mem := by
  unfold State.injOnce
  (repeat' split) <;> simp

@[simp] theorem State.injHold_keep (s : State) (d : Fin 128) (role : Nat) : (State.injHold s d role).1.pending = s.pending ∧ (State.injHold s d role).1.clk = s.clk ∧ (State.injHold s d role).1.otp = s.otp ∧ (State.injHold s d role).1.mem = s.mem := by
  unfold State.injHold
  (repeat' split) <;> simp

@[simp] theorem State.withdraw_keep (s : State) (d : Nat) : (State.withdraw s d).pending = s.pending ∧ (State.withdraw s d).clk = s.clk ∧ (State.withdraw s d).otp = s.otp ∧ (State.withdraw s d).mem = s.mem := by
  simp [State.withdraw, apply_ite State.pending, apply_ite State.clk, apply_ite State.otp, apply_ite State.mem]

@[simp] theorem State.injRelease_keep (s : State) (d : Fin 128) (role : Nat) : (State.injRelease s d role).1.pending = s.pending ∧ (State.injRelease s d role).1.clk = s.clk ∧ (State.injRelease s d role).1.otp = s.otp ∧ (State.injRelease s d role).1.mem = s.mem := by
  unfold State.injRelease
  (repeat' split) <;> simp

@[simp] theorem State.reportLow_keep (s : State) (n : CoreId) (us : Nat) (inj : Bool) : (State.reportLow s n us inj).pending = s.pending ∧ (State.reportLow s n us inj).clk = s.clk ∧ (State.reportLow s n us inj).otp = s.otp ∧ (State.reportLow s n us inj).mem = s.mem := by
  simp [State.reportLow]

@[simp] theorem State.endLow_keep (s : State) (n : CoreId) (inj : Bool) : (State.endLow s n inj).pending = s.pending ∧ (State.endLow s n inj).clk = s.clk ∧ (State.endLow s n inj).otp = s.otp ∧ (State.endLow s n inj).mem = s.mem := by
  unfold State.endLow
  (repeat' split) <;> simp

@[simp] theorem State.startSwitch_keep (s : State) (l : List CoreId) (mhz : Nat) : (State.startSwitch s l mhz).pending = s.pending ∧ (State.startSwitch s l mhz).clk = s.clk ∧ (State.startSwitch s l mhz).otp = s.otp ∧ (State.startSwitch s l mhz).mem = s.mem := by
  simp [State.startSwitch]

@[simp] theorem opSetpointApply_keep (t : Fin 12) (s : State) : (opSetpointApply t s).pending = s.pending ∧ (opSetpointApply t s).clk = s.clk ∧ (opSetpointApply t s).otp = s.otp ∧ (opSetpointApply t s).mem = s.mem := by
  unfold opSetpointApply
  (repeat' split) <;> simp

@[simp] theorem State.endSwitch_keep (s : State) (n : CoreId) : (State.endSwitch s n).pending = s.pending ∧ (State.endSwitch s n).clk = s.clk ∧ (State.endSwitch s n).otp = s.otp ∧ (State.endSwitch s n).mem = s.mem := by
  unfold State.endSwitch
  (repeat' split) <;> simp

@[simp] theorem opSetpointChanged_keep (t : Fin 12) (s : State) : (opSetpointChanged t s).pending = s.pending ∧ (opSetpointChanged t s).clk = s.clk ∧ (opSetpointChanged t s).otp = s.otp ∧ (opSetpointChanged t s).mem = s.mem := by
  simp [opSetpointChanged]

@[simp] theorem opSetpointRefused_keep (t : Fin 12) (s : State) : (opSetpointRefused t s).pending = s.pending ∧ (opSetpointRefused t s).clk = s.clk ∧ (opSetpointRefused t s).otp = s.otp ∧ (opSetpointRefused t s).mem = s.mem := by
  unfold opSetpointRefused
  (repeat' split) <;> simp

@[simp] theorem opSupplyBelow_keep (n : CoreId) (s : State) : (opSupplyBelow n s).pending = s.pending ∧ (opSupplyBelow n s).clk = s.clk ∧ (opSupplyBelow n s).otp = s.otp ∧ (opSupplyBelow n s).mem = s.mem := by
  simp [opSupplyBelow]

@[simp] theorem opIslandLow_keep (n : CoreId) (s : State) : (opIslandLow n s).pending = s.pending ∧ (opIslandLow n s).clk = s.clk ∧ (opIslandLow n s).otp = s.otp ∧ (opIslandLow n s).mem = s.mem := by
  unfold opIslandLow
  (repeat' split) <;> simp

@[simp] theorem State.withVal_keep (s : State) (idx : Nat) (sub : Nat) (v : List Byte) : (State.withVal s idx sub v).pending = s.pending ∧ (State.withVal s idx sub v).clk = s.clk ∧ (State.withVal s idx sub v).otp = s.otp ∧ (State.withVal s idx sub v).mem = s.mem := by
  simp [State.withVal]

@[simp] theorem State.admits_keep (s t : State) (idx sub : Nat) : (s.admits t idx sub).1.pending = s.pending ∧ (s.admits t idx sub).1.clk = s.clk ∧ (s.admits t idx sub).1.otp = s.otp ∧ (s.admits t idx sub).1.mem = s.mem := by
  unfold State.admits; (repeat' split) <;> simp

@[simp] theorem opPpsEdge_keep (s : State) : (opPpsEdge s).pending = s.pending ∧ (opPpsEdge s).clk = s.clk ∧ (opPpsEdge s).otp = s.otp ∧ (opPpsEdge s).mem = s.mem := by
  simp [opPpsEdge, apply_ite State.pending, apply_ite State.clk, apply_ite State.otp, apply_ite State.mem]

@[simp] theorem opPpsTimeout_keep (s : State) : (opPpsTimeout s).pending = s.pending ∧ (opPpsTimeout s).clk = s.clk ∧ (opPpsTimeout s).otp = s.otp ∧ (opPpsTimeout s).mem = s.mem := by
  simp [opPpsTimeout, apply_ite State.pending, apply_ite State.clk, apply_ite State.otp, apply_ite State.mem]

@[simp] theorem opHoldoverLimit_keep (s : State) : (opHoldoverLimit s).pending = s.pending ∧ (opHoldoverLimit s).clk = s.clk ∧ (opHoldoverLimit s).otp = s.otp ∧ (opHoldoverLimit s).mem = s.mem := by
  unfold opHoldoverLimit
  (repeat' split) <;> simp

@[simp] theorem opListeningLimit_keep (s : State) : (opListeningLimit s).pending = s.pending ∧ (opListeningLimit s).clk = s.clk ∧ (opListeningLimit s).otp = s.otp ∧ (opListeningLimit s).mem = s.mem := by
  simp [opListeningLimit, apply_ite State.pending, apply_ite State.clk, apply_ite State.otp, apply_ite State.mem]

@[simp] theorem opPpsOut_keep (s : State) : (opPpsOut s).pending = s.pending ∧ (opPpsOut s).clk = s.clk ∧ (opPpsOut s).otp = s.otp ∧ (opPpsOut s).mem = s.mem := by
  simp [opPpsOut, apply_ite State.pending, apply_ite State.clk, apply_ite State.otp, apply_ite State.mem]

@[simp] theorem State.setTime_keep (s : State) (tai : Word64) : (State.setTime s tai).1.pending = s.pending ∧ (State.setTime s tai).1.clk = s.clk ∧ (State.setTime s tai).1.otp = s.otp ∧ (State.setTime s tai).1.mem = s.mem := by
  unfold State.setTime
  (repeat' split) <;> simp

@[simp] theorem State.setRtc_keep (s : State) (utc : Word64) : (State.setRtc s utc).1.pending = s.pending ∧ (State.setRtc s utc).1.clk = s.clk ∧ (State.setRtc s utc).1.otp = s.otp ∧ (State.setRtc s utc).1.mem = s.mem := by
  simp [State.setRtc]

@[simp] theorem State.clearStamp_keep (s : State) : (State.clearStamp s).1.pending = s.pending ∧ (State.clearStamp s).1.clk = s.clk ∧ (State.clearStamp s).1.otp = s.otp ∧ (State.clearStamp s).1.mem = s.mem := by
  simp [State.clearStamp]

@[simp] theorem State.setSource_keep (s : State) (n : Nat) : (State.setSource s n).pending = s.pending ∧ (State.setSource s n).clk = s.clk ∧ (State.setSource s n).otp = s.otp ∧ (State.setSource s n).mem = s.mem := by
  simp [State.setSource]

@[simp] theorem opResync_keep (s : State) : (opResync s).pending = s.pending ∧ (opResync s).clk = s.clk ∧ (opResync s).otp = s.otp ∧ (opResync s).mem = s.mem := by
  simp [opResync, apply_ite State.pending, apply_ite State.clk, apply_ite State.otp, apply_ite State.mem]

@[simp] theorem State.seed_keep (s : State) : (State.seed s).pending = s.pending ∧ (State.seed s).clk = s.clk ∧ (State.seed s).otp = s.otp ∧ (State.seed s).mem = s.mem := by
  simp [State.seed, apply_ite State.pending, apply_ite State.clk, apply_ite State.otp, apply_ite State.mem]

@[simp] theorem opRtcSwitch_keep (main : Nat) (vbak : Nat) (s : State) : (opRtcSwitch main vbak s).pending = s.pending ∧ (opRtcSwitch main vbak s).clk = s.clk ∧ (opRtcSwitch main vbak s).otp = s.otp ∧ (opRtcSwitch main vbak s).mem = s.mem := by
  simp [opRtcSwitch]

@[simp] theorem opRtcSwitchBack_keep (main : Nat) (vbak : Nat) (s : State) : (opRtcSwitchBack main vbak s).pending = s.pending ∧ (opRtcSwitchBack main vbak s).clk = s.clk ∧ (opRtcSwitchBack main vbak s).otp = s.otp ∧ (opRtcSwitchBack main vbak s).mem = s.mem := by
  simp [opRtcSwitchBack]

@[simp] theorem opRtcSupplyLoss_keep (s : State) : (opRtcSupplyLoss s).pending = s.pending ∧ (opRtcSupplyLoss s).clk = s.clk ∧ (opRtcSupplyLoss s).otp = s.otp ∧ (opRtcSupplyLoss s).mem = s.mem := by
  simp [opRtcSupplyLoss]

@[simp] theorem opCalendarLoad_keep (s : State) : (opCalendarLoad s).pending = s.pending ∧ (opCalendarLoad s).clk = s.clk ∧ (opCalendarLoad s).otp = s.otp ∧ (opCalendarLoad s).mem = s.mem := by
  unfold opCalendarLoad
  (repeat' split) <;> simp

@[simp] theorem opCalendarAdvance_keep (s : State) : (opCalendarAdvance s).pending = s.pending ∧ (opCalendarAdvance s).clk = s.clk ∧ (opCalendarAdvance s).otp = s.otp ∧ (opCalendarAdvance s).mem = s.mem := by
  simp [opCalendarAdvance, apply_ite State.pending, apply_ite State.clk, apply_ite State.otp, apply_ite State.mem]

end Sys2Proof.Machine
end

