-- ==== Sys2Proof/Laws/KeepDict.lean ====
section
/-! SUPPORT. What every operation leaves alone: the queue, the clock, the bits of the OTP, and memory or its canonical form
(`_keep`: queue, clock, OTP and memory where they are unchanged; `_bit`: no OTP bit goes back to 0; `_wf`: memory stays
canonical). This file: dictionary writes, register blocks and the fabric. -/

namespace Sys2Proof.Machine

open Sys2Proof

@[simp] theorem ofRes_fst (q : Res) : (ofRes q).1 = q.1 := by cases q; rfl

@[simp] theorem lateRes_fst (q : Res) : (lateRes q).1 = q.1 := by cases q; rfl

@[simp] theorem State.keep_keep (s : State) (idx : Nat) (sub : Nat) (pers : Nat) (v : List Byte) : (State.keep s idx sub pers v).pending = s.pending ∧ (State.keep s idx sub pers v).clk = s.clk ∧ (State.keep s idx sub pers v).otp = s.otp ∧ (State.keep s idx sub pers v).mem = s.mem := by
  simp [State.keep, apply_ite State.pending, apply_ite State.clk, apply_ite State.otp, apply_ite State.mem]

@[simp] theorem State.modeWritten_keep (s : State) (idx : Nat) (n : Nat) : (State.modeWritten s idx n).pending = s.pending ∧ (State.modeWritten s idx n).clk = s.clk ∧ (State.modeWritten s idx n).otp = s.otp ∧ (State.modeWritten s idx n).mem = s.mem := by
  simp [State.modeWritten, apply_ite State.pending, apply_ite State.clk, apply_ite State.otp, apply_ite State.mem]

@[simp] theorem State.hierAnew_keep (s : State) : (State.hierAnew s).pending = s.pending ∧ (State.hierAnew s).clk = s.clk ∧ (State.hierAnew s).otp = s.otp ∧ (State.hierAnew s).mem = s.mem := by
  simp [State.hierAnew]

@[simp] theorem State.ptpMode_keep (s : State) (n : Nat) : (State.ptpMode s n).pending = s.pending ∧ (State.ptpMode s n).clk = s.clk ∧ (State.ptpMode s n).otp = s.otp ∧ (State.ptpMode s n).mem = s.mem := by
  simp [State.ptpMode, apply_ite State.pending, apply_ite State.clk, apply_ite State.otp, apply_ite State.mem]

@[simp] theorem State.pubEnabled_keep (s : State) (p : Fin 64) (n : Nat) : (State.pubEnabled s p n).pending = s.pending ∧ (State.pubEnabled s p n).clk = s.clk ∧ (State.pubEnabled s p n).otp = s.otp ∧ (State.pubEnabled s p n).mem = s.mem := by
  simp [State.pubEnabled, apply_ite State.pending, apply_ite State.clk, apply_ite State.otp, apply_ite State.mem]

@[simp] theorem State.portEnabled_keep (s : State) (p : Fin 4) (n : Nat) : (State.portEnabled s p n).pending = s.pending ∧ (State.portEnabled s p n).clk = s.clk ∧ (State.portEnabled s p n).otp = s.otp ∧ (State.portEnabled s p n).mem = s.mem := by
  simp [State.portEnabled, apply_ite State.pending, apply_ite State.clk, apply_ite State.otp, apply_ite State.mem]

@[simp] theorem State.newSource_keep (s : State) (i : Fin 2) : (State.newSource s i).pending = s.pending ∧ (State.newSource s i).clk = s.clk ∧ (State.newSource s i).otp = s.otp ∧ (State.newSource s i).mem = s.mem := by
  simp [State.newSource, apply_ite State.pending, apply_ite State.clk, apply_ite State.otp, apply_ite State.mem]

@[simp] theorem State.effect_keep (s : State) (idx : Nat) (sub : Nat) (n : Nat) : (State.effect s idx sub n).pending = s.pending ∧ (State.effect s idx sub n).clk = s.clk ∧ (State.effect s idx sub n).otp = s.otp := by
  simp [State.effect, apply_ite State.pending, apply_ite State.clk, apply_ite State.otp]

@[simp] theorem State.effect_wf (s : State) (idx : Nat) (sub : Nat) (n : Nat) (h_ : Memory.wf s.mem = true) : Memory.wf (State.effect s idx sub n).mem = true := by
  simp [State.effect, h_, apply_ite State.mem, apply_ite Memory.wf]

@[simp] theorem State.applyCfg_keep (s : State) (e : Ent) (idx : Nat) (v : List Byte) : (State.applyCfg s e idx v).pending = s.pending ∧ (State.applyCfg s e idx v).clk = s.clk ∧ (State.applyCfg s e idx v).otp = s.otp := by
  simp [State.applyCfg, apply_ite State.pending, apply_ite State.clk, apply_ite State.otp]

@[simp] theorem State.applyCfg_wf (s : State) (e : Ent) (idx : Nat) (v : List Byte) (h_ : Memory.wf s.mem = true) : Memory.wf (State.applyCfg s e idx v).mem = true := by
  simp [State.applyCfg, h_, apply_ite State.mem, apply_ite Memory.wf]

@[simp] theorem State.applyObj_keep (s : State) (o : AppObj) (v : List Byte) : (State.applyObj s o v).pending = s.pending ∧ (State.applyObj s o v).clk = s.clk ∧ (State.applyObj s o v).otp = s.otp := by
  simp [State.applyObj, apply_ite State.pending, apply_ite State.clk, apply_ite State.otp]

@[simp] theorem State.applyObj_wf (s : State) (o : AppObj) (v : List Byte) (h_ : Memory.wf s.mem = true) : Memory.wf (State.applyObj s o v).mem = true := by
  simp [State.applyObj, h_, apply_ite State.mem]

@[simp] theorem State.spAdmit_keep (s : State) (t : Fin 12) (mhz : Nat) : (State.spAdmit s t mhz).1.pending = s.pending ∧ (State.spAdmit s t mhz).1.clk = s.clk ∧ (State.spAdmit s t mhz).1.otp = s.otp ∧ (State.spAdmit s t mhz).1.mem = s.mem := by
  unfold State.spAdmit
  (repeat' split) <;> simp

@[simp] theorem State.writeSetpt_keep (s : State) (r : Req) (t : Fin 12) (mhz : Nat) : (s.writeSetpt r t mhz).1.pending = s.pending ∧ (s.writeSetpt r t mhz).1.clk = s.clk ∧ (s.writeSetpt r t mhz).1.otp = s.otp ∧ (s.writeSetpt r t mhz).1.mem = s.mem := by
  have H := State.spAdmit_keep s t mhz
  unfold State.writeSetpt
  split
  · simp
  · split
    · simp
    · split
      · rename_i h; rw [h] at H; simpa using H
      · rename_i h; rw [h] at H; split <;> simpa using H

@[simp] theorem State.withStaged_keep (s : State) (x : Staged) : (State.withStaged s x).pending = s.pending ∧ (State.withStaged s x).clk = s.clk ∧ (State.withStaged s x).otp = s.otp ∧ (State.withStaged s x).mem = s.mem := by
  unfold State.withStaged
  (repeat' split) <;> simp

@[simp] theorem State.withAll_keep (s : State) (l : List Staged) : (State.withAll s l).pending = s.pending ∧ (State.withAll s l).clk = s.clk ∧ (State.withAll s l).otp = s.otp ∧ (State.withAll s l).mem = s.mem := by
  simp [State.withAll]

@[simp] theorem State.admitsSet_keep (s t : State) (l : List Staged) : (s.admitsSet t l).1.pending = s.pending ∧ (s.admitsSet t l).1.clk = s.clk ∧ (s.admitsSet t l).1.otp = s.otp ∧ (s.admitsSet t l).1.mem = s.mem := by
  unfold State.admitsSet; (repeat' split) <;> simp

@[simp] theorem State.armSet_keep (s : State) (role : Nat) (usb : Bool) (open_ : Bool) : (State.armSet s role usb open_).1.pending = s.pending ∧ (State.armSet s role usb open_).1.clk = s.clk ∧ (State.armSet s role usb open_).1.otp = s.otp ∧ (State.armSet s role usb open_).1.mem = s.mem := by
  unfold State.armSet
  dsimp only
  (repeat' split) <;> simp [*]

@[simp] theorem State.cancelSet_keep (s : State) : (State.cancelSet s).pending = s.pending ∧ (State.cancelSet s).clk = s.clk ∧ (State.cancelSet s).otp = s.otp ∧ (State.cancelSet s).mem = s.mem := by
  simp [State.cancelSet, apply_ite State.pending, apply_ite State.clk, apply_ite State.otp, apply_ite State.mem]

@[simp] theorem State.applyStaged_keep (s : State) (x : Staged) : (State.applyStaged s x).pending = s.pending ∧ (State.applyStaged s x).clk = s.clk ∧ (State.applyStaged s x).otp = s.otp := by
  unfold State.applyStaged
  (repeat' split) <;> simp

@[simp] theorem State.applyStaged_wf (s : State) (x : Staged) (h_ : Memory.wf s.mem = true) : Memory.wf (State.applyStaged s x).mem = true := by
  unfold State.applyStaged
  (repeat' split) <;> simp [h_]

@[simp] theorem State.resetRegisters_keep (s : State) (i : Fin 2) : (State.resetRegisters s i).1.pending = s.pending ∧ (State.resetRegisters s i).1.clk = s.clk ∧ (State.resetRegisters s i).1.otp = s.otp ∧ (State.resetRegisters s i).1.mem = s.mem := by
  unfold State.resetRegisters
  (repeat' split) <;> simp

@[simp] theorem State.calBegin_keep (s : State) (ch : Fin 8) : (State.calBegin s ch).1.pending = s.pending ∧ (State.calBegin s ch).1.clk = s.clk ∧ (State.calBegin s ch).1.otp = s.otp ∧ (State.calBegin s ch).1.mem = s.mem := by
  unfold State.calBegin
  (repeat' split) <;> simp

@[simp] theorem State.calCommit_keep (s : State) (ch : Fin 8) : (State.calCommit s ch).1.pending = s.pending ∧ (State.calCommit s ch).1.clk = s.clk ∧ (State.calCommit s ch).1.otp = s.otp ∧ (State.calCommit s ch).1.mem = s.mem := by
  unfold State.calCommit
  (repeat' split) <;> simp

@[simp] theorem State.calStop_keep (s : State) (ch : Fin 8) : (State.calStop s ch).1.pending = s.pending ∧ (State.calStop s ch).1.clk = s.clk ∧ (State.calStop s ch).1.otp = s.otp ∧ (State.calStop s ch).1.mem = s.mem := by
  unfold State.calStop
  (repeat' split) <;> simp

@[simp] theorem State.canCmd_keep (s : State) (c : Fin 2) (n : Nat) : (State.canCmd s c n).pending = s.pending ∧ (State.canCmd s c n).clk = s.clk ∧ (State.canCmd s c n).otp = s.otp ∧ (State.canCmd s c n).mem = s.mem := by
  simp [State.canCmd, apply_ite State.pending, apply_ite State.clk, apply_ite State.otp, apply_ite State.mem]

@[simp] theorem State.markRestore_keep (s : State) (n : Nat) : (State.markRestore s n).pending = s.pending ∧ (State.markRestore s n).clk = s.clk ∧ (State.markRestore s n).otp = s.otp ∧ (State.markRestore s n).mem = s.mem := by
  simp [State.markRestore, apply_ite State.pending, apply_ite State.clk, apply_ite State.otp, apply_ite State.mem]

@[simp] theorem State.loadCmd_keep (s : State) (r : Req) (slot : Nat) : (State.loadCmd s r slot).1.pending = s.pending ∧ (State.loadCmd s r slot).1.clk = s.clk := by
  unfold State.loadCmd
  (repeat' split) <;> simp

@[simp] theorem State.loadCmd_bit (s : State) (r : Req) (slot : Nat) (i_ : Nat) (h_ : s.otp.getLsbD i_ = true) : (State.loadCmd s r slot).1.otp.getLsbD i_ = true := by
  unfold State.loadCmd
  (repeat' split) <;> simp [h_]

@[simp] theorem State.loadCmd_wf (s : State) (r : Req) (slot : Nat) (h_ : Memory.wf s.mem = true) : Memory.wf (State.loadCmd s r slot).1.mem = true := by
  unfold State.loadCmd
  (repeat' split) <;> simp [h_]

@[simp] theorem State.activateCmd_keep (s : State) (r : Req) (t : Fin 3) (n : Nat) : (State.activateCmd s r t n).1.pending = s.pending ∧ (State.activateCmd s r t n).1.clk = s.clk := by
  unfold State.activateCmd
  (repeat' split) <;> simp

@[simp] theorem State.activateCmd_bit (s : State) (r : Req) (t : Fin 3) (n : Nat) (i_ : Nat) (h_ : s.otp.getLsbD i_ = true) : (State.activateCmd s r t n).1.otp.getLsbD i_ = true := by
  unfold State.activateCmd
  (repeat' split) <;> simp [h_]

@[simp] theorem State.activateCmd_wf (s : State) (r : Req) (t : Fin 3) (n : Nat) (h_ : Memory.wf s.mem = true) : Memory.wf (State.activateCmd s r t n).1.mem = true := by
  unfold State.activateCmd
  (repeat' split) <;> simp [h_]

@[simp] theorem State.editReq_keep (s : State) (r : Req) (n : Nat) : (State.editReq s r n).1.pending = s.pending ∧ (State.editReq s r n).1.clk = s.clk ∧ (State.editReq s r n).1.mem = s.mem := by
  unfold State.editReq
  (repeat' split) <;> simp

@[simp] theorem State.editReq_bit (s : State) (r : Req) (n : Nat) (i_ : Nat) (h_ : s.otp.getLsbD i_ = true) : (State.editReq s r n).1.otp.getLsbD i_ = true := by
  unfold State.editReq
  (repeat' split) <;> simp [h_]

@[simp] theorem State.runLow_keep (s : State) (r : Req) (idx : Nat) (sub : Nat) (n : Nat) : (State.runLow s r idx sub n).1.pending = s.pending ∧ (State.runLow s r idx sub n).1.clk = s.clk := by
  unfold State.runLow
  (repeat' split) <;> simp

@[simp] theorem State.runLow_bit (s : State) (r : Req) (idx : Nat) (sub : Nat) (n : Nat) (i_ : Nat) (h_ : s.otp.getLsbD i_ = true) : (State.runLow s r idx sub n).1.otp.getLsbD i_ = true := by
  unfold State.runLow
  (repeat' split) <;> simp [h_]

@[simp] theorem State.runLow_wf (s : State) (r : Req) (idx : Nat) (sub : Nat) (n : Nat) (h_ : Memory.wf s.mem = true) : Memory.wf (State.runLow s r idx sub n).1.mem = true := by
  unfold State.runLow
  (repeat' split) <;> simp [h_]

@[simp] theorem State.runMid_keep (s : State) (role : Nat) (usb open_ : Bool) (idx sub n : Nat) (v : List Byte) : (s.runMid role usb open_ idx sub n v).1.pending = s.pending ∧ (s.runMid role usb open_ idx sub n v).1.clk = s.clk ∧ (s.runMid role usb open_ idx sub n v).1.otp = s.otp := by
  unfold State.runMid
  dsimp only
  (repeat' split) <;> simp

@[simp] theorem State.runMid_wf (s : State) (role : Nat) (usb open_ : Bool) (idx sub n : Nat) (v : List Byte) (h_ : Memory.wf s.mem = true) : Memory.wf (s.runMid role usb open_ idx sub n v).1.mem = true := by
  unfold State.runMid
  dsimp only
  (repeat' split) <;> simp [h_]

@[simp] theorem State.runHigh_keep (s : State) (r : Req) (role : Nat) (idx sub n : Nat) (v : List Byte) : (s.runHigh r role idx sub n v).1.pending = s.pending ∧ (s.runHigh r role idx sub n v).1.clk = s.clk := by
  unfold State.runHigh
  dsimp only
  (repeat' split) <;> simp

@[simp] theorem State.runHigh_bit (s : State) (r : Req) (role : Nat) (idx sub n : Nat) (v : List Byte) (i_ : Nat) (h_ : s.otp.getLsbD i_ = true) : (s.runHigh r role idx sub n v).1.otp.getLsbD i_ = true := by
  unfold State.runHigh
  dsimp only
  (repeat' split) <;> simp [h_]

@[simp] theorem State.runHigh_wf (s : State) (r : Req) (role : Nat) (idx sub n : Nat) (v : List Byte) (h_ : Memory.wf s.mem = true) : Memory.wf (s.runHigh r role idx sub n v).1.mem = true := by
  unfold State.runHigh
  dsimp only
  (repeat' split) <;> simp [h_]

@[simp] theorem State.runCmd_keep (s : State) (r : Req) (role : Nat) (usb : Bool) (open_ : Bool) (idx : Nat) (sub : Nat) (v : List Byte) : (State.runCmd s r role usb open_ idx sub v).1.pending = s.pending ∧ (State.runCmd s r role usb open_ idx sub v).1.clk = s.clk := by
  unfold State.runCmd
  (repeat' split) <;> simp

@[simp] theorem State.runCmd_bit (s : State) (r : Req) (role : Nat) (usb : Bool) (open_ : Bool) (idx : Nat) (sub : Nat) (v : List Byte) (i_ : Nat) (h_ : s.otp.getLsbD i_ = true) : (State.runCmd s r role usb open_ idx sub v).1.otp.getLsbD i_ = true := by
  unfold State.runCmd
  (repeat' split) <;> simp [h_]

@[simp] theorem State.runCmd_wf (s : State) (r : Req) (role : Nat) (usb : Bool) (open_ : Bool) (idx : Nat) (sub : Nat) (v : List Byte) (h_ : Memory.wf s.mem = true) : Memory.wf (State.runCmd s r role usb open_ idx sub v).1.mem = true := by
  unfold State.runCmd
  (repeat' split) <;> simp [h_]

@[simp] theorem State.perform_keep (s : State) (r : Req) (role : Nat) (usb : Bool) (open_ : Bool) (e : Ent) (idx : Nat) (v : List Byte) : (State.perform s r role usb open_ e idx v).1.pending = s.pending ∧ (State.perform s r role usb open_ e idx v).1.clk = s.clk := by
  unfold State.perform
  (repeat' split) <;> simp

@[simp] theorem State.perform_bit (s : State) (r : Req) (role : Nat) (usb : Bool) (open_ : Bool) (e : Ent) (idx : Nat) (v : List Byte) (i_ : Nat) (h_ : s.otp.getLsbD i_ = true) : (State.perform s r role usb open_ e idx v).1.otp.getLsbD i_ = true := by
  unfold State.perform
  (repeat' split) <;> simp [h_]

@[simp] theorem State.perform_wf (s : State) (r : Req) (role : Nat) (usb : Bool) (open_ : Bool) (e : Ent) (idx : Nat) (v : List Byte) (h_ : Memory.wf s.mem = true) : Memory.wf (State.perform s r role usb open_ e idx v).1.mem = true := by
  unfold State.perform
  (repeat' split) <;> simp [h_]

@[simp] theorem State.doWrite_keep (s : State) (r : Req) (role : Nat) (usb open_ : Bool) (idx sub : Nat) (ty : Option Nat) (v : List Byte) (i : Instr) : (s.doWrite r role usb open_ idx sub ty v i).1.pending = s.pending ∧ (s.doWrite r role usb open_ idx sub ty v i).1.clk = s.clk := by
  have H := State.admits_keep s (s.withVal idx sub v) idx sub
  unfold State.doWrite
  dsimp only
  split
  · simp
  · split
    · rename_i h; rw [h] at H; simpa using ⟨H.1, H.2.1⟩
    · rename_i h; rw [h] at H; split <;> simpa using ⟨H.1, H.2.1⟩

@[simp] theorem State.doWrite_bit (s : State) (r : Req) (role : Nat) (usb open_ : Bool) (idx sub : Nat) (ty : Option Nat) (v : List Byte) (i : Instr) (i_ : Nat) (h_ : s.otp.getLsbD i_ = true) : (s.doWrite r role usb open_ idx sub ty v i).1.otp.getLsbD i_ = true := by
  have H := (State.admits_keep s (s.withVal idx sub v) idx sub).2.2.1
  unfold State.doWrite
  dsimp only
  split
  · simp [h_]
  · split
    · rename_i q a h; rw [h] at H; have H : q.otp = s.otp := H; simpa [H] using h_
    · rename_i q h; rw [h] at H; have H : q.otp = s.otp := H; split <;> simp [H, h_]

@[simp] theorem State.doWrite_wf (s : State) (r : Req) (role : Nat) (usb open_ : Bool) (idx sub : Nat) (ty : Option Nat) (v : List Byte) (i : Instr) (h_ : Memory.wf s.mem = true) : Memory.wf (s.doWrite r role usb open_ idx sub ty v i).1.mem = true := by
  have H := (State.admits_keep s (s.withVal idx sub v) idx sub).2.2.2
  unfold State.doWrite
  dsimp only
  split
  · simp [h_]
  · split
    · rename_i q a h; rw [h] at H; have H : q.mem = s.mem := H; simpa [H] using h_
    · rename_i q h; rw [h] at H; have H : q.mem = s.mem := H; split <;> simp [H, h_]

@[simp] theorem State.conclude_keep (q : State × Verdict) (r : Req) (op : Nat) (body : List Byte) :
    (State.conclude q r op body).pending = q.1.pending ∧ (State.conclude q r op body).clk = q.1.clk ∧
      (State.conclude q r op body).otp = q.1.otp ∧ (State.conclude q r op body).mem = q.1.mem := by
  unfold State.conclude; split <;> simp

@[simp] theorem State.applyShared_keep (s : State) (i : Instr) (answers : Bool) : (State.applyShared s i answers).pending = s.pending ∧ (State.applyShared s i answers).clk = s.clk := by
  unfold State.applyShared
  dsimp only
  (repeat' split) <;> simp [*]

@[simp] theorem State.applyShared_bit (s : State) (i : Instr) (answers : Bool) (i_ : Nat) (h_ : s.otp.getLsbD i_ = true) : (State.applyShared s i answers).otp.getLsbD i_ = true := by
  unfold State.applyShared
  dsimp only
  (repeat' split) <;> simp [*]

@[simp] theorem State.applyShared_wf (s : State) (i : Instr) (answers : Bool) (h_ : Memory.wf s.mem = true) : Memory.wf (State.applyShared s i answers).mem = true := by
  unfold State.applyShared
  dsimp only
  (repeat' split) <;> simp [*]

@[simp] theorem State.asLead_pending (s : State) (f : State → State) (hf : ∀ s, (f s).pending = s.pending) : (s.asLead f).pending = s.pending := by
  simp [State.asLead, hf]

@[simp] theorem State.asLead_clk (s : State) (f : State → State) (hf : ∀ s, (f s).clk = s.clk) : (s.asLead f).clk = s.clk := by
  simp [State.asLead, hf]

@[simp] theorem State.asLead_otp (s : State) (f : State → State) (hf : ∀ s, (f s).otp = s.otp) : (s.asLead f).otp = s.otp := by
  simp [State.asLead, hf]

@[simp] theorem State.asLead_mem (s : State) (f : State → State) (hf : ∀ s, (f s).mem = s.mem) : (s.asLead f).mem = s.mem := by
  simp [State.asLead, hf]

@[simp] theorem State.asLead_wf (s : State) (f : State → State) (hf : ∀ s, Memory.wf s.mem = true → Memory.wf (f s).mem = true) (h_ : Memory.wf s.mem = true) : Memory.wf (s.asLead f).mem = true := by
  simp [State.asLead, hf, h_]

@[simp] theorem State.asLead_bit (s : State) (f : State → State) (i_ : Nat) (hf : ∀ s, s.otp.getLsbD i_ = true → (f s).otp.getLsbD i_ = true)
    (h_ : s.otp.getLsbD i_ = true) : (s.asLead f).otp.getLsbD i_ = true := by
  simp [State.asLead, hf, h_]

@[simp] theorem State.runDue_keep (s : State) (answers : Bool) : (State.runDue s answers).pending = s.pending ∧ (State.runDue s answers).clk = s.clk := by
  simp [State.runDue, apply_ite State.pending, apply_ite State.clk]

@[simp] theorem State.runDue_bit (s : State) (answers : Bool) (i_ : Nat) (h_ : s.otp.getLsbD i_ = true) : (s.runDue answers).otp.getLsbD i_ = true := by
  unfold State.runDue
  refine foldl_bit _ _ (fun s a h => ?_) _ _ (by simpa using h_)
  split
  · simp [h]
  · exact State.asLead_bit _ _ _ (fun s h => by simp [h]) h

@[simp] theorem State.runDue_wf (s : State) (answers : Bool) (h_ : Memory.wf s.mem = true) : Memory.wf (s.runDue answers).mem = true := by
  unfold State.runDue
  refine foldl_wf _ (fun s a h => ?_) _ _ (by simpa using h_)
  split
  · simp [h]
  · exact State.asLead_wf _ _ (fun s h => by simp [h]) h

@[simp] theorem State.latched_keep (s : State) (g : Gctx) (v : Word) (f : Port → Port) : (State.latched s g v f).1.pending = s.pending ∧ (State.latched s g v f).1.clk = s.clk ∧ (State.latched s g v f).1.otp = s.otp ∧ (State.latched s g v f).1.mem = s.mem := by
  simp [State.latched]

@[simp] theorem State.readRelLo_keep (s : State) (g : Gctx) (h : Gctx) : (State.readRelLo s g h).1.pending = s.pending ∧ (State.readRelLo s g h).1.clk = s.clk ∧ (State.readRelLo s g h).1.otp = s.otp ∧ (State.readRelLo s g h).1.mem = s.mem := by
  simp [State.readRelLo]

@[simp] theorem State.readRelHi_keep (s : State) (g : Gctx) (h : Gctx) : (State.readRelHi s g h).1.pending = s.pending ∧ (State.readRelHi s g h).1.clk = s.clk ∧ (State.readRelHi s g h).1.otp = s.otp ∧ (State.readRelHi s g h).1.mem = s.mem := by
  simp [State.readRelHi]

@[simp] theorem State.readTbLo_keep (s : State) (g : Gctx) : (State.readTbLo s g).1.pending = s.pending ∧ (State.readTbLo s g).1.clk = s.clk ∧ (State.readTbLo s g).1.otp = s.otp ∧ (State.readTbLo s g).1.mem = s.mem := by
  simp [State.readTbLo]

@[simp] theorem State.readTbHi_keep (s : State) (g : Gctx) : (State.readTbHi s g).1.pending = s.pending ∧ (State.readTbHi s g).1.clk = s.clk ∧ (State.readTbHi s g).1.otp = s.otp ∧ (State.readTbHi s g).1.mem = s.mem := by
  simp [State.readTbHi]

@[simp] theorem State.readCal0_keep (s : State) (g : Gctx) : (State.readCal0 s g).1.pending = s.pending ∧ (State.readCal0 s g).1.clk = s.clk ∧ (State.readCal0 s g).1.otp = s.otp ∧ (State.readCal0 s g).1.mem = s.mem := by
  simp [State.readCal0]

@[simp] theorem State.readDoneLo_keep (s : State) (g : Gctx) : (State.readDoneLo s g).1.pending = s.pending ∧ (State.readDoneLo s g).1.clk = s.clk ∧ (State.readDoneLo s g).1.otp = s.otp ∧ (State.readDoneLo s g).1.mem = s.mem := by
  simp [State.readDoneLo]

@[simp] theorem State.readDoneHi_keep (s : State) (g : Gctx) : (State.readDoneHi s g).1.pending = s.pending ∧ (State.readDoneHi s g).1.clk = s.clk ∧ (State.readDoneHi s g).1.otp = s.otp ∧ (State.readDoneHi s g).1.mem = s.mem := by
  simp [State.readDoneHi]

@[simp] theorem State.readOldLo_keep (s : State) (g : Gctx) : (State.readOldLo s g).1.pending = s.pending ∧ (State.readOldLo s g).1.clk = s.clk ∧ (State.readOldLo s g).1.otp = s.otp ∧ (State.readOldLo s g).1.mem = s.mem := by
  simp [State.readOldLo]

@[simp] theorem State.readOldHi_keep (s : State) (g : Gctx) : (State.readOldHi s g).1.pending = s.pending ∧ (State.readOldHi s g).1.clk = s.clk ∧ (State.readOldHi s g).1.otp = s.otp ∧ (State.readOldHi s g).1.mem = s.mem := by
  simp [State.readOldHi]

@[simp] theorem State.regReadGaffer_keep (s : State) (b : Nat) (o : Nat) : (State.regReadGaffer s b o).1.pending = s.pending ∧ (State.regReadGaffer s b o).1.clk = s.clk ∧ (State.regReadGaffer s b o).1.otp = s.otp ∧ (State.regReadGaffer s b o).1.mem = s.mem := by
  unfold State.regReadGaffer
  (repeat' split) <;> simp

@[simp] theorem State.regRead_keep (s : State) (g : Gctx) (b : Nat) (o : Nat) : (State.regRead s g b o).1.pending = s.pending ∧ (State.regRead s g b o).1.clk = s.clk ∧ (State.regRead s g b o).1.otp = s.otp ∧ (State.regRead s g b o).1.mem = s.mem := by
  unfold State.regRead
  (repeat' split) <;> simp

@[simp] theorem State.ctxWrite_keep (s : State) (g0 : Gctx) (o : Nat) (v : Word) : (State.ctxWrite s g0 o v).pending = s.pending ∧ (State.ctxWrite s g0 o v).clk = s.clk ∧ (State.ctxWrite s g0 o v).otp = s.otp ∧ (State.ctxWrite s g0 o v).mem = s.mem := by
  simp [State.ctxWrite]

@[simp] theorem State.schWrite_keep (s : State) (o : Nat) (v : Word) : (State.schWrite s o v).pending = s.pending ∧ (State.schWrite s o v).clk = s.clk ∧ (State.schWrite s o v).otp = s.otp ∧ (State.schWrite s o v).mem = s.mem := by
  unfold State.schWrite
  (repeat' split) <;> simp

@[simp] theorem State.imgBlkWrite_keep (s : State) (o : Nat) (v : Word) : (State.imgBlkWrite s o v).pending = s.pending ∧ (State.imgBlkWrite s o v).clk = s.clk ∧ (State.imgBlkWrite s o v).otp = s.otp ∧ (State.imgBlkWrite s o v).mem = s.mem := by
  unfold State.imgBlkWrite
  (repeat' split) <;> simp

@[simp] theorem State.pairBlkWrite_keep (s : State) (o : Nat) (v : Word) : (State.pairBlkWrite s o v).pending = s.pending ∧ (State.pairBlkWrite s o v).clk = s.clk ∧ (State.pairBlkWrite s o v).otp = s.otp ∧ (State.pairBlkWrite s o v).mem = s.mem := by
  simp [State.pairBlkWrite, apply_ite State.pending, apply_ite State.clk, apply_ite State.otp, apply_ite State.mem, apply_dite State.mem, apply_dite State.pending, apply_dite State.clk, apply_dite State.otp]

@[simp] theorem State.wdgWrite_keep (s : State) (g : Option Gctx) (o : Nat) (v : Word) : (State.wdgWrite s g o v).pending = s.pending ∧ (State.wdgWrite s g o v).clk = s.clk ∧ (State.wdgWrite s g o v).otp = s.otp ∧ (State.wdgWrite s g o v).mem = s.mem := by
  unfold State.wdgWrite
  (repeat' split) <;> simp

@[simp] theorem State.tmWrite_keep (s : State) (k : Fin 8) (o : Nat) (v : Word) : (State.tmWrite s k o v).pending = s.pending ∧ (State.tmWrite s k o v).clk = s.clk ∧ (State.tmWrite s k o v).otp = s.otp := by
  unfold State.tmWrite
  (repeat' split) <;> simp

@[simp] theorem State.tmWrite_wf (s : State) (k : Fin 8) (o : Nat) (v : Word) (h_ : Memory.wf s.mem = true) : Memory.wf (State.tmWrite s k o v).mem = true := by
  unfold State.tmWrite
  (repeat' split) <;> simp [h_]

@[simp] theorem State.stgWrite_keep (s : State) (k : Nat) (v : Word) : ((State.stgWrite s k v).getD s).pending = s.pending ∧ ((State.stgWrite s k v).getD s).clk = s.clk ∧ ((State.stgWrite s k v).getD s).otp = s.otp ∧ ((State.stgWrite s k v).getD s).mem = s.mem := by
  unfold State.stgWrite
  (try dsimp only)
  (repeat' split) <;> simp

@[simp] theorem State.rtcWrite_keep (s : State) (o : Nat) (v : Word) : ((State.rtcWrite s o v).getD s).pending = s.pending ∧ ((State.rtcWrite s o v).getD s).clk = s.clk ∧ ((State.rtcWrite s o v).getD s).otp = s.otp := by
  unfold State.rtcWrite
  (try dsimp only)
  (repeat' split) <;> simp

@[simp] theorem State.rtcWrite_wf (s : State) (o : Nat) (v : Word) (h_ : Memory.wf s.mem = true) : Memory.wf ((State.rtcWrite s o v).getD s).mem = true := by
  unfold State.rtcWrite
  (try dsimp only)
  (repeat' split) <;> simp [h_]

@[simp] theorem State.pbWrite_keep (s : State) (n : CoreId) (o : Nat) (v : Word) : ((State.pbWrite s n o v).getD s).pending = s.pending ∧ ((State.pbWrite s n o v).getD s).clk = s.clk ∧ ((State.pbWrite s n o v).getD s).otp = s.otp ∧ ((State.pbWrite s n o v).getD s).mem = s.mem := by
  unfold State.pbWrite
  (try dsimp only)
  (repeat' split) <;> simp

@[simp] theorem State.nvcWrite_keep (s : State) (o : Nat) (v : Word) : ((State.nvcWrite s o v).getD s).pending = s.pending ∧ ((State.nvcWrite s o v).getD s).clk = s.clk ∧ ((State.nvcWrite s o v).getD s).otp = s.otp ∧ ((State.nvcWrite s o v).getD s).mem = s.mem := by
  unfold State.nvcWrite
  (try dsimp only)
  (repeat' split) <;> simp

@[simp] theorem State.memBlkWrite_keep (s : State) (g : Option Gctx) (o : Nat) (v : Word) : ((State.memBlkWrite s g o v).getD s).pending = s.pending ∧ ((State.memBlkWrite s g o v).getD s).clk = s.clk ∧ ((State.memBlkWrite s g o v).getD s).otp = s.otp ∧ ((State.memBlkWrite s g o v).getD s).mem = s.mem := by
  unfold State.memBlkWrite
  (try dsimp only)
  (repeat' split) <;> simp

@[simp] theorem State.moWrite_keep (s : State) (c : Fin 2) (m : MoId) (o : Nat) (v : Word) (done : Bool) : ((State.moWrite s c m o v done).getD s).pending = s.pending ∧ ((State.moWrite s c m o v done).getD s).clk = s.clk ∧ ((State.moWrite s c m o v done).getD s).otp = s.otp ∧ ((State.moWrite s c m o v done).getD s).mem = s.mem := by
  unfold State.moWrite
  (try dsimp only)
  (repeat' split) <;> simp

@[simp] theorem State.canWrite_keep (s : State) (c : Fin 2) (o : Nat) (v : Word) (done : Bool) : ((State.canWrite s c o v done).getD s).pending = s.pending ∧ ((State.canWrite s c o v done).getD s).clk = s.clk ∧ ((State.canWrite s c o v done).getD s).otp = s.otp ∧ ((State.canWrite s c o v done).getD s).mem = s.mem := by
  unfold State.canWrite
  (try dsimp only)
  (repeat' split) <;> simp

@[simp] theorem State.regWrite_keep (s : State) (g : Option Gctx) (b : Nat) (o : Nat) (val : Word) (ev : Word) : ((State.regWrite s g b o val ev).getD s).pending = s.pending ∧ ((State.regWrite s g b o val ev).getD s).clk = s.clk ∧ ((State.regWrite s g b o val ev).getD s).otp = s.otp := by
  unfold State.regWrite
  (try dsimp only)
  (repeat' split) <;> simp

@[simp] theorem State.regWrite_wf (s : State) (g : Option Gctx) (b : Nat) (o : Nat) (val : Word) (ev : Word) (h_ : Memory.wf s.mem = true) : Memory.wf ((State.regWrite s g b o val ev).getD s).mem = true := by
  unfold State.regWrite
  (try dsimp only)
  (repeat' split) <;> simp [h_]

@[simp] theorem State.regServe_pending (s : State) (g : Gctx) (priv : Bool) (a : Nat) (size : BitVec 2) (f : State → Option (State × Word)) (hf : (((f s).map Prod.fst).getD s).pending = s.pending) : (s.regServe g priv a size f).1.pending = s.pending := by
  unfold State.regServe; dsimp only; (repeat' split) <;> simp_all

@[simp] theorem State.regServe_clk (s : State) (g : Gctx) (priv : Bool) (a : Nat) (size : BitVec 2) (f : State → Option (State × Word)) (hf : (((f s).map Prod.fst).getD s).clk = s.clk) : (s.regServe g priv a size f).1.clk = s.clk := by
  unfold State.regServe; dsimp only; (repeat' split) <;> simp_all

@[simp] theorem State.regServe_otp (s : State) (g : Gctx) (priv : Bool) (a : Nat) (size : BitVec 2) (f : State → Option (State × Word)) (hf : (((f s).map Prod.fst).getD s).otp = s.otp) : (s.regServe g priv a size f).1.otp = s.otp := by
  unfold State.regServe; dsimp only; (repeat' split) <;> simp_all

@[simp] theorem State.regServe_wf (s : State) (g : Gctx) (priv : Bool) (a : Nat) (size : BitVec 2) (f : State → Option (State × Word)) (hf : Memory.wf (((f s).map Prod.fst).getD s).mem = true) (h_ : Memory.wf s.mem = true) : Memory.wf (s.regServe g priv a size f).1.mem = true := by
  unfold State.regServe; dsimp only; (repeat' split) <;> simp_all

@[simp] theorem State.answerCore_keep (s : State) (g : Gctx) (a : Nat) (q : Resp) : (State.answerCore s g a q).pending = s.pending ∧ (State.answerCore s g a q).clk = s.clk ∧ (State.answerCore s g a q).otp = s.otp := by
  unfold State.answerCore
  (repeat' split) <;> simp

@[simp] theorem State.answerCore_wf (s : State) (g : Gctx) (a : Nat) (q : Resp) (h_ : Memory.wf s.mem = true) : Memory.wf (State.answerCore s g a q).mem = true := by
  unfold State.answerCore
  (repeat' split) <;> simp [h_]

@[simp] theorem State.coreReg_pending (s : State) (g : Gctx) (a : Nat) (size : BitVec 2) (f : State → Option (State × Word)) (hf : (((f s).map Prod.fst).getD s).pending = s.pending) : (s.coreReg g a size f).pending = s.pending := by
  unfold State.coreReg; simp [hf]

@[simp] theorem State.coreReg_clk (s : State) (g : Gctx) (a : Nat) (size : BitVec 2) (f : State → Option (State × Word)) (hf : (((f s).map Prod.fst).getD s).clk = s.clk) : (s.coreReg g a size f).clk = s.clk := by
  unfold State.coreReg; simp [hf]

@[simp] theorem State.coreReg_otp (s : State) (g : Gctx) (a : Nat) (size : BitVec 2) (f : State → Option (State × Word)) (hf : (((f s).map Prod.fst).getD s).otp = s.otp) : (s.coreReg g a size f).otp = s.otp := by
  unfold State.coreReg; simp [hf]

@[simp] theorem State.coreReg_wf (s : State) (g : Gctx) (a : Nat) (size : BitVec 2) (f : State → Option (State × Word)) (hf : Memory.wf (((f s).map Prod.fst).getD s).mem = true) (h_ : Memory.wf s.mem = true) : Memory.wf (s.coreReg g a size f).mem = true := by
  unfold State.coreReg; simp [hf, h_]

@[simp] theorem State.gafferReg_pending (s : State) (a : Nat) (size : BitVec 2) (f : State → Option (State × Word)) (hf : (((f s).map Prod.fst).getD s).pending = s.pending) : (s.gafferReg a size f).1.pending = s.pending := by
  unfold State.gafferReg; (repeat' split) <;> simp_all

@[simp] theorem State.gafferReg_clk (s : State) (a : Nat) (size : BitVec 2) (f : State → Option (State × Word)) (hf : (((f s).map Prod.fst).getD s).clk = s.clk) : (s.gafferReg a size f).1.clk = s.clk := by
  unfold State.gafferReg; (repeat' split) <;> simp_all

@[simp] theorem State.gafferReg_otp (s : State) (a : Nat) (size : BitVec 2) (f : State → Option (State × Word)) (hf : (((f s).map Prod.fst).getD s).otp = s.otp) : (s.gafferReg a size f).1.otp = s.otp := by
  unfold State.gafferReg; (repeat' split) <;> simp_all

@[simp] theorem State.gafferReg_wf (s : State) (a : Nat) (size : BitVec 2) (f : State → Option (State × Word)) (hf : Memory.wf (((f s).map Prod.fst).getD s).mem = true) (h_ : Memory.wf s.mem = true) : Memory.wf (s.gafferReg a size f).1.mem = true := by
  unfold State.gafferReg; (repeat' split) <;> simp_all

@[simp] theorem noWord_fst (o : Option State) : (noWord o).map Prod.fst = o := by cases o <;> rfl

theorem map_fst_none (P : State → Prop) (s : State) (h : P s) : P (((none : Option (State × Word)).map Prod.fst).getD s) := h

theorem map_fst_some (P : State → Prop) (s : State) (q : State × Word) (h : P q.1) : P (((some q).map Prod.fst).getD s) := h

theorem map_fst_noWord (P : State → Prop) (s : State) (o : Option State) (h : P (o.getD s)) : P (((noWord o).map Prod.fst).getD s) := by
  cases o <;> exact h

@[simp] theorem opRegisterWrite_keep (m : Master) (addr : Word) (size : BitVec 2) (v : Word) (ev : Word) (s : State) : (opRegisterWrite m addr size v ev s).pending = s.pending ∧ (opRegisterWrite m addr size v ev s).clk = s.clk ∧ (opRegisterWrite m addr size v ev s).otp = s.otp := by
  unfold opRegisterWrite
  dsimp only
  (repeat' split) <;> simp [*]

@[simp] theorem opRegisterWrite_wf (m : Master) (addr : Word) (size : BitVec 2) (v : Word) (ev : Word) (s : State) (h_ : Memory.wf s.mem = true) : Memory.wf (opRegisterWrite m addr size v ev s).mem = true := by
  unfold opRegisterWrite
  dsimp only
  (repeat' split) <;> simp [*]

@[simp] theorem opTmHiWrite_keep (g : Gctx) (k : Fin 8) (v : Word) (s : State) : (opTmHiWrite g k v s).pending = s.pending ∧ (opTmHiWrite g k v s).clk = s.clk ∧ (opTmHiWrite g k v s).otp = s.otp := by
  simp [opTmHiWrite]

@[simp] theorem opTmHiWrite_wf (g : Gctx) (k : Fin 8) (v : Word) (s : State) (h_ : Memory.wf s.mem = true) : Memory.wf (opTmHiWrite g k v s).mem = true := by
  simp [opTmHiWrite, h_]

@[simp] theorem opSetsecWrite_keep (m : Master) (v : Word) (s : State) : (opSetsecWrite m v s).pending = s.pending ∧ (opSetsecWrite m v s).clk = s.clk ∧ (opSetsecWrite m v s).otp = s.otp := by
  unfold opSetsecWrite
  (repeat' split) <;> simp

@[simp] theorem opSetsecWrite_wf (m : Master) (v : Word) (s : State) (h_ : Memory.wf s.mem = true) : Memory.wf (opSetsecWrite m v s).mem = true := by
  unfold opSetsecWrite
  (repeat' split) <;> simp [h_]

@[simp] theorem State.wdgReserved_pending (s : State) (m : Master) (f : State → State) (hf : ∀ s, (f s).pending = s.pending) : (s.wdgReserved m f).pending = s.pending := by
  unfold State.wdgReserved; split <;> simp [hf]

@[simp] theorem State.wdgReserved_clk (s : State) (m : Master) (f : State → State) (hf : ∀ s, (f s).clk = s.clk) : (s.wdgReserved m f).clk = s.clk := by
  unfold State.wdgReserved; split <;> simp [hf]

@[simp] theorem State.wdgReserved_otp (s : State) (m : Master) (f : State → State) (hf : ∀ s, (f s).otp = s.otp) : (s.wdgReserved m f).otp = s.otp := by
  unfold State.wdgReserved; split <;> simp [hf]

@[simp] theorem State.wdgReserved_wf (s : State) (m : Master) (f : State → State) (hf : ∀ s, Memory.wf s.mem = true → Memory.wf (f s).mem = true) (h_ : Memory.wf s.mem = true) : Memory.wf (s.wdgReserved m f).mem = true := by
  unfold State.wdgReserved; split <;> simp [hf, h_]

@[simp] theorem opWdgService_keep (m : Master) (answer : Option Word) (s : State) : (opWdgService m answer s).pending = s.pending ∧ (opWdgService m answer s).clk = s.clk ∧ (opWdgService m answer s).otp = s.otp := by
  simp [opWdgService]

@[simp] theorem opWdgService_wf (m : Master) (answer : Option Word) (s : State) (h_ : Memory.wf s.mem = true) : Memory.wf (opWdgService m answer s).mem = true := by
  simp +contextual [opWdgService, h_]

@[simp] theorem opWdgQRead_keep (m : Master) (s : State) : (opWdgQRead m s).pending = s.pending ∧ (opWdgQRead m s).clk = s.clk ∧ (opWdgQRead m s).otp = s.otp := by
  simp [opWdgQRead]

@[simp] theorem opWdgQRead_wf (m : Master) (s : State) (h_ : Memory.wf s.mem = true) : Memory.wf (opWdgQRead m s).mem = true := by
  simp [opWdgQRead, h_]

@[simp] theorem opWdgCfgWrite_keep (m : Master) (tc : Nat) (to_ : Nat) (s : State) : (opWdgCfgWrite m tc to_ s).pending = s.pending ∧ (opWdgCfgWrite m tc to_ s).clk = s.clk ∧ (opWdgCfgWrite m tc to_ s).otp = s.otp := by
  simp [opWdgCfgWrite]

@[simp] theorem opWdgCfgWrite_wf (m : Master) (tc : Nat) (to_ : Nat) (s : State) (h_ : Memory.wf s.mem = true) : Memory.wf (opWdgCfgWrite m tc to_ s).mem = true := by
  simp +contextual [opWdgCfgWrite, h_]

@[simp] theorem opWdgChkin_keep (g : Gctx) (key : Word) (s : State) : (opWdgChkin g key s).pending = s.pending ∧ (opWdgChkin g key s).clk = s.clk ∧ (opWdgChkin g key s).otp = s.otp := by
  simp [opWdgChkin]

@[simp] theorem opWdgChkin_wf (g : Gctx) (key : Word) (s : State) (h_ : Memory.wf s.mem = true) : Memory.wf (opWdgChkin g key s).mem = true := by
  simp [opWdgChkin, h_]

@[simp] theorem opMarchStart_keep (g : Gctx) (b : BankId) (v : Word) (s : State) : (opMarchStart g b v s).pending = s.pending ∧ (opMarchStart g b v s).clk = s.clk ∧ (opMarchStart g b v s).otp = s.otp := by
  simp [opMarchStart]

@[simp] theorem opMarchStart_wf (g : Gctx) (b : BankId) (v : Word) (s : State) (h_ : Memory.wf s.mem = true) : Memory.wf (opMarchStart g b v s).mem = true := by
  simp [opMarchStart, h_]

@[simp] theorem opPageProgram_keep (g : Gctx) (v : Word) (s : State) : (opPageProgram g v s).pending = s.pending ∧ (opPageProgram g v s).clk = s.clk ∧ (opPageProgram g v s).otp = s.otp := by
  simp [opPageProgram]

@[simp] theorem opPageProgram_wf (g : Gctx) (v : Word) (s : State) (h_ : Memory.wf s.mem = true) : Memory.wf (opPageProgram g v s).mem = true := by
  simp [opPageProgram, h_]

@[simp] theorem State.coreMoctrl_keep (s : State) (g : Gctx) (c : Fin 2) (m : MoId) (v : Word) (done : Bool) : (State.coreMoctrl s g c m v done).pending = s.pending ∧ (State.coreMoctrl s g c m v done).clk = s.clk ∧ (State.coreMoctrl s g c m v done).otp = s.otp := by
  simp [State.coreMoctrl]

@[simp] theorem State.coreMoctrl_wf (s : State) (g : Gctx) (c : Fin 2) (m : MoId) (v : Word) (done : Bool) (h_ : Memory.wf s.mem = true) : Memory.wf (State.coreMoctrl s g c m v done).mem = true := by
  simp [State.coreMoctrl, h_]

@[simp] theorem opTxreq_keep (g : Gctx) (c : Fin 2) (m : MoId) (v : Word) (done : Bool) (s : State) : (opTxreq g c m v done s).pending = s.pending ∧ (opTxreq g c m v done s).clk = s.clk ∧ (opTxreq g c m v done s).otp = s.otp := by
  simp [opTxreq]

@[simp] theorem opTxreq_wf (g : Gctx) (c : Fin 2) (m : MoId) (v : Word) (done : Bool) (s : State) (h_ : Memory.wf s.mem = true) : Memory.wf (opTxreq g c m v done s).mem = true := by
  simp [opTxreq, h_]

@[simp] theorem opCanAbort_keep (g : Gctx) (c : Fin 2) (m : MoId) (s : State) : (opCanAbort g c m s).pending = s.pending ∧ (opCanAbort g c m s).clk = s.clk ∧ (opCanAbort g c m s).otp = s.otp := by
  simp [opCanAbort]

@[simp] theorem opCanAbort_wf (g : Gctx) (c : Fin 2) (m : MoId) (s : State) (h_ : Memory.wf s.mem = true) : Memory.wf (opCanAbort g c m s).mem = true := by
  simp [opCanAbort, h_]

@[simp] theorem opLatchRead_pending (g : Gctx) (a : Nat) (f : State → State × Word) (s : State) (hf : ∀ s, (f s).1.pending = s.pending) : (opLatchRead g a f s).pending = s.pending := by
  simp [opLatchRead, hf]

@[simp] theorem opLatchRead_clk (g : Gctx) (a : Nat) (f : State → State × Word) (s : State) (hf : ∀ s, (f s).1.clk = s.clk) : (opLatchRead g a f s).clk = s.clk := by
  simp [opLatchRead, hf]

@[simp] theorem opLatchRead_otp (g : Gctx) (a : Nat) (f : State → State × Word) (s : State) (hf : ∀ s, (f s).1.otp = s.otp) : (opLatchRead g a f s).otp = s.otp := by
  simp [opLatchRead, hf]

@[simp] theorem opLatchRead_wf (g : Gctx) (a : Nat) (f : State → State × Word) (s : State) (hf : ∀ s, (f s).1.mem = s.mem) (h_ : Memory.wf s.mem = true) : Memory.wf (opLatchRead g a f s).mem = true := by
  simp [opLatchRead, hf, h_]

@[simp] theorem State.portAccess_keep (s : State) (b : BankId) (o : PortAccess) : (State.portAccess s b o).1.pending = s.pending ∧ (State.portAccess s b o).1.clk = s.clk ∧ (State.portAccess s b o).1.otp = s.otp := by
  unfold State.portAccess
  (repeat' split) <;> simp

@[simp] theorem State.portAccess_wf (s : State) (b : BankId) (o : PortAccess) (h_ : Memory.wf s.mem = true) : Memory.wf (State.portAccess s b o).1.mem = true := by
  unfold State.portAccess
  (repeat' split) <;> simp [h_]

@[simp] theorem State.ownerPort_keep (s : State) (b : BankId) (o : PortAccess) : (State.ownerPort s b o).pending = s.pending ∧ (State.ownerPort s b o).clk = s.clk ∧ (State.ownerPort s b o).otp = s.otp := by
  unfold State.ownerPort
  (repeat' split) <;> simp

@[simp] theorem State.ownerPort_wf (s : State) (b : BankId) (o : PortAccess) (h_ : Memory.wf s.mem = true) : Memory.wf (State.ownerPort s b o).mem = true := by
  unfold State.ownerPort
  (repeat' split) <;> simp [h_]

@[simp] theorem State.holdWrite_keep (s : State) (b : BankId) (o : PortAccess) : (State.holdWrite s b o).pending = s.pending ∧ (State.holdWrite s b o).clk = s.clk ∧ (State.holdWrite s b o).otp = s.otp ∧ (State.holdWrite s b o).mem = s.mem := by
  unfold State.holdWrite
  (repeat' split) <;> simp

@[simp] theorem State.sharedPort_keep (s : State) (b : BankId) (pos : Nat) (acc : PortAccess) (own : PortAccess) : (State.sharedPort s b pos acc own).1.pending = s.pending ∧ (State.sharedPort s b pos acc own).1.clk = s.clk ∧ (State.sharedPort s b pos acc own).1.otp = s.otp := by
  unfold State.sharedPort
  dsimp only
  (repeat' split) <;> simp [*]

@[simp] theorem State.sharedPort_wf (s : State) (b : BankId) (pos : Nat) (acc : PortAccess) (own : PortAccess) (h_ : Memory.wf s.mem = true) : Memory.wf (State.sharedPort s b pos acc own).1.mem = true := by
  unfold State.sharedPort
  dsimp only
  (repeat' split) <;> simp [*]

@[simp] theorem State.cbShared_keep (s : State) (b : BankId) (acc : PortAccess) : (State.cbShared s b acc).1.pending = s.pending ∧ (State.cbShared s b acc).1.clk = s.clk ∧ (State.cbShared s b acc).1.otp = s.otp := by
  simp [State.cbShared, apply_ite State.pending, apply_ite State.clk, apply_ite State.otp]

@[simp] theorem State.cbShared_wf (s : State) (b : BankId) (acc : PortAccess) (h_ : Memory.wf s.mem = true) : Memory.wf (State.cbShared s b acc).1.mem = true := by
  simp [State.cbShared, h_, apply_ite State.mem]

@[simp] theorem State.hideWord_keep (r : State × Resp) (size : BitVec 2) : (State.hideWord r size).1.pending = r.1.pending ∧
    (State.hideWord r size).1.clk = r.1.clk ∧ (State.hideWord r size).1.otp = r.1.otp ∧ (State.hideWord r size).1.mem = r.1.mem := by
  unfold State.hideWord; split <;> simp

@[simp] theorem State.nvServe_keep (s : State) (who : Nat) (acc : PortAccess) : (State.nvServe s who acc).1.pending = s.pending ∧ (State.nvServe s who acc).1.clk = s.clk ∧ (State.nvServe s who acc).1.otp = s.otp := by
  unfold State.nvServe
  dsimp only
  (repeat' split) <;> simp [*]

@[simp] theorem State.nvServe_wf (s : State) (who : Nat) (acc : PortAccess) (h_ : Memory.wf s.mem = true) : Memory.wf (State.nvServe s who acc).1.mem = true := by
  unfold State.nvServe
  dsimp only
  (repeat' split) <;> simp [*]

/-- What holds of the state before and after a register read or write holds after a core's register access. -/
theorem State.regAccess_rel (P : State → Prop) (s : State) (g : Gctx) (t : Txn) (own : PortAccess) (h0 : P s)
    (hw : ∀ b o v e, P ((s.regWrite (some g) b o v e).getD s)) (hr : ∀ b o, P (s.regRead g b o).1)
    (hs : ∀ f : State → Option (State × Word), P (((f s).map Prod.fst).getD s) → P (s.regServe g t.priv t.addr.toNat t.size f).1) :
    P (s.regAccess g t own).1 := by
  unfold State.regAccess
  dsimp only
  apply hs
  split
  · exact map_fst_none P s h0
  · split
    · exact map_fst_noWord P s _ (hw _ _ _ _)
    · exact map_fst_some P s _ (hr _ _)

@[simp] theorem State.regAccess_keep (s : State) (g : Gctx) (t : Txn) (own : PortAccess) : (s.regAccess g t own).1.pending = s.pending ∧ (s.regAccess g t own).1.clk = s.clk ∧ (s.regAccess g t own).1.otp = s.otp :=
  ⟨State.regAccess_rel (fun t => t.pending = s.pending) s g t own (by simp) (fun _ _ _ _ => by simp) (fun _ _ => by simp) fun f h => State.regServe_pending s _ _ _ _ f h,
    State.regAccess_rel (fun t => t.clk = s.clk) s g t own (by simp) (fun _ _ _ _ => by simp) (fun _ _ => by simp) fun f h => State.regServe_clk s _ _ _ _ f h,
    State.regAccess_rel (fun t => t.otp = s.otp) s g t own (by simp) (fun _ _ _ _ => by simp) (fun _ _ => by simp) fun f h => State.regServe_otp s _ _ _ _ f h⟩

@[simp] theorem State.regAccess_wf (s : State) (g : Gctx) (t : Txn) (own : PortAccess) (h_ : Memory.wf s.mem = true) : Memory.wf (s.regAccess g t own).1.mem = true := by
  exact State.regAccess_rel (fun t => Memory.wf t.mem = true) s g t own (by simp [h_]) (fun _ _ _ _ => by simp [h_]) (fun _ _ => by simp [h_]) fun f h => State.regServe_wf s _ _ _ _ f h h_

/-- What holds of the state before and after each port holds after an access of a core. -/
theorem State.access_rel (P : State → Prop) (s : State) (g : Gctx) (t : Txn) (own : PortAccess) (h0 : P s) (h1 : P (s.ownAccess g t).1)
    (h2 : P (State.hideWord (s.sharedPort 8 (g.val / 8) t.asked own) t.size).1) (h3 : P (s.sharedPort 9 (g.val / 8) t.asked own).1)
    (h4 : P (s.nvServe (g.val / 8) t.asked).1) (h5 : P (s.regAccess g t own).1) : P (s.access g t own).1 := by
  have hp : ∀ (q : State × Resp) b n, P q.1 → P (if t.op.ctrl.2.1 then q else (q.1, ⟨q.2.status, partOf q.2.data b n⟩)).1 := by
    intro q b n h; split <;> exact h
  unfold State.access
  dsimp only
  generalize s.ownAccess g t = q1 at *
  generalize State.hideWord (s.sharedPort 8 (g.val / 8) t.asked own) t.size = q2 at *
  generalize s.sharedPort 9 (g.val / 8) t.asked own = q3 at *
  generalize s.nvServe (g.val / 8) t.asked = q4 at *
  generalize s.regAccess g t own = q5 at *
  generalize s.nvBars _ = x
  generalize t.addr.toNat = a at *
  repeat' first | assumption | exact hp _ _ _ ‹_› | split

@[simp] theorem State.access_keep (s : State) (g : Gctx) (t : Txn) (own : PortAccess) : (s.access g t own).1.pending = s.pending ∧ (s.access g t own).1.clk = s.clk ∧ (s.access g t own).1.otp = s.otp :=
  ⟨State.access_rel (fun t => t.pending = s.pending) s g t own (by simp) (by simp) (by simp) (by simp) (by simp) (by simp),
    State.access_rel (fun t => t.clk = s.clk) s g t own (by simp) (by simp) (by simp) (by simp) (by simp) (by simp),
    State.access_rel (fun t => t.otp = s.otp) s g t own (by simp) (by simp) (by simp) (by simp) (by simp) (by simp)⟩

@[simp] theorem State.access_wf (s : State) (g : Gctx) (t : Txn) (own : PortAccess) (h_ : Memory.wf s.mem = true) : Memory.wf (s.access g t own).1.mem = true :=
  State.access_rel (fun t => Memory.wf t.mem = true) s g t own (by simp [h_]) (by simp [h_]) (by simp [h_]) (by simp [h_]) (by simp [h_]) (by simp [h_])

/-- What holds of the state before and after a register read or write holds after the gaffer's register access. -/
theorem State.gafferRegs_rel (P : State → Prop) (s : State) (acc own : PortAccess) (h0 : P s)
    (hw : ∀ b o v e, P ((s.regWrite none b o v e).getD s)) (hr : ∀ b o, P (s.regReadGaffer b o).1)
    (hs : ∀ a n (f : State → Option (State × Word)), P (((f s).map Prod.fst).getD s) → P (s.gafferReg a n f).1) : P (s.gafferRegs acc own).1 := by
  unfold State.gafferRegs
  dsimp only
  apply hs
  split
  · exact map_fst_noWord P s _ (hw _ _ _ _)
  · exact map_fst_some P s _ (hr _ _)
  · exact map_fst_none P s h0

@[simp] theorem State.gafferRegs_keep (s : State) (acc own : PortAccess) : (s.gafferRegs acc own).1.pending = s.pending ∧ (s.gafferRegs acc own).1.clk = s.clk ∧ (s.gafferRegs acc own).1.otp = s.otp :=
  ⟨State.gafferRegs_rel (fun t => t.pending = s.pending) s acc own (by simp) (fun _ _ _ _ => by simp) (fun _ _ => by simp) fun _ _ f h => State.gafferReg_pending s _ _ f h,
    State.gafferRegs_rel (fun t => t.clk = s.clk) s acc own (by simp) (fun _ _ _ _ => by simp) (fun _ _ => by simp) fun _ _ f h => State.gafferReg_clk s _ _ f h,
    State.gafferRegs_rel (fun t => t.otp = s.otp) s acc own (by simp) (fun _ _ _ _ => by simp) (fun _ _ => by simp) fun _ _ f h => State.gafferReg_otp s _ _ f h⟩

@[simp] theorem State.gafferRegs_wf (s : State) (acc own : PortAccess) (h_ : Memory.wf s.mem = true) : Memory.wf (s.gafferRegs acc own).1.mem = true := by
  exact State.gafferRegs_rel (fun t => Memory.wf t.mem = true) s acc own (by simp [h_]) (fun _ _ _ _ => by simp [h_]) (fun _ _ => by simp [h_]) fun _ _ f h => State.gafferReg_wf s _ _ f h h_

/-- What holds of the state before and after each port holds after an access of another master. -/
theorem State.otherAccess_rel (P : State → Prop) (s : State) (pos : Nat) (acc own : PortAccess) (h0 : P s) (h1 : ∀ b, P (s.cbShared b acc).1)
    (h2 : P (State.hideWord (s.portAccess 8 acc) 2).1) (h3 : P (State.hideWord (s.sharedPort 8 pos acc own) 2).1)
    (h4 : ∀ b, P (s.portAccess b acc).1) (h5 : P (s.sharedPort 9 pos acc own).1) (h6 : P (s.nvServe pos acc).1) (h7 : P s.draw)
    (h8 : P (s.gafferRegs acc own).1) : P (s.otherAccess pos acc own).1 := by
  unfold State.otherAccess
  dsimp only
  generalize State.hideWord (s.portAccess 8 acc) 2 = q2 at *
  generalize State.hideWord (s.sharedPort 8 pos acc own) 2 = q3 at *
  generalize s.sharedPort 9 pos acc own = q5 at *
  generalize s.nvServe pos acc = q6 at *
  generalize s.gafferRegs acc own = q8 at *
  generalize s.nvBars _ = x
  generalize (accAddr acc).getD 0 = a at *
  repeat' first | assumption | exact h1 _ | exact h4 _ | split

@[simp] theorem State.otherAccess_keep (s : State) (pos : Nat) (acc own : PortAccess) : (s.otherAccess pos acc own).1.pending = s.pending ∧ (s.otherAccess pos acc own).1.clk = s.clk ∧ (s.otherAccess pos acc own).1.otp = s.otp :=
  ⟨State.otherAccess_rel (fun t => t.pending = s.pending) s pos acc own (by simp) (fun _ => by simp) (by simp) (by simp) (fun _ => by simp) (by simp) (by simp) (by simp) (by simp),
    State.otherAccess_rel (fun t => t.clk = s.clk) s pos acc own (by simp) (fun _ => by simp) (by simp) (by simp) (fun _ => by simp) (by simp) (by simp) (by simp) (by simp),
    State.otherAccess_rel (fun t => t.otp = s.otp) s pos acc own (by simp) (fun _ => by simp) (by simp) (by simp) (fun _ => by simp) (by simp) (by simp) (by simp) (by simp)⟩

@[simp] theorem State.otherAccess_wf (s : State) (pos : Nat) (acc own : PortAccess) (h_ : Memory.wf s.mem = true) : Memory.wf (s.otherAccess pos acc own).1.mem = true :=
  State.otherAccess_rel (fun t => Memory.wf t.mem = true) s pos acc own (by simp [h_]) (fun _ => by simp [h_]) (by simp [h_]) (by simp [h_]) (fun _ => by simp [h_]) (by simp [h_]) (by simp [h_]) (by simp [h_]) (by simp [h_])

@[simp] theorem State.respond_keep (s : State) (g : Gctx) (t : Txn) (own : PortAccess) : (State.respond s g t own).1.pending = s.pending ∧ (State.respond s g t own).1.clk = s.clk ∧ (State.respond s g t own).1.otp = s.otp := by
  unfold State.respond
  (repeat' split) <;> simp

@[simp] theorem State.respond_wf (s : State) (g : Gctx) (t : Txn) (own : PortAccess) (h_ : Memory.wf s.mem = true) : Memory.wf (State.respond s g t own).1.mem = true := by
  unfold State.respond
  (repeat' split) <;> simp [h_]

@[simp] theorem State.expire_keep (s : State) (g : Gctx) (t : Txn) : (State.expire s g t).1.pending = s.pending ∧ (State.expire s g t).1.clk = s.clk ∧ (State.expire s g t).1.otp = s.otp := by
  unfold State.expire
  dsimp only
  (repeat' split) <;> simp [*]

@[simp] theorem State.expire_wf (s : State) (g : Gctx) (t : Txn) (h_ : Memory.wf s.mem = true) : Memory.wf (State.expire s g t).1.mem = true := by
  unfold State.expire
  dsimp only
  (repeat' split) <;> simp [*]

@[simp] theorem State.coreResponse_keep (s : State) (g : Gctx) (own : PortAccess) : (State.coreResponse s g own).pending = s.pending ∧ (State.coreResponse s g own).clk = s.clk ∧ (State.coreResponse s g own).otp = s.otp := by
  unfold State.coreResponse
  (repeat' split) <;> simp

@[simp] theorem State.coreResponse_wf (s : State) (g : Gctx) (own : PortAccess) (h_ : Memory.wf s.mem = true) : Memory.wf (State.coreResponse s g own).mem = true := by
  unfold State.coreResponse
  (repeat' split) <;> simp [h_]

@[simp] theorem opFabricResponse_keep (m : Requester) (own : PortAccess) (s : State) : (opFabricResponse m own s).pending = s.pending ∧ (opFabricResponse m own s).clk = s.clk ∧ (opFabricResponse m own s).otp = s.otp := by
  unfold opFabricResponse
  (repeat' split) <;> simp

@[simp] theorem opFabricResponse_wf (m : Requester) (own : PortAccess) (s : State) (h_ : Memory.wf s.mem = true) : Memory.wf (opFabricResponse m own s).mem = true := by
  unfold opFabricResponse
  (repeat' split) <;> simp [h_]

@[simp] theorem opFabricTimeout_keep (m : Requester) (s : State) : (opFabricTimeout m s).pending = s.pending ∧ (opFabricTimeout m s).clk = s.clk ∧ (opFabricTimeout m s).otp = s.otp := by
  unfold opFabricTimeout
  dsimp only
  (repeat' split) <;> simp [*]

@[simp] theorem opFabricTimeout_wf (m : Requester) (s : State) (h_ : Memory.wf s.mem = true) : Memory.wf (opFabricTimeout m s).mem = true := by
  unfold opFabricTimeout
  dsimp only
  (repeat' split) <;> simp [*]

end Sys2Proof.Machine
end

