-- ==== Sys2Proof/Laws/KeepCmds.lean ====
section
/-! SUPPORT. What every operation leaves alone: the queue, the clock, the bits of the OTP, and memory or its canonical form
(`_keep`: queue, clock, OTP and memory where they are unchanged; `_bit`: no OTP bit goes back to 0; `_wf`: memory stays
canonical). This file: start-up, activation, field and network commands, sessions, the system update. -/

namespace Sys2Proof.Machine

open Sys2Proof

@[simp] theorem State.recSlow_keep (s : State) : (State.recSlow s).pending = s.pending ∧ (State.recSlow s).clk = s.clk ∧ (State.recSlow s).otp = s.otp ∧ (State.recSlow s).mem = s.mem := by
  simp [State.recSlow, apply_ite State.pending, apply_ite State.clk, apply_ite State.otp, apply_ite State.mem]

@[simp] theorem State.step2_keep (s : State) : (State.step2 s).pending = s.pending ∧ (State.step2 s).clk = s.clk ∧ (State.step2 s).otp = s.otp ∧ (State.step2 s).mem = s.mem := by
  simp [State.step2]

@[simp] theorem State.scanNv_keep (s : State) : (State.scanNv s).pending = s.pending ∧ (State.scanNv s).clk = s.clk ∧ (State.scanNv s).otp = s.otp ∧ (State.scanNv s).mem = s.mem := by
  simp [State.scanNv, apply_ite State.pending, apply_ite State.clk, apply_ite State.otp, apply_ite State.mem]

@[simp] theorem State.readCopies_keep (s : State) (k : Nat) : (State.readCopies s k).pending = s.pending ∧ (State.readCopies s k).clk = s.clk ∧ (State.readCopies s k).otp = s.otp ∧ (State.readCopies s k).mem = s.mem := by
  simp [State.readCopies, apply_ite State.pending, apply_ite State.clk, apply_ite State.otp, apply_ite State.mem]

@[simp] theorem State.twinLost_keep (s : State) (k : Nat) : (State.twinLost s k).pending = s.pending ∧ (State.twinLost s k).clk = s.clk ∧ (State.twinLost s k).otp = s.otp ∧ (State.twinLost s k).mem = s.mem := by
  simp [State.twinLost, apply_ite State.pending, apply_ite State.clk, apply_ite State.otp, apply_ite State.mem]

@[simp] theorem State.recConflict_keep (s : State) (k : Nat) (t : Twin) : (State.recConflict s k t).pending = s.pending ∧ (State.recConflict s k t).clk = s.clk ∧ (State.recConflict s k t).otp = s.otp ∧ (State.recConflict s k t).mem = s.mem := by
  simp [State.recConflict, apply_ite State.pending, apply_ite State.clk, apply_ite State.otp, apply_ite State.mem]

@[simp] theorem State.resolve_keep (s : State) (k : Nat) : (State.resolve s k).pending = s.pending ∧ (State.resolve s k).clk = s.clk ∧ (State.resolve s k).otp = s.otp ∧ (State.resolve s k).mem = s.mem := by
  unfold State.resolve
  dsimp only
  (repeat' split) <;> simp [*]

@[simp] theorem State.resolveDir_keep (s : State) : (State.resolveDir s).pending = s.pending ∧ (State.resolveDir s).clk = s.clk ∧ (State.resolveDir s).otp = s.otp ∧ (State.resolveDir s).mem = s.mem := by
  simp [State.resolveDir, apply_ite State.pending, apply_ite State.clk, apply_ite State.otp, apply_ite State.mem]

@[simp] theorem State.restoreEnergy_keep (s : State) (i : Fin 2) : (State.restoreEnergy s i).pending = s.pending ∧ (State.restoreEnergy s i).clk = s.clk ∧ (State.restoreEnergy s i).otp = s.otp ∧ (State.restoreEnergy s i).mem = s.mem := by
  simp [State.restoreEnergy, apply_ite State.pending, apply_ite State.clk, apply_ite State.otp, apply_ite State.mem]

@[simp] theorem State.checkMarker_keep (s : State) : (State.checkMarker s).pending = s.pending ∧ (State.checkMarker s).clk = s.clk ∧ (State.checkMarker s).otp = s.otp ∧ (State.checkMarker s).mem = s.mem := by
  simp [State.checkMarker, apply_ite State.pending, apply_ite State.clk, apply_ite State.otp, apply_ite State.mem]

@[simp] theorem State.reportWatchdog_keep (s : State) : (State.reportWatchdog s).pending = s.pending ∧ (State.reportWatchdog s).clk = s.clk ∧ (State.reportWatchdog s).otp = s.otp ∧ (State.reportWatchdog s).mem = s.mem := by
  unfold State.reportWatchdog
  dsimp only
  (repeat' split) <;> simp [*]

@[simp] theorem State.recallAll_keep (s : State) : (State.recallAll s).pending = s.pending ∧ (State.recallAll s).clk = s.clk ∧ (State.recallAll s).otp = s.otp := by
  simp [State.recallAll]

@[simp] theorem State.recallAll_wf (s : State) (h_ : Memory.wf s.mem = true) : Memory.wf s.recallAll.mem = true := by
  unfold State.recallAll
  dsimp only
  simp only [State.rec__keep, State.draw_keep, State.modNv_keep]
  rw [foldl_mem _ (fun s a => (State.resolve_keep s a).2.2.2)]
  simp only [State.checkMarker_keep]
  apply State.count_wf
  exact foldl_wf _ (fun s k h => by simpa using wf_ctrReconcile _ h k) _ _ (by simp [h_])

@[simp] theorem State.step3_keep (s : State) : (State.step3 s).pending = s.pending ∧ (State.step3 s).clk = s.clk ∧ (State.step3 s).otp = s.otp := by
  simp [State.step3]

@[simp] theorem State.step3_wf (s : State) (h_ : Memory.wf s.mem = true) : Memory.wf (State.step3 s).mem = true := by
  simp [State.step3, h_]

@[simp] theorem State.compTest_keep (s : State) (comp : List (PairId × Nat × Nat)) (p : PairId) : (State.compTest s comp p).pending = s.pending ∧ (State.compTest s comp p).clk = s.clk ∧ (State.compTest s comp p).otp = s.otp ∧ (State.compTest s comp p).mem = s.mem := by
  unfold State.compTest
  (repeat' split) <;> simp

@[simp] theorem State.startMarches_keep (s : State) (l : List (BankId × MarchOutcome)) (b : BankId) : (State.startMarches s l b).pending = s.pending ∧ (State.startMarches s l b).clk = s.clk ∧ (State.startMarches s l b).otp = s.otp := by
  simp [State.startMarches, apply_ite State.pending, apply_ite State.clk, apply_ite State.otp]

@[simp] theorem State.startMarches_wf (s : State) (l : List (BankId × MarchOutcome)) (b : BankId) (h_ : Memory.wf s.mem = true) : Memory.wf (s.startMarches l b).mem = true := by
  unfold State.startMarches
  dsimp only
  split
  · simp [h_]
  · exact State.marchEnd_wf _ _ _ (foldl_wf _ (fun s x h => State.marchEnd_wf s b x.2 h) _ _ (by simp [h_]))

@[simp] theorem State.recFailed_keep (s : State) (b : BankId) : (State.recFailed s b).pending = s.pending ∧ (State.recFailed s b).clk = s.clk ∧ (State.recFailed s b).otp = s.otp ∧ (State.recFailed s b).mem = s.mem := by
  simp [State.recFailed, apply_ite State.pending, apply_ite State.clk, apply_ite State.otp, apply_ite State.mem]

@[simp] theorem State.tests_keep (s : State) (marches : List (BankId × MarchOutcome)) (comp : List (PairId × Nat × Nat)) : (State.tests s marches comp).pending = s.pending ∧ (State.tests s marches comp).clk = s.clk ∧ (State.tests s marches comp).otp = s.otp := by
  simp [State.tests]

@[simp] theorem State.tests_wf (s : State) (marches : List (BankId × MarchOutcome)) (comp : List (PairId × Nat × Nat)) (h_ : Memory.wf s.mem = true) : Memory.wf (State.tests s marches comp).mem = true := by
  simp +contextual [State.tests, h_]

@[simp] theorem State.enterRecovery_keep (s : State) (cause : Nat) : (State.enterRecovery s cause).pending = s.pending ∧ (State.enterRecovery s cause).clk = s.clk ∧ (State.enterRecovery s cause).otp = s.otp ∧ (State.enterRecovery s cause).mem = s.mem := by
  simp [State.enterRecovery]

@[simp] theorem State.fallback_keep (s : State) (cause : Nat) : (State.fallback s cause).pending = s.pending ∧ (State.fallback s cause).clk = s.clk ∧ (State.fallback s cause).otp = s.otp ∧ (State.fallback s cause).mem = s.mem := by
  simp [State.fallback]

@[simp] theorem State.chooseFw_keep (s : State) (recover : Bool) : (State.chooseFw s recover).pending = s.pending ∧ (State.chooseFw s recover).clk = s.clk ∧ (State.chooseFw s recover).otp = s.otp ∧ (State.chooseFw s recover).mem = s.mem := by
  simp [State.chooseFw, apply_ite State.pending, apply_ite State.clk, apply_ite State.otp, apply_ite State.mem]

@[simp] theorem State.loadGaffer_keep (s : State) : (State.loadGaffer s).pending = s.pending ∧ (State.loadGaffer s).clk = s.clk ∧ (State.loadGaffer s).otp = s.otp := by
  unfold State.loadGaffer
  dsimp only
  (repeat' split) <;> simp [*]

@[simp] theorem State.loadGaffer_wf (s : State) (h_ : Memory.wf s.mem = true) : Memory.wf (State.loadGaffer s).mem = true := by
  unfold State.loadGaffer
  dsimp only
  (repeat' split) <;> simp [*]

@[simp] theorem State.step7_keep (s : State) (recover : Bool) : (State.step7 s recover).pending = s.pending ∧ (State.step7 s recover).clk = s.clk ∧ (State.step7 s recover).otp = s.otp := by
  simp [State.step7, apply_ite State.pending, apply_ite State.clk, apply_ite State.otp]

@[simp] theorem State.step7_wf (s : State) (recover : Bool) (h_ : Memory.wf s.mem = true) : Memory.wf (State.step7 s recover).mem = true := by
  simp [State.step7, h_, apply_ite State.mem, apply_ite Memory.wf]

@[simp] theorem State.restoreDefaults_keep (s : State) : (State.restoreDefaults s).pending = s.pending ∧ (State.restoreDefaults s).clk = s.clk ∧ (State.restoreDefaults s).otp = s.otp ∧ (State.restoreDefaults s).mem = s.mem := by
  simp [State.restoreDefaults]

@[simp] theorem State.applyMark_keep (s : State) : (State.applyMark s).pending = s.pending ∧ (State.applyMark s).clk = s.clk ∧ (State.applyMark s).otp = s.otp ∧ (State.applyMark s).mem = s.mem := by
  simp [State.applyMark, apply_ite State.pending, apply_ite State.clk, apply_ite State.otp, apply_ite State.mem]

@[simp] theorem State.applyFormat_keep (s : State) : (State.applyFormat s).pending = s.pending ∧ (State.applyFormat s).clk = s.clk ∧ (State.applyFormat s).otp = s.otp ∧ (State.applyFormat s).mem = s.mem := by
  simp [State.applyFormat, apply_ite State.pending, apply_ite State.clk, apply_ite State.otp, apply_ite State.mem]

@[simp] theorem State.bringUp_keep (s : State) : (State.bringUp s).pending = s.pending ∧ (State.bringUp s).clk = s.clk ∧ (State.bringUp s).otp = s.otp ∧ (State.bringUp s).mem = s.mem := by
  simp [State.bringUp, apply_ite State.pending, apply_ite State.clk, apply_ite State.otp, apply_ite State.mem]

@[simp] theorem State.recLostEdit_keep (s : State) : (State.recLostEdit s).pending = s.pending ∧ (State.recLostEdit s).clk = s.clk ∧ (State.recLostEdit s).otp = s.otp ∧ (State.recLostEdit s).mem = s.mem := by
  unfold State.recLostEdit
  (repeat' split) <;> simp

@[simp] theorem State.step9_keep (s : State) : (State.step9 s).pending = s.pending ∧ (State.step9 s).clk = s.clk := by
  simp [State.step9, apply_ite State.pending, apply_ite State.clk]

@[simp] theorem State.step9_bit (s : State) (i_ : Nat) (h_ : s.otp.getLsbD i_ = true) : (State.step9 s).otp.getLsbD i_ = true := by
  unfold State.step9
  dsimp only
  (repeat' split) <;> simp [*]

@[simp] theorem State.step9_wf (s : State) (h_ : Memory.wf s.mem = true) : Memory.wf (State.step9 s).mem = true := by
  simp [State.step9, h_, apply_ite State.mem, apply_ite Memory.wf]

@[simp] theorem State.steps89_keep (s : State) : (State.steps89 s).pending = s.pending ∧ (State.steps89 s).clk = s.clk := by
  simp [State.steps89]

@[simp] theorem State.steps89_bit (s : State) (i_ : Nat) (h_ : s.otp.getLsbD i_ = true) : (State.steps89 s).otp.getLsbD i_ = true := by
  simp [State.steps89, h_]

@[simp] theorem State.steps89_wf (s : State) (h_ : Memory.wf s.mem = true) : Memory.wf s.steps89.mem = true := by
  unfold State.steps89
  dsimp only
  simp only [State.modPwr_keep, State.gateIdle_keep]
  apply State.step9_wf
  simp only [State.bringUp_keep, State.applyFormat_keep, State.applyMark_keep]
  exact foldl_wf _ (fun s n h => State.loadCb_wf s n h) _ _ h_

@[simp] theorem opStartStep2_keep (recover : Bool) (marches : List (BankId × MarchOutcome)) (comp : List (PairId × Nat × Nat)) (s : State) : (opStartStep2 recover marches comp s).pending = s.pending ∧ (opStartStep2 recover marches comp s).clk = s.clk := by
  simp [opStartStep2, apply_ite State.pending, apply_ite State.clk]

@[simp] theorem opStartStep2_bit (recover : Bool) (marches : List (BankId × MarchOutcome)) (comp : List (PairId × Nat × Nat)) (s : State) (i_ : Nat) (h_ : s.otp.getLsbD i_ = true) : (opStartStep2 recover marches comp s).otp.getLsbD i_ = true := by
  unfold opStartStep2
  dsimp only
  (repeat' split) <;> simp [*]

@[simp] theorem opStartStep2_wf (recover : Bool) (marches : List (BankId × MarchOutcome)) (comp : List (PairId × Nat × Nat)) (s : State) (h_ : Memory.wf s.mem = true) : Memory.wf (opStartStep2 recover marches comp s).mem = true := by
  have H : Memory.wf ((s.step2.step3.tests marches comp).step7 recover).mem = true := by
    apply State.step7_wf; apply State.tests_wf; apply State.step3_wf; simpa using h_
  unfold opStartStep2
  split
  · exact h_
  · dsimp only; split
    · exact H
    · split
      · exact State.steps89_wf _ H
      · simp [H]

@[simp] theorem State.readKey_keep (s : State) : (State.readKey s).pending = s.pending ∧ (State.readKey s).clk = s.clk ∧ (State.readKey s).otp = s.otp ∧ (State.readKey s).mem = s.mem := by
  unfold State.readKey
  (repeat' split) <;> simp

@[simp] theorem State.serve_keep (s : State) : (State.serve s).pending = s.pending ∧ (State.serve s).clk = s.clk ∧ (State.serve s).otp = s.otp := by
  unfold State.serve
  dsimp only
  (repeat' split) <;> simp

@[simp] theorem State.serve_wf (s : State) (h_ : Memory.wf s.mem = true) : Memory.wf (State.serve s).mem = true := by
  unfold State.serve
  dsimp only
  (repeat' split) <;> simp [h_]

@[simp] theorem State.started10_keep (s : State) : (State.started10 s).pending = s.pending ∧ (State.started10 s).clk = s.clk ∧ (State.started10 s).otp = s.otp ∧ (State.started10 s).mem = s.mem := by
  simp [State.started10]

@[simp] theorem opStartStep10_keep (s : State) : (opStartStep10 s).pending = s.pending ∧ (opStartStep10 s).clk = s.clk ∧ (opStartStep10 s).otp = s.otp := by
  simp [opStartStep10, apply_ite State.pending, apply_ite State.clk, apply_ite State.otp]

@[simp] theorem opStartStep10_wf (s : State) (h_ : Memory.wf s.mem = true) : Memory.wf (opStartStep10 s).mem = true := by
  simp [opStartStep10, h_, apply_ite State.mem, apply_ite Memory.wf]

@[simp] theorem State.cancelled_keep (s : State) (cause : Nat) : (State.cancelled s cause).pending = s.pending ∧ (State.cancelled s cause).clk = s.clk ∧ (State.cancelled s cause).otp = s.otp ∧ (State.cancelled s cause).mem = s.mem := by
  simp [State.cancelled]

@[simp] theorem State.takeDigest_keep (s : State) (w : Nat) : (State.takeDigest s w).pending = s.pending ∧ (State.takeDigest s w).clk = s.clk ∧ (State.takeDigest s w).otp = s.otp ∧ (State.takeDigest s w).mem = s.mem := by
  simp [State.takeDigest, apply_ite State.pending, apply_ite State.clk, apply_ite State.otp, apply_ite State.mem]

@[simp] theorem State.takeDigests_keep (s : State) : (State.takeDigests s).pending = s.pending ∧ (State.takeDigests s).clk = s.clk ∧ (State.takeDigests s).otp = s.otp ∧ (State.takeDigests s).mem = s.mem := by
  simp [State.takeDigests, apply_ite State.pending, apply_ite State.clk, apply_ite State.otp, apply_ite State.mem]

@[simp] theorem State.stagedDue_keep (s : State) : (State.stagedDue s).pending = s.pending ∧ (State.stagedDue s).clk = s.clk ∧ (State.stagedDue s).otp = s.otp := by
  simp [State.stagedDue, apply_ite State.pending, apply_ite State.clk, apply_ite State.otp]

@[simp] theorem State.stagedDue_wf (s : State) (h_ : Memory.wf s.mem = true) : Memory.wf (State.stagedDue s).mem = true := by
  simp +contextual [State.stagedDue, h_, apply_ite State.mem, apply_ite Memory.wf]

@[simp] theorem State.parDue_keep (s : State) (t : Fin 3) : (State.parDue s t).pending = s.pending ∧ (State.parDue s t).clk = s.clk := by
  simp [State.parDue, apply_ite State.pending, apply_ite State.clk]

@[simp] theorem State.parDue_bit (s : State) (t : Fin 3) (i_ : Nat) (h_ : s.otp.getLsbD i_ = true) : (State.parDue s t).otp.getLsbD i_ = true := by
  unfold State.parDue
  dsimp only
  (repeat' split) <;> simp [*]

@[simp] theorem State.parDue_wf (s : State) (t : Fin 3) (h_ : Memory.wf s.mem = true) : Memory.wf (State.parDue s t).mem = true := by
  simp [State.parDue, h_, apply_ite State.mem, apply_ite Memory.wf]

@[simp] theorem State.boundaryDue_keep (s : State) : (State.boundaryDue s).pending = s.pending ∧ (State.boundaryDue s).clk = s.clk := by
  simp [State.boundaryDue]

@[simp] theorem State.boundaryDue_bit (s : State) (i_ : Nat) (h_ : s.otp.getLsbD i_ = true) : s.boundaryDue.otp.getLsbD i_ = true := by
  unfold State.boundaryDue
  exact foldl_bit _ _ (fun s a h => State.parDue_bit s a i_ h) _ _ (by simpa using h_)

@[simp] theorem State.boundaryDue_wf (s : State) (h_ : Memory.wf s.mem = true) : Memory.wf (State.boundaryDue s).mem = true := by
  simp +contextual [State.boundaryDue, h_]

@[simp] theorem opActivationBoundary_keep (s : State) : (opActivationBoundary s).pending = s.pending ∧ (opActivationBoundary s).clk = s.clk := by
  simp [opActivationBoundary, apply_ite State.pending, apply_ite State.clk]

@[simp] theorem opActivationBoundary_bit (s : State) (i_ : Nat) (h_ : s.otp.getLsbD i_ = true) : (opActivationBoundary s).otp.getLsbD i_ = true := by
  unfold opActivationBoundary
  split
  · exact State.asLead_bit _ _ _ (fun s h => by simp [h]) h_
  · simp [h_]

@[simp] theorem opActivationBoundary_wf (s : State) (h_ : Memory.wf s.mem = true) : Memory.wf (opActivationBoundary s).mem = true := by
  unfold opActivationBoundary
  split
  · exact State.asLead_wf _ _ (fun s h => by simp [h]) h_
  · simp [h_]

@[simp] theorem State.restartBegins_keep (s : State) : (State.restartBegins s).pending = s.pending ∧ (State.restartBegins s).clk = s.clk ∧ (State.restartBegins s).otp = s.otp ∧ (State.restartBegins s).mem = s.mem := by
  simp [State.restartBegins, apply_ite State.pending, apply_ite State.clk, apply_ite State.otp, apply_ite State.mem]

@[simp] theorem State.restartEnds_keep (s : State) : (State.restartEnds s).pending = s.pending ∧ (State.restartEnds s).clk = s.clk ∧ (State.restartEnds s).otp = s.otp := by
  simp [State.restartEnds]

@[simp] theorem State.restartEnds_wf (s : State) (h_ : Memory.wf s.mem = true) : Memory.wf (State.restartEnds s).mem = true := by
  simp [State.restartEnds, h_]

@[simp] theorem opGafferRestart_keep (s : State) : (opGafferRestart s).pending = s.pending ∧ (opGafferRestart s).clk = s.clk ∧ (opGafferRestart s).otp = s.otp := by
  unfold opGafferRestart
  (repeat' split) <;> simp

@[simp] theorem opGafferRestart_wf (s : State) (h_ : Memory.wf s.mem = true) : Memory.wf (opGafferRestart s).mem = true := by
  unfold opGafferRestart
  (repeat' split) <;> simp [h_]

@[simp] theorem opAutoConfirm_keep (s : State) : (opAutoConfirm s).pending = s.pending ∧ (opAutoConfirm s).clk = s.clk ∧ (opAutoConfirm s).mem = s.mem := by
  unfold opAutoConfirm
  (repeat' split) <;> simp

@[simp] theorem opAutoConfirm_bit (s : State) (i_ : Nat) (h_ : s.otp.getLsbD i_ = true) : (opAutoConfirm s).otp.getLsbD i_ = true := by
  unfold opAutoConfirm
  (repeat' split) <;> simp [h_]

@[simp] theorem opFiltered_keep (c : Ch) (samples : List Nat) (s : State) : (opFiltered c samples s).pending = s.pending ∧ (opFiltered c samples s).clk = s.clk ∧ (opFiltered c samples s).otp = s.otp ∧ (opFiltered c samples s).mem = s.mem := by
  simp [opFiltered, apply_ite State.pending, apply_ite State.clk, apply_ite State.otp, apply_ite State.mem]

@[simp] theorem opNoSignal_keep (c : Ch) (s : State) : (opNoSignal c s).pending = s.pending ∧ (opNoSignal c s).clk = s.clk ∧ (opNoSignal c s).otp = s.otp ∧ (opNoSignal c s).mem = s.mem := by
  simp [opNoSignal, apply_ite State.pending, apply_ite State.clk, apply_ite State.otp, apply_ite State.mem]

@[simp] theorem opModeChanged_keep (c : Ch) (s : State) : (opModeChanged c s).pending = s.pending ∧ (opModeChanged c s).clk = s.clk ∧ (opModeChanged c s).otp = s.otp ∧ (opModeChanged c s).mem = s.mem := by
  simp [opModeChanged, apply_ite State.pending, apply_ite State.clk, apply_ite State.otp, apply_ite State.mem]

@[simp] theorem opWireBreak_keep (c : Ch) (ua : Nat) (n : Nat) (s : State) : (opWireBreak c ua n s).pending = s.pending ∧ (opWireBreak c ua n s).clk = s.clk ∧ (opWireBreak c ua n s).otp = s.otp ∧ (opWireBreak c ua n s).mem = s.mem := by
  simp [opWireBreak, apply_ite State.pending, apply_ite State.clk, apply_ite State.otp, apply_ite State.mem]

@[simp] theorem opWireRestored_keep (c : Ch) (ua : Nat) (n : Nat) (s : State) : (opWireRestored c ua n s).pending = s.pending ∧ (opWireRestored c ua n s).clk = s.clk ∧ (opWireRestored c ua n s).otp = s.otp ∧ (opWireRestored c ua n s).mem = s.mem := by
  simp [opWireRestored, apply_ite State.pending, apply_ite State.clk, apply_ite State.otp, apply_ite State.mem]

@[simp] theorem opOverload_keep (c : Ch) (ma : Nat) (n : Nat) (s : State) : (opOverload c ma n s).pending = s.pending ∧ (opOverload c ma n s).clk = s.clk ∧ (opOverload c ma n s).otp = s.otp ∧ (opOverload c ma n s).mem = s.mem := by
  simp [opOverload, apply_ite State.pending, apply_ite State.clk, apply_ite State.otp, apply_ite State.mem]

@[simp] theorem opOverloadClear_keep (c : Ch) (n : Nat) (s : State) : (opOverloadClear c n s).pending = s.pending ∧ (opOverloadClear c n s).clk = s.clk ∧ (opOverloadClear c n s).otp = s.otp ∧ (opOverloadClear c n s).mem = s.mem := by
  simp [opOverloadClear, apply_ite State.pending, apply_ite State.clk, apply_ite State.otp, apply_ite State.mem]

@[simp] theorem opOpenWire_keep (c : Ch) (n : Nat) (s : State) : (opOpenWire c n s).pending = s.pending ∧ (opOpenWire c n s).clk = s.clk ∧ (opOpenWire c n s).otp = s.otp ∧ (opOpenWire c n s).mem = s.mem := by
  simp [opOpenWire, apply_ite State.pending, apply_ite State.clk, apply_ite State.otp, apply_ite State.mem]

@[simp] theorem opOpenWireClear_keep (c : Ch) (n : Nat) (s : State) : (opOpenWireClear c n s).pending = s.pending ∧ (opOpenWireClear c n s).clk = s.clk ∧ (opOpenWireClear c n s).otp = s.otp ∧ (opOpenWireClear c n s).mem = s.mem := by
  simp [opOpenWireClear, apply_ite State.pending, apply_ite State.clk, apply_ite State.otp, apply_ite State.mem]

@[simp] theorem opReadbackMismatch_keep (c : Ch) (pin : Bool) (n : Nat) (s : State) : (opReadbackMismatch c pin n s).pending = s.pending ∧ (opReadbackMismatch c pin n s).clk = s.clk ∧ (opReadbackMismatch c pin n s).otp = s.otp ∧ (opReadbackMismatch c pin n s).mem = s.mem := by
  simp [opReadbackMismatch, apply_ite State.pending, apply_ite State.clk, apply_ite State.otp, apply_ite State.mem]

@[simp] theorem opReadbackAgree_keep (c : Ch) (n : Nat) (s : State) : (opReadbackAgree c n s).pending = s.pending ∧ (opReadbackAgree c n s).clk = s.clk ∧ (opReadbackAgree c n s).otp = s.otp ∧ (opReadbackAgree c n s).mem = s.mem := by
  simp [opReadbackAgree, apply_ite State.pending, apply_ite State.clk, apply_ite State.otp, apply_ite State.mem]

@[simp] theorem opGroupOc_keep (g : Grp) (ma : Nat) (n : Nat) (s : State) : (opGroupOc g ma n s).pending = s.pending ∧ (opGroupOc g ma n s).clk = s.clk ∧ (opGroupOc g ma n s).otp = s.otp ∧ (opGroupOc g ma n s).mem = s.mem := by
  simp [opGroupOc, apply_ite State.pending, apply_ite State.clk, apply_ite State.otp, apply_ite State.mem]

@[simp] theorem opGroupOcEnd_keep (g : Grp) (s : State) : (opGroupOcEnd g s).pending = s.pending ∧ (opGroupOcEnd g s).clk = s.clk ∧ (opGroupOcEnd g s).otp = s.otp ∧ (opGroupOcEnd g s).mem = s.mem := by
  unfold opGroupOcEnd
  (repeat' split) <;> simp

@[simp] theorem opThermalShutdown_keep (c : Ch) (s : State) : (opThermalShutdown c s).pending = s.pending ∧ (opThermalShutdown c s).clk = s.clk ∧ (opThermalShutdown c s).otp = s.otp ∧ (opThermalShutdown c s).mem = s.mem := by
  simp [opThermalShutdown, apply_ite State.pending, apply_ite State.clk, apply_ite State.otp, apply_ite State.mem]

@[simp] theorem opThermalRestart_keep (c : Ch) (s : State) : (opThermalRestart c s).pending = s.pending ∧ (opThermalRestart c s).clk = s.clk ∧ (opThermalRestart c s).otp = s.otp := by
  simp [opThermalRestart, apply_ite State.pending, apply_ite State.clk, apply_ite State.otp]

@[simp] theorem opThermalRestart_wf (c : Ch) (s : State) (h_ : Memory.wf s.mem = true) : Memory.wf (opThermalRestart c s).mem = true := by
  simp [opThermalRestart, h_, apply_ite State.mem, apply_ite Memory.wf]

@[simp] theorem opLinkFault_keep (c : Ch) (down : Bool) (us : Nat) (s : State) : (opLinkFault c down us s).pending = s.pending ∧ (opLinkFault c down us s).clk = s.clk ∧ (opLinkFault c down us s).otp = s.otp ∧ (opLinkFault c down us s).mem = s.mem := by
  simp [opLinkFault, apply_ite State.pending, apply_ite State.clk, apply_ite State.otp, apply_ite State.mem]

@[simp] theorem opLinkRestored_keep (c : Ch) (down : Bool) (s : State) : (opLinkRestored c down s).pending = s.pending ∧ (opLinkRestored c down s).clk = s.clk ∧ (opLinkRestored c down s).otp = s.otp ∧ (opLinkRestored c down s).mem = s.mem := by
  simp [opLinkRestored, apply_ite State.pending, apply_ite State.clk, apply_ite State.otp, apply_ite State.mem]

@[simp] theorem opVfLow_keep (g : Grp) (mv : Nat) (s : State) : (opVfLow g mv s).pending = s.pending ∧ (opVfLow g mv s).clk = s.clk ∧ (opVfLow g mv s).otp = s.otp ∧ (opVfLow g mv s).mem = s.mem := by
  simp [opVfLow, apply_ite State.pending, apply_ite State.clk, apply_ite State.otp, apply_ite State.mem]

@[simp] theorem opVfRestored_keep (g : Grp) (mv : Nat) (s : State) : (opVfRestored g mv s).pending = s.pending ∧ (opVfRestored g mv s).clk = s.clk ∧ (opVfRestored g mv s).otp = s.otp ∧ (opVfRestored g mv s).mem = s.mem := by
  simp [opVfRestored, apply_ite State.pending, apply_ite State.clk, apply_ite State.otp, apply_ite State.mem]

@[simp] theorem opLinkChange_keep (pt : Fin 4) (up : Bool) (speed : Nat) (s : State) : (opLinkChange pt up speed s).pending = s.pending ∧ (opLinkChange pt up speed s).clk = s.clk ∧ (opLinkChange pt up speed s).otp = s.otp ∧ (opLinkChange pt up speed s).mem = s.mem := by
  simp [opLinkChange, apply_ite State.pending, apply_ite State.clk, apply_ite State.otp, apply_ite State.mem]

@[simp] theorem opLanFault_keep (x : Fin 2) (lan : Fin 2) (s : State) : (opLanFault x lan s).pending = s.pending ∧ (opLanFault x lan s).clk = s.clk ∧ (opLanFault x lan s).otp = s.otp ∧ (opLanFault x lan s).mem = s.mem := by
  simp [opLanFault, apply_ite State.pending, apply_ite State.clk, apply_ite State.otp, apply_ite State.mem]

@[simp] theorem opLifecheck_keep (x : Fin 2) (s : State) : (opLifecheck x s).pending = s.pending ∧ (opLifecheck x s).clk = s.clk ∧ (opLifecheck x s).otp = s.otp ∧ (opLifecheck x s).mem = s.mem := by
  simp [opLifecheck, apply_ite State.pending, apply_ite State.clk, apply_ite State.otp, apply_ite State.mem]

@[simp] theorem opArpRequest_keep (f : Fin 4) (target : Word) (sender : Word) (s : State) : (opArpRequest f target sender s).pending = s.pending ∧ (opArpRequest f target sender s).clk = s.clk ∧ (opArpRequest f target sender s).otp = s.otp ∧ (opArpRequest f target sender s).mem = s.mem := by
  simp [opArpRequest, apply_ite State.pending, apply_ite State.clk, apply_ite State.otp, apply_ite State.mem]

@[simp] theorem opIcmpEcho_keep (f : Fin 4) (target : Word) (sender : Word) (data : List Byte) (s : State) : (opIcmpEcho f target sender data s).pending = s.pending ∧ (opIcmpEcho f target sender data s).clk = s.clk ∧ (opIcmpEcho f target sender data s).otp = s.otp ∧ (opIcmpEcho f target sender data s).mem = s.mem := by
  simp [opIcmpEcho, apply_ite State.pending, apply_ite State.clk, apply_ite State.otp, apply_ite State.mem]

@[simp] theorem State.authFails_keep (s : State) (tr : Nat) (phase : Nat) (cause : Nat) (inj : Bool) : (State.authFails s tr phase cause inj).pending = s.pending ∧ (State.authFails s tr phase cause inj).clk = s.clk ∧ (State.authFails s tr phase cause inj).otp = s.otp ∧ (State.authFails s tr phase cause inj).mem = s.mem := by
  simp [State.authFails]

@[simp] theorem State.reply_keep (s : State) (r : Req) (op : Nat) (ab : Option Abort) (body : List Byte) : (State.reply s r op ab body).pending = s.pending ∧ (State.reply s r op ab body).clk = s.clk ∧ (State.reply s r op ab body).otp = s.otp ∧ (State.reply s r op ab body).mem = s.mem := by
  simp [State.reply]

@[simp] theorem State.opens_keep (s : State) (r : Req) (sid : Word) (auth : Bool) (role : Nat) (last : Instr) : (State.opens s r sid auth role last).pending = s.pending ∧ (State.opens s r sid auth role last).clk = s.clk ∧ (State.opens s r sid auth role last).otp = s.otp ∧ (State.opens s r sid auth role last).mem = s.mem := by
  simp [State.opens]

@[simp] theorem State.openPlain_keep (s : State) (r : Req) (role : Nat) (i : Instr) : (State.openPlain s r role i).pending = s.pending ∧ (State.openPlain s r role i).clk = s.clk ∧ (State.openPlain s r role i).otp = s.otp ∧ (State.openPlain s r role i).mem = s.mem := by
  simp [State.openPlain, apply_ite State.pending, apply_ite State.clk, apply_ite State.otp, apply_ite State.mem]

@[simp] theorem State.openPhase1_keep (s : State) (r : Req) (role : Nat) (payload : List Byte) : (State.openPhase1 s r role payload).pending = s.pending ∧ (State.openPhase1 s r role payload).clk = s.clk ∧ (State.openPhase1 s r role payload).otp = s.otp ∧ (State.openPhase1 s r role payload).mem = s.mem := by
  simp [State.openPhase1, apply_ite State.pending, apply_ite State.clk, apply_ite State.otp, apply_ite State.mem]

@[simp] theorem State.openPhase2_keep (s : State) (r : Req) (h : HalfOpen) (payload : List Byte) (i : Instr) : (State.openPhase2 s r h payload i).pending = s.pending ∧ (State.openPhase2 s r h payload i).clk = s.clk ∧ (State.openPhase2 s r h payload i).otp = s.otp ∧ (State.openPhase2 s r h payload i).mem = s.mem := by
  unfold State.openPhase2
  dsimp only
  (repeat' split) <;> simp [*]

@[simp] theorem opBlockTimeout_keep (sid : Word) (s : State) : (opBlockTimeout sid s).pending = s.pending ∧ (opBlockTimeout sid s).clk = s.clk ∧ (opBlockTimeout sid s).otp = s.otp ∧ (opBlockTimeout sid s).mem = s.mem := by
  unfold opBlockTimeout
  (repeat' split) <;> simp

@[simp] theorem State.mdpExpire_keep (s : State) : (State.mdpExpire s).pending = s.pending ∧ (State.mdpExpire s).clk = s.clk ∧ (State.mdpExpire s).otp = s.otp ∧ (State.mdpExpire s).mem = s.mem := by
  simp [State.mdpExpire]

@[simp] theorem State.arrives_pending (s : State) (r : Req) (i : Instr) (k : State → State) (hf : ∀ s, (k s).pending = s.pending) : (s.arrives r i k).pending = s.pending := by
  unfold State.arrives; dsimp only; (repeat' split) <;> simp [hf]

@[simp] theorem State.arrives_clk (s : State) (r : Req) (i : Instr) (k : State → State) (hf : ∀ s, (k s).clk = s.clk) : (s.arrives r i k).clk = s.clk := by
  unfold State.arrives; dsimp only; (repeat' split) <;> simp [hf]

@[simp] theorem State.arrives_otp (s : State) (r : Req) (i : Instr) (k : State → State) (hf : ∀ s, (k s).otp = s.otp) : (s.arrives r i k).otp = s.otp := by
  unfold State.arrives; dsimp only; (repeat' split) <;> simp [hf]

@[simp] theorem State.arrives_mem (s : State) (r : Req) (i : Instr) (k : State → State) (hf : ∀ s, (k s).mem = s.mem) : (s.arrives r i k).mem = s.mem := by
  unfold State.arrives; dsimp only; (repeat' split) <;> simp [hf]

theorem State.arrives_rel (P : State → Prop) (s : State) (r : Req) (i : Instr) (k : State → State) (hk : ∀ s, P s → P (k s))
    (hd : ∀ s f, P s → P (s.modDict f)) (he : ∀ s, P s → P s.mdpExpire) (h_ : P s) : P (s.arrives r i k) := by
  have H : P (if r.origin = .usb then s.modDict fun d => { d with usbRx := [] } else s) := ite_rel P (hd _ _ h_) h_
  unfold State.arrives
  exact ite_rel P H (ite_rel P (hd _ _ H) (hk _ (he _ H)))

@[simp] theorem State.arrives_wf (s : State) (r : Req) (i : Instr) (k : State → State)
    (hf : ∀ s, Memory.wf s.mem = true → Memory.wf (k s).mem = true) (h_ : Memory.wf s.mem = true) : Memory.wf (s.arrives r i k).mem = true :=
  State.arrives_rel (fun s => Memory.wf s.mem = true) s r i k hf (fun _ _ h => h) (fun _ h => by simpa using h) h_

@[simp] theorem State.arrives_bit (s : State) (r : Req) (i : Instr) (k : State → State) (i_ : Nat)
    (hf : ∀ s, s.otp.getLsbD i_ = true → (k s).otp.getLsbD i_ = true) (h_ : s.otp.getLsbD i_ = true) : (s.arrives r i k).otp.getLsbD i_ = true :=
  State.arrives_rel (fun s => s.otp.getLsbD i_ = true) s r i k hf (fun _ _ h => h) (fun _ h => by simpa using h) h_

@[simp] theorem State.mdpBadTag_keep (s : State) : (State.mdpBadTag s).pending = s.pending ∧ (State.mdpBadTag s).clk = s.clk ∧ (State.mdpBadTag s).otp = s.otp ∧ (State.mdpBadTag s).mem = s.mem := by
  simp [State.mdpBadTag]

@[simp] theorem opSessionOpen_keep (r : Req) (mode role phase : Byte) (payload : List Byte) (s : State) : (opSessionOpen r mode role phase payload s).pending = s.pending ∧ (opSessionOpen r mode role phase payload s).clk = s.clk ∧ (opSessionOpen r mode role phase payload s).otp = s.otp ∧ (opSessionOpen r mode role phase payload s).mem = s.mem := by
  refine ⟨State.arrives_pending _ _ _ _ fun s => ?_, State.arrives_clk _ _ _ _ fun s => ?_, State.arrives_otp _ _ _ _ fun s => ?_, State.arrives_mem _ _ _ _ fun s => ?_⟩ <;>
    ((try dsimp only); (repeat' split) <;> simp)

@[simp] theorem State.noteGen_keep (s : State) (e : Ent) (idx : Nat) : (State.noteGen s e idx).pending = s.pending ∧ (State.noteGen s e idx).clk = s.clk ∧ (State.noteGen s e idx).otp = s.otp ∧ (State.noteGen s e idx).mem = s.mem := by
  unfold State.noteGen
  dsimp only
  (repeat' split) <;> simp [*]

@[simp] theorem State.readBlock_keep (s : State) (r : Req) (idx : Nat) (sub : Nat) (off : Nat) (n : Nat) : (State.readBlock s r idx sub off n).pending = s.pending ∧ (State.readBlock s r idx sub off n).clk = s.clk ∧ (State.readBlock s r idx sub off n).otp = s.otp ∧ (State.readBlock s r idx sub off n).mem = s.mem := by
  unfold State.readBlock
  dsimp only
  (repeat' split) <;> simp [*]

@[simp] theorem State.answerSum_keep (s : State) (r : Req) (op : Nat) (x3 : Abort ⊕ List Byte) : (State.answerSum s r op x3).pending = s.pending ∧ (State.answerSum s r op x3).clk = s.clk ∧ (State.answerSum s r op x3).otp = s.otp ∧ (State.answerSum s r op x3).mem = s.mem := by
  unfold State.answerSum
  (repeat' split) <;> simp

@[simp] theorem State.modSess_keep (s : State) (r : Req) (f : Session → Session) : (State.modSess s r f).pending = s.pending ∧ (State.modSess s r f).clk = s.clk ∧ (State.modSess s r f).otp = s.otp ∧ (State.modSess s r f).mem = s.mem := by
  simp [State.modSess]

@[simp] theorem State.blockParison_keep (s : State) (r : Req) (f : Xfer) (t : Fin 3) (off : Nat) (data : List Byte) (i : Instr) : (State.blockParison s r f t off data i).pending = s.pending ∧ (State.blockParison s r f t off data i).clk = s.clk ∧ (State.blockParison s r f t off data i).otp = s.otp ∧ (State.blockParison s r f t off data i).mem = s.mem := by
  simp [State.blockParison, apply_ite State.pending, apply_ite State.clk, apply_ite State.otp, apply_ite State.mem]

@[simp] theorem State.blockEntry_keep (s : State) (r : Req) (x : Session) (f : Xfer) (off : Nat) (data : List Byte) : (State.blockEntry s r x f off data).pending = s.pending ∧ (State.blockEntry s r x f off data).clk = s.clk := by
  simp [State.blockEntry, apply_ite State.pending, apply_ite State.clk]

@[simp] theorem State.blockEntry_bit (s : State) (r : Req) (x : Session) (f : Xfer) (off : Nat) (data : List Byte) (i_ : Nat) (h_ : s.otp.getLsbD i_ = true) : (State.blockEntry s r x f off data).otp.getLsbD i_ = true := by
  unfold State.blockEntry
  dsimp only
  (repeat' split) <;> simp [*]

@[simp] theorem State.blockEntry_wf (s : State) (r : Req) (x : Session) (f : Xfer) (off : Nat) (data : List Byte) (h_ : Memory.wf s.mem = true) : Memory.wf (State.blockEntry s r x f off data).mem = true := by
  simp [State.blockEntry, h_, apply_ite State.mem, apply_ite Memory.wf]

@[simp] theorem State.writeBlock_keep (s : State) (r : Req) (x : Session) (idx : Nat) (sub : Nat) (off : Nat) (total : Nat) (data : List Byte) (i : Instr) : (State.writeBlock s r x idx sub off total data i).pending = s.pending ∧ (State.writeBlock s r x idx sub off total data i).clk = s.clk := by
  unfold State.writeBlock
  (repeat' split) <;> simp

@[simp] theorem State.writeBlock_bit (s : State) (r : Req) (x : Session) (idx : Nat) (sub : Nat) (off : Nat) (total : Nat) (data : List Byte) (i : Instr) (i_ : Nat) (h_ : s.otp.getLsbD i_ = true) : (State.writeBlock s r x idx sub off total data i).otp.getLsbD i_ = true := by
  unfold State.writeBlock
  (repeat' split) <;> simp [h_]

@[simp] theorem State.writeBlock_wf (s : State) (r : Req) (x : Session) (idx : Nat) (sub : Nat) (off : Nat) (total : Nat) (data : List Byte) (i : Instr) (h_ : Memory.wf s.mem = true) : Memory.wf (State.writeBlock s r x idx sub off total data i).mem = true := by
  unfold State.writeBlock
  (repeat' split) <;> simp [h_]

@[simp] theorem State.abortXfer_keep (s : State) (r : Req) (idx : Nat) (sub : Nat) : (State.abortXfer s r idx sub).pending = s.pending ∧ (State.abortXfer s r idx sub).clk = s.clk ∧ (State.abortXfer s r idx sub).otp = s.otp ∧ (State.abortXfer s r idx sub).mem = s.mem := by
  simp [State.abortXfer]

@[simp] theorem State.measured_keep (s : State) (idx : Nat) : (State.measured s idx).pending = s.pending ∧ (State.measured s idx).clk = s.clk ∧ (State.measured s idx).otp = s.otp ∧ (State.measured s idx).mem = s.mem := by
  simp [State.measured, apply_ite State.pending, apply_ite State.clk, apply_ite State.otp, apply_ite State.mem]

@[simp] theorem State.execute_keep (s : State) (r : Req) (x : Session) (i : Instr) : (State.execute s r x i).pending = s.pending ∧ (State.execute s r x i).clk = s.clk := by
  unfold State.execute
  (repeat' split) <;> simp

@[simp] theorem State.execute_bit (s : State) (r : Req) (x : Session) (i : Instr) (i_ : Nat) (h_ : s.otp.getLsbD i_ = true) : (State.execute s r x i).otp.getLsbD i_ = true := by
  unfold State.execute
  (repeat' split) <;> simp [h_]

@[simp] theorem State.execute_wf (s : State) (r : Req) (x : Session) (i : Instr) (h_ : Memory.wf s.mem = true) : Memory.wf (State.execute s r x i).mem = true := by
  unfold State.execute
  (repeat' split) <;> simp [h_]

@[simp] theorem State.onSession_keep (s : State) (r : Req) (x : Session) (i : Instr) : (State.onSession s r x i).pending = s.pending ∧ (State.onSession s r x i).clk = s.clk := by
  unfold State.onSession
  (repeat' split) <;> simp

@[simp] theorem State.onSession_bit (s : State) (r : Req) (x : Session) (i : Instr) (i_ : Nat) (h_ : s.otp.getLsbD i_ = true) : (State.onSession s r x i).otp.getLsbD i_ = true := by
  unfold State.onSession
  (repeat' split) <;> simp [h_]

@[simp] theorem State.onSession_wf (s : State) (r : Req) (x : Session) (i : Instr) (h_ : Memory.wf s.mem = true) : Memory.wf (State.onSession s r x i).mem = true := by
  unfold State.onSession
  (repeat' split) <;> simp [h_]

@[simp] theorem opRequest_keep (r : Req) (i : Instr) (s : State) : (opRequest r i s).pending = s.pending ∧ (opRequest r i s).clk = s.clk := by
  refine ⟨State.arrives_pending _ _ _ _ fun s => ?_, State.arrives_clk _ _ _ _ fun s => ?_⟩ <;>
    (split <;> simp)

@[simp] theorem opRequest_bit (r : Req) (i : Instr) (s : State) (i_ : Nat) (h_ : s.otp.getLsbD i_ = true) : (opRequest r i s).otp.getLsbD i_ = true := by
  refine State.arrives_bit _ _ _ _ _ (fun s h => ?_) h_
  split <;> simp [h]

@[simp] theorem opRequest_wf (r : Req) (i : Instr) (s : State) (h_ : Memory.wf s.mem = true) : Memory.wf (opRequest r i s).mem = true := by
  refine State.arrives_wf _ _ _ _ (fun s h => ?_) h_
  split <;> simp [h]

@[simp] theorem opCommandWrite_keep (r : Req) (idx : Nat) (sub : Nat) (ty : Nat) (n : Nat) (len : Nat) (s : State) : (opCommandWrite r idx sub ty n len s).pending = s.pending ∧ (opCommandWrite r idx sub ty n len s).clk = s.clk := by
  simp [opCommandWrite]

@[simp] theorem opCommandWrite_bit (r : Req) (idx : Nat) (sub : Nat) (ty : Nat) (n : Nat) (len : Nat) (s : State) (i_ : Nat) (h_ : s.otp.getLsbD i_ = true) : (opCommandWrite r idx sub ty n len s).otp.getLsbD i_ = true := by
  simp [opCommandWrite, h_]

@[simp] theorem opCommandWrite_wf (r : Req) (idx : Nat) (sub : Nat) (ty : Nat) (n : Nat) (len : Nat) (s : State) (h_ : Memory.wf s.mem = true) : Memory.wf (opCommandWrite r idx sub ty n len s).mem = true := by
  simp [opCommandWrite, h_]

@[simp] theorem opCommand8_keep (r : Req) (idx : Nat) (sub : Nat) (n : Nat) (s : State) : (opCommand8 r idx sub n s).pending = s.pending ∧ (opCommand8 r idx sub n s).clk = s.clk := by
  simp [opCommand8]

@[simp] theorem opCommand8_bit (r : Req) (idx : Nat) (sub : Nat) (n : Nat) (s : State) (i_ : Nat) (h_ : s.otp.getLsbD i_ = true) : (opCommand8 r idx sub n s).otp.getLsbD i_ = true := by
  simp [opCommand8, h_]

@[simp] theorem opCommand8_wf (r : Req) (idx : Nat) (sub : Nat) (n : Nat) (s : State) (h_ : Memory.wf s.mem = true) : Memory.wf (opCommand8 r idx sub n s).mem = true := by
  simp [opCommand8, h_]

@[simp] theorem opHalfOpenTimeout_keep (sid : Word) (s : State) : (opHalfOpenTimeout sid s).pending = s.pending ∧ (opHalfOpenTimeout sid s).clk = s.clk ∧ (opHalfOpenTimeout sid s).otp = s.otp ∧ (opHalfOpenTimeout sid s).mem = s.mem := by
  simp [opHalfOpenTimeout]

@[simp] theorem opSessionIdle_keep (sid : Word) (s : State) : (opSessionIdle sid s).pending = s.pending ∧ (opSessionIdle sid s).clk = s.clk ∧ (opSessionIdle sid s).otp = s.otp ∧ (opSessionIdle sid s).mem = s.mem := by
  simp [opSessionIdle]

@[simp] theorem opLockoutEnd_keep (tr : Nat) (s : State) : (opLockoutEnd tr s).pending = s.pending ∧ (opLockoutEnd tr s).clk = s.clk ∧ (opLockoutEnd tr s).otp = s.otp ∧ (opLockoutEnd tr s).mem = s.mem := by
  unfold opLockoutEnd
  (repeat' split) <;> simp

@[simp] theorem State.modAsm_keep (s : State) (c : Fin 2) (v : Option (Nat × List Byte × Nat)) : (State.modAsm s c v).pending = s.pending ∧ (State.modAsm s c v).clk = s.clk ∧ (State.modAsm s c v).otp = s.otp ∧ (State.modAsm s c v).mem = s.mem := by
  simp [State.modAsm]

@[simp] theorem opMdpCanFrame_keep (c : Fin 2) (ctl : Byte) (data : List Byte) (s : State) : (opMdpCanFrame c ctl data s).pending = s.pending ∧ (opMdpCanFrame c ctl data s).clk = s.clk ∧ (opMdpCanFrame c ctl data s).otp = s.otp ∧ (opMdpCanFrame c ctl data s).mem = s.mem := by
  unfold opMdpCanFrame
  dsimp only
  (repeat' split) <;> simp [*]

@[simp] theorem opAssemblyTimeout_keep (c : Fin 2) (s : State) : (opAssemblyTimeout c s).pending = s.pending ∧ (opAssemblyTimeout c s).clk = s.clk ∧ (opAssemblyTimeout c s).otp = s.otp ∧ (opAssemblyTimeout c s).mem = s.mem := by
  unfold opAssemblyTimeout
  (repeat' split) <;> simp

@[simp] theorem opUsbTimeout_keep (bytes : List Byte) (ms : Nat) (s : State) : (opUsbTimeout bytes ms s).pending = s.pending ∧ (opUsbTimeout bytes ms s).clk = s.clk ∧ (opUsbTimeout bytes ms s).otp = s.otp ∧ (opUsbTimeout bytes ms s).mem = s.mem := by
  simp [opUsbTimeout]

@[simp] theorem State.updateTaken_keep (s : State) : (State.updateTaken s).pending = s.pending ∧ (State.updateTaken s).clk = s.clk ∧ (State.updateTaken s).otp = s.otp ∧ (State.updateTaken s).mem = s.mem := by
  simp [State.updateTaken]

@[simp] theorem State.injHoldover_keep (s : State) : (State.injHoldover s).pending = s.pending ∧ (State.injHoldover s).clk = s.clk ∧ (State.injHoldover s).otp = s.otp ∧ (State.injHoldover s).mem = s.mem := by
  simp [State.injHoldover, apply_ite State.pending, apply_ite State.clk, apply_ite State.otp, apply_ite State.mem]

@[simp] theorem State.injPower_keep (s : State) : (State.injPower s).pending = s.pending ∧ (State.injPower s).clk = s.clk ∧ (State.injPower s).otp = s.otp := by
  simp [State.injPower, apply_ite State.pending, apply_ite State.clk, apply_ite State.otp]

@[simp] theorem State.injPower_wf (s : State) (h_ : Memory.wf s.mem = true) : Memory.wf (State.injPower s).mem = true := by
  simp [State.injPower, h_, apply_ite State.mem, apply_ite Memory.wf]

@[simp] theorem opSystemUpdate_keep (s : State) : (opSystemUpdate s).pending = s.pending ∧ (opSystemUpdate s).clk = s.clk ∧ (opSystemUpdate s).otp = s.otp := by
  simp [opSystemUpdate]

@[simp] theorem opSystemUpdate_wf (s : State) (h_ : Memory.wf s.mem = true) : Memory.wf (opSystemUpdate s).mem = true :=
  State.publish_wf _ _ (by simp [h_])

@[simp] theorem opTandemCycle_keep (s : State) : (opTandemCycle s).pending = s.pending ∧ (opTandemCycle s).clk = s.clk := by
  simp [opTandemCycle, apply_ite State.pending, apply_ite State.clk]

@[simp] theorem opTandemCycle_bit (s : State) (i_ : Nat) (h_ : s.otp.getLsbD i_ = true) : (opTandemCycle s).otp.getLsbD i_ = true := by
  unfold opTandemCycle
  dsimp only
  (repeat' split) <;> simp [*]

@[simp] theorem opTandemCycle_wf (s : State) (h_ : Memory.wf s.mem = true) : Memory.wf (opTandemCycle s).mem = true := by
  simp [opTandemCycle, h_, apply_ite State.mem, apply_ite Memory.wf]

@[simp] theorem opTrailCycleStart_keep (s : State) : (opTrailCycleStart s).pending = s.pending ∧ (opTrailCycleStart s).clk = s.clk := by
  simp [opTrailCycleStart, apply_ite State.pending, apply_ite State.clk]

@[simp] theorem opTrailCycleStart_bit (s : State) (i_ : Nat) (h_ : s.otp.getLsbD i_ = true) : (opTrailCycleStart s).otp.getLsbD i_ = true := by
  unfold opTrailCycleStart
  dsimp only
  (repeat' split) <;> simp [*]

@[simp] theorem opTrailCycleStart_wf (s : State) (h_ : Memory.wf s.mem = true) : Memory.wf (opTrailCycleStart s).mem = true := by
  simp [opTrailCycleStart, h_, apply_ite State.mem, apply_ite Memory.wf]

@[simp] theorem State.applyLines_keep (s : State) : (State.applyLines s).pending = s.pending ∧ (State.applyLines s).clk = s.clk ∧ (State.applyLines s).otp = s.otp ∧ (State.applyLines s).mem = s.mem := by
  simp [State.applyLines]

@[simp] theorem State.stallAll_keep (s : State) : (State.stallAll s).pending = s.pending ∧ (State.stallAll s).clk = s.clk ∧ (State.stallAll s).otp = s.otp ∧ (State.stallAll s).mem = s.mem := by
  simp [State.stallAll]

end Sys2Proof.Machine
end

