-- ==== Sys2Proof/Laws/Settle.lean ====
section
/-! SUPPORT. What follows from an operation that leaves the operating state alone: only the driven outputs are brought up to
date; and what a change of it can touch. -/

namespace Sys2Proof.Machine

open Sys2Proof Sys2Proof.Safety

theorem refreshOutputs_eq (s : State) : ∃ v : Vector FChan 32, s.refreshOutputs = { s with fld := { s.fld with ch := v } } := by
  unfold State.refreshOutputs
  generalize Vector.ofFn s.unlatch = a
  dsimp only [State.modFld]
  exact ⟨_, rfl⟩

/-- Bringing the outputs up to date changes the channels only. -/
theorem refreshOutputs_frame (s : State) :
    s.refreshOutputs = { s with fld := { s.fld with ch := s.refreshOutputs.fld.ch } } := by
  obtain ⟨v, h⟩ := refreshOutputs_eq s
  rw [h]

/-- Bringing the outputs up to date changes of a channel its latch of an overload, what it drives, and the switching
operations. -/
theorem refreshOutputs_ch (s : State) (c : Ch) :
    s.refreshOutputs.fld.ch[c] = { s.fld.ch[c] with
      ovl := s.refreshOutputs.fld.ch[c].ovl, latched := s.refreshOutputs.fld.ch[c].latched
      driven := s.refreshOutputs.fld.ch[c].driven, volSw := s.refreshOutputs.fld.ch[c].volSw } := by
  have h1 : ∃ w, s.refreshOutputs.fld.ch[c] = (s.unlatch c).drive w := by
    refine ⟨(s.modFld fun d => { d with ch := Vector.ofFn s.unlatch }).drivenWant c, ?_⟩
    simp [State.refreshOutputs, State.modFld]
  obtain ⟨w, h1⟩ := h1
  have h2 : ∃ a b, s.unlatch c = { s.fld.ch[c] with ovl := a, latched := b } := ⟨_, _, rfl⟩
  obtain ⟨a, b, h2⟩ := h2
  rw [h1, h2, FChan.drive]

/-- A unit that owes no FAILOVER keeps its role. -/
theorem failover_of_not {s : State} (h : s.op.failover = false) : s.failover = s := by
  have e : ∀ o : Op, o.failover = false → ({ o with failover := false } : Op) = o := by
    intro o ho; cases o; simp_all
  have e2 : s.modOp (fun o => { o with failover := false }) = s := by
    unfold State.modOp; dsimp only; rw [e _ h]
  unfold State.failover
  rw [h, e2]
  rfl

/-- An operation that leaves the operating state alone. -/
theorem settled_of_op {f : State → State} {s : State} (h : (f s).op = s.op) (hf : s.op.failover = false) :
    settled f s = (f s).refreshOutputs := by
  have h1 : (s.op.st != s.op.st) = false := by cases s.op.st <;> rfl
  have h2 : (s.op.key != 1 && s.op.key == 1) = false := by
    unfold bne; cases (s.op.key == 1) <;> rfl
  have hfo : (f s).failover = f s := failover_of_not (by rw [h]; exact hf)
  unfold settled State.settle
  simp only [h, h1, h2, Bool.false_and, when_, Bool.false_eq_true, if_false]
  exact congrArg State.refreshOutputs hfo

/-! ## A change of the operating state -/

/-- `t` differs from `s` in what an entry to or exit from RUN touches; of the contexts that is the registers and the port of cores
that lose their supply (R31). -/
def Touch (s t : State) : Prop :=
  t = { s with net := t.net, can := t.can, prog := t.prog, rcd := t.rcd, nrg := t.nrg, inj := t.inj, tdm := t.tdm, fld := t.fld, freeCtr := t.freeCtr
               core := t.core, ctx := t.ctx } ∧
  ∀ h, t.cx h = { s.cx h with regs := (t.cx h).regs, port := (t.cx h).port }
theorem Touch.of_eq {s t : State} (h : t = { s with net := t.net, can := t.can, prog := t.prog, rcd := t.rcd, nrg := t.nrg, inj := t.inj, tdm := t.tdm, fld := t.fld, freeCtr := t.freeCtr }) :
    Touch s t := by
  refine ⟨by rw [h], fun k => ?_⟩
  have : t.cx k = s.cx k := by rw [h]
  rw [this]
theorem Touch.refl (s : State) : Touch s s := .of_eq rfl
theorem Touch.trans {s t u : State} (h1 : Touch s t) (h2 : Touch t u) : Touch s u := by
  refine ⟨by rw [h2.1, h1.1], fun k => ?_⟩
  rw [h2.2, h1.2]

theorem touch_when {b f} {s : State} (h : Touch s (f s)) : Touch s (when_ b f s) := by
  unfold when_; split
  · exact h
  · exact Touch.refl s
theorem touch_foldl {α} (f : State → α → State) (h : ∀ s a, Touch s (f s a)) (l : List α) (s : State) : Touch s (l.foldl f s) := by
  induction l generalizing s with
  | nil => exact Touch.refl s
  | cons a r ih => exact (h s a).trans (ih _)
theorem touch_rec (s : State) (c a b d e : Nat) : Touch s (s.rec_ c a b d e) := .of_eq rfl
theorem touch_modNet (s : State) (f) : Touch s (s.modNet f) := .of_eq rfl
theorem touch_ite {c : Prop} [Decidable c] {s t u : State} (h1 : Touch s t) (h2 : Touch s u) : Touch s (if c then t else u) := by
  split <;> assumption
theorem touch_putFrame (s : State) (a b) : Touch s (s.putFrame a b) := by
  unfold State.putFrame; exact touch_foldl (fun s p => s.modNetPort p fun q => q.enqueue b) (fun _ _ => .of_eq rfl) _ _
theorem touch_sendCopy (s : State) (a b c) : Touch s (s.sendCopy a b c) := by
  have k2 : ∀ (u : State) (body : TxBody), Touch u (match body with
    | .goose p _ _ _ _ _ => if h : p < 64 then u.modNet fun x => { x with gpub := x.gpub.set p { x.gpub[p] with stNum := c.stNum, sqNum := c.sqNum } } else u
    | _ => u) := by
    intro u body
    split
    · split <;> exact .of_eq rfl
    · exact .of_eq rfl
  unfold State.sendCopy
  refine (touch_putFrame _ _ _).trans ((k2 _ _).trans (touch_ite (Touch.refl _) ?_))
  exact Touch.trans (t := State.modTdm _ _) (.of_eq rfl) (.of_eq rfl)
theorem touch_trailSend (s : State) (a b) : Touch s (s.trailSend a b) := by
  unfold State.trailSend; split
  · exact Touch.trans (t := s.modTdm _) (.of_eq rfl) (touch_sendCopy _ _ _ _)
  · exact .of_eq rfl
theorem touch_sendFrame (s : State) (a b c d) : Touch s (s.sendFrame a b c d) := by
  unfold State.sendFrame
  dsimp only
  split
  · split
    · exact touch_trailSend _ _ _
    · exact Touch.refl _
  · refine Touch.trans ?_ (touch_putFrame _ _ _)
    have k : Touch s (if s.pairMode (npair a) = 0 then s else s.modNetPair (npair a) fun p => { p with seq := p.seq + 1 }) :=
      touch_ite (Touch.refl _) (.of_eq rfl)
    exact k.trans (touch_ite (.of_eq rfl) (Touch.refl _))
theorem touch_sendGoose (s : State) (p) : Touch s (s.sendGoose p) := by
  unfold State.sendGoose
  exact (touch_sendFrame _ _ _ _ _).trans (touch_modNet _ _)
theorem touch_refreshPub (s : State) (p) : Touch s (s.refreshPub p) := .of_eq rfl
theorem touch_gooseChange (s : State) (p) : Touch s (s.gooseChange p) := by
  unfold State.gooseChange
  dsimp only
  refine touch_ite ?_ (touch_ite ?_ ?_)
  · exact (touch_modNet _ _).trans (touch_refreshPub _ _)
  · exact (touch_modNet _ _).trans (touch_refreshPub _ _)
  · exact (touch_modNet _ _).trans (touch_sendGoose _ _)
theorem touch_gooseState (s : State) (b) : Touch s (s.gooseState b) := by
  unfold State.gooseState
  split
  · apply touch_foldl
    intro s p
    dsimp only
    split
    · exact (touch_modNet _ _).trans (touch_gooseChange _ _)
    · exact touch_modNet _ _
  · exact Touch.refl _
theorem touch_gate (s : State) (n) : Touch s (s.gate n) := by
  have h1 : Touch s (s.modCore n fun c => { c with powered := false, clockOn := false }) := by
    refine ⟨rfl, fun k => ?_⟩
    have : (s.modCore n fun c => { c with powered := false, clockOn := false }).cx k = s.cx k := rfl
    rw [this]
  unfold State.gate
  dsimp only
  refine h1.trans (touch_foldl _ (fun u g => ⟨rfl, fun k => ?_⟩) _ _)
  by_cases e : k = g
  · subst e; rw [State.modCx_cx]
  · rw [State.modCx_cx_ne _ _ _ _ e]
theorem touch_gateIdle (s : State) : Touch s s.gateIdle := by
  unfold State.gateIdle
  exact touch_foldl _ (fun u n => touch_ite (touch_gate _ _) (Touch.refl _)) _ _
theorem touch_cancelEdit (s : State) (c) : Touch s (s.cancelEdit c) := by
  unfold State.cancelEdit; split
  · exact Touch.refl _
  · refine (Touch.trans ?_ (touch_gateIdle _)).trans (touch_rec _ _ _ _ _ _)
    exact .of_eq rfl
theorem touch_notRun (s : State) : Touch s s.notRun := by
  unfold State.notRun
  dsimp only
  have h : Touch s s.canStop := .of_eq rfl
  split
  · exact h.trans (touch_cancelEdit _ _)
  · exact h
theorem touch_endInj (s : State) : Touch s s.endInjections := by
  unfold State.endInjections
  dsimp only
  refine Touch.trans (t := { s with inj := (s.inj.map fun p => (p.1, { p.2 with st := 0 })).filter fun p => p.2 != ⟨0, 0, 0, 0⟩ }) (.of_eq rfl) ?_
  exact touch_foldl (fun s (p : Nat × Det) => s.rec_ 0xA011 srcGaffer p.1 1) (fun _ _ => .of_eq rfl) _ _
theorem touch_calAbort (s : State) (c) : Touch s (s.calAbort c) := by
  unfold State.calAbort; split
  · exact .of_eq rfl
  · exact Touch.refl _
theorem touch_keyRun (s : State) : Touch s s.keyRun := (touch_calAbort _ _).trans (touch_endInj _)
theorem touch_refresh (s : State) : Touch s s.refreshOutputs := by
  obtain ⟨v, h⟩ := refreshOutputs_eq s
  rw [h]
  exact .of_eq rfl
theorem touch_settle (s0 s : State) (h : s.op.failover = false) : Touch s (s0.settle s) := by
  unfold State.settle
  dsimp only
  refine Touch.trans ?_ (touch_refresh _)
  have k1 : Touch s (when_ (s0.op.st != s.op.st) (·.gooseState (s0.op.st == .run)) s) := touch_when (touch_gooseState _ _)
  revert k1
  generalize when_ (s0.op.st != s.op.st) (fun x => x.gooseState (s0.op.st == OpState.run)) s = u1
  intro k1
  have k2 : Touch s (when_ (s0.op.st != s.op.st && u1.op.st != .run) State.notRun u1) := k1.trans (touch_when (touch_notRun _))
  revert k2
  generalize when_ (s0.op.st != s.op.st && u1.op.st != .run) State.notRun u1 = u2
  intro k2
  have k3 : Touch s (when_ (s0.op.key != 1 && u2.op.key == 1) State.keyRun u2) := k2.trans (touch_when (touch_keyRun _))
  revert k3
  generalize when_ (s0.op.key != 1 && u2.op.key == 1) State.keyRun u2 = u3
  intro k3
  have k4 : Touch s (when_ (s0.op.st != s.op.st && u3.leadPaired) (fun s => s.tlCommand 0 0 (.key s.op.key s.op.st.code s.op.haltCause.toNat)) u3) :=
    k3.trans (touch_when (.of_eq rfl))
  revert k4
  generalize when_ (s0.op.st != s.op.st && u3.leadPaired) (fun s => s.tlCommand 0 0 (.key s.op.key s.op.st.code s.op.haltCause.toNat)) u3 = u4
  intro k4
  have : u4.op = s.op := by rw [k4.1]
  rw [failover_of_not (by rw [this]; exact h)]
  exact k4

end Sys2Proof.Machine
end

