-- ==== Sys2Proof/Laws/Request.lean ====
section
/-! SUPPORT. What an accepted command request does: the command of its entry, then the answer. -/

namespace Sys2Proof.Machine

open Sys2Proof Sys2Proof.Safety

/-- `t` differs from `s` in the dictionary server and the recorder. -/
def Aside (s t : State) : Prop := t = { s with dict := t.dict, rcd := t.rcd }
theorem Aside.trans {s t u : State} (h1 : Aside s t) (h2 : Aside t u) : Aside s u := by unfold Aside at *; rw [h2, h1]
theorem aside_foldl {α} (f : State → α → State) (h : ∀ s a, Aside s (f s a)) (l : List α) (s : State) : Aside s (l.foldl f s) := by
  induction l generalizing s with
  | nil => rfl
  | cons a r ih => exact (h s a).trans (ih _)
theorem aside_blockTimeout (s : State) (id) : Aside s (opBlockTimeout id s) := by
  unfold opBlockTimeout; split
  · split <;> rfl
  · rfl
theorem aside_closeWhere (s : State) (p c) : Aside s (s.closeWhere p c) := by
  unfold State.closeWhere
  exact Aside.trans (t := s.modDict _) rfl (aside_foldl (fun u (x : Session) => u.rec_ 0x1021 0x50 x.id.toNat c) (fun _ _ => rfl) _ _)

/-- Closing what is over leaves all but the dictionary server and the recorder. -/
theorem served_aside (s : State) (r : Req) : Aside s (served s r) := by
  unfold served State.mdpExpire
  have h : ∀ u : State, Aside u (u.mdpExpire) := by
    intro u
    unfold State.mdpExpire
    exact Aside.trans (Aside.trans (t := u.modDict _) rfl (aside_closeWhere _ _ _)) (aside_foldl _ (fun _ _ => aside_blockTimeout _ _) _ _)
  exact Aside.trans (t := if r.origin = .usb then s.modDict fun d => { d with usbRx := [] } else s) (by split <;> rfl) (h _)

/-- An answer changes the dictionary server and what frames touch. -/
theorem answer_touch (s : State) (r : Req) (op : Nat) (ab : Option Abort) (body : List Byte) :
    ∃ d, Touch { s with dict := d } (s.answer r op ab body) ∧ d.sent = some (mkResp r op ab body) ∧ d.vals = s.dict.vals := by
  unfold State.answer State.sendResp
  dsimp only
  generalize hu : ((s.modDict fun d => d.modSession r.session fun x => if x.seq = r.seq then { x with resp := some (mkResp r op ab body) } else x).modDict
    fun d => { d with sent := some (mkResp r op ab body), wire := _ }) = u
  have h1 : u = { s with dict := u.dict } := by rw [← hu]; rfl
  have h2 : u.dict.sent = some (mkResp r op ab body) := by rw [← hu]; rfl
  have h3 : u.dict.vals = s.dict.vals := by rw [← hu]; rfl
  refine ⟨u.dict, ?_, h2, h3⟩
  rw [← h1]
  split
  · exact touch_sendFrame _ _ _ _ _
  · unfold State.canMdp; exact touch_ite (.of_eq rfl) (Touch.refl _)
  · exact Touch.refl _

/-- What arrives on a serving unit, in a sound frame and well formed. -/
theorem arrives_ok {s : State} {r : Req} {i : Instr} {k : State → State} (h1 : s.listens r.origin = true) (h2 : usbSound r = true)
    (h3 : framed r i = true) : s.arrives r i k = k (served s r) := by
  have e : (if r.origin = .usb then s.modDict fun d => { d with usbRx := [] } else s).listens r.origin = true := by
    split
    · exact h1
    · exact h1
  unfold State.arrives served
  dsimp only
  rw [e, h2, h3]; rfl

/-- A request that is executed. -/
theorem opRequest_executes {s : State} {r : Req} {x : Session} {i : Instr} (h : Executes s r x i) :
    opRequest r i s = (taken s r i).execute r x i := by
  obtain ⟨h1, h2, h3, h4, h5, h6, h7⟩ := h
  unfold opRequest
  rw [arrives_ok h1 h2 h3, h4]
  dsimp only
  unfold State.onSession
  cases ha : x.auth with
  | true =>
    obtain ⟨h8, k, hk, hv⟩ := h6 ha
    have ht : tagFails x.keys r i = false := by rw [hk]; simp [tagFails, hv]
    rw [h8, ht, hk]
    simp only [Bool.not_true, Bool.or_self, Bool.and_false, Bool.false_eq_true, if_false, Bool.false_and, Option.isNone_some]
    rw [if_pos h5]; rfl
  | false =>
    have := h7 ha
    rw [this.1, this.2]
    simp only [Bool.not_false, Bool.not_true, Bool.and_false, Bool.false_and, Bool.false_eq_true, if_false]
    rw [if_pos h5]; rfl

/-- A write that passes every check runs the command of its entry. -/
theorem opRequest_accepted {s : State} {r : Req} {x : Session} {idx sub ty : Nat} {v : List Byte} (h : Accepted s r x idx sub ty v)
    (hi : idx < 65536) (hs : sub < 256) (ht : ty < 256) (hsrc : isSource idx sub = false) :
    opRequest r (writeOf r idx sub ty v) s = State.conclude
      ((taken s r (writeOf r idx sub ty v)).runCmd r x.role (fromUsb r.origin) (!x.auth) idx sub v) r 4 [] := by
  obtain ⟨h1, h2, h3, ⟨e, h4, h4'⟩, h5⟩ := h
  rw [opRequest_executes h1]
  have n1 : (BitVec.ofNat 16 idx).toNat = idx := by rw [BitVec.toNat_ofNat]; exact Nat.mod_eq_of_lt hi
  have n2 : (BitVec.ofNat 8 sub).toNat = sub := by rw [BitVec.toNat_ofNat]; exact Nat.mod_eq_of_lt hs
  have n3 : (BitVec.ofNat 8 ty).toNat = ty := by rw [BitVec.toNat_ofNat]; exact Nat.mod_eq_of_lt ht
  have hp : (taken s r (writeOf r idx sub ty v)).leadPaired = false := by
    have e : (taken s r (writeOf r idx sub ty v)).leadPaired = (served s r).leadPaired := rfl
    rw [e, served_aside s r]; exact h2
  have he : e.sub = sub := by
    unfold State.findEnt at h4
    dsimp only at h4
    split at h4
    · cases h4
    · split at h4
      · rename_i hz; cases h4; exact hz.symm
      · have := List.find?_some h4; simpa using this
  have hx : State.execute (taken s r (writeOf r idx sub ty v)) r x (writeOf r idx sub ty v) = State.conclude
      ((taken s r (writeOf r idx sub ty v)).doWrite r x.role (fromUsb r.origin) (!x.auth) (BitVec.ofNat 16 idx).toNat
        (BitVec.ofNat 8 sub).toNat (some (BitVec.ofNat 8 ty).toNat) v (writeOf r idx sub ty v)) r 4 [] := rfl
  rw [hx, n1, n2, n3]
  congr 1
  unfold State.doWrite
  dsimp only
  rw [h5]
  dsimp only
  have ha : (taken s r (writeOf r idx sub ty v)).admits ((taken s r (writeOf r idx sub ty v)).withVal idx sub v) idx sub =
      (taken s r (writeOf r idx sub ty v), none) := by
    unfold State.admits; rw [hsrc]; rfl
  rw [ha]
  dsimp only
  rw [hp, if_neg (by simp)]
  unfold State.perform
  rw [h4]
  dsimp only [Option.getD_some]
  rw [he, h3]
  dsimp only
  rw [if_pos h4']

/-- An accepted command that its unit carries out at once: it is answered with STATUS 0, and what it leaves is what the
command leaves but for the dictionary server and what frames and a change of the operating state touch. -/
theorem performs_of {c : Instr} {s : State} {r : Req} {idx sub ty : Nat} {v : List Byte} {p : State → Prop}
    (hc : exec c s = .next (settled (opRequest r (writeOf r idx sub ty v)) s))
    (hi : idx < 65536) (hs : sub < 256) (ht : ty < 256) (hsrc : isSource idx sub = false)
    (hcmd : ∀ x, Accepted s r x idx sub ty v → ∃ q, (taken s r (writeOf r idx sub ty v)).runCmd r x.role (fromUsb r.origin) (!x.auth) idx sub v = (q, .done) ∧
      q.op.failover = false ∧ ∀ d t, d.vals = q.dict.vals → Touch { q with dict := d } t → p t) : Performs c s r idx sub ty v p := by
  intro x hx
  obtain ⟨q, hq, hf, hp⟩ := hcmd x hx
  have h1 := opRequest_accepted hx hi hs ht hsrc
  rw [hq] at h1
  obtain ⟨d, h2, h3, h4⟩ := answer_touch q r 4 none []
  have h5 : State.conclude (q, .done) r 4 [] = q.answer r 4 none [] := rfl
  have h6 : (q.answer r 4 none []).op = q.op := by rw [h2.1]
  have h7 := touch_settle s (q.answer r 4 none []) (by rw [h6]; exact hf)
  have h8 := h2.trans h7
  refine ⟨_, hc, ?_⟩
  unfold settled
  rw [h1, h5]
  refine ⟨⟨mkResp r 4 none [], ?_, rfl, rfl, rfl, rfl, rfl, rfl⟩, hp d _ h4 h8⟩
  rw [h8.1]; exact h3

end Sys2Proof.Machine
end

