-- ==== Sys2Proof/WellFormed.lean ====
section
/-! DEFINITION. Well-formed commands: operands that the sender can really present. A command that is not well formed
still has its meaning; the checks say what the spec's own operands look like. -/

namespace Sys2Proof

/-- Whether a list holds `n` elements. -/
def hasLen {α : Type} (n : Nat) (l : List α) : Bool := l.length == n

/-- The pins of 32 channels and 4 groups. -/
def ScanPins.wf (p : ScanPins) : Bool := hasLen 32 p.inUa && hasLen 32 p.outMa && hasLen 4 p.vfMv

/-- A frame with 6-byte addresses. -/
def EthFrame.wf (f : EthFrame) : Bool := hasLen 6 f.dst && hasLen 6 f.src

/-- A CAN frame: an 11-bit identifier unless IDE is set, at most 64 bytes, at most 8 in a classical frame (R504). -/
def CanFrame.wf (f : CanFrame) : Bool :=
  (f.ide || decide (f.id.toNat < 2048)) && decide (f.data.length ≤ 64) && (f.fdf || decide (f.data.length ≤ 8))

/-- A sample of eight channels. -/
def Sample.wf (s : Sample) : Bool := hasLen 8 s.an

/-- Whether a command's operands have the form the spec gives them. -/
def Instr.wf : Instr → Bool
  | .fieldScan p => p.wf
  | .frameReceived _ f => f.wf
  | .canFrameReceived _ f => f.wf
  | .canWake _ (.frame f) => f.wf
  | .lineCycle _ l => l.all Sample.wf
  | .mdpCanFrame _ _ d => decide (d.length ≤ 63)
  | .provisionOwnerKey _ key => hasLen 97 key
  | .quoteNonce _ n => hasLen 32 n
  | .enum _ _ _ count => decide (count.toNat ≠ 0)
  | .startStep2 _ m _ => decide (m.length ≤ 11)
  | _ => true

end Sys2Proof
end

