-- ==== Sys2Proof/Tests/Slice0.lean ====
section
/-! SUPPORT. Small tests of the model on fixed values, and a witness for the hypotheses of each statement. -/

namespace Sys2Proof.Tests

set_option Elab.async false

open Sys2Proof.Machine Sys2Proof.Safety

/-! ## Well-formedness: an ill-formed term for each check -/

/-- A request from USB in session 0. -/
def req : Req := ⟨.usb, 0, 1, false, [], true, 20, true⟩

/-- A CAN data frame of `n` bytes. -/
def canOf (id : BitVec 29) (ide fdf : Bool) (n : Nat) : CanFrame := ⟨id, ide, fdf, false, false, false, 0, List.replicate n 0⟩

/-- An Ethernet frame with addresses of `n` and `m` bytes. -/
def ethOf (n m : Nat) : EthFrame := ⟨List.replicate n 0, List.replicate m 0, 0, 0, 0x800, [], 64, true, none⟩

theorem test_wf_scan_channels : (Instr.fieldScan ⟨[0], List.replicate 32 0, 0, [0, 0, 0, 0]⟩).wf = false := by decide
theorem test_wf_scan_outputs : (Instr.fieldScan ⟨List.replicate 32 0, [], 0, [0, 0, 0, 0]⟩).wf = false := by decide
theorem test_wf_scan_groups : (Instr.fieldScan ⟨List.replicate 32 0, List.replicate 32 0, 0, [0]⟩).wf = false := by decide
theorem test_wf_scan_good : (Instr.fieldScan ⟨List.replicate 32 0, List.replicate 32 0, 0, [0, 0, 0, 0]⟩).wf = true := by decide
theorem test_wf_eth_dst : (Instr.frameReceived 0 (ethOf 5 6)).wf = false := by decide
theorem test_wf_eth_src : (Instr.frameReceived 0 (ethOf 6 7)).wf = false := by decide
theorem test_wf_can_id : (Instr.canFrameReceived 0 (canOf 2048 false false 0)).wf = false := by decide
theorem test_wf_can_data : (Instr.canFrameReceived 0 (canOf 0 false true 65)).wf = false := by decide
theorem test_wf_can_classical : (Instr.canFrameReceived 0 (canOf 0 false false 9)).wf = false := by decide
theorem test_wf_can_good : (Instr.canFrameReceived 0 (canOf 2047 false false 8)).wf = true := by decide
theorem test_wf_wake : (Instr.canWake 0 (.frame (canOf 2048 false false 0))).wf = false := by decide
theorem test_wf_sample : (Instr.lineCycle 0 [⟨[1], 0⟩]).wf = false := by decide
theorem test_wf_mdp_can : (Instr.mdpCanFrame 0 0 (List.replicate 64 0)).wf = false := by decide
theorem test_wf_owner_key : (Instr.provisionOwnerKey req []).wf = false := by decide
theorem test_wf_nonce : (Instr.quoteNonce req []).wf = false := by decide
theorem test_wf_enum : (Instr.enum req 0 0 0).wf = false := by decide
theorem test_wf_marches : (Instr.startStep2 false (List.replicate 12 (0, .pass)) []).wf = false := by decide

/-! ## Instructions: witnesses -/

/-- Context 0 of core 0 runs and issues from its core bank. -/
def run : State := State.reset.modAct 0 fun a => { a with status := .ready }

/-- `run` with registers changed. -/
def runR (f : Regs → Regs) : State := run.modRegs 0 f

/-- `run` with g1 holding `x`. -/
def runG (x : Word) : State := runR fun r => r.put 1 x

/-- `run` in a paired activation. -/
def runP (f : Regs → Regs) : State := (runR f).modAct 0 fun a => { a with paired := true }

/-- AluResults, SumsAndDifferences, ImmediateResults, EndAndCommit, TrapAndUndefined. -/
theorem witness_issues : Issues run 0 ∧ (run.cx 0).act.paired = false ∧ (run.cx 0).regs.trapact = false := by unfold Issues CleanFetch; decide
theorem witness_BitFields : Issues run 0 ∧ 31 + ((0 : BitVec 5).toNat + 1) ≤ 32 ∧ 32 < 31 + ((1 : BitVec 5).toNat + 1) ∧
    (run.cx 0).regs.trapact = false := by unfold Issues CleanFetch; decide
theorem witness_LogicBits : Issues (runR fun r => { r with lstack := List.replicate 7 true }) 0 ∧
    Issues (runR fun r => { r with lstack := List.replicate 8 true }) 0 := by unfold Issues CleanFetch; decide
theorem witness_BranchesAndCalls : Issues run 0 ∧ condTrue (run.cx 0).regs 0 = true ∧ condTrue (run.cx 0).regs 1 = false ∧
    (run.cx 0).regs.rstack = [] ∧
    Issues (runR fun r => { r with rstack := List.replicate 15 4 }) 0 ∧
    Issues (runR fun r => { r with rstack := List.replicate 16 4 }) 0 ∧
    Issues (runR fun r => { r with rstack := List.replicate 16 4, rstrap := false }) 0 ∧
    (run.cx 0).regs.rstrap = true ∧ (run.cx 0).regs.trapact = false := by unfold Issues CleanFetch; decide

theorem witness_OwnBankLoads : let s := runG 0x7FFFC
    Issues s 0 ∧ ((s.cx 0).regs.get 1 + (0 : BitVec 16).signExtend 32).toNat = 0x7FFFC ∧ 0x7FFFC % 2 ^ (2 : BitVec 2).toNat = 0 ∧
    OwnWord s 0 0x7FFFC ∧ (∀ i ∈ s.pair[pairOf 0].items, i.ctx ≠ 0) ∧ (s.cx 0).regs.rstack.length < 16 := by
  unfold Issues CleanFetch OwnWord; decide
theorem witness_OwnBankLoads_full : let s := runR fun r => { r.put 1 8 with rstack := List.replicate 16 4 }
    Issues s 0 ∧ OwnWord s 0 8 ∧ (∀ i ∈ s.pair[pairOf 0].items, i.ctx ≠ 0) ∧ (s.cx 0).regs.rstack.length = 16 ∧
    (s.cx 0).regs.trapact = false := by unfold Issues CleanFetch OwnWord; decide
theorem witness_OwnBankStores : let s := runR fun r => { r.put 1 0x7FFFC with rstack := [4] ++ [8] }
    Issues s 0 ∧ Memory.wf s.mem = true ∧ (s.cx 0).act.paired = false ∧ OwnWord s 0 0x7FFFC ∧
    (∀ i ∈ s.pair[pairOf 0].items, i.ctx ≠ 0) := by unfold Issues CleanFetch OwnWord; decide
theorem witness_OwnBankStores_empty : let s := runG 0
    Issues s 0 ∧ Memory.wf s.mem = true ∧ (s.cx 0).act.paired = false ∧ OwnWord s 0 0 ∧ (s.cx 0).regs.rstack = [] ∧
    (s.cx 0).regs.trapact = false ∧ (∀ i ∈ s.pair[pairOf 0].items, i.ctx ≠ 0) := by unfold Issues CleanFetch OwnWord; decide
theorem witness_PairedStoreWaits : let s := runP fun r => r.put 1 0x10
    Issues s 0 ∧ (s.cx 0).act.paired = true ∧ ((s.cx 0).regs.get 1 + (0 : BitVec 16).signExtend 32).toNat % 2 ^ 2 = 0 ∧
    OwnWord s 0 0x10 := by unfold Issues CleanFetch OwnWord; decide
theorem witness_MisalignedAccessTraps : Issues (runG 1) 0 ∧ Issues (runG 2) 0 ∧ ((runG 2).cx 0).regs.trapact = false ∧
    1 % 2 ^ (1 : BitVec 2).toNat ≠ 0 ∧ 2 % 2 ^ (2 : BitVec 2).toNat ≠ 0 := by unfold Issues CleanFetch; decide
theorem witness_OtherAccessWaits : let s := runG 0x80000
    Issues s 0 ∧ (s.cx 0).act.paired = false ∧ ((s.cx 0).regs.get 1 + (0 : BitVec 16).signExtend 32).toNat / 0x80000 ≠ 0 := by
  unfold Issues CleanFetch; decide

/-- `run` with a transaction in flight since instant 0. -/
def runT (op : TxnOp) (size : BitVec 2) (clk : Nat) : State :=
  { run.modPort 0 fun p => { p with txn := some ⟨op, 0x021FFFFC, size, 7, false, 0, 0, 0, true⟩ } with clk := clk }

theorem witness_FabricResponses : ∀ s ∈ [runT (.load 1 false) 2 9, runT .store 2 9, runT (.aadd 1) 2 9, runT (.aswp 1) 2 2000],
    s.running 0 = true ∧ (s.cx 0).port.txn.isSome = true ∧ (s.cx 0).port.held = none ∧ (∀ i ∈ s.pair[pairOf 0].items, i.ctx ≠ 0) ∧
    s.clk ≤ 0 + 2000 ∧ s.oldest 0 ⟨.store, 0x021FFFFC, 2, 7, false, 0, 0, 0, true⟩ 9 = true ∧ s.turn 9 0 = true ∧
    s.injFor 123 0 = false ∧ s.bank[(9 : BankId)].march = none ∧ s.errAt 0x021FFFFC = 0 ∧ s.injOn 57 = false ∧ s.injOn 68 = false ∧
    Memory.wf s.mem = true := by decide
theorem witness_FabricResponses_held : let s := (runT (.load 1 false) 2 9).modAct 0 fun a => { a with status := .idle }
    s.running 0 = false ∧ (s.cx 0).port.txn.isSome = true ∧ (s.cx 0).port.held = none ∧
    s.oldest 0 ⟨.load 1 false, 0x021FFFFC, 2, 7, false, 0, 0, 0, true⟩ 9 = true ∧ s.turn 9 0 = true := by decide
theorem witness_FabricResponses_other : let s := State.reset
    s.pwr.phase ≠ .off ∧ s.turn 9 8 = true ∧ s.turn 9 13 = true ∧ swf ⟨0, 0⟩ s.bus = true ∧ s.bank[(9 : BankId)].march = none ∧
    s.errAt 0x02000000 = 0 ∧ s.injOn 57 = false ∧ s.injOn 68 = false ∧ 0x021FFFFC % 4 = 0 := by decide
theorem witness_FabricTimeouts : let s := runT (.load 1 false) 2 2000
    s.running 0 = true ∧ (s.cx 0).port.txn.isSome = true ∧ (s.cx 0).port.held = none ∧ 0 + 2000 ≤ s.clk ∧
    (∀ i ∈ s.pair[pairOf 0].items, i.ctx ≠ 0) ∧ s.bank[(9 : BankId)].march = none ∧ (s.cx 0).regs.trapact = false := by decide

/-- `run` with staged entries, output word 4000h all ones and forces. -/
def runI (staged : List StageEnt) (forces : List (Nat × Option Bool)) : State :=
  (run.modImgCtx 0 fun i => { i with staged := staged, used := staged.length }).modImg fun i => { i with out := [(0x4000, 0xFFFFFFFF)], forces := forces }

theorem witness_ImageReadValues : let s := runI [⟨0x4000, 1, 0⟩] [(0x4000 * 32 + 1, some false)]
    (s.readValue 0 0x4000).getLsbD 0 = false ∧ (s.readValue 0 0x4000).getLsbD 1 = false ∧ (s.readValue 0 0x4000).getLsbD 31 = true ∧
    (s.img.forces.filter fun p => p.1 == 0x4000 * 32 + 1 && p.2.isSome) = [(0x4000 * 32 + 1, some false)] ∧
    (s.img.forces.filter fun p => p.1 == 0x4000 * 32 && p.2.isSome) = [] ∧
    (s.cx 0).img.staged = [⟨0x4000, 1, 0⟩] ∧ (0 : Word) &&& ~~~(1 : Word) = 0 ∧ (∀ e ∈ (run.cx 0).img.staged, e.word ≠ 0x4000) := by
  decide
theorem witness_ImageReads : let s := runG 0x3FDF
    Issues s 0 ∧ s.readWaits 0 = false ∧ s.injFor 46 0 = false ∧ s.tdm.waiting.getLsbD 0 = false ∧
    ∀ w ∈ [0, 0x3FDF, 0x4000, 0x7FFF, 0x3FDF / 32 % 2 ^ 15], s.readStale 0 w = false := by unfold Issues CleanFetch; decide

/-- Context 0 of an IN_STEP TRAIL waits for a later gather epoch. -/
def ahead : State := (run.modImgCtx 0 fun i => { i with gather := 5 }).modTdm fun t => { t with st := 4 }

/-- Context 0 reads a word all of whose versions are newer. -/
def behind : State := run.modImg fun i => { i with ver := [(7, [⟨9, 1, false⟩, ⟨8, 1, false⟩, ⟨7, 1, false⟩, ⟨6, 1, false⟩])] }

theorem witness_StaleAndWaitingReads : Issues behind 0 ∧ behind.readWaits 0 = false ∧ behind.readStale 0 7 = true ∧
    behind.injFor 46 0 = false ∧ Issues ahead 0 ∧ ahead.readWaits 0 = true := by unfold Issues CleanFetch; decide

/-- A staging region of one entry. -/
def runS (staged : List StageEnt) (l : Bool) : State :=
  ((runR fun r => { (r.put 1 0x3FFF).put 2 1 with l := l }).modImgCtx 0 fun i => { i with staged := staged, used := staged.length }).modCx 0
    fun c => { c with task := { c.task with staging := 1 } }

theorem witness_ImageWrites : let full := runS [⟨0x4001, 1, 1⟩] true
    Issues full 0 ∧ (full.cx 0).regs.trapact = false ∧ (full.cx 0).img.hasEntry 0x4000 = false ∧
    (full.cx 0).task.staging ≤ (full.cx 0).img.used ∧ (full.cx 0).img.hasEntry 0x4001 = true ∧
    ((full.cx 0).img.staged.map (·.word)).Nodup ∧ (full.cx 0).regs.l = true ∧ (full.cx 0).regs.get 2 ≠ 0 ∧
    (let free := runS [] false
     Issues free 0 ∧ (free.cx 0).img.used < (free.cx 0).task.staging ∧ (free.cx 0).regs.l = false ∧ (free.cx 0).regs.get 3 = 0) := by
  unfold Issues CleanFetch; decide

/-- Wake-up sources and the register pair of WAITT. -/
def runE (pend mask : BitVec 256) (t : Word64) : State :=
  let s := runR fun r => { r.put 2 5 with evpend := pend, evmask := mask }
  { s with time := { s.time with tb := t } }

theorem witness_NopSevWfeWaitt : Issues (runE 1 1 5) 0 ∧ ((runE 1 1 5).cx 0).regs.evpend &&& ((runE 1 1 5).cx 0).regs.evmask ≠ 0 ∧
    (runE 1 1 5).isTrail = false ∧ ((runE 1 1 5).cx 0).regs.get 2 = 5 ∧ ((runE 1 1 5).cx 0).regs.get 3 = 0 ∧ 5 ≤ (runE 1 1 5).time.tb.toNat ∧
    Issues (runE 1 2 4) 0 ∧ ((runE 1 2 4).cx 0).regs.evpend &&& ((runE 1 2 4).cx 0).regs.evmask = 0 ∧
    ((runE 1 2 4).cx 0).regs.staleP = false ∧ ((runE 1 2 4).cx 0).regs.collP = false ∧ (runE 1 2 4).time.tb.toNat < 5 ∧
    ((runE 1 2 4).cx 0).regs.trapact = false ∧ (runE 1 1 5).bound 192 = none ∧ (runE 1 1 5).bound 255 = none ∧
    (∀ h, ((runE 1 1 5).cx h).act.status ≠ .waitEvent) ∧ (∀ i ∈ (runE 1 1 5).pair[pairOf 0].items, i.ctx ≠ 0) ∧ Issues ahead 0 ∧ ahead.isTrail = true := by unfold Issues CleanFetch; decide
theorem witness_PairedSystemItems : Issues (runP id) 0 ∧ ((runP id).cx 0).act.paired = true := by unfold Issues CleanFetch; decide
theorem witness_DoubleTrapStops : let s := runR fun r => { r with trapact := true }
    Issues s 0 ∧ (s.cx 0).regs.trapact = true ∧ (s.cx 0).task.action ≤ 2 ∧ (s.cx 0).act.paired = false ∧
    (s.cx 0).next = none ∧ s.op.stopping = none ∧ (s.cx 0).img.dirty = [] := by unfold Issues CleanFetch; decide
theorem witness_ControlRegisters : Issues run 0 ∧ (run.cx 0).regs.priv = false ∧ (run.cx 0).regs.trapact = false ∧
    (let s := runR fun r => { (r.put 1 0x7FFFF).put 2 0x80000 with priv := true }
     Issues s 0 ∧ (s.cx 0).regs.priv = true ∧ ((s.cx 0).regs.get 1).toNat / 0x80000 = 0 ∧
     ((s.cx 0).regs.get 2).toNat / 0x80000 ≠ 0 ∧ (s.cx 0).regs.trapact = false) := by unfold Issues CleanFetch; decide


/-! ## Sessions for commands of the dictionary -/

/-- A session over USB with role `role`. -/
def sessOf (role : Nat) : Session := ⟨1, .usb, false, role, 0, none, none, 0, none, none, none⟩

/-- A unit in operation that serves requests over USB, with one session of role 7. -/
def srv (f : State → State) : State :=
  let s : State := { State.reset with otp := 0 }
  f { s with
    pwr := { s.pwr with phase := .running }, nv := { s.nv with inRecall := false }, dict := { s.dict with sessions := [sessOf 7] } }

/-- A new request of that session. -/
def rq : Req := ⟨.usb, 1, 1, false, [], true, 20, true⟩

/-- `Executes` in a session without authentication, as a Bool for `decide`. -/
def executes (s : State) (r : Req) (x : Session) (i : Instr) : Bool :=
  s.listens r.origin && usbSound r && framed r i && (served s r).session r.session == some x && decide (x.seq.toNat < r.seq.toNat) &&
    !x.auth && !r.enc && sameSource x.origin r.origin

theorem executes_of {s : State} {r : Req} {x : Session} {i : Instr} (h : executes s r x i = true) : Executes s r x i := by
  simp only [executes, Bool.and_eq_true, beq_iff_eq, decide_eq_true_eq, Bool.not_eq_true'] at h
  obtain ⟨⟨⟨⟨⟨⟨⟨h1, h2⟩, h3⟩, h4⟩, h5⟩, h6⟩, h7⟩, h8⟩ := h
  exact ⟨h1, h2, h3, h4, h5, fun a => absurd (h6.symm.trans a) (by decide), fun _ => ⟨h7, h8⟩⟩

/-- `Accepted` as a Bool, for `decide`. -/
def accepts (s : State) (r : Req) (x : Session) (idx sub ty : Nat) (v : List Byte) : Bool :=
  let i := writeOf r idx sub ty v
  let u := taken s r i
  executes s r x i && !s.leadPaired && u.objAt idx sub == none &&
    (match u.findEnt idx sub with | some e => e.acc == 2 | none => false) &&
    u.writeBars (u.withVal idx sub v) x.role (fromUsb r.origin) (!x.auth) idx sub (some ty) v == none

theorem accepted_of {s : State} {r : Req} {x : Session} {idx sub ty : Nat} {v : List Byte}
    (h : accepts s r x idx sub ty v = true) : Accepted s r x idx sub ty v := by
  simp only [accepts, Bool.and_eq_true, beq_iff_eq, Bool.not_eq_true'] at h
  obtain ⟨⟨⟨⟨h1, h2⟩, h3⟩, h4⟩, h5⟩ := h
  refine ⟨executes_of h1, h2, h3, ?_, h5⟩
  split at h4
  · exact ⟨_, by assumption, by simpa using h4⟩
  · exact absurd h4 (by decide)

/-- The hypotheses of a `Performs` clause about entry `idx`:`sub` hold in `s`. -/
def Performable (s : State) (idx sub ty : Nat) (v : List Byte) : Prop := ∃ x, Accepted s rq x idx sub ty v

theorem performable_of {s : State} {idx sub ty : Nat} {v : List Byte} (h : accepts s rq (sessOf 7) idx sub ty v = true) :
    Performable s idx sub ty v := ⟨_, accepted_of h⟩

/-! ## Tasks and the operating state: witnesses -/

/-- A unit in RUN at `tb` on the time base and `clk` on the crystal, with a task of kind `k` in context 0. -/
def tasked (k : Kind) (tb : Word64) (clk : Nat) (f : Act → Act) : State :=
  let s := (State.reset.modOp fun o => { o with st := .run }).modCx 0 fun c =>
    { c with task := { c.task with kind := k, period := 1000, budget := 10, deadline := 500 }, act := f c.act }
  { s with clk := clk, time := { s.time with tb := tb } }

theorem witness_TaskReleases_cyclic : ∀ s ∈ [tasked .cyclic 1000000 0 id, tasked .cyclic 1999999 0 fun a => { a with status := .ready }],
    s.op.failover = false ∧ s.op.st = .run ∧ s.nv.lehr = .none ∧ s.isTrail = false ∧ (s.cx 0).taskNow.kind = .cyclic ∧
    s.isChecker 0 = false ∧ 1000000 = (s.cx 0).taskNow.offset * 1000 + 1 * ((s.cx 0).taskNow.period * 1000) ∧
    0 < (s.cx 0).taskNow.period ∧ 1000000 ≤ s.time.tb.toNat ∧ s.time.tb.toNat < 1000000 + (s.cx 0).taskNow.period * 1000 ∧
    (s.cx 0).act.seen = none ∧ s.op.enter.toNat + 999999 < 1000000 ∧
    1000000 ≤ s.op.enter.toNat + 999999 + (s.cx 0).taskNow.period * 1000 ∧ (s.cx 0).act.owed = false ∧
    (s.cx 0).act.skipNext = false ∧ s.reloading 0 = false := by decide
theorem witness_TaskReleases_held : let s := tasked .event 1000000 0 fun a => { a with held := true, everRel := true }
    s.op.failover = false ∧ s.op.st = .run ∧ s.nv.lehr = .none ∧ s.isTrail = false ∧ (s.cx 0).act.status = .idle ∧
    (s.cx 0).act.owed = false ∧ (s.cx 0).act.skipNext = false ∧ s.reloading 0 = false ∧ (s.cx 0).act.held = true ∧
    (s.cx 0).act.rel.toNat + (s.cx 0).taskNow.period * 1000 ≤ s.time.tb.toNat := by decide
theorem witness_TaskReleases_background : let s := tasked .background 0 1000000 id
    s.op.failover = false ∧ s.op.st = .run ∧ s.nv.lehr = .none ∧ s.isTrail = false ∧ (s.cx 0).act.status = .idle ∧
    (s.cx 0).act.owed = false ∧ (s.cx 0).act.skipNext = false ∧ s.reloading 0 = false ∧ (s.cx 0).taskNow.kind = .background ∧
    s.op.enterClk + 1000000 ≤ s.clk ∧ (s.cx 0).act.armFrom ≤ s.clk := by decide
theorem witness_TaskReleases_lagged :
    let s := (tasked .event 40000 0 id).modTdm fun t => { t with st := 4, rel := [⟨0, 0, 0⟩] }
    s.op.failover = false ∧ s.tdm.st = 4 ∧ s.tdm.rel = [⟨0, 0, 0⟩] ∧ 0 + 40000 ≤ s.time.tb.toNat ∧ s.op.st = .run ∧
    (s.cx 0).act.status = .idle ∧ (s.cx 0).act.owed = false ∧ (s.cx 0).taskNow.kind ≠ .none := by decide
theorem witness_TaskReleases_waitt : let s := tasked .event 40000 0 fun a => { a with status := .waitTime 40000 }
    (s.cx 0).act.status = .waitTime 40000 ∧ (s.cx 0).act.owed = false ∧ s.isTrail = false ∧ (40000 : Word64).toNat ≤ s.time.tb.toNat ∧
    (let t := (tasked .event 80000 0 fun a => { a with status := .waitTime 40000 }).modTdm fun t => { t with st := 4 }
     t.isTrail = true ∧ (40000 : Word64).toNat ≤ t.time.tb.toNat - 40000) := by decide

/-- A running activation that has used its budget and passed its deadline. -/
def lateRun (action : Nat) (stopping : Option Nat) (overran : Bool) : State :=
  ((tasked .cyclic 500001 0 fun a => { a with status := .ready, used := 10, overran := overran }).modCx 0 fun c =>
    { c with task := { c.task with action := action } }).modOp fun o => { o with stopping := stopping }

theorem witness_OverrunsAndMisses : ∀ a ∈ [0, 1, 2, 3], let s := lateRun a none false
    s.op.failover = false ∧ (∀ i ∈ s.pair[pairOf 0].items, i.ctx ≠ 0) ∧ s.stalled 0 = false ∧ (s.cx 0).next = none ∧ (∀ h, (s.cx h).img.dirty = []) ∧
    (s.cx 0).task.kind ≠ .background ∧ (s.cx 0).act.status = .ready ∧ (s.cx 0).act.overran = false ∧
    (s.cx 0).task.budget ≤ (s.cx 0).act.used ∧ (s.cx 0).act.missed = false ∧
    (s.cx 0).act.rel.toNat + (s.cx 0).task.deadline * 1000 < s.time.tb.toNat ∧ s.op.stopping = none ∧
    (s.cx 0).task.action = a ∧ s.op.st = .run := by decide
theorem witness_OverrunsAndMisses_stopping : (lateRun 3 (some 0) false).op.stopping.isSome = true ∧ (lateRun 3 (some 0) false).stalled 0 = false ∧
    ((lateRun 3 (some 0) false).cx 0).act.status = .ready ∧ ((lateRun 3 none true).cx 0).act.overran = true ∧
    ((lateRun 3 none true).cx 0).act.missed = false := by decide

/-- Key contacts `a`, `b`, debounced since 0, in state `st` with key `k`; a program is loaded when `l`. -/
def keyed (a b : Bool) (k : BitVec 2) (st : OpState) (l : Bool) : State :=
  let s := srv fun s => s.modOp fun o => { o with rawA := a, rawB := b, key := k, st := st, debounce := some 0, stopping := some 19000000 }
  { s with clk := 20000000, prog := { s.prog with loaded := l } }

theorem witness_KeyAndStop : ∀ s ∈ [keyed false false 0 .stop true, keyed false true 1 .run true, keyed false false 1 .run true,
      keyed true true 1 .run true, keyed true false 2 .stop true, keyed true false 0 .stop false, keyed true false 0 .halt true],
    s.op.failover = false ∧ s.op.debounce = some 0 ∧ 0 + 20000000 ≤ s.clk ∧ s.pwr.phase = .running ∧ s.isTrail = false ∧
    s.op.stopping = some 19000000 ∧ 19000000 + 1000000 ≤ s.clk := by decide
theorem witness_KeyAndStop_starts : let s := keyed true false 2 .stop true
    s.prog.loaded = true ∧ (∀ h, (s.cx h).task.paired = true → s.pair[pairOf h].usable = true) ∧ s.nv.inRecall = false := by decide

/-- A unit in REM with a program and the force address `a` set. -/
def rem (st : OpState) (status : Status) (a : List Byte) : State :=
  srv fun s =>
    let s := (s.modOp fun o => { o with key := 2, st := st }).modCx 0 fun c =>
      { c with task := { c.task with kind := .cyclic }, act := { c.act with status := status } }
    { s with prog := { s.prog with loaded := true }, dict := { s.dict with vals := [(0x2210 * 256 + 1, some a)] } }

theorem witness_ProgramAndForceCommands : (rem .stop .idle []).op.failover = false ∧ (rem .stop .idle []).op.key = 2 ∧
    (∀ h, ((rem .stop .idle []).cx h).task.paired = true → (rem .stop .idle []).pair[pairOf h].usable = true) ∧
    (rem .stop .idle []).prog.loaded = true ∧ (rem .stop .idle []).nv.inRecall = false ∧ (rem .stop .idle []).pwr.phase = .running ∧
    (rem .stop .idle [0xFF, 0xFF, 0x0F, 0]).cfg 0x2210 1 0 = 2 ^ 20 - 1 ∧ (rem .stop .idle []).img.forces.length < 512 ∧
    swf none (rem .stop .idle []).img.forces = true ∧ ((rem .run .stopped []).cx 0).act.status = .stopped := by decide
theorem witness_ProgramAndForceCommands_start : Performable (rem .halt .idle []) 0x2001 1 2 [1] := performable_of (by decide)
theorem witness_ProgramAndForceCommands_stop : Performable (rem .run .idle []) 0x2001 1 2 [2] := performable_of (by decide)
theorem witness_ProgramAndForceCommands_restart : Performable (rem .run .stopped []) 0x2100 0x15 2 [1] := performable_of (by decide)
theorem witness_ProgramAndForceCommands_set : Performable (rem .stop .idle [0xFF, 0xFF, 0x0F, 0]) 0x2210 3 2 [1] := performable_of (by decide)
theorem witness_ProgramAndForceCommands_clear : Performable (rem .stop .idle []) 0x2210 3 2 [2] ∧
    Performable (rem .stop .idle []) 0x2210 3 2 [3] := ⟨performable_of (by decide), performable_of (by decide)⟩


/-! ## The image, the core islands, the pairs: witnesses -/

/-- A unit with a commit of context 0 at the image engine, of one staged word, and a journal `q`. -/
def withCommit (byEnd : Bool) (waiting : Option Nat) (q : List (Nat × Word)) : State :=
  let s := (tasked .cyclic 0 0 fun a => { a with status := .committing byEnd }).modImg fun i =>
    { i with commits := [⟨0, [⟨0x4000, 1, 1⟩], [], false, false, byEnd, waiting⟩] }
  s.modNv fun v => { v with queue := q }

theorem witness_Commits : ∀ s ∈ [withCommit true none [], withCommit false none [(0, 1)], withCommit true (some 0) []],
    s.img.commits.length = 1 ∧
    ∀ c ∈ s.img.commits, swf 0 s.img.out = true ∧ (c.entries.map (·.word)).Nodup ∧ s.op.stopping = none ∧ (s.cx c.ctx).act.after = none ∧
    (s.cx c.ctx).task.kind ≠ .background ∧ (s.cx c.ctx).next = none ∧ s.injFor 47 c.ctx.val = false ∧
    s.injFor 121 c.ctx.val = false ∧ s.room c = true := by decide
theorem room_full (n : Nat) (h : 16384 < n) : (withCommit true none (List.replicate n (0, 1))).room ⟨0, [⟨0x4000, 1, 1⟩], [], false, false, true, none⟩ = false := by
  simp only [State.room, State.journalOf, journalAll, journalMax, withCommit, State.modNv, List.filterMap_nil, List.foldl_nil, List.length_replicate]
  exact decide_eq_false (by omega)
theorem witness_Commits_waits : (withCommit true none (List.replicate 16385 (0, 1))).room ⟨0, [⟨0x4000, 1, 1⟩], [], false, false, true, none⟩ = false :=
  room_full 16385 (by decide)

/-- A unit whose field scans publish words 1 and 2 next, the interval over. -/
def holding : State :=
  { State.reset.modImg fun i => { i with heldPub := [(0, some ⟨0, [(1, 7), (2, 8)], []⟩)], lastPub := [(0, some 0)], sweep := true } with clk := 1000000 }

theorem witness_PublicationsAndSweeps : sget none holding.img.heldPub 0 = some ⟨0, [(1, 7), (2, 8)], []⟩ ∧
    sget none holding.img.lastPub 0 = some 0 ∧ 0 + holding.pubInterval 0 ≤ holding.clk ∧ holding.isTrail = false ∧ holding.ibMarches = false ∧
    ([(1, 7), (2, 8)].map (·.1) : List Nat).Nodup ∧ swf [bornVersion] holding.img.ver = true ∧
    swf none holding.img.heldPub = true ∧ swf none holding.img.lastPub = true ∧ holding.img.sweep = true := by decide

/-- Core 7 with a switch in progress, and with a set point that waits since instant 0. -/
def island (f : Core → Core) (clk : Nat) : State := { State.reset.modCore 7 f with clk := clk }

theorem witness_CoreIslands : let s := island (fun c => { c with sw := some 65535 }) 0
    s.op.failover = false ∧ s.core[(7 : CoreId)].sw = some 65535 ∧ swf none s.dict.vals = true ∧ (7 : Fin 12).val = (7 : CoreId).val ∧ s.pwr.phase ≠ .off ∧ s.core[(7 : CoreId)].lowSince = none ∧
    (let t := island (fun c => { c with spPend := some ⟨900, false, 0, rq⟩, lowSince := some 5 }) 100000000
     t.op.failover = false ∧ t.core[(7 : CoreId)].spPend = some ⟨900, false, 0, rq⟩ ∧ t.op.st ≠ .run ∧ t.carries 7 = false ∧
     0 + 100000000 ≤ t.clk ∧ t.pwr.phase ≠ .off ∧ t.core[(7 : CoreId)].sw = none ∧ t.core[(7 : CoreId)].lowSince = some 5 ∧ t.injOn (75 + 7) = false) ∧
    (let t := island (fun c => { c with spPend := some ⟨900, false, 0, rq⟩ }) 99999999
     0 + 100000000 > t.clk ∧ t.core[(7 : CoreId)].lowSince = none ∧ t.op.st ≠ .run) := by decide

/-- Pair 0 compares an item of context 0, whose mismatch action is STOP_PROG. -/
def comparing (rel : Release) (broken : Bool) : State :=
  ((tasked .cyclic 0 0 fun a => { a with status := .ready, broken := broken }).modCx 0 fun c =>
    { c with task := { c.task with mmaction := 1 }, port := { c.port with txn := some ⟨.store, 0, 2, 0, false, 0, 0, 0, false⟩ } }).modPair 0 fun p =>
      { p with items := [⟨sysItem 3 0, 8, 0, rel⟩] }

theorem witness_PairComparison : ∀ rel ∈ [Release.none, .store 0x7FFFC 2 1, .send, .commit true, .trap 0 11 0 0], let s := comparing rel false
    s.op.failover = false ∧ s.pair[(0 : PairId)].items = [⟨sysItem 3 0, 8, 0, rel⟩] ∧ s.injFor (32 + 0) (0 % 8) = false ∧
    s.meets (cbOf 0) 0x7FFFC = none ∧ (s.cx 0).regs.trapact = false ∧ (∀ h, (s.cx h).img.dirty = []) ∧
    Memory.wf s.mem = true ∧ (s.cx 0).port.txn.isSome = true ∧ (some (sysItem 3 1) : Option LaneItem) ≠ some (sysItem 3 0) ∧
    (none : Option LaneItem) ≠ some (sysItem 3 0) ∧ (s.cx 0).act.broken = false ∧ (s.cx 0).task.mmaction = 1 ∧ s.op.st = .run ∧
    ((comparing rel true).cx 0).act.broken = true := by decide

/-- Pair 0 has passed its start-up test and runs nothing; its next background step is `k`. -/
def testing (k : Nat) : State := srv fun s => s.modPair 0 fun p => { p with usable := true, test := 0, step := k }

theorem witness_PairTestsAndDebugger : ∀ k ∈ [0, 1, 172], (testing k).op.failover = false ∧ (testing k).pwr.phase ≠ .off ∧ (testing k).cfg (0xD120 + 0) 5 1 ≠ 0 ∧
    (testing k).pairRuns 0 = none ∧ (testing k).pair[(0 : PairId)].test ≠ 2 ∧ (testing k).injOn (36 + 0) = false ∧
    some (200, 0) ≠ stepWants k ∧ (testing k).op.st = .stop := by decide
theorem witness_PairTestsAndDebugger_repeat : Performable (testing 0) 0xD120 7 2 [1] := performable_of (by decide)
theorem witness_PairTestsAndDebugger_debug : (State.reset.cx 7).task.paired = false ∧ (State.reset.cx 7).act.dbgHalt = false ∧ State.reset.pwr.phase ≠ .off ∧
    (let s := State.reset.modCx 7 fun c => { c with task := { c.task with paired := true } }
     (s.cx 7).task.paired = true ∧ (7 : Gctx).val % 16 < 8 ∧ (s.cx 7).act.dbgHalt = false ∧ (s.cx 7).act.broken = false ∧ ∀ i ∈ s.pair[pairOf 7].items, i.ctx ≠ 7) ∧
    (let s := State.reset.modAct 7 fun a => { a with dbgHalt := true }
     (s.cx 7).task.paired = false ∧ (s.cx 7).act.dbgHalt = true) := by decide


/-! ## Programs and edits, banks, the record store: witnesses -/

/-- A unit in STOP with the key at STOP. -/
def stopped : State := srv id

theorem witness_ProgramCommands_load : Performable stopped 0x2300 2 2 [1] ∧ Performable stopped 0x2300 2 2 [2] ∧
    stopped.op.failover = false ∧ stopped.op.key = 0 ∧ stopped.op.st = .stop ∧
    (taken stopped rq (writeOf rq 0x2300 2 2 [1])).marchUnder ((taken stopped rq (writeOf rq 0x2300 2 2 [1])).slotBlocks 1) = false ∧
    ((taken stopped rq (writeOf rq 0x2300 2 2 [2])).checkSlot 2).2.2 ≠ none :=
  ⟨performable_of (by decide), performable_of (by decide), by decide⟩

/-- The header of an edit container: FLAGS.EDIT. -/
def editHeader : List Byte := List.replicate 24 0 ++ [2] ++ List.replicate 487 0

/-- A unit in REM with program slot 1 in force, an edit parison received whole, and an edit of state `n`. -/
def editing (st : OpState) (n : Nat) (notBefore : List Byte) : State :=
  srv fun s =>
    let s := s.modOp fun o => { o with key := 2, st := st }
    { s with
      prog := { s.prog with loaded := true, active := 1, edit := { s.prog.edit with st := n, migrate := [0], trail := some 0 } }
      sec := { s.sec with par := s.sec.par.set 1 ⟨2, [(0, some editHeader)], true, 0⟩ }
      dict := { s.dict with vals := [(0x2310 * 256 + 3, some notBefore)] } }

theorem witness_ProgramCommands_apply : let s := editing .run 0 []
    Performable s 0x2310 1 2 [1] ∧ s.op.failover = false ∧ s.op.key = 2 ∧ s.isTrail = false ∧ s.prog.edit.st = 0 ∧ s.cfg 0x2310 3 0 = 0 ∧
    s.prog.loaded = true ∧ s.sec.par[parOf s.prog.active].st = 2 ∧ hdrEdit s.sec.par[parOf s.prog.active].bytes = true :=
  ⟨performable_of (by decide), by decide⟩
theorem witness_ProgramCommands_accept : Performable (editing .run 3 []) 0x2310 1 2 [2] ∧ (editing .run 3 []).prog.edit.st = 3 ∧
    Performable (editing .halt 3 []) 0x2310 1 2 [3] ∧ (editing .halt 3 []).op.st ≠ .run ∧
    Performable (editing .run 1 []) 0x2310 1 2 [4] ∧ Performable (editing .run 2 []) 0x2310 1 2 [4] :=
  ⟨performable_of (by decide), by decide, performable_of (by decide), by decide, performable_of (by decide), performable_of (by decide)⟩

theorem witness_EditInstants : let s := editing .stop 1 []
    s.prog.edit.st = 1 ∧ s.marchUnder (placement (bodyOf s.prog.edit.image)) = false ∧ s.isTrail = false ∧ s.leadPaired = false ∧ s.inTandem = false ∧
    (∀ n : CoreId, s.core[n].powered = true → s.carries n = true) ∧ s.op.st ≠ .run ∧ s.prog.edit.trail = some 0 ∧ 0 + 2000000000 ≤ { s with clk := 2000000000 }.clk ∧
    (editing .run 1 [0, 0, 0, 0, 0, 1, 0, 0]).chooseTs (editing .run 1 [0, 0, 0, 0, 0, 1, 0, 0]).time.tb.toNat = none ∧
    (editing .run 2 []).prog.edit.st = 2 ∧ (editing .run 2 []).prog.edit.ts.toNat ≤ (editing .run 2 []).time.tb.toNat ∧
    (editing .run 3 []).prog.edit.st = 3 ∧ (editing .run 3 []).prog.edit.migrate.contains (0 : Gctx).val = true ∧
    ((editing .run 3 []).cx 0).inProgress = false ∧
    (editing .run 3 []).prog.edit.acceptAt ≤ { editing .run 3 [] with clk := 600000000000 }.clk ∧
    (editing .run 4 []).prog.edit.st = 4 ∧ (editing .run 4 []).prog.edit.ts.toNat ≤ (editing .run 4 []).time.tb.toNat := by decide

/-- A unit in STOP with bank `b` changed. -/
def banked (b : BankId) (f : Bank → Bank) (errs : List (Nat × Nat)) : State := { srv fun s => s.modBank b f with errs := errs }

theorem witness_Banks_scrub : ∀ k ∈ [0, bankWords 10 - 1], let s := banked 10 (fun b => { b with scrub := k }) []
    s.op.failover = false ∧ s.bank[(10 : BankId)].march = none ∧ s.errAt (bankBase 10 + 4 * k) = 0 ∧ s.injOn (48 + 10) = false ∧
    s.injOn (59 + 10) = false ∧ s.pwr.phase ≠ .off ∧ s.turn 10 14 = true ∧ (banked 10 id [((bankBase 10 + 4 * k) / 4, 2)]).errAt (bankBase 10 + 4 * k) = 2 := by decide
theorem witness_Banks_writes : let s := banked 0 (fun b => { b with wb := [5], heldW := some ⟨0x7FFFC, 2, 9⟩ }) [(5, 1)]
    s.bank[(0 : BankId)].wb = [5] ∧ swf 0 s.errs = true ∧ s.bank[(0 : BankId)].heldW = some ⟨0x7FFFC, 2, 9⟩ ∧ Memory.wf s.mem = true ∧
    sget 0 s.errs 5 = 1 := by decide
theorem witness_Banks_march : (0x11 : Word).toNat % 4 < 2 ∧ (0x11 : Word).getLsbD 4 = true ∧ (stopped.bank[(7 : BankId)].march) = none ∧
    (let s := stopped.modRegs 0 fun r => { r with priv := true }
     s.marchBars 7 true = none ∧ s.marchBars 9 false = none ∧ (0 : Gctx).val / 8 ≠ (7 : BankId).val ∧ RegAccess s 0) := by unfold RegAccess; decide
theorem witness_Banks_commands : Performable stopped 0xC107 8 2 [1] ∧ Performable stopped 0xC107 8 2 [2] ∧
    Performable stopped 0xC10A 9 2 [1] := ⟨performable_of (by decide), performable_of (by decide), performable_of (by decide)⟩
theorem witness_Banks_end : let s := banked 9 (fun b => { b with march := some ⟨true, true, false⟩ }) []
    s.bank[(9 : BankId)].march = some ⟨true, true, false⟩ ∧ s.injFor 124 9 = false ∧ s.prog.waitLoad = none ∧ Memory.wf s.mem = true ∧
    (let t := banked 9 (fun b => { b with march := some ⟨false, false, false⟩ }) []
     t.bank[(9 : BankId)].march = some ⟨false, false, false⟩ ∧ (t.errsOf 9).find? (fun p => p.2 == 2) = none ∧
     t.prog.waitLoad = none ∧ t.injFor 124 9 = false) := by decide

/-- A unit whose record-store controller is changed. -/
def stored (f : Nv → Nv) (clk : Nat) : State := { srv fun s => s.modNv f with clk := clk }

theorem witness_RecordStore_grants : let s := stored (fun q => { q with queue := [(0x58000, 7)], run := 1 }) 0
    s.nv.granted = none ∧ s.nv.inRecall = false ∧ s.nv.queue ≠ [] ∧ s.nv.run < 2 ∧
    (let t := stored (fun q => { q with queue := [(0x58000, 7)], run := 2, pb := q.pb.set 3 { q.pb[3] with prog := some (0, 16) } }) 0
     t.nv.granted = none ∧ t.nv.inRecall = false ∧ t.nv.lehr = .none ∧ t.ringNext = some 3 ∧ 2 ≤ t.nv.run) ∧
    (let t := stored (fun q => { q with queue := [(0x58000, 7)], granted := some 9 }) 0
     t.nv.inRecall = false ∧ t.nv.granted = some 9 ∧ Memory.wf t.mem = true) := by decide
theorem witness_RecordStore_pages : ∀ p ∈ [0x258000, 0x3FFFC0],
    let s := (stored (fun q => { q with pb := q.pb.set 3 { q.pb[3] with page := BitVec.ofNat 32 p } }) 0).modRegs 24 fun r => { r with priv := true }
    RegAccess s 24 ∧ coreOf (24 : Gctx) = 3 ∧ 0x258000 ≤ s.nv.pb[(3 : CoreId)].page.toNat ∧ s.nv.pb[(3 : CoreId)].page.toNat + 64 ≤ 0x400000 ∧
    s.nv.pb[(3 : CoreId)].prog = none ∧ s.nv.inRecall = false ∧ s.nv.lehr = .none ∧ 1 ≤ (0x10100 : Word).toNat / 16 % 32 ∧
    (0x10100 : Word).toNat % 16 + (0x10100 : Word).toNat / 16 % 32 ≤ 16 ∧ (0x10100 : Word).getLsbD 16 = true := by unfold RegAccess; decide
theorem witness_RecordStore_done : let s := stored (fun q => { q with granted := some 3, pb := q.pb.set 3 { q.pb[3] with prog := some (1, 15) } }) 1000000000
    s.nv.pb[(3 : CoreId)].prog = some (1, 15) ∧ s.nv.granted = some (3 : CoreId).val ∧ Memory.wf s.mem = true ∧ 1 + 15 ≤ 16 ∧
    s.nv.opAt + 1000000000 ≤ s.clk ∧ s.pwr.phase ≠ .off ∧ (s.modNv fun q => { q with granted := some 8 }).nv.granted = some 8 := by decide


/-! ## Power, resets and start-up: witnesses -/

/-- A unit in phase `p` whose record-store controller is changed. -/
def powered (p : Phase) (f : Nv → Nv) (clk : Nat) : State :=
  { srv fun s => { s.modNv f with pwr := { s.pwr with phase := p } } with clk := clk }

theorem witness_Lehr_start : let s := powered .running id 0
    18000 < 18001 ∧ 4199 < 4200 ∧ s.pwr.phase ≠ .off ∧ s.nv.powerFail = false ∧ s.nv.inRecall = false ∧ s.nv.lehr = .none ∧
    s.bound 185 = none ∧ s.tdm.holds = false ∧ (powered .steps (fun q => { q with inRecall := true }) 0).nv.powerFail = false := by decide
theorem witness_Lehr_steps : let s := powered .running (fun q => { q with lehr := .step2, powerFail := true }) 1000000
    s.nv.lehr = .step2 ∧ s.nv.t0 + 1000000 ≤ s.clk ∧ s.op.failover = false ∧
    (∀ pf ∈ [false, true], ∀ rose ∈ [false, true],
      let t := powered .running (fun q => { q with lehr := .step4, powerFail := pf }) 0
      let u : State := { t with pwr := { t.pwr with rose := rose } }
      u.nv.lehr = .step4 ∧ u.nv.queue = [] ∧ u.img.commits = [] ∧ u.nv.powerFail = pf ∧ u.pwr.rose = rose ∧ u.pwr.phase ≠ .off ∧ Memory.wf u.mem = true) ∧
    (powered .off id 0).pwr.phase = .off := by decide

theorem witness_ResetsAndStart_power : 4400 < 4401 ∧ (powered .off id 0).pwr.phase = .off ∧ (powered .running id 0).pwr.phase ≠ .off ∧
    (powered .running (fun q => { q with powerFail := true }) 0).nv.powerFail = true ∧ 8 ≤ 8 ∧ (powered .running id 0).nv.lehr = .none ∧
    (powered .running id 0).pwr.resetPend = none ∧ (powered .running id 0).pwr.phase ≠ .step1 ∧
    (powered .running id 0).op.failover = false ∧ (powered .running id 0).tdm.holds = false := by decide
theorem witness_ResetsAndStart_reset : Performable (powered .running id 0) 0x1003 1 2 [1] ∧
    (∀ p ∈ [Phase.running, .steps], let s := powered p (fun q => { q with lehr := .done }) 0
      let t : State := { s with pwr := { s.pwr with resetPend := some 8 } }
      t.pwr.resetPend = some 8 ∧ t.nv.lehr = .done) := ⟨performable_of (by decide), by decide⟩
theorem witness_ResetsAndStart_step2 : (∀ p ∈ [Phase.step1, .steps], (powered p id 0).pwr.phase = p ∧ (powered p id 0).nv.lehr = .none) ∧
    (powered .step1 id 0).errs = [] ∧ (powered .step1 id 0).nv.listed = [] ∧ (powered .step1 id 0).nv.twins.map (·.1) = [dirKey] ∧
    ((powered .step1 id 0).validTwin dirKey).taken.map (·.data) = some ((powered .step1 id 0).recData dirKey) ∧
    (powered .step1 id 0).sec.atReset = false ∧ (powered .step1 id 0).sec.boots = 0 ∧
    3 ≤ { (powered .step1 id 0).sec with boots := 3 }.boots := by decide
theorem witness_ResetsAndStart_no_firmware :
    let s := (powered .step1 id 0).modSec fun x => { x with fw := Vector.replicate 2 .blank }
    s.fwVerifies (s.fwImage s.fwActive) = false ∧ s.fwVerifies (s.fwImage s.fwOther) = false ∧ s.runtimeOk = true := by decide

/-- Step 10, 20 ms after step 2 began, with key contacts held since then. -/
def step10 (a b l : Bool) : State :=
  let s := powered .step10 id 20000000
  { s with op := { s.op with rawA := a, rawB := b, debounce := some 0 }, prog := { s.prog with loaded := l } }

theorem witness_ResetsAndStart_step10 : ∀ s ∈ [step10 true false true, step10 true false false, step10 false true true],
    s.pwr.phase = .step10 ∧ s.pwr.startAt + 20000000 ≤ s.clk ∧ s.op.failover = false ∧ s.cfg 0x7200 1 0 = 0 ∧ s.tdm.st = 0 ∧
    (∀ h, (s.cx h).task.paired = true → s.pair[pairOf h].usable = true) ∧ s.nv.inRecall = false := by decide


/-! ## Field channels: witnesses -/

/-- A running unit at instant `clk` with channel 31 changed, some dictionary values, and all outputs commanded on. -/
def channel (f : FChan → FChan) (vals : List (Nat × Option (List Byte))) (clk : Nat) : State :=
  let s := srv fun s => (s.modFld fun x => { x with ch := x.ch.set 31 (f x.ch[31]) }).modImg fun i => { i with out := [(0x4000, 0xFFFFFFFF)] }
  { s with clk := clk, op := { s.op with safe := false }, dict := { s.dict with vals := vals } }

theorem witness_FieldInputs_scan : let s := channel id [] 0
    s.fld.scanK ≠ some (s.time.tb.toNat / s.scanNs) ∧ s.pwr.phase ≠ .off ∧ s.pwr.phase ≠ .step1 ∧ s.op.failover = false ∧
    s.tdm.st = 0 ∧ s.samples 31 = false := by decide
theorem witness_FieldInputs_filter : ∀ m ∈ [1, 4], ∀ acc ∈ [0, 1, 999, 1000],
    let s := channel (fun f => { f with mode := m, lim := 1000, acc := acc, flt := acc == 1 }) [] 0
    s.samples 31 = true ∧ s.fld.ch[(31 : Ch)].lim = s.chCfg 31 3 1000 ∧ s.fld.ch[(31 : Ch)].acc ≤ s.chCfg 31 3 1000 ∧
    s.fld.ch[(31 : Ch)].mode = m ∧ s.quadOf 31 = none ∧ s.inhibited 31 = false ∧ reading s.fld.ch[(31 : Ch)].rd 2001 = 2 ∧
    reading s.fld.ch[(31 : Ch)].rd 349 = 0 := by decide
theorem witness_FieldInputs_no_signal : let s := channel (fun f => { f with mode := 4 }) [] 12000000000
    s.fld.ch[(31 : Ch)].mode = 4 ∧ s.fld.ch[(31 : Ch)].nosig = false ∧
    s.fld.ch[(31 : Ch)].lastEdge + max 12000000000 (2 * (s.chCfg 31 0xD 100 * 1000000)) ≤ s.clk ∧
    s.modeCfg 31 ≠ s.fld.ch[(31 : Ch)].mode := by decide
theorem witness_FieldInputs_samples : (channel id [] 0).fld.ch[(31 : Ch)].brk.next ≤ (channel id [] 0).sampleNo ∧
    (channel (fun f => { f with mode := 0 }) [] 0).samples 31 = false := by decide
theorem witness_FieldInputs_wire : let s := channel (fun f => { f with mode := 1, brk := ⟨true, 99999, 0⟩ }) [(0x311F * 256 + 5, some [1])] 0
    s.samples 31 = true ∧ s.quadOf 31 = none ∧ s.chCfg 31 5 0 = 1 ∧ s.fld.ch[(31 : Ch)].broken = false ∧
    (s.sampleRun 31 349 1 s.sampleNo).fld.ch[(31 : Ch)].brk.held true (s.wireTime 31) = true ∧
    (let t := channel (fun f => { f with mode := 1, broken := true, rd := 0, brk := ⟨false, 99999, 0⟩ }) [] 0
     t.samples 31 = true ∧ t.quadOf 31 = none ∧ t.fld.ch[(31 : Ch)].broken = true ∧
     (t.sampleRun 31 500 1 t.sampleNo).fld.ch[(31 : Ch)].brk.held false (t.wireTime 31) = true ∧ t.injFor 95 31 = false) := by
  decide

theorem witness_FieldOutputs_overload : ∀ m ∈ [2, 3],
    let s := channel (fun f => { f with mode := m, driven := true, lim_ := ⟨true, 9999, 0⟩ }) [(0x311F * 256 + 9, some [1])] 0
    outputMode s.fld.ch[(31 : Ch)].mode = true ∧ s.fld.ch[(31 : Ch)].link = false ∧ s.fld.grp[grpOf 31].low = false ∧
    s.fld.ch[(31 : Ch)].ovl = false ∧ (s.fld.ch[(31 : Ch)].lim_.feed s.fld.ch[(31 : Ch)].driven 1 s.sampleNo).held true (s.overTime 31) = true ∧
    s.chCfg 31 9 0 = 1 ∧ s.drivenWant 31 = true ∧ (channel (fun f => { f with mode := m, driven := true }) [] 0).chCfg 31 9 0 ≠ 1 := by decide
theorem witness_FieldOutputs_wire :
    let s := channel (fun f => { f with
      mode := 3, ovl := true, openw := true, rbmm := true, driven := true, lim_ := ⟨false, 9999, 0⟩, opn := ⟨false, 9999, 0⟩, mis := ⟨false, 99, 0⟩ }) [] 0
    s.fld.ch[(31 : Ch)].ovl = true ∧ s.fld.ch[(31 : Ch)].latched = false ∧ s.injFor 92 31 = false ∧ s.fld.ch[(31 : Ch)].openw = true ∧
    s.injFor 93 31 = false ∧ s.fld.ch[(31 : Ch)].rbmm = true ∧ s.injFor 96 31 = false ∧ s.cutOff 31 = false ∧
    (s.fld.ch[(31 : Ch)].lim_.feed false 1 s.sampleNo).held false (s.overTime 31) = true ∧
    (s.fld.ch[(31 : Ch)].opn.feed false 1 s.sampleNo).held false 10000 = true ∧ (s.fld.ch[(31 : Ch)].mis.feed false 1 s.sampleNo).held false 100 = true ∧
    s.fld.ch[(31 : Ch)].link = false ∧ s.fld.grp[grpOf 31].low = false ∧
    (let t := channel (fun f => { f with mode := 3, driven := true, opn := ⟨true, 9999, 0⟩, mis := ⟨true, 99, 0⟩ })
       [(0x311F * 256 + 0xA, some [1]), (0x311F * 256 + 0xB, some [1])] 0
     t.fld.ch[(31 : Ch)].openw = false ∧ t.chCfg 31 0xB 1 = 1 ∧ t.chCfg 31 0xA 1 = 1 ∧ t.fld.ch[(31 : Ch)].mode = 3 ∧ t.cutOff 31 = false ∧
     t.fld.ch[(31 : Ch)].rbmm = false ∧ (t.fld.ch[(31 : Ch)].opn.feed true 1 t.sampleNo).held true 10000 = true ∧
     (t.fld.ch[(31 : Ch)].mis.feed (false != t.fld.ch[(31 : Ch)].driven) 1 t.sampleNo).held true 100 = true) := by decide
theorem witness_FieldOutputs_faults : let s := channel (fun f => { f with mode := 3, ot := true, link := false }) [] 10000000
    s.fld.ch[(31 : Ch)].ot = true ∧ s.fld.ch[(31 : Ch)].offAt + 10000000 ≤ s.clk ∧
    (s.modCh 31 fun f => { f with ot := false }).drivenWant 31 = true ∧ s.fld.ch[(31 : Ch)].link = false ∧ s.pwr.phase ≠ .off ∧ 20 ≤ 20 ∧
    (let t := channel (fun f => { f with mode := 3 }) [] 0
     t.fld.ch[(31 : Ch)].ot = false ∧ outputMode t.fld.ch[(31 : Ch)].mode = true ∧ t.fld.ch[(31 : Ch)].link = false ∧ t.fld.grp[grpOf 31].low = false ∧
     (let u := channel (fun f => { f with mode := 3, link := true }) [] 0
      u.fld.ch[(31 : Ch)].link = true ∧ u.injFor 97 31 = false)) := by
  decide
theorem witness_FieldOutputs_groups : (let s := (channel id [] 0).modGrp 3 fun g => { g with oc := ⟨true, 999, 0⟩ }
     s.fld.grp[(3 : Grp)].ocAt = none ∧ (s.fld.grp[(3 : Grp)].oc.feed (decide (4200 ≤ 4200)) 1 s.sampleNo).held true 1000 = true) ∧
    (channel id [] 0).fld.grp[(3 : Grp)].low = false ∧ (channel id [] 0).pwr.phase ≠ .off ∧ 17500 ≤ 17500 ∧
    (let s := (channel id [] 100000000).modGrp 3 fun g => { g with ocAt := some 0, low := true }
     s.fld.grp[(3 : Grp)].ocAt = some 0 ∧ 0 + 100000000 ≤ s.clk ∧ s.fld.grp[(3 : Grp)].low = true ∧ s.injOn (84 + 3) = false) := by decide


/-! ## Energy engine: witnesses -/

/-- A sample of eight channels, after `gap` missing ones. -/
def sampleOf (gap : Nat) : Sample := ⟨List.replicate 8 1000, gap⟩

/-- A unit in STOP at instant `clk` whose energy engine is changed; instance 1 takes samples of SV when `sv`. -/
def metering (f : Energy → Energy) (sv : Bool) (clk : Nat) : State :=
  let s := srv fun s => { s with nrg := f s.nrg, time := { s.time with tb := 2000000 } }
  { s with clk := clk, dict := { s.dict with vals := if sv then [(0x4011 * 256 + 1, some [2])] else [] } }

theorem witness_EnergyEngine_cycle : let s := metering id false 0
    s.op.failover = false ∧ s.insSrc 1 = 0 ∧ s.insSrc 0 = 1 ∧ [sampleOf 0] ≠ [] ∧ s.nrg.sess = none ∧ s.nrg.inst[(0 : Fin 2)].lost = none ∧
    (let t := metering id true 0
     t.insSrc 1 = 2 ∧ (∀ x ∈ [sampleOf 2], x.gap < 3) ∧ t.injFor 98 1 = false ∧ (∃ x ∈ [sampleOf 3], 3 ≤ x.gap) ∧
     t.nrg.inst[(1 : Fin 2)].lost = none) := by decide
theorem witness_EnergyEngine_gain : (metering (fun e => { e with range16 := e.range16.set 3 true }) false 0).nrg.range16[(3 : Fin 4)] = true := by
  decide
theorem witness_EnergyEngine_update : let s := metering id false 0
    s.insSrc 0 ≠ 0 ∧ s.nrg.inst[(0 : Fin 2)].updK ≠ some (s.time.tb.toNat / s.updNs 0) ∧ s.isTrail = false ∧ s.leadPaired = false ∧
    s.pubDue (1 + 0) = true ∧ s.pwr.phase ≠ .off ∧ s.ibMarches = false ∧ swf [bornVersion] s.img.ver = true ∧ s.nrg.recAt + 1000000000 ≤ { s with clk := 1000000000 }.clk := by decide
theorem witness_EnergyEngine_pulse_start : let s := metering (fun e => { e with pulse := e.pulse.set 7 { e.pulse[7] with pend := 1, start := some 0, w := 1000000 } }) false 0
    s.insSrc (insOf 7) ≠ 0 ∧ s.nrg.pulse[(7 : Fin 16)].on = false ∧ 0 < s.nrg.pulse[(7 : Fin 16)].pend ∧ s.pulseInhibit 7 = false ∧
    s.nrg.pulse[(7 : Fin 16)].spaced (s.sampleNow (insOf 7)) = true := by decide +kernel
theorem witness_EnergyEngine_pulse_end :
    let s := metering (fun e => 
      let a := e.pulse.set 7 { e.pulse[7] with on := true, start := some 0, w := 2000000 }
      { e with pulse := a.set 6 { e.pulse[7] with on := true, start := some 1000000, w := 1000001, pend := 1 } }) false 0
    s.nrg.pulse[(7 : Fin 16)].start = some 0 ∧ s.nrg.pulse[(7 : Fin 16)].on = true ∧ 0 + s.nrg.pulse[(7 : Fin 16)].w ≤ s.sampleNow (insOf 7) ∧
    s.nrg.pulse[(6 : Fin 16)].start = some 1000000 ∧ s.nrg.pulse[(6 : Fin 16)].on = true ∧
    s.sampleNow (insOf 6) < 1000000 + s.nrg.pulse[(6 : Fin 16)].w ∧ 0 < s.nrg.pulse[(6 : Fin 16)].pend ∧
    1000000 + 1000000 ≤ s.sampleNow (insOf 6) := by decide +kernel

/-- A calibration session of channel 7. -/
def calOf : CalSess := ⟨7, 0, 0, 0, 0, 0, false, 0, 0, Vector.replicate 2 []⟩

theorem witness_EnergyEngine_commands : Performable (metering id false 0) 0x4011 0xB 2 [1] ∧ (metering id false 0).op.st = .stop ∧
    Performable (metering id false 0) 0x4107 0xD 2 [1] ∧
    (let s := metering (fun e => { e with sess := some calOf }) false 0
     s.nrg.sess = some calOf ∧ calOf.ch = 7 ∧ calOf.commit = false ∧ Performable s 0x4107 0xD 2 [2] ∧ Performable s 0x4107 0xD 2 [3] ∧
     calOf.at_ + 60000000000 ≤ { s with clk := 60000000000 }.clk) :=
  ⟨performable_of (by decide), by decide, performable_of (by decide), by decide, by decide, by decide, performable_of (by decide),
    performable_of (by decide), by decide⟩


/-! ## Ethernet, PTP, GOOSE and SV: witnesses -/

/-- A dictionary value. -/
def val (idx sub : Nat) (v : List Byte) : Nat × Option (List Byte) := (idx * 256 + sub, some v)

/-- A running unit at instant `clk` with its network engine changed, dictionary values and memory. -/
def netted (f : Net → Net) (vals : List (Nat × Option (List Byte))) (mem : List Host.Cell) (clk : Nat) : State :=
  let s := srv fun s => s.modNet f
  { s with clk := clk, mem := mem, dict := { s.dict with vals := vals } }

/-- Port `p` is up. -/
def upPort (p : Fin 4) (n : Net) : Net := { n with port := n.port.set p { n.port[p] with up := true, speed := 2 } }

/-- A sound frame of EtherType `t` for the address `dst`, from 02-00-00-00-00-01. -/
def frameTo (dst : List Byte) (t : BitVec 16) (seqnr : Option (BitVec 16)) : EthFrame :=
  ⟨dst, [2, 0, 0, 0, 0, 1], 0, 0, t, List.replicate 46 0, 64, true, seqnr⟩

theorem witness_EthernetPorts_links : let s := netted (upPort 3) [val 0x5002 2 [2]] [] 0
    s.portOn 3 = true ∧ s.portOn 2 = true ∧ (s.speeds 2).contains 100 = true ∧ s.net.port[(3 : Fin 4)].up = true ∧ s.net.port[(2 : Fin 4)].up = false ∧ s.injFor 102 2 = false ∧
    s.linksUp 2 = true ∧ frameSound { frameTo [] 0 none with fcsOk := false } = false ∧
    frameSound (frameTo [] 0x88F7 none) = true ∧ s.pairMode (npair 3) = 0 ∧ s.engineTakes 3 (frameTo [] 0x88F7 none) = true := by decide +kernel
theorem witness_EthernetPorts_duplicate :
    let s := netted (fun n => { upPort 3 n with pair := n.pair.set 1 { n.pair[1] with seen := [⟨[2, 0, 0, 0, 0, 1], 7, 0⟩] } }) [val 0x5009 1 [1]] [] 400000000
    frameSound (frameTo [] 0 (some 7)) = true ∧ s.pairMode (npair 3) = 1 ∧ (frameTo [] 0 (some 7)).src ≠ s.macOf (s.ifaceOf 3) ∧
    seenBefore s.net.pair[npair 3].seen [2, 0, 0, 0, 0, 1] 7 s.clk = true ∧ s.net.port[(3 : Fin 4)].up = true ∧
    s.portOn 3 = true := by decide +kernel
theorem witness_EthernetPorts_receive :
    let s := netted (upPort 3) [val 0x5503 1 [1], val 0x5503 2 [0, 0, 0, 0], val 0x5503 3 [4, 0]] [] 0
    let fr := frameTo (s.macOf 3) 0x0801 none
    let ri := ringIdx s.mem (s.ringAt (s.ifaceOf 3) false).1 (s.ringAt (s.ifaceOf 3) false).2
    s.portOn 3 = true ∧ s.sbMarches = false ∧ (∀ a ∈ [(s.ringAt 3 false).1, (s.ringAt 3 false).1 + 4], s.meetsUe 9 a = false ∧ s.meetsCe 9 a = false) ∧
    frameSound fr = true ∧ s.pairMode (npair 3) = 0 ∧ s.engineTakes 3 fr = false ∧ fr.dst = s.macOf 3 ∧ fr.tags = 0 ∧
    s.cfg (0x5500 + 3) 1 0 ≠ 0 ∧ ringHolds ri.1 ri.2.1 ri.2.2 < (s.ringAt (s.ifaceOf 3) false).2 ∧ ri.2.2 ≤ 2 ^ 32 ∧
    (ringBytes fr 0).length < 2048 ∧ Memory.wf s.mem = true := by decide +kernel
theorem witness_EthernetPorts_pairs :
    let s := netted (fun n => { n with pair := n.pair.set 1 { n.pair[1] with lanAt := #v[5, 6] } }) [val 0x5009 1 [1]] [] 4000000005
    s.pairMode 1 ≠ 0 ∧ s.net.pair[(1 : Fin 2)].fault.getLsbD 0 = false ∧
    s.net.pair[(1 : Fin 2)].lanAt[(0 : Fin 2)] + 2 * s.cfg (0x5008 + 1) 2 2000 * 1000000 ≤ s.clk ∧
    s.net.pair[(1 : Fin 2)].lanAt[(0 : Fin 2)] < s.net.pair[(1 : Fin 2)].lanAt[(1 : Fin 2) - 0] ∧ s.isTrail = false ∧ s.leadPaired = false ∧
    s.net.pair[(1 : Fin 2)].lifeAt + s.cfg (0x5008 + 1) 2 2000 * 1000000 ≤ s.clk := by decide
theorem witness_EthernetPorts_replies : let s := netted (upPort 2) [val 0x5012 1 [1, 0, 168, 192]] [] 0
    s.isTrail = false ∧ s.leadPaired = false ∧ s.answers 2 0xC0A80001 = true := by decide

/-- A transmit ring of interface 2 at the base of SB, with one frame of 14 bytes and EtherType `t` in it. -/
def ringMem (len t0 t1 : Byte) : List Host.Cell :=
  [⟨0x02000000, 1⟩, ⟨0x02000040, len⟩, ⟨0x0200005C, t0⟩, ⟨0x0200005D, t1⟩]

theorem witness_EthernetPorts_transmit : ∀ m ∈ [ringMem 14 8 1, ringMem 13 8 1, ringMem 14 0x88 0xF7],
    let s := netted id [val 0x5502 1 [1], val 0x5502 4 [0, 0, 0, 0], val 0x5502 5 [4, 0]] m 0
    let ti := ringIdx s.mem (s.ringAt 2 true).1 (s.ringAt 2 true).2
    s.cfg (0x5500 + 2) 1 0 ≠ 0 ∧ s.ifaceUp 2 = true ∧ ringHolds ti.1 ti.2.1 ti.2.2 ≠ 0 ∧ ti.2.2 ≤ 2 ^ 32 ∧ Memory.wf s.mem = true ∧
    s.isTrail = false ∧ s.leadPaired = false ∧ s.sbMarches = false ∧
    (∀ a ∈ [0x02000000, 0x02000004, 0x02000040, 0x02000050, 0x0200005C], s.meetsUe 9 a = false ∧ s.meetsCe 9 a = false) := by decide
theorem witness_EthernetPorts_good : ownEtherType 0x0801 = false ∧ ownEtherType 0x88F7 = true ∧
    rdMem (ringMem 14 8 1) 0x02000040 4 % 2048 = 14 ∧ be16 (rdBytes (ringMem 14 8 1) 0x02000050 14) 12 = 0x0801 ∧
    rdMem (ringMem 13 8 1) 0x02000040 4 % 2048 < 14 ∧ be16 (rdBytes (ringMem 14 0x88 0xF7) 0x02000050 14) 12 = 0x88F7 := by decide

/-- PTP in state `st` with `good` Sync messages in a row; the parent is behind port 3. -/
def ptpIn (st good : Nat) (parent : Option (Fin 4)) : State :=
  netted (fun n => { upPort 3 n with ptp := { n.ptp with st := st, good := good, parent := parent } }) [val 0x5020 1 [3]] [] 0

theorem witness_PtpStates : (ptpIn 1 0 none).isTrail = false ∧ (ptpIn 1 0 none).net.ptp.st = 1 ∧
    List.replicate 8 0 = (ptpIn 1 0 none).net.ptp.gm ∧
    (∀ st ∈ [2, 3], (ptpIn st 15 (some 3)).net.ptp.st = st ∧ (ptpIn st 15 (some 3)).net.ptp.parent = some 3 ∧
      (ptpIn st 15 (some 3)).tbSource ≠ 0) ∧
    (99 : Int).natAbs < 100 ∧ 100 ≤ (-100 : Int).natAbs ∧ 1000 < (-1001 : Int).natAbs ∧ (1000 : Int).natAbs ≤ 1000 ∧
    (ptpIn 1 0 none).cfg 0x5020 1 1 = 3 ∧ (ptpIn 1 0 none).portOn 3 = true ∧ (ptpIn 1 0 none).cfg 0x5020 6 1 = 1 ∧ (ptpIn 3 0 none).net.ptp.passive = none ∧ (ptpIn 1 0 none).net.port[(3 : Fin 4)].up = true ∧
    (ptpIn 1 0 none).net.ptp.parent ≠ some 3 := by decide
theorem witness_PtpStates_sync : let s := netted (fun n => { n with ptp := { n.ptp with st := 3, parent := some 3 } }) [val 0x8000 1 [0]] [] 0
    s.tbSource = 0 ∧ s.injOn 104 = false ∧ s.net.ptp.parent = some 3 := by decide

/-- A GOOSE message for subscription 255, with state number `st`. -/
def gooseOf (st rev : Word) (n : Nat) (members : List GooseVal) : GooseMsg :=
  ⟨0, List.replicate 6 0, 0, none, [], [], rev, n, st, 0, 1000, false, false, members⟩

/-- A unit with subscription 255 enabled, of one mapped member, whose last accepted state number is 5 when `acc`. -/
def subscribed (acc : Bool) : State :=
  netted (fun n => { n with gsub := n.gsub.set 255 { n.gsub[255] with acc := acc, stNum := 5 } })
    [val 0x51FF 1 [1], val 0x51FF 8 [1, 0, 0, 0], val 0x51FF 0xF [0, 0, 1, 0, 0, 0, 1, 0]] [] 1000

theorem witness_GooseAndSv_goose : let s := subscribed true
    (∀ n, s.gooseFor { gooseOf 5 1 1 [] with appid := 1 } n = false) ∧
    (List.finRange 256).filter (s.gooseFor (gooseOf 4 1 1 [])) = [255] ∧ s.net.gsub[(255 : Fin 256)].acc = true ∧
    s.net.gsub[(255 : Fin 256)].talexp = false ∧ 1 ≤ ((5 : Word) - 4).toNat ∧ ((5 : Word) - 4).toNat < 2 ^ 31 ∧
    s.net.gsub[(255 : Fin 256)].until_ ≤ s.clk ∧ s.gsCfg 255 1 0 = 1 ∧ lineOf (s.gsCfg 255 0xC 0xFF) = [] := by decide +kernel
theorem witness_GooseAndSv_rows : let s := subscribed false
    (List.finRange 256).filter (s.gooseFor (gooseOf 5 1 1 [.bool true])) = [255] ∧ s.net.gsub[(255 : Fin 256)].acc = false ∧
    s.gsCfg 255 0xD 0 = 0 ∧ s.gsCfg 255 8 0 = 1 ∧ (mapEnts (s.cfgBytes (0x5100 + 255) 0xF [])).length = 1 ∧
    (2 : Word).toNat ≠ s.gsCfg 255 8 0 ∧
    mapError [.bool true] (mapEnts (s.cfgBytes (0x5100 + 255) 0xF [])) = none ∧
    mapError [] (mapEnts (s.cfgBytes (0x5100 + 255) 0xF [])) ≠ none := by decide +kernel
theorem witness_GooseAndSv_publish :
    let s := netted (fun n => { n with gpub := n.gpub.set 63 { n.gpub[63] with ran := true, nextAt := some 5 } }) [val 0x533F 1 [1]] [] 5
    s.net.gpub[(63 : Fin 64)].nextAt = some 5 ∧ 5 ≤ s.clk ∧ s.pubActive 63 = true ∧ s.isTrail = false ∧ s.leadPaired = false := by decide

/-- An SV frame for subscription 15. -/
def svOf (rev : Word) : SvMsg := ⟨0, List.replicate 6 0, 0, none, [], rev, [⟨0, 0, List.replicate 8 (0, 0)⟩]⟩

theorem witness_GooseAndSv_sv : let s := netted id [val 0x540F 1 [1]] [] 1000000
    (List.finRange 16).filter (s.svFor (svOf 0)) = [15] ∧ (svOf 0).confRev.toNat = s.svCfg 15 7 0 ∧
    (svOf 0).asdus.length = s.svCfg 15 9 1 ∧ (∀ a ∈ (svOf 0).asdus, a.vals.length = s.svCfg 15 0xA 8) ∧
    (List.finRange 16).filter (s.svFor (svOf 1)) = [15] ∧ (svOf 1).confRev.toNat ≠ s.svCfg 15 7 0 ∧
    s.svCfg 15 1 0 = 1 ∧ s.net.sv[(15 : Fin 16)].lost = false ∧
    s.net.sv[(15 : Fin 16)].lastAt + max 1000000 (4 * 1000000000 / max 1 (s.svCfg 15 8 4000)) ≤ s.clk := by decide +kernel


/-! ## CAN FD: witnesses -/

/-- A unit in state `op` with CAN controller 1 changed. -/
def canned (op : OpState) (f : Can → Can) (vals : List (Nat × Option (List Byte))) : State :=
  let s := srv fun s => s.modCan 1 f
  { s with
    op := { s.op with st := op, key := 2 }, dict := { s.dict with vals := vals }
    prog := { s.prog with loaded := true, imap := { s.prog.imap with res := [⟨0x407F, 0⟩] } } }

theorem witness_CanControllers_receive : let s := canned .run (fun k => { k with st := 2, rxec := 128 }) [val 0x627F 1 [1], val 0x627F 2 [0xFF, 7, 0, 0]]
    s.op.failover = false ∧ s.can[(1 : Fin 2)].active = true ∧ (canOf 2047 false true 64).remote = false ∧
    allMo.find? (s.rxMatch 1 (canOf 2047 false true 64)) = some 127 ∧ (s.moWin 1 127).1 = 0 ∧
    allMo.find? (s.rxMatch 1 (canOf 2046 false true 64)) = none ∧ s.mdpId 1 (canOf 2046 false true 64).id.toNat false = false ∧
    s.injOn 107 = false ∧ s.injOn 108 = false ∧ (canned .run id []).can[(1 : Fin 2)].active = false := by decide +kernel

/-- Controller 1 with TX object 127, which is pending or in transmission; `one` says one-shot. -/
def sending (op : OpState) (st : Nat) (txreq intx one : Bool) : State :=
  (canned op (fun k => { k with st := st, tec := 127, mdpTx := true, mo := k.mo.set 127 { k.mo[127] with txreq := txreq, intx := intx } })
    ([val 0x627F 1 [2]] ++ if one then [val 0x627F 6 [1]] else [])).modRegs 0 fun r => { r with priv := true }

theorem witness_CanControllers_request : let s := sending .run 2 false false false
    s.moHolder 1 127 = 1 ∧ s.moDir 1 127 = 2 ∧ s.can[(1 : Fin 2)].mo[(127 : Fin 128)].txreq = false ∧
    ((0x108 : Word).extractLsb' 0 4 : BitVec 4).toNat ≤ 8 ∧ (0x108 : Word).getLsbD 8 = true ∧ s.op.st = .run ∧
    s.can[(1 : Fin 2)].st ≠ 5 ∧ s.isTrail = false ∧ (sending .stop 2 false false false).op.st ≠ .run ∧
    (sending .run 5 false false false).can[(1 : Fin 2)].st = 5 ∧ RegAccess s 0 ∧
    (let t := (sending .stop 2 false false false).modAct 0 fun a => { a with status := .ready }
     (t.cx 0).act.paired = false ∧ (t.cx 0).regs.trapact = false) := by unfold RegAccess; decide +kernel
theorem witness_CanControllers_transmission : ∀ one ∈ [false, true], let s := sending .run 2 true true one
    s.moHolder 1 127 = 1 ∧ s.moDir 1 127 = 2 ∧ s.can[(1 : Fin 2)].mo[(127 : Fin 128)].txreq = true ∧
    s.can[(1 : Fin 2)].mo[(127 : Fin 128)].intx = true ∧ s.can[(1 : Fin 2)].active = true ∧ s.moCfg 1 127 4 0 = 0 ∧
    s.can[(1 : Fin 2)].mo[(127 : Fin 128)].next = none ∧ s.can[(1 : Fin 2)].mo[(127 : Fin 128)].late = none ∧ s.can[(1 : Fin 2)].mdpTx = true ∧
    RegAccess s 0 ∧ s.oneShot 1 127 = one ∧
    (sending .run 2 true false one).can[(1 : Fin 2)].mo[(127 : Fin 128)].intx = false := by unfold RegAccess; decide +kernel
theorem witness_CanControllers_states : (canned .run (fun k => { k with st := 1 }) []).can[(1 : Fin 2)].st = 1 ∧
    (let s := canned .run (fun k => { k with st := 4, recovering := true }) []
     s.can[(1 : Fin 2)].st = 4 ∧ s.can[(1 : Fin 2)].recovering = true) ∧
    (let s := canned .run (fun k => { k with st := 5 }) []
     s.can[(1 : Fin 2)].st = 5 ∧ s.canCfg 1 0x10 1 = 1) ∧
    (let s := canned .run (fun k => { k with st := 5 }) [val 0x6001 0x10 [2], val 0x6001 0x11 [127], val 0x627F 2 [0xFF, 7, 0, 0]]
     s.can[(1 : Fin 2)].st = 5 ∧ s.canCfg 1 0x10 1 = 2 ∧ s.wakeFrame 1 (canOf 2047 false true 8) = true) := by decide +kernel
theorem witness_CanControllers_commands : (∀ st ∈ [1, 2, 3, 4], Performable (canned .stop (fun k => { k with st := st }) []) 0x6001 0xF 2 [1]) ∧
    Performable (canned .stop (fun k => { k with st := 5 }) []) 0x6001 0xF 2 [2] ∧
    Performable (canned .stop (fun k => { k with st := 4 }) []) 0x6001 0xF 2 [3] :=
  ⟨fun st h => performable_of (by revert st; decide), performable_of (by decide), performable_of (by decide)⟩


/-! ## Sessions and requests: witnesses -/

/-- A unit that serves requests over USB at instant `clk`, with its dictionary server changed. -/
def serving (f : Dict → Dict) (clk : Nat) : State := { srv fun s => s.modDict f with clk := clk }

/-- A request of an open, in no session. -/
def rq0 : Req := ⟨.usb, 0, 1, false, [], true, 20, true⟩

/-- A half-open session 9, and a transfer of session 1. -/
def halfOf : HalfOpen := ⟨9, .usb, 3, [], [], 0, deriveKeys infoMdp [] [] false⟩
def xferOf : Xfer := ⟨0x2000, 1, 32, [], 0⟩

theorem witness_Sessions_open : (serving (fun d => { d with vals := [val 0x1B10 3 [4]] }) 0).openRole rq0.origin = 4 ∧
    (serving (fun d => { d with vals := [val 0x1B10 3 [0]] }) 0).openRole rq0.origin = 0 ∧ (serving id 0).listens rq0.origin = true ∧
    usbSound rq0 = true ∧ framed rq0 (.sessionOpen rq0 0 3 1 []) = true ∧ framed rq0 (.sessionOpen rq0 1 3 1 (List.replicate 132 0)) = true ∧
    (3 : Byte).toNat ≤ 3 ∧ (served (serving id 0) rq0).dict.sessions.length < 8 ∧ (served (serving id 0) rq0).dict.half.length < 2 ^ 31 ∧
    (serving id 0).locked (transportOf rq0.origin) = false ∧ (serving id 0).pwr.phase ≠ .recovery ∧ (serving id 0).op.failover = false := by
  decide +kernel

/-- Phase 2 of the half-open session, under its keys: `p` comes with the tag that they give. -/
def rq2 (p : List Byte) : Req :=
  let q : List Byte := [1, 3, 2, 0] ++ p
  { rq0 with session := 9, seq := 2, enc := true, tag := tagFor halfOf.keys 2 (mdpHeader 1 true 9 2 (q.length + 16)) q }

theorem witness_Sessions_phase2 : let s := serving (fun d => { d with half := [halfOf] }) 0
    let p : List Byte := List.replicate 100 0
    (served s rq0).dict.half.find? (·.id == 9) = some halfOf ∧ (served s rq0).session 9 = none ∧ s.injFor 117 (transportOf .usb) = false ∧
    s.locked (transportOf .usb) = false ∧ lengthFits { rq0 with enc := true } (.sessionOpen rq0 1 3 2 p) = true := ⟨rfl, by decide +kernel⟩
theorem witness_Sessions_tag (p : List Byte) : verifies halfOf.keys (rq2 p) (.sessionOpen { rq2 p with session := 0 } 1 3 2 p) = true := by
  simp [verifies, rq2, mdpPayload, opCode]
theorem witness_Sessions_close : Executes (serving id 0) rq (sessOf 7) (.sessionClose rq) := executes_of (by decide)
theorem witness_Sessions_timeouts :
    let s := serving (fun d => { d with half := [halfOf], sessions := [{ sessOf 7 with xfer := some xferOf }], lock := [(3, some 0)] }) 60000000000
    s.session 1 = some { sessOf 7 with xfer := some xferOf } ∧ xferOf.at_ + 2000000000 ≤ s.clk ∧ halfOf.at_ + 2000000000 ≤ s.clk ∧
    (sessOf 7).at_ + 10000000000 ≤ s.clk ∧ sget none s.dict.lock 3 = some 0 ∧ 0 + 60000000000 ≤ s.clk ∧ swf none s.dict.lock = true := by
  decide
theorem witness_Sessions_can : let s := serving (fun d => { d with vals := [val 0x6001 0x13 [1]], asm_ := d.asm_.set 1 (some (2, [1], 0)) }) 100000000
    s.cfg (0x6000 + 1) 0x13 0 ≠ 0 ∧ (0x80 : Byte).getLsbD 7 = true ∧ (0x80 : Byte).getLsbD 6 = false ∧ (0x80 : Byte).toNat % 64 = 0 ∧
    s.dict.asm_[(1 : Fin 2)] = some ((3 : Byte).toNat % 64 - 1, [1], 0) ∧ (3 : Byte).getLsbD 7 = false ∧ (0x43 : Byte).getLsbD 6 = true ∧
    (4 : Byte).toNat % 64 ≠ 2 + 1 ∧ 0 + 100000000 ≤ s.clk := by decide
theorem witness_Sessions_restore : Performable (srv id) 0x1010 1 2 [1] ∧ Performable (srv id) 0x1010 1 2 [2] :=
  ⟨performable_of (by decide), performable_of (by decide)⟩

/-- `PlainWrite` of some entry, as a Bool. -/
def plain (u : State) (x : Session) (usb : Bool) (idx sub : Nat) (ty : Option Nat) (v : List Byte) : Bool :=
  (match u.findEnt idx sub with | some e => e.acc != 2 | none => false) && u.objAt idx sub == none && spTarget idx == none &&
    !isTrial idx sub && !isSource idx sub && !u.leadPaired && u.writeBars (u.withVal idx sub v) x.role usb (!x.auth) idx sub ty v == none

theorem plain_write {u : State} {x : Session} {usb : Bool} {idx sub : Nat} {ty : Option Nat} {v : List Byte}
    (h : plain u x usb idx sub ty v = true) : ∃ e, PlainWrite u x usb idx sub ty v e := by
  simp only [plain, Bool.and_eq_true, beq_iff_eq, Bool.not_eq_true'] at h
  obtain ⟨⟨⟨⟨⟨⟨h1, h2⟩, h3⟩, h4⟩, h5⟩, h6⟩, h7⟩ := h
  split at h1
  · exact ⟨_, by assumption, by simpa using h1, h2, h3, h4, h5, h6, h7⟩
  · exact absurd h1 (by decide)

/-- The gate time of channel 31, and the state in which a write of it is executed. -/
def gateWrite (v : List Byte) : State := taken (srv id) rq (.write rq 0x311F 0xD 3 v)

theorem witness_Requests_write : Executes (srv id) rq (sessOf 7) (.write rq 0x311F 0xD 3 [100, 0]) ∧ (srv id).op.failover = false ∧ swf none (srv id).dict.vals = true ∧
    (∃ e, PlainWrite (gateWrite [100, 0]) (sessOf 7) true 0x311F 0xD (some 3) [100, 0] e) ∧
    (gateWrite [9, 0]).writeBars ((gateWrite [9, 0]).withVal 0x311F 0xD [9, 0]) 7 true false 0x311F 0xD (some 3) [9, 0] = some abRange :=
  ⟨executes_of (by decide), by decide, by decide, plain_write (by decide), by decide⟩
theorem witness_Requests_read : ((srv id).findEnt 0x2000 1).any (fun e => e.acc == 1 && e.ty != 15 && !(srv id).nvBusy e &&
      decide ((srv id).roleOf e 0x2000 true false ≤ 7)) = true ∧
    (srv id).findEnt 0x0FFF 1 = none ∧ ((srv id).findEnt 0x2001 1).any (fun e => e.acc == 2) = true ∧
    ((srv id).findEnt 0x2000 1).any (fun e => decide ((taken (srv id) rq (.read rq 0x2000 1)).valueLen e 0x2000 = 1)) = true ∧
    1 ≤ (1 : BitVec 16).toNat ∧ (1008 : BitVec 16).toNat ≤ 1008 := by decide
theorem witness_Requests_blocks : let w := taken (srv id) rq (.writeBlock rq 0x311F 0xD 0 32 (List.replicate 16 0))
    (sessOf 7).dead ≠ some (0x311F, 0xD) ∧ (sessOf 7).xfer = none ∧ parisonOf 0x311F 0xD = none ∧
    w.blockBars rq (sessOf 7) 0x311F 0xD 0 32 (List.replicate 16 0) = none ∧ (List.replicate 16 (0 : Byte)).length < 32 ∧
    (taken (srv id) rq (.writeBlock rq 0x311F 0xD 0 2 [100, 0])).blockBars rq (sessOf 7) 0x311F 0xD 0 2 [100, 0] = none := by decide
theorem witness_Requests_whole : ∃ e, PlainWrite (taken (srv id) rq (.writeBlock rq 0x311F 0xD 0 2 [100, 0])) (sessOf 7) true 0x311F 0xD none [100, 0] e :=
  plain_write (by decide)
theorem witness_Requests_dead : let x := { sessOf 7 with dead := some (0x311F, 0xD) }
    Executes (serving (fun d => { d with sessions := [x] }) 0) rq x (.writeBlock rq 0x311F 0xD 0 32 []) ∧ x.dead = some (0x311F, 0xD) := ⟨executes_of (by decide), rfl⟩


/-! ## Hierarchy: witnesses -/

/-- A unit of a hierarchy: role 1 manager, 2 worker; LARGE when `large`; worker 1 is enabled and is `x`. -/
def node (role : Byte) (large : Bool) (x : Worker) (f : Hier → Hier) (tb : Word64) (clk : Nat) (more : List (Nat × Option (List Byte))) : State :=
  let s := srv fun s => s.modHier fun h => f { h with workers := [(1, x)] }
  { s with
    clk := clk, time := { s.time with tb := tb }
    dict := { s.dict with vals := [val 0x7000 1 [role], val 0x7000 3 [if large then 1 else 0]] ++ more ++ [val 0x7011 1 [1]] } }

/-- Worker 1 in state `st`. -/
def inState (st : Nat) : Worker := { Worker.blank with st := st, hbAt := 1 }

/-- A frame from node `src` to node `dst` with `n` bytes. -/
def puntyOf (src dst flags : Byte) (n : Nat) : PuntyFrame := ⟨flags, src, dst, 0, 1, List.replicate n 0, true, []⟩

theorem heard_small {s : State} {kind : Byte} {f : PuntyFrame} (h1 : f.dst.toNat = s.node) (h2 : s.puntyCarried = true) (h3 : f.form = true)
    (h4 : s.large_ = false) : Heard s kind f s := ⟨h1, h2, h3, .inl ⟨h4, rfl⟩⟩

theorem witness_HierarchyExchanges_slots : ∀ st ∈ [2, 3, 1], let s := node 1 false (inState st) (fun h => { h with cycle := some 0 }) 0 0 []
    swf Worker.blank s.hier.workers = true ∧ s.manages = true ∧ s.wOn 1 = true ∧ s.puntyCarried = true ∧ s.hier.cycle = some s.hCycle ∧
    (s.worker 1).slotK ≠ some s.hCycle ∧ s.hCycle * s.tcNs + s.slotOff 1 ≤ s.time.tb.toNat ∧
    s.time.tb.toNat < s.hCycle * s.tcNs + s.slotOff 1 + s.slotNs ∧ (s.worker 1).st = st ∧ s.cfg 0x7000 7 0 = 0 ∧
    (node 1 false (inState 3) (fun h => { h with cycle := some 0 }) 0 0 [val 0x7000 7 [1]]).cfg 0x7000 7 0 = 1 ∧
    (node 1 false (inState st) id 0 0 []).hier.cycle ≠ some 0 := by decide +kernel
theorem witness_HierarchyExchanges_up :
    let x := { inState 2 with due := some 0, slotK := some 0 }
    let s := node 1 false x (fun h => { h with cycle := some 0 }) 9999999 0 []
    swf Worker.blank s.hier.workers = true ∧ s.manages = true ∧ s.wOn 1 = true ∧ (s.worker 1).slotK = some 0 ∧ (s.worker 1).due = some (puntyOf 1 0 0 128).cycle ∧
    (puntyOf 1 0 0 128).payload.length = 128 ∧ s.time.tb.toNat < s.closeOf 1 0 ∧ s.pubDue (0x400 + 1) = true ∧ s.ibMarches = false ∧
    swf [bornVersion] s.img.ver = true ∧
    (let t := node 1 false x (fun h => { h with cycle := some 0 }) 10000000 0 []
     t.closeOf 1 0 ≤ t.time.tb.toNat ∧ (t.worker 1).due.isSome = true) := by decide +kernel
theorem witness_HierarchyExchanges_heard : (∀ kind : Byte, Heard (node 1 false (inState 2) id 0 0 []) kind (puntyOf 1 0 0 128) (node 1 false (inState 2) id 0 0 [])) ∧
    ∀ kind : Byte, Heard (node 2 false (inState 2) id 0 0 []) kind (puntyOf 0 1 0 128) (node 2 false (inState 2) id 0 0 []) :=
  ⟨fun _ => heard_small (by decide) (by decide) (by decide) (by decide), fun _ => heard_small (by decide) (by decide) (by decide) (by decide)⟩
theorem witness_HierarchyExchanges_down : let s := node 2 false (inState 0) id 0 0 []
    swf Worker.blank s.hier.workers = true ∧ s.works = true ∧ s.hier.lastDown ≠ some (puntyOf 0 1 0 128).cycle ∧ (puntyOf 0 1 0 128).flags.getLsbD 1 = false ∧
    (puntyOf 0 1 2 0).flags.getLsbD 1 = true ∧ (puntyOf 0 1 2 0).payload = [] ∧ s.isTrail = false ∧ s.pubDue 0x400 = true ∧ s.ibMarches = false ∧
    (puntyOf 0 1 0 127).payload.length ≠ 128 ∧
    (let t := node 2 false (inState 0) (fun h => { h with lastDown := some 0, own := 2 }) 0 99000000 []
     t.works = true ∧ t.hier.lastDown = some (puntyOf 0 1 0 128).cycle ∧ t.hier.hbAt + 99000000 ≤ t.clk ∧ t.large_ = false ∧ t.puntyCarried = true ∧
     t.hier.own ≠ 0 ∧ t.hier.downAt + 3 * t.tcNs ≤ t.clk ∧ t.isTrail = false ∧ t.leadPaired = false) := by decide +kernel
theorem witness_HierarchyExchanges_heartbeats : ∀ st ∈ [0, 4, 1, 2, 3], let s := node 1 false (inState st) id 0 300000001 []
    swf Worker.blank s.hier.workers = true ∧ s.manages = true ∧ s.wOn 1 = true ∧ (s.worker 1).st = st ∧ (puntyOf 1 0 0 56).payload.length = 56 ∧ s.sup.restarting = false ∧
    (s.worker 1).bound = none ∧ s.injFor 110 1 = false ∧ (puntyOf 1 0 0 56).payload.drop 8 = s.expected 1 ∧ s.large_ = false ∧
    (puntyOf 1 0 0 56).payload.drop 8 ≠ (node 1 false (inState st) id 0 0 [val 0x7011 2 [1]]).expected 1 ∧
    (s.worker 1).hbAt + 300000000 ≤ s.clk := by decide +kernel

/-- Worker 1 of a LARGE hierarchy, its link in a phase. -/
def linkIn (phase : Nat) (open_ : Bool) : PLink := { PLink.blank with phase := phase, open_ := open_ }

/-- The hypotheses that all clauses of LinksAndStaging share. -/
def largeUnit (s : State) : Bool := !s.op.failover && swf Worker.blank s.hier.workers && s.large_ && !s.leadPaired && !s.isTrail

theorem witness_LinksAndStaging_manager : let s := node 1 true { inState 0 with link := linkIn 2 false } id 0 0 []
    largeUnit s = true ∧ s.manages = true ∧ s.wOn 1 = true ∧ s.puntyCarried = true ∧ (puntyOf 1 0 0 132).src = 1 ∧ (puntyOf 1 0 0 132).dst.toNat = s.node ∧
    (puntyOf 1 0 0 132).form = true ∧ (puntyOf 1 0 0 132).payload.length = 132 ∧ 100 ≤ (puntyOf 1 0 0 100).payload.length ∧
    (s.worker 1).link.phase = 2 := by decide +kernel
theorem witness_LinksAndStaging_worker : ∀ phase ∈ [1, 3], let s := node 2 true (inState 0) (fun h => { h with link := linkIn phase true }) 0 0 []
    largeUnit s = true ∧ s.works = true ∧ s.puntyCarried = true ∧ (puntyOf 0 1 0 232).src = 0 ∧ (puntyOf 0 1 0 232).dst.toNat = s.node ∧ 232 ≤ (puntyOf 0 1 0 232).payload.length ∧
    s.hier.link.phase = phase ∧ (puntyOf 0 1 0 4).payload.length = 4 ∧ leNat (puntyOf 0 1 0 4).payload = 0 ∧
    leNat { puntyOf 0 1 0 4 with payload := [0, 0, 0, 1] }.payload ≠ 0 ∧ s.hier.link.open_ = true := by decide +kernel

/-- Keys of a link, and a frame of type `kind` protected under them. -/
def linkKeys : Keys := deriveKeys infoMdp [] [] false
def sealedOf (kind : Byte) (f : PuntyFrame) : PuntyFrame := { f with tag := puntyTag linkKeys kind f }

theorem heard_large {s : State} {kind : Byte} {f : PuntyFrame} (h1 : f.dst.toNat = s.node) (h2 : s.puntyCarried = true) (h3 : f.form = true)
    (h4 : s.large_ = true) (h5 : s.injFor 118 f.src.toNat = false) (h6 : (s.link f.src.toNat).open_ = true) (h7 : f.flags.getLsbD 0 = true)
    (h8 : (s.link f.src.toNat).keys = some linkKeys) (h9 : (s.link f.src.toNat).rx.toNat < f.seq.toNat) :
    ∃ u, Heard s kind (sealedOf kind f) u :=
  ⟨_, h1, h2, h3, .inr ⟨h4, h5, { s.link f.src.toNat with rx := f.seq }, by
    have h : tagVerifies (s.link f.src.toNat).keys kind (sealedOf kind f) = true := by rw [h8]; simp [tagVerifies, sealedOf, puntyTag]
    have h9' : (s.link f.src.toNat).rx.toNat < (sealedOf kind f).seq.toNat := h9
    have h7' : (sealedOf kind f).flags.getLsbD 0 = true := h7
    show (s.link f.src.toNat).accept kind (sealedOf kind f) s.clk = _
    simp only [PLink.accept, h6, h7', h, h9', Bool.not_true, Bool.false_eq_true, or_self, if_false, and_self, if_true]
    rfl, rfl⟩⟩

theorem witness_LinksAndStaging_quote :
    let s := node 2 true (inState 0) (fun h => { h with link := { linkIn 0 true with keys := some linkKeys } }) 0 0 []
    (∃ u, Heard s 0x14 (sealedOf 0x14 (puntyOf 0 1 1 32)) u) ∧ (sealedOf 0x14 (puntyOf 0 1 1 32)).src = 0 ∧
    (sealedOf 0x14 (puntyOf 0 1 1 32)).payload.length = 32 ∧ largeUnit s = true ∧ s.works = true :=
  ⟨heard_large (by decide) (by decide) (by decide) (by decide) (by decide) (by decide) (by decide) rfl (by decide), by decide⟩
theorem witness_LinksAndStaging_judged :
    let x := { inState 1 with link := { linkIn 0 true with keys := some linkKeys }, nonce := some [1] }
    let s := node 1 true x id 0 60000000000 []
    (∃ u, Heard s 0x15 (sealedOf 0x15 (puntyOf 1 0 1 320)) u) ∧ largeUnit s = true ∧ s.manages = true ∧ s.wOn 1 = true ∧
    (s.worker 1).nonce = some [1] ∧ (puntyOf 1 0 1 320).payload.length = 320 ∧ (s.worker 1).st = 1 ∧ (s.worker 1).attested = false ∧
    (s.worker 1).link.open_ = true ∧ (s.worker 1).quoteAt + 60000000000 ≤ s.clk :=
  ⟨heard_large (by decide) (by decide) (by decide) (by decide) (by decide) (by decide) (by decide) rfl (by decide), by decide +kernel⟩
theorem witness_LinksAndStaging_overlap : let s := node 1 true { inState 2 with link := { linkIn 0 true with old := some (5, 9) } } id 0 5 []
    largeUnit s = true ∧ (s.link 1).old = some (5, 9) ∧ 5 ≤ s.clk ∧ s.manages = true ∧ (s.worker 1).st = 2 := by decide +kernel
theorem witness_LinksAndStaging_requestQuote : Performable (node 1 true (inState 2) id 0 0 []) 0x7011 0xA 2 [1] ∧
    largeUnit (node 1 true (inState 2) id 0 0 []) = true ∧ ((node 1 true (inState 2) id 0 0 []).worker 1).st = 2 := ⟨performable_of (by decide), by decide +kernel⟩
theorem witness_LinksAndStaging_arm :
    let s := let s := node 1 true (inState 2) (fun h => { h with staged := 1 }) 0 0 []
      { s with time := { s.time with valid := true } }
    let v := taken s rq (writeOf rq 0x7002 3 2 [1])
    Performable s 0x7002 3 2 [1] ∧ largeUnit s = true ∧ s.time.valid = true ∧ parseSerial (v.cfgBytes 0x7002 1 []).length (v.cfgBytes 0x7002 1 []) = some [] ∧
    v.setBars (v.withAll []) 7 true false [] = none ∧ (v.admitsSet (v.withAll []) []).2 = none ∧ Performable s 0x7002 3 2 [2] ∧
    s.hier.staged = 1 ∧ s.hier.boundary ≤ s.time.tb.toNat ∧ (∀ k : Fin 3, s.sec.par[k].st ≠ 3) ∧ s.inStep = false ∧
    s.keyPermits s.hier.armed = true ∧ s.keyPermits [(0xFFFF, 0, 0, [])] = false :=
  ⟨performable_of (by decide), by decide +kernel, by decide, by decide +kernel, by decide +kernel, by decide +kernel, performable_of (by decide),
    by decide +kernel⟩


/-! ## Tandem: witnesses -/

/-- A tandem unit with agent `f`, at `tb` on the time base and `clk` on the crystal, PRESIN high. -/
def tandem (f : Tdm → Tdm) (tb : Word64) (clk : Nat) : State :=
  let s := srv fun s => s.modTdm fun d => f { d with presIn := true }
  { s with clk := clk, time := { s.time with tb := tb }, op := { s.op with key := 2 }, dict := { s.dict with vals := [val 0x7200 1 [1, 0, 0, 0]] } }

/-- A tandem frame of type `ty` with sequence number 5, sound before keys are known. -/
def tlOf (ty : Nat) (p : List Byte) : TdmFrame := { (⟨7, 5, p, []⟩ : TdmFrame) with check := tlCheck none ty ⟨7, 5, p, []⟩ }

theorem witness_TandemFrames_sound (ty : Nat) (p : List Byte) : (tlOf ty p).check = tlCheck none ty (tlOf ty p) ∧
    ({ tlOf ty p with check := [] } : TdmFrame).check ≠ tlCheck none ty (tlOf ty p) := ⟨rfl, by simp [tlOf, tlCheck, tlKeys, wordBytes, leBytes]⟩
theorem witness_TandemFrames_refused : ∀ st ∈ [1, 2, 3, 4, 5], let s := tandem (fun d => { d with st := st, rxSeq := some 5 }) 0 0
    s.op.failover = false ∧ s.tdm.presIn = true ∧ s.tdm.st = st ∧ st ≠ 0 ∧ s.injOn 116 = false ∧ s.tdm.keys = none ∧
    s.tdm.rxSeq = some 5 ∧ (tlOf 1 []).seq ≠ 5 + 1 ∧ State.reset.tdm.presIn = false := by decide
theorem witness_TandemFrames_came : ∀ st ∈ [1, 2, 3, 4], let s := tandem (fun d => { d with st := st, rxSeq := some 4 }) 0 0
    s.op.failover = false ∧ s.tdm.presIn = true ∧ s.tdm.st = st ∧ s.injOn 116 = false ∧ s.tdm.keys = none ∧ s.tdm.joinCyc = none ∧
    s.tdm.rxSeq = some 4 ∧ (tlOf 1 []).seq = 4 + 1 ∧ s.isTrail = decide (3 ≤ st ∨ st = 1) := by decide
theorem witness_TandemFrames_publish : let s := tandem (fun d => { d with st := 4 }) 0 0
    BitVec.ofNat 32 (tlU32 [1, 0, 0, 0] 0) = s.tdm.lastEpoch + 1 ∧ ((publishWords [1, 0, 0, 0]).map (·.1)).Nodup ∧
    swf [bornVersion] s.img.ver = true ∧ BitVec.ofNat 32 (tlU32 [2, 0, 0, 0] 0) ≠ s.tdm.lastEpoch + 1 ∧ s.tdm.rxSeq = none ∧
    (([0] : List Byte).getD 0 0).toNat = 0 ∧ (([1] : List Byte).getD 0 0).toNat ≠ 0 ∧ s.tdm.waitTx.find? (·.1 == 3) = none ∧
    (tandem (fun d => { d with st := 4, waitTx := [(3, ⟨0, none, none, .supervision 0⟩)] }) 0 0).tdm.waitTx.find? (·.1 == 3) =
      some (3, ⟨0, none, none, .supervision 0⟩) := by decide
theorem witness_TandemFrames_check : ∀ run ∈ [0, 1, 2], let s := tandem (fun d => { d with st := 4, ownCrc := [(7, 9)], crcRun := run }) 0 0
    s.tdm.ownCrc.find? (·.1 == tlU32 [7, 0, 0, 0, 9, 0, 0, 0] 0) = some (7, 9) ∧ s.injOn 114 = false ∧
    BitVec.ofNat 32 (tlU32 [7, 0, 0, 0, 9, 0, 0, 0] 4) = (9 : Word) ∧ BitVec.ofNat 32 (tlU32 [7, 0, 0, 0, 8, 0, 0, 0] 4) ≠ (9 : Word) ∧
    s.tdm.crcRun = run := by decide

/-- A field scan of LEAD that waits for TRAIL's. -/
def waitingScan : PubSet := ⟨0, [(6, 0), (8, 5), (10, 6)], []⟩

theorem witness_TandemFrames_scan :
    let s := tandem (fun d => { d with st := 2, holds := true, pend := some waitingScan }) 20000 0
    s.isTrail = false ∧ s.tdm.pend = some waitingScan ∧ scanInstant waitingScan = leNat (List.replicate 8 (0 : Byte)) ∧
    (waitingScan.words.map (·.1)).Nodup ∧ waitingScan.lines = [] ∧ s.pubDue waitingScan.src = true ∧ s.ibMarches = false ∧ swf [bornVersion] s.img.ver = true ∧
    scanInstant waitingScan + 20000 ≤ s.time.tb.toNat := by decide
theorem witness_TandemFrames_auth : (List.replicate 4 (0 : Byte)).length = 4 ∧ leNat (List.replicate 4 (0 : Byte)) = 0 ∧
    leNat (List.replicate 4 (1 : Byte)) ≠ 0 ∧ (List.replicate 132 (0 : Byte)).length = 132 := by decide +kernel

theorem witness_TandemRoles_cycles : let s := tandem (fun d => { d with st := 1, holds := true, cycle := 99 }) 0 10000000
    s.tdm.holds = true ∧ s.tdm.st = 1 ∧ s.tdmIndex ≠ s.tdm.cycle ∧ s.tdm.cmds = [] ∧ s.tdm.st ≠ 0 ∧ s.tdm.healthAt + 10000000 ≤ s.clk ∧
    (let t := tandem (fun d => { d with st := 4, pHealthAt := some 0 }) 40000 30000000
     t.tdm.st = 4 ∧ t.ttNs ≠ 0 ∧ t.tdm.lastCheck ≠ some t.tdm.cycle ∧ 40000 ≤ t.time.tb.toNat % t.ttNs ∧ t.tdm.cmds = [] ∧
     t.tdm.peerCrc.find? (·.1 == t.tdm.cycle) = none ∧ t.tdm.pHealthAt = some 0 ∧ 0 + 30000000 ≤ t.clk ∧ t.tdm.busy = false ∧
     t.tdm.cycleAt + 3 * t.ttNs ≤ t.clk) := by decide +kernel
theorem witness_TandemRoles_outputs :
    let s := (tandem (fun d => { d with st := 4 }) 0 0).modFld fun x => { x with ch := x.ch.set 31 { x.ch[31] with mode := 3, driven := true, dis := ⟨true, 99, 0⟩ } }
    (s.fld.ch[(31 : Ch)].dis.feed true 1 s.sampleNo).held true 100 = true ∧ s.fld.ch[(31 : Ch)].dis.held true 100 = false ∧ s.tdm.st = 4 ∧ s.fld.ch[(31 : Ch)].mode = 3 ∧ s.fld.ch[(31 : Ch)].driven ≠ false ∧ s.injFor 113 31 = false := by decide
theorem witness_TandemRoles_join : let s := tandem (fun d => { d with st := 3 }) 0 2000000000
    s.tdm.st = 3 ∧ s.tdm.presIn = true ∧ s.clk ≤ s.tdm.joinAt + 2000000000 ∧ s.tdm.joinAt + 2000000000 ≤ s.clk ∧
    (let t := tandem (fun d => { d with st := 5 }) 0 10000000000
     t.tdm.st = 5 ∧ t.tdm.presIn = true ∧ t.tdm.outAt + 10000000000 ≤ t.clk) := by decide
theorem witness_TandemRoles_commands :
    let s := tandem (fun d => { d with st := 2, holds := true, pHealth := 0x3F, pHealthAt := some 0 }) 0 0
    let u := fun n => taken s rq (writeOf rq 0x7200 6 2 [n])
    Executes s rq (sessOf 7) (writeOf rq 0x7200 6 2 [1]) ∧ Executes s rq (sessOf 7) (writeOf rq 0x7200 6 2 [2]) ∧ (s.findEnt 0x7200 6).any (·.acc == 2) = true ∧ s.op.key = 2 ∧ s.trailHealthy = true ∧ s.isTrail = false ∧
    (u 1).objAt 0x7200 6 = none ∧ (u 1).writeBars ((u 1).withVal 0x7200 6 [1]) 7 true false 0x7200 6 (some 2) [1] = none ∧
    (u 2).objAt 0x7200 6 = none ∧ (u 2).writeBars ((u 2).withVal 0x7200 6 [2]) 7 true false 0x7200 6 (some 2) [2] = none :=
  ⟨executes_of (by decide), executes_of (by decide), by decide⟩
theorem witness_TandemRoles_intlk : (tandem (fun d => { d with st := 4, busy := true }) 0 0).tdm.busy = true ∧
    (let s := tandem (fun d => { d with st := 5 }) 0 10000000000
     s.pwr.phase ≠ .off ∧ s.tdm.busy = false ∧ s.tdm.holds = false ∧ s.tdm.st ≠ 0 ∧ s.pwr.phase = .running ∧ s.tdm.freeAt + s.claimWait ≤ s.clk ∧
     false ≠ s.tdm.presIn) ∧
    (let s := (tandem (fun d => { d with st := 5, busy := true }) 0 0).modTdm fun d => { d with presIn := false }
     true ≠ s.tdm.presIn ∧ s.tdm.holds = false ∧ s.tdm.busy = true ∧ s.pwr.phase = .running) := by decide +kernel


/-! ## Time base and RTC domain: witnesses -/

/-- A unit at time base `tb` and crystal count `clk`, its clocks changed, the source of the time base set. -/
def clocked (f : Time → Time) (tb : Word64) (clk : Nat) (source : Byte) : State :=
  let s := srv id
  { s with
    clk := clk, time := f { s.time with tb := tb }, op := { s.op with key := 0 }
    dict := { s.dict with vals := [val 0x8000 1 [source]] } }

theorem witness_TimeAndRtc_pps : ∀ tb ∈ [999, 1000, 499999999], let s := clocked id (BitVec.ofNat 64 tb) 1500000000 2
    s.op.failover = false ∧ s.isTrail = false ∧ s.tbSource = 2 ∧ s.time.tb.toNat % 1000000000 ≠ 500000000 ∧
    s.time.tb.toNat % 1000000000 < 500000000 ∧ s.time.tb.toNat % 1000000000 = tb ∧ s.cfg 0x8000 6 1000 = 1000 ∧
    max s.time.ppsAt s.time.srcAt + 1500000000 ≤ s.clk ∧ (clocked id 0 0 1).tbSource ≠ 2 ∧ (clocked id 0 0 1).tbSource ≠ 3 := by decide
theorem witness_TimeAndRtc_holdover : let s := clocked (fun m => { m with holdover := some 0, valid := true }) 19 60000000001 1
    s.time.holdover = some 0 ∧ 0 + s.cfg 0x8000 5 60 * 1000000000 < s.clk ∧ s.tbSource = 1 ∧ s.time.valid = true ∧
    s.time.tb.toNat % 1000000000 < 20 ∧
    (let t := s.modPtp fun p => { p with st := 1 }
     t.net.ptp.st = 1 ∧ max t.net.ptp.listenAt t.time.srcAt + t.cfg 0x8000 5 60 * 1000000000 < t.clk) ∧
    (clocked id 0 0 1).time.valid = false := by decide
theorem witness_TimeAndRtc_match : let s := clocked (fun m => { m with tm := m.tm.set 7 { m.tm[7] with value := 5, per := 5, armed := true } }) 5 0 1
    s.time.tm[(7 : Fin 8)].armed = true ∧ s.time.tm[(7 : Fin 8)].value.toNat ≤ s.time.tb.toNat ∧ s.time.tm[(0 : Fin 8)].armed = false ∧
    s.time.tb.toNat < (((1 : Word) ++ s.time.tm[(7 : Fin 8)].value.extractLsb' 0 32 : Word64)).toNat ∧
    (((0 : Word) ++ s.time.tm[(7 : Fin 8)].value.extractLsb' 0 32 : Word64)).toNat ≤ s.time.tb.toNat ∧
    s.time.tm[(0 : Fin 8)].per = 0 := by decide
theorem witness_TimeAndRtc_commands : Performable (clocked id 0 0 1) 0x8000 7 12 (leBytes 8 (5 : Word64).toNat) ∧
    (clocked id 0 0 1).net.ptp.st ≠ 3 ∧ Performable (clocked id 0 0 1) 0x8010 8 12 (leBytes 8 (5 : Word64).toNat) ∧
    Performable (clocked id 0 0 1) 0x8010 4 2 [1] :=
  ⟨performable_of (by decide), by decide, performable_of (by decide), performable_of (by decide)⟩
theorem witness_TimeAndRtc_supply : let s := clocked id 0 0 1
    s.time.rtc.onBak = false ∧ s.time.rtc.mode = false ∧ 2699 < 2700 ∧
    (let t := clocked (fun m => { m with rtc := { m.rtc with mode := true } }) 0 0 1
     t.time.rtc.onBak = false ∧ t.time.rtc.mode = true ∧ 2999 < 3000) ∧
    (let t := clocked (fun m => { m with rtc := { m.rtc with onBak := true, mode := true } }) 0 0 1
     t.time.rtc.onBak = true ∧ t.time.rtc.mode = true ∧ 3000 + 50 < 3051) ∧
    (let t := clocked (fun m => { m with rtc := { m.rtc with onBak := true } }) 0 0 1
     t.time.rtc.onBak = true ∧ t.time.rtc.mode = false ∧ 2900 < 2901) := by decide
theorem witness_TimeAndRtc_calendar : let s := clocked id 0 1000000000 1
    32768 ≤ (s.clk - s.time.rtc.base) * 32768 / 1000000000 ∧ s.time.rtc.load = none ∧
    (let t := clocked (fun m => { m with rtc := { m.rtc with load := some (59, 0) } }) 0 1000000000 1
     t.time.rtc.load = some (59, 0) ∧ loadEdge t.time.rtc.base 0 ≤ (t.clk - t.time.rtc.base) * 32768 / 1000000000) := by decide
theorem witness_TimeAndRtc_resync :
    let s := (clocked (fun m => { m with valid := true }) 100000000000000 600000000000 1).modPtp fun p => { p with st := 3 }
    s.time.resyncAt + 600000000000 ≤ s.clk ∧ s.time.valid = true ∧ s.sourceLocked = true ∧
    100000000 < ((s.rtcUtc : Int) - (s.utcOf s.time.tb.toNat : Int)).natAbs ∧
    (clocked id 0 600000000000 1).time.valid = false ∧ 0 < 600000000000 := by decide +kernel
theorem witness_TimeAndRtc_registers : RegAccess ((clocked id 0 0 1).modRegs 0 fun r => { r with priv := true }) 0 ∧
    (let s := (clocked id 0 0 1).modPort 0 fun p => { p with txn := some ⟨.load 1 false, 0x10050010, 2, 0, true, 0, 0, 0, true⟩ }
     (s.cx 0).port.txn = some ⟨.load 1 false, 0x10050010, 2, 0, true, 0, 0, 0, true⟩ ∧ (s.cx 0).port.held = none ∧ s.running 0 = false ∧ s.on = true) ∧
    (let s := run
     (s.cx 0).port.txn = none ∧ s.running 0 = true ∧ (s.cx 0).act.paired = false ∧ (s.cx 0).regs.trapact = false) := by
  unfold RegAccess; decide


/-! ## Supervision: witnesses -/

/-- A unit in state `st` at instant `clk` with supervision changed. -/
def watched (st : OpState) (f : Sup → Sup) (clk : Nat) : State :=
  let s := srv id
  { s with clk := clk, sup := f s.sup, op := { s.op with st := st } }

theorem witness_Supervision_engines : let s := watched .run id 0
    s.op.failover = false ∧ s.on = true ∧ (∀ e : Fin 3, s.sup.engine[e].step ≠ 1 ∧ s.injOn (71 + e.val) = false) ∧
    (∀ e : Fin 3, let t := watched .run (fun p => { p with engine := p.engine.set e ⟨1, [], 0⟩ }) (engineLimit e)
      t.sup.engine[e].step = 1 ∧ t.clk ≤ t.sup.engine[e].at_ + engineLimit e ∧ t.sup.engine[e].restarts = []) ∧
    (let t := watched .run (fun p => { p with engine := p.engine.set 2 ⟨1, [0, 0], 0⟩ }) 1
     3 ≤ (t.clk :: t.sup.engine[(2 : Fin 3)].restarts.filter fun t0 => decide (t.clk < t0 + 60000000000)).length ∧
     t.nv.lehr = .none ∧ t.pwr.resetPend = none) ∧
    (let t := (watched .run (fun p => { p with engine := p.engine.set 0 ⟨1, [], 0⟩ }) 1000).modImg fun i =>
       { i with commits := [⟨0, [], [], false, false, false, none⟩] }
     t.img.commits = [⟨0, [], [], false, false, false, none⟩] ∧ t.op.stopping = none ∧ (t.cx 0).act.after = none) := by decide

/-- Context 0 runs and has retired nothing for `clk`; its overrun action is `a`. -/
def stalled (a clk : Nat) : State :=
  (watched .run id clk).modCx 0 fun c => { c with task := { c.task with kind := .cyclic, action := a }, act := { c.act with status := .ready } }

theorem witness_Supervision_stalled : ∀ a ∈ [0, 1, 2, 3], let s := stalled a 1000000
    s.running 0 = true ∧ max (s.cx 0).act.retiredAt s.core[coreOf 0].lastRetire + 1000000 ≤ s.clk ∧ (s.cx 0).task.action = a ∧
    s.op.st = .run ∧ (∀ h, (s.cx h).next = none) ∧ (∀ h, (s.cx h).img.dirty = []) ∧ s.op.stopping = none := by decide
theorem witness_Supervision_core : let s := stalled 0 5000000
    s.nv.lehr = .none ∧ s.core[(0 : CoreId)].up = true ∧ ((s.cands 0).any fun h => (s.cx h).act.status == .ready) = true ∧
    ((s.cands 0).any fun h => (s.cx h).act.dbgHalt) = false ∧ s.core[(0 : CoreId)].lastRetire + 5000000 ≤ s.clk ∧
    s.core[(0 : CoreId)].reload = none ∧ s.core[(0 : CoreId)].reloadAt.length < s.cfg 0x9000 0x0A 3 ∧ s.pwr.resetPend = none ∧
    (let t := s.modCore 0 fun c => { c with reloadAt := [3, 2, 1] }
     t.cfg 0x9000 0x0A 3 ≤ (t.core[(0 : CoreId)].reloadAt.filter fun t0 => decide (t.clk < t0 + 60000000000)).length) ∧
    (let t : State := { s.modCore 0 fun c => { c with reload := some 0 } with sec := { s.sec with fw := Vector.replicate 2 .blank } }
     t.core[(0 : CoreId)].reload = some 0 ∧ t.blocksOk = true ∧ t.journalHolds (t.affectedBy 0) = false) ∧
    (let t := (s.modCore 0 fun c => { c with reload := some 0 }).modProg fun p => { p with ret := [⟨0, 0, 1⟩] }
     (t.modNv fun q => { q with queue := [(0x58000, 1)] }).journalHolds (t.affectedBy 0) = true) := by decide

/-- The device watchdog runs with window `tc` to `to_` since instant 0. -/
def dogged (tc to_ errcnt clk : Nat) : State := watched .run (fun p => { p with on := true, tc := tc, to_ := to_, errcnt := errcnt }) clk

theorem ticks_zero (tc to_ errcnt : Nat) : (dogged tc to_ errcnt 0).wdgTicks = 0 := by simp [State.wdgTicks, dogged, watched]

theorem ticks_ge (tc to_ errcnt clk : Nat) : clk * 950000 / 1000000000 ≤ (dogged tc to_ errcnt clk).wdgTicks := by
  have h : (dogged tc to_ errcnt clk).sup.winAt = 0 := rfl
  simp only [State.wdgTicks, h, Nat.sub_zero]
  exact Nat.div_le_div_right (Nat.mul_le_mul_left _ (by omega))

theorem witness_Supervision_watchdog : let s := dogged 0 2 0 0
    s.sup.on = true ∧ s.nv.lehr = .none ∧ s.pwr.phase ≠ .steps ∧ s.pwr.resetPend = none ∧ s.injOn 40 = false ∧
    s.wdgClosed = 0 ∧ s.wdgEnd = 2000 ∧ (dogged 1 2 0 0).wdgClosed = 1000 ∧
    min 15 (s.sup.errcnt + 1) < s.cfg 0x9000 4 8 ∧ s.cfg 0x9000 4 8 ≤ min 15 ((dogged 1 2 7 0).sup.errcnt + 1) ∧ s.on = true ∧ (s.cx 0).port.txn = none ∧ s.running 0 = false := by
  decide
theorem witness_Supervision_window : (dogged 0 2 0 0).wdgClosed ≤ (dogged 0 2 0 0).wdgTicks ∧ (dogged 0 2 0 0).wdgTicks < (dogged 0 2 0 0).wdgEnd ∧
    (dogged 1 2 0 0).wdgTicks < (dogged 1 2 0 0).wdgClosed ∧ (dogged 1 2 0 0).wdgTicks < (dogged 1 2 0 0).wdgEnd := by
  simp only [ticks_zero]; decide
theorem witness_Supervision_expired : (dogged 1 2 0 3000000).wdgEnd ≤ (dogged 1 2 0 3000000).wdgTicks := by
  have h : (dogged 1 2 0 3000000).wdgEnd = 2000 := by decide
  have k : 2000 ≤ 3000000 * 950000 / 1000000000 := by omega
  exact h ▸ Nat.le_trans k (ticks_ge 1 2 0 3000000)
theorem witness_Supervision_legal : (0 ≤ 999 ∧ 2 ≤ 2 ∧ 2 ≤ 1000 ∧ 0 < 2) ∧ ¬(1000 ≤ 999) ∧ (watched .run id 0).sup.on = false := by decide
theorem witness_Supervision_gaffer : (watched .run id 0).sup.selfAt = none ∧
    (let s := watched .run (fun p => { p with selfAt := some 0 }) 10000000000
     s.sup.selfAt = some 0 ∧ 0 + 10000000000 ≤ s.clk) ∧
    (let s := watched .run (fun p => { p with selfAt := some 0 }) 9999999999
     s.sup.selfAt = some 0 ∧ s.clk < 0 + 10000000000 ∧ s.nv.lehr = .none ∧ s.pwr.resetPend = none) := by decide

/-- The current check-in interval is 1, interval 0 is closing when `c`. -/
def checking (c excused : Bool) (closedExc : List Nat) (tb : Word64) : State :=
  let s := watched .run (fun p => { p with
    cur := { p.cur with num := 1 }, closing := if c then some { p.cur with counts := [(5, 1)], excused := excused } else none
    closedExc := closedExc }) 0
  { s with time := { s.time with tb := tb } }

theorem witness_Supervision_checkin : let s := checking true false [] 120000000
    s.on = true ∧ RegAccess (s.modRegs 0 fun r => { r with priv := true }) 0 ∧ (s.cx 0).task.paired = false ∧ (s.cx 0).task.kind ≠ .background ∧ (s.cx 0).act.rel.toNat / (s.cfg 0x9000 5 100 * 1000000) = 0 ∧
    0 < s.sup.cur.num ∧ s.sup.closing.map (·.num) = some 0 ∧ s.injOn 44 = false ∧ s.injOn 45 = false ∧
    (0 + 1) * (s.cfg 0x9000 5 100 * 1000000) + s.cfg 0x9000 6 20 * 1000000 ≤ s.time.tb.toNat ∧
    s.time.tb.toNat / (s.cfg 0x9000 5 100 * 1000000) = s.sup.cur.num ∧
    (checking true false [] 119999999).time.tb.toNat < 120000000 ∧ (checking true true [] 120000000).sup.closing.map (·.excused) = some true ∧
    (checking false false [0] 0).sup.closing = none ∧ (checking false false [0] 0).sup.closedExc.contains 0 = true ∧
    (checking false false [] 0).sup.closedExc.contains 0 = false ∧
    (checking false false [] 200000000).time.tb.toNat / (s.cfg 0x9000 5 100 * 1000000) ≠ s.sup.cur.num ∧
    (watched .run id 0).sup.cur.num ≤ 0 := by unfold RegAccess; decide
theorem witness_Supervision_actions : ∀ a ∈ [0, 1, 2, 3],
    let s := watched .run (fun p => { p with due := [0] }) 0
    let t : State := { s with dict := { s.dict with vals := [val 0x9100 3 [BitVec.ofNat 8 a]] } }
    t.sup.due = [0] ∧ t.sup.restarting = false ∧ t.cfg (0x9100 + 0) 3 0 = a ∧ (t.cx 0).inCommit = false ∧ t.op.st = .run ∧
    t.core[coreOf 0].reload = none ∧ (t.recentReloads (coreOf 0)).length < t.cfg 0x9000 0x0A 3 := by decide
theorem witness_Supervision_evidence : Performable (watched .stop id 0) 0x9010 3 2 [1] ∧ swf none (watched .stop id 0).dict.vals = true :=
  ⟨performable_of (by decide), by decide⟩


/-! ## Records and injection: witnesses -/

/-- The recorder changed at instant `clk`. -/
def recording (f : Rcd → Rcd) (clk : Nat) : State := { srv fun s => s.modRcd f with clk := clk }

/-- A record. -/
def recOf : Rec := ⟨0x1004, 0x50, false, 0, 0, 0, 0, 0, 0⟩

theorem witness_Records_events : let s := recording id 0
    s.op.failover = false ∧ swf ⟨0, 0, 0⟩ s.rcd.buckets = true ∧ swf ⟨0, 0, 0, 0⟩ s.inj = true ∧ 18000 < 18001 ∧ 1 ≤ 1 ∧
    s.rcd.queue.length < 256 ∧ s.burst 0x1004 ≠ 0 ∧ (sget ⟨0, 0, 0⟩ s.rcd.buckets 0x1004).missing < s.burst 0x1004 ∧
    (let t := recording (fun q => { q with buckets := [(0x1004, ⟨10, 0, 0⟩)] }) 0
     t.burst 0x1004 ≤ (sget ⟨0, 0, 0⟩ t.rcd.buckets 0x1004).missing ∧ swf ⟨0, 0, 0⟩ t.rcd.buckets = true) ∧
    256 ≤ (recording (fun q => { q with queue := List.replicate 256 recOf }) 0).rcd.queue.length := by decide +kernel
theorem witness_Records_still : (sget ⟨0, 0, 0⟩ (recording id 0).rcd.buckets 0x1004).missing = 0 ∧
    (let t := recording (fun q => { q with buckets := [(0x1004, ⟨10, 0, 0⟩)] }) 0
     t.clk < (sget ⟨0, 0, 0⟩ t.rcd.buckets 0x1004).since + t.refillNs 0x1004) := by decide +kernel
theorem witness_Records_write : ∀ n ∈ [0, 1], let s := (recording (fun q => { q with busy := false, queue := [recOf], lostNew := n }) 0).modNv fun v => { v with granted := some 8 }
    s.nv.granted = some 8 ∧ swf 0 s.errs = true ∧ (∀ o ∈ [0, 4, 16], s.nvUe (slotAddr 2 + o) = false) ∧ s.rcd.queue = [recOf] ∧ s.rcd.busy = false ∧ s.sup.restarting = false ∧ s.rcd.lostNew = n ∧ (recording id 0).rcd.queue = [] := by decide
theorem witness_Records_refill : ∀ k ∈ [1, 2], ∀ pend ∈ [0, 3],
    let s := recording (fun q => { q with buckets := [(0x1004, ⟨k, 0, pend⟩)] }) 1000000000
    (sget ⟨0, 0, 0⟩ s.rcd.buckets 0x1004).missing = k ∧ (sget ⟨0, 0, 0⟩ s.rcd.buckets 0x1004).pend = pend ∧
    min k ((s.clk - (sget ⟨0, 0, 0⟩ s.rcd.buckets 0x1004).since) / max 1 (s.refillNs 0x1004)) = 1 ∧
    RegAccess (s.modRegs 0 fun r => { r with priv := true }) 0 ∧ swf ⟨0, 0, 0⟩ s.rcd.buckets = true ∧
    (sget ⟨0, 0, 0⟩ (recording id 0).rcd.buckets 0x1004).missing = 0 := by unfold RegAccess; decide

/-- A session of role 3, the key at `key`, and detector 119 in state `st`. -/
def injecting (key : BitVec 2) (role st : Nat) : State :=
  let s := srv id
  { s with
    op := { s.op with key := key }, dict := { s.dict with sessions := [sessOf role] }
    inj := if st = 0 then [] else [(119, ⟨st, 0, 0, 1⟩)] }

theorem witness_Injection : ∀ key ∈ [(0 : Fin 3), 2], let s := injecting (BitVec.ofNat 2 key.val) 3 0
    s.op.st ≠ .run ∧ targetLegal 119 (s.cfg (0xA100 + 119) 2 0) (s.cfg (0xA100 + 119) 3 0) = true ∧ condDet 119 = true ∧
    condDet 125 = false ∧ targetLegal 125 0 0 = true ∧ targetLegal 40 0 0 = true ∧ targetLegal 42 0 0 = true ∧
    (sget ⟨0, 0, 0, 0⟩ s.inj 119).st ≠ 2 ∧ (sget ⟨0, 0, 0, 0⟩ (injecting 0 3 2).inj 119).st = 2 ∧ swf ⟨0, 0, 0, 0⟩ (injecting 0 3 2).inj = true ∧
    (watched .run (fun p => { p with on := true }) 0).sup.on = true := by decide
theorem witness_Injection_accepted : Accepted (injecting 0 3 0) rq (sessOf 3) (0xA100 + 119) 1 2 [1] ∧
    Accepted (injecting 2 3 0) rq (sessOf 3) (0xA100 + 119) 1 2 [2] ∧ Accepted (injecting 0 3 2) rq (sessOf 3) (0xA100 + 119) 1 2 [3] ∧
    Accepted (injecting 0 3 0) rq (sessOf 3) (0xA100 + 119) 1 2 [3] :=
  ⟨accepted_of (by decide), accepted_of (by decide), accepted_of (by decide), accepted_of (by decide)⟩
theorem witness_Injection_denied : let s := injecting 2 2 0
    Executes s rq (sessOf 2) (writeOf rq (0xA100 + 0) 1 2 [1]) ∧ s.leadPaired = false ∧ s.op.key = 2 ∧ (sessOf 2).role < 3 ∧ s.findEnt (0xA100 + 0) 1 ≠ none :=
  ⟨executes_of (by decide), by decide⟩
theorem witness_Injection_bars : let s := injecting 0 3 0
    let u := taken s rq (writeOf rq (0xA100 + 125) 1 2 [2])
    Executes s rq (sessOf 3) (writeOf rq (0xA100 + 125) 1 2 [2]) ∧ u.writeBars (u.withVal (0xA100 + 125) 1 [2]) 3 true false (0xA100 + 125) 1 (some 2) [2] = some abRange :=
  ⟨executes_of (by decide), by decide⟩


/-! ## Trust, update, the system update, register writes: witnesses -/

/-- A unit with the key at `key`, its OTP, its trust and update state changed, and valid time when `valid`. -/
def trusting (key : BitVec 2) (otp : BitVec 8192) (valid : Bool) (f : Sec → Sec) (clk : Nat) : State :=
  let s := srv fun s => s.modSec fun c => f { c with fw := Vector.replicate 2 .blank }
  { s with clk := clk, otp := otp, op := { s.op with key := key }, time := { s.time with valid := valid } }

/-- Parison `t` in state `st`. -/
def parIn (t : Fin 3) (st : Nat) (c : Sec) : Sec := { c with par := c.par.set t ⟨st, [], true, 0⟩ }

/-- What an OTP with owner slots 0 and 1 SET holds. -/
def owned : BitVec 8192 := otpAt 0x60 [1] ||| otpAt 0xA0 [1]

theorem witness_Trust_provision : let s := trusting 0 0 false id 0
    Performable s 0xB005 1 14 (List.replicate 97 0) ∧ s.pwr.phase ≠ .recovery ∧ s.ownerState 0 = 0 ∧ s.op.failover = false ∧
    (let t := trusting 0 (owned ||| otpAt 0xE0 [3]) false id 0
     Performable t 0xB005 1 14 (List.replicate 97 0) ∧ t.ownerState 3 = 0 ∧ ∀ i ∈ [0, 1, 2], t.ownerState i ≠ 0) ∧
    (let t := trusting 0 (owned ||| otpAt 0xE0 [3] ||| otpAt 0x120 [1]) false id 0
     Performable t 0xB005 1 14 (List.replicate 97 0) ∧ ∀ i ∈ [0, 1, 2, 3], t.ownerState i ≠ 0) :=
  ⟨performable_of (by decide +kernel), by decide +kernel, by decide +kernel, by decide +kernel,
    ⟨performable_of (by decide +kernel), by decide +kernel⟩, performable_of (by decide +kernel), by decide +kernel⟩
theorem witness_Trust_revoke : Performable (trusting 0 owned false id 0) 0xB005 2 2 [0] ∧ (trusting 0 owned false id 0).revocable 0 = true ∧
    Performable (trusting 0 owned false id 0) 0xB005 2 2 [3] ∧ (trusting 0 owned false id 0).revocable 3 = false :=
  ⟨performable_of (by decide +kernel), by decide +kernel, performable_of (by decide +kernel), by decide +kernel⟩

theorem witness_Update_commands : ∀ t ∈ [0, 1, 2], let s := trusting 0 0 true (fun c => parIn 0 2 (parIn 1 2 (parIn 2 2 c))) 0
    s.op.key = 0 ∧ s.op.st = .stop ∧ s.sec.par[(⟨t % 3, Nat.mod_lt _ (by decide)⟩ : Fin 3)].st = 2 ∧ s.nv.lehr = .none ∧
    s.pwr.resetPend = none ∧ s.tdm.holds = false ∧ s.time.valid = true ∧
    (trusting 0 0 false id 0).sec.par[(⟨t % 3, Nat.mod_lt _ (by decide)⟩ : Fin 3)].st ≠ 2 ∧ (trusting 0 0 false id 0).time.valid = false := by
  decide
theorem witness_Update_accepted : let s := trusting 0 0 true (fun c => parIn 0 2 (parIn 1 2 (parIn 2 2 c))) 0
    (∀ n ∈ [1, 3, 5], ∀ e ∈ [0xB030, 0xB031, 0xB032], accepts s rq (sessOf 7) e 6 2 [BitVec.ofNat 8 n] = true) ∧
    accepts s rq (sessOf 7) 0xB030 6 2 [2] = true ∧ accepts (trusting 0 0 true id 0) rq (sessOf 7) 0xB032 6 2 [1] = true ∧
    accepts (trusting 0 0 false (parIn 0 2) 0) rq (sessOf 7) 0xB030 6 2 [3] = true := by decide +kernel
theorem witness_Update_bars : let s := trusting 0 0 true id 0
    let u := fun idx => taken s rq (writeOf rq idx 6 2 [2])
    (∀ idx ∈ [0xB031, 0xB032], executes s rq (sessOf 7) (writeOf rq idx 6 2 [2]) = true) ∧ ∀ idx ∈ [0xB031, 0xB032], (u idx).writeBars ((u idx).withVal idx 6 [2]) 7 true false idx 6 (some 2) [2] = some abRange := by
  decide

/-- A firmware container with a RUNTIME section and nothing else of use. -/
def runtimeOnly : List Byte := List.replicate 20 0 ++ [64, 0, 0, 0] ++ List.replicate 488 0 ++ [2] ++ List.replicate 63 0

/-- Firmware in force and a parison of firmware with the same RUNTIME section. -/
def sameFw (c : Sec) : Sec :=
  { c with fw := c.fw.set 0 { FwSlot.blank with st := 2, image := some runtimeOnly }, active := 1, par := c.par.set 0 ⟨2, [(0, some runtimeOnly)], true, 0⟩ }

/-- The unit of `trusting` with that firmware, confirmed or in TRIAL; a HOT restart in step `n`. -/
def hotIn (fst n clk : Nat) (on : Bool) (tmo : Nat) : State :=
  let s := trusting 0 0 true id clk
  let c := sameFw s.sec
  { s with
    sec := { c with fw := c.fw.set 0 { c.fw[0] with st := fst }, hot := if n = 0 then none else some (n, 0), serving := some 0 }
    sup := { s.sup with on := on, to_ := tmo, restarting := n == 2 } }

theorem witness_Update_hot : let s := hotIn 2 0 0 false 0
    accepts s rq (sessOf 7) 0xB030 6 2 [4] = true ∧ s.op.key = 0 ∧ s.sec.par[(0 : Fin 3)].st = 2 ∧ s.sameRuntime = true ∧
    (trusting 0 0 true (parIn 0 2) 0).sameRuntime = false := by decide +kernel
theorem witness_Update_restart : let s := hotIn 2 1 0 true 200
    s.sup.restarting = false ∧ s.sec.hot = some (1, 0) ∧ s.nv.lehr = .none ∧ s.prog.storeFault = none ∧ s.sec.par[(0 : Fin 3)].st = 2 ∧ s.sup.tc = 0 ∧ s.sup.to_ = 200 ∧
    (hotIn 2 1 0 true 100).sup.to_ ≠ 200 ∧ (hotIn 2 1 0 true 100).sup.on = true ∧ (hotIn 2 2 0 true 200).sup.restarting = true := by decide
theorem witness_Update_confirm : let s := hotIn 3 0 600000000000 false 0
    accepts (hotIn 3 0 0 false 0) rq (sessOf 7) 0xB018 3 2 [1] = true ∧ s.sec.fw[s.fwActive].st = 3 ∧ s.sec.serving = some 0 ∧
    0 + 600000000000 ≤ s.clk ∧ accepts (hotIn 2 0 0 false 0) rq (sessOf 7) 0xB018 3 2 [1] = true ∧
    (hotIn 2 0 0 false 0).sec.fw[(hotIn 2 0 0 false 0).fwActive].st ≠ 3 ∧ (hotIn 2 0 599999999999 false 0).clk < 0 + 600000000000 ∧
    accepts (hotIn 3 0 0 false 0) rq (sessOf 7) 0xB050 1 14 (List.replicate 32 0) = true := by decide +kernel
theorem witness_SystemUpdate : let s := trusting 0 0 true id 0
    ([119, 41, 42, 74, 83].any fun (d : Nat) => s.injOn d) = false ∧ s.isTrail = false ∧ s.on = true ∧ s.ibMarches = false ∧ s.pubDue 3 = true ∧
    swf [bornVersion] s.img.ver = true := by decide
theorem witness_RegisterWrite : (0x10010114 : Word).toNat = 0x10000000 + (0x10100 + 0x40 * (0 : Gctx).val + 0x14) ∧
    (0x100110D4 : Word).toNat = 0x10000000 + (0x10100 + 0x40 * (63 : Gctx).val + 0x14) ∧
    (0x10020004 : Word).toNat = 0x10000000 + (0x20000 + 4) ∧ (0x100500B8 : Word).toNat = 0x10000000 + (0x50000 + 0x48 + 0x10 * (7 : Fin 8).val) ∧
    (0x10050024 : Word).toNat = 0x10000000 + 0x50024 ∧ (0x10040200 : Word).toNat = 0x10000000 + 0x40200 ∧
    RegAccess (run.modRegs 0 fun r => { r with priv := true }) 0 ∧ (run.cx 0).regs.priv = false ∧ (run.cx 0).port.txn = none ∧ run.running 0 = true ∧
    (run.cx 0).act.paired = false ∧ (run.cx 0).regs.trapact = false ∧ State.reset.running 0 = false ∧ 0x10200000 ≤ (0x10200000 : Word).toNat ∧
    (0x0FFFFFFC : Word).toNat < 0x10000000 ∧ 0x10110000 ≤ (0x10110000 : Word).toNat ∧ (0x10020005 : Word).toNat % 4 ≠ 0 := by
  unfold RegAccess; decide +kernel


/-! ## The block: witnesses -/

/-- A unit with one command waiting, one byte of memory listed and bit 0 of the OTP programmed. -/
def queued : State := { State.reset with pending := [.ppsEdge], mem := [(5, 1)], otp := 1 }

theorem witness_StepTakesFront : queued.pending = .ppsEdge :: [] ∧ State.reset.pending = [] := by decide
theorem witness_OtpBitsStay : (∃ t, step queued = .next t) ∧ queued.otp.getLsbD 0 = true := ⟨⟨_, rfl⟩, by decide +kernel⟩
theorem witness_MemoryStaysCanonical : (∃ t, step queued = .next t) ∧ Memory.wf queued.mem = true := ⟨⟨_, rfl⟩, by decide⟩

/-! ## Worked examples of the specification -/

/-- The table gives no row any bits, so no word spells a command. -/
theorem test_no_word_spells : decodeTableWord 32 0 = none ∧ State.reset.withFetchWord 32 0 = State.reset := ⟨rfl, rfl⟩

/-- The encodings of "two rungs of ladder logic" in the instruction set's section. -/
theorem test_ladder_words : insnX 0x10 0 0 0x0008 0 = 0x40000100 ∧ insnX 0x11 0 2 0x4000 2 = 0x44280002 ∧
    insnX 0x11 0 1 0x0008 1 = 0x44100101 ∧ insnX 0x11 0 1 0x0410 4 = 0x44108204 ∧ insnX 0x13 0 0 0x4000 2 = 0x4C080002 ∧
    insnX 0x10 1 2 0x0040 0 = 0x40600800 ∧ insnI 0x04 0 1 1 1000 = 0x100503E8 ∧ insnX 0x13 0 0 0x4000 5 = 0x4C080005 ∧
    insnS 1 0 0 = 0xEC100000 ∧ insnA 2 0 0 0 0x16 = 0x08000016 := by decide

/-- A field of the context's registers after a command. -/
def regsAfter (c : Instr) (s : State) (f : Regs → α) : Option α :=
  match exec c s with
  | .next t => some (f (t.cx 0).regs)
  | _ => none

/-- An addition that wraps to 0 sets Z and C (R210). -/
theorem test_add_wraps : regsAfter (.add 0 2 1 1) (runG 0x80000000) (fun r => (r.get 2, r.z, r.n, r.c, r.v, r.pc)) =
    some (0, true, false, true, true, 4) := by decide
/-- C = 1 means no borrow (R210). -/
theorem test_sub_borrow : regsAfter (.sub 0 2 0 1) (runG 1) (fun r => (r.get 2, r.c, r.v)) = some (0xFFFFFFFF, false, false) := by decide
/-- g0 reads as 0 and discards writes (R190). -/
theorem test_g0_discards : regsAfter (.add 0 0 1 1) (runG 3) (fun r => (r.get 0, r.pc)) = some (0, 4) := by decide
/-- CMPI of the ladder example: 1001 is above 1000 as an unsigned number. -/
theorem test_cmpi_ugt : regsAfter (.cmpi 0 1 1000) (runG 1001) (fun r => r.cond 6) = some true ∧
    regsAfter (.cmpi 0 1 1000) (runG 1000) (fun r => r.cond 6) = some false := by decide

/-- Versions of a word with these epochs as values, newest first. -/
def ofEpochs (l : List Nat) : List Version := l.map fun e => ⟨BitVec.ofNat 32 e, BitVec.ofNat 32 e, false⟩

/-- "A read turns stale": a read at gather epoch 5000. -/
theorem test_read_turns_stale : snapshot (ofEpochs [4990, 4983, 4976, 4970]) 5000 false = (4990, false) ∧
    snapshot (ofEpochs [5003, 4990, 4983, 4976]) 5000 false = (4990, false) ∧
    snapshot (ofEpochs [5019, 5011, 5003, 4990]) 5000 false = (4990, false) ∧
    snapshot (ofEpochs [5027, 5019, 5011, 5003]) 5000 false = (5003, true) := by decide

/-- "A staged write across an invalid date": 23:59:58 on 31 February 2027, weekday 5, and two seconds later. -/
theorem test_invalid_date : calOfWords 0x05173B00 0x001B021F 58 = ⟨58, 59, 23, 5, 31, 2, 27⟩ ∧
    (calOfWords 0x05173B00 0x001B021F 58).advance.advance = ⟨0, 0, 0, 6, 1, 3, 27⟩ ∧
    (Cal.advance ⟨59, 59, 23, 5, 31, 14, 27⟩) = ⟨0, 0, 0, 6, 1, 1, 28⟩ := by decide
/-- The same example: S of 2027-03-01 00:00:00 is 857,174,400 s. -/
theorem test_calendar_seconds : Cal.seconds ⟨0, 0, 0, 1, 1, 3, 27⟩ = 857174400 := by decide

/-- "Tally and counts": the sum of three keys. -/
theorem test_tally : ((0x13579BDF + 0x2468ACE0 + 0x0F0F0F0F : Word) = 0x46CF57CE) ∧
    ({ State.reset with sup := { State.reset.sup with question := 0x5A3C96E1, qTally := 0x46CF57CE } } : State).wdgAnswer =
      crc32c [0xE1, 0x96, 0x3C, 0x5A, 0xCE, 0x57, 0xCF, 0x46] := by decide +kernel

/-- The check value of CRC-32C over the nine characters 123456789. -/
theorem test_crc32c : crc32c [0x31, 0x32, 0x33, 0x34, 0x35, 0x36, 0x37, 0x38, 0x39] = 0xE3069283 := by decide +kernel

end Sys2Proof.Tests
end

section
/-! PROOFS. Logic bits, branches and calls, and misaligned accesses (R199, R201, R202, R214, R224–R227). -/

namespace Sys2Proof.Machine

open Sys2Proof Sys2Proof.Safety

/-! ## Conditions and the two stacks -/

/-- The test an instruction makes is the one the statements write out (R199). -/
theorem Regs.cond_eq_condTrue (r : Regs) (k : BitVec 4) : r.cond k = condTrue r k.toNat := by
  unfold Regs.cond condTrue
  generalize k.toNat = n
  split
  case h_16 h0 h1 h2 h3 h4 h5 h6 h7 h8 h9 h10 h11 h12 h13 h14 =>
    rw [if_neg h0, if_neg h1, if_neg h2, if_neg h3, if_neg h4, if_neg h5, if_neg h6, if_neg h7,
      if_neg h8, if_neg h9, if_neg h10, if_neg h11, if_neg h12, if_neg h13, if_neg h14]
  all_goals rfl

theorem Regs.topL_eq_headD (r : Regs) : r.topL = r.lstack.headD false :=
  List.headD_eq_head?_getD.symm

theorem Regs.pushL_of_lt (r : Regs) (b : Bool) (h : r.lstack.length < 8) : r.pushL b = { r with lstack := b :: r.lstack } := by
  simp only [Regs.pushL, List.take_of_length_le (show (b :: r.lstack).length ≤ 8 from h)]

theorem Regs.pushL_of_full (r : Regs) (b : Bool) (h : r.lstack.length = 8) :
    r.pushL b = { r with lstack := b :: r.lstack.dropLast } := by
  simp only [Regs.pushL, List.take_succ_cons, List.dropLast_eq_take, h]

/-! ## The logic-bit instructions (R224) -/

/-- A logic-bit instruction that issues applies its operation in one cycle. -/
theorem logic_retires {c : Instr} {s : State} {g : Gctx} {rd ra fn : Nat} {f : Regs → Regs} {r : Regs} (h : Issues s g)
    (hc : exec c s = .next (settledInsn (opLogic g rd ra fn f) s))
    (hr : { f (s.cx g).regs with pc := (s.cx g).regs.pc + 4 } = r) : Retires c s g 1 r :=
  hr ▸ retires_of hc (run_of_issues h _ _)

/-- Settles O5: every logic-bit instruction is one register update; the two stack depths and an empty stack are the
lemmas on `pushL` and `topL`. -/
theorem logicBits : Obligations.LogicBits := by
  unfold Obligations.LogicBits
  intro s g rd ra cond h
  refine ⟨logic_retires h rfl rfl, logic_retires h rfl rfl, logic_retires h rfl rfl, fun hlt => ?_, fun hfull => ?_,
    ?_, ?_, ?_, ?_, ?_, ?_⟩
  · exact logic_retires h rfl (by rw [Regs.pushL_of_lt _ _ hlt])
  · exact logic_retires h rfl (by rw [Regs.pushL_of_full _ _ hfull])
  · exact logic_retires h rfl (by rw [Regs.topL_eq_headD]; rfl)
  · exact logic_retires h rfl (by rw [Regs.topL_eq_headD]; rfl)
  · exact logic_retires h rfl (by rw [Regs.topL_eq_headD]; rfl)
  · exact logic_retires h rfl (by rw [decide_not]; rfl)
  · exact logic_retires h rfl (by rw [Regs.cond_eq_condTrue])
  · exact ⟨_, logic_retires h rfl rfl, fun i => Regs.get_put _ _ _ _, rfl⟩

/-! ## Branches, calls and returns (R225–R227) -/

section
variable {c : Instr} {s : State} {g : Gctx}

theorem opBranch_taken {cond : BitVec 4} {off : BitVec 22} (h : Issues s g) (ht : (s.cx g).regs.cond cond = true) :
    opBranch g cond off s = s.retireTo g 2 (branchTarget (s.cx g).regs.pc off) id := by
  simp only [opBranch, run_of_issues h, ht, if_true]

theorem opBranch_not_taken {cond : BitVec 4} {off : BitVec 22} (h : Issues s g) (hf : (s.cx g).regs.cond cond = false) :
    opBranch g cond off s = s.retire g 1 id := by
  simp only [opBranch, run_of_issues h, hf, Bool.false_eq_true, if_false]

theorem opCall_taken {cond : BitVec 4} {off : BitVec 22} (h : Issues s g) (ht : (s.cx g).regs.cond cond = true) :
    opCall g cond off s = s.call g (insnB 0x31 cond.toNat off.toNat) (branchTarget (s.cx g).regs.pc off) := by
  simp only [opCall, run_of_issues h, ht, if_true]

theorem opCall_not_taken {cond : BitVec 4} {off : BitVec 22} (h : Issues s g) (hf : (s.cx g).regs.cond cond = false) :
    opCall g cond off s = s.retire g 1 id := by
  simp only [opCall, run_of_issues h, hf, Bool.false_eq_true, if_false]

theorem opCallr_issued {ra : Reg} (h : Issues s g) :
    opCallr g ra s = s.call g (insnA 0x32 0 ra.val 0 1) (codeAddr ((s.cx g).regs.get ra)) :=
  run_of_issues h _ _

theorem opRet_of_cons {x : Word} {rest : List Word} (h : Issues s g) (hs : (s.cx g).regs.rstack = x :: rest) :
    opRet g s = s.retireTo g 2 (codeAddr x) fun r => { r with rstack := rest } := by
  simp only [opRet, run_of_issues h, hs]

theorem opRet_of_nil (h : Issues s g) (hs : (s.cx g).regs.rstack = []) : opRet g s = s.trap g (insnA 0x32 0 0 0 2) 6 0 0 := by
  simp only [opRet, run_of_issues h, hs]

variable {insn target : Word} {op : State → State}

/-- A call that does not trap keeps the `rest` of its stack: all below a 16th entry. -/
theorem call_retires {rest : List Word} (hc : exec c s = .next (settledInsn op s)) (ho : op s = s.call g insn target)
    (hfit : ¬ (16 ≤ (s.cx g).regs.rstack.length ∧ (s.cx g).regs.rstrap = true)) (hrest : (s.cx g).regs.rstack.take 15 = rest) :
    Retires c s g 2 { (s.cx g).regs with pc := target, rstack := ((s.cx g).regs.pc + 4) :: rest } := by
  subst hrest
  exact retires_to_of hc (ho.trans (if_neg hfit))

/-- A call on a stack that is not full keeps it whole. -/
theorem call_retires_of_lt (hc : exec c s = .next (settledInsn op s)) (ho : op s = s.call g insn target)
    (hlt : (s.cx g).regs.rstack.length < 16) :
    Retires c s g 2 { (s.cx g).regs with pc := target, rstack := ((s.cx g).regs.pc + 4) :: (s.cx g).regs.rstack } :=
  call_retires hc ho (fun hfull => absurd hfull.1 (Nat.not_le.mpr hlt)) (List.take_of_length_le (Nat.le_of_lt_succ hlt))

/-- In WRAP mode a call on a full stack loses the bottom entry. -/
theorem call_retires_of_wrap (hc : exec c s = .next (settledInsn op s)) (ho : op s = s.call g insn target)
    (hfull : (s.cx g).regs.rstack.length = 16) (hwrap : (s.cx g).regs.rstrap = false) :
    Retires c s g 2 { (s.cx g).regs with pc := target, rstack := ((s.cx g).regs.pc + 4) :: (s.cx g).regs.rstack.dropLast } :=
  call_retires hc ho (fun htrap => Bool.eq_false_iff.mp hwrap htrap.2) (by rw [List.dropLast_eq_take, hfull])

/-- In TRAP mode a call on a full stack raises RSOVF. -/
theorem call_traps (hc : exec c s = .next (settledInsn op s)) (ho : op s = s.call g insn target)
    (hfull : (s.cx g).regs.rstack.length = 16) (htrap : (s.cx g).regs.rstrap = true) (hact : (s.cx g).regs.trapact = false) :
    Traps c s g insn 5 0 0 :=
  traps_of hc (ho.trans (if_pos ⟨Nat.le_of_eq hfull.symm, htrap⟩)) hact rfl (by decide) (by decide)

end

/-- Settles O6, by the condition and by the depth of the return stack: both calls rest on the same three lemmas. -/
theorem branchesAndCalls : Obligations.BranchesAndCalls := by
  unfold Obligations.BranchesAndCalls
  intro s g ra cond off h
  simp only [← Regs.cond_eq_condTrue]
  refine ⟨fun ht => ?_, fun hf => ⟨?_, ?_⟩, ?_, fun hlt => ⟨fun ht => ?_, ?_⟩, fun hfull hwrap => ⟨fun ht => ?_, ?_⟩,
    fun hfull htrap hact => ⟨fun ht => ?_, ?_⟩, fun x rest hs => ?_, fun hs hact => ?_⟩
  · exact retires_to_of rfl (opBranch_taken h ht)
  · exact retires_of rfl (opBranch_not_taken h hf)
  · exact retires_of rfl (opCall_not_taken h hf)
  · exact retires_to_of (op := opJr g ra) rfl (run_of_issues h _ _)
  · exact call_retires_of_lt rfl (opCall_taken h ht) hlt
  · exact call_retires_of_lt rfl (opCallr_issued h) hlt
  · exact call_retires_of_wrap rfl (opCall_taken h ht) hfull hwrap
  · exact call_retires_of_wrap rfl (opCallr_issued h) hfull hwrap
  · exact call_traps rfl (opCall_taken h ht) hfull htrap hact
  · exact call_traps rfl (opCallr_issued h) hfull htrap hact
  · exact retires_to_of rfl (opRet_of_cons h hs)
  · exact traps_of rfl (opRet_of_nil h hs) hact rfl (by decide) (by decide)

/-! ## Misaligned accesses (R214) -/

/-- The alignment check comes before the checks of the return stack and before any access. -/
theorem memAccess_of_misaligned (s : State) (g : Gctx) (insn : Word) (op : TxnOp) (a : Word) (size : BitVec 2) (x : Word)
    (ha : aligned size a = false) : s.memAccess g insn op a size x = s.trap g insn 4 0 a := by
  simp only [State.memAccess, ha, Bool.not_false, if_true]

/-- A memory instruction of a permitted size and a misaligned address raises ALIGN. -/
theorem misaligned_traps {c : Instr} {s : State} {g : Gctx} {major : Nat} {rd ra : Reg} {size : BitVec 2} {off : BitVec 16}
    {wordOnly : Bool} {op : TxnOp} (h : Issues s g) (hact : (s.cx g).regs.trapact = false)
    (ha : aligned size (effAddr (s.cx g).regs ra off) = false) (hsize : ¬ (size = 3 ∨ (wordOnly = true ∧ size ≠ 2)))
    (hc : exec c s = .next (settledInsn (opMem g major rd ra size off wordOnly op) s)) :
    Traps c s g (insnM major rd.val ra.val size.toNat off.toNat) 4 0 (effAddr (s.cx g).regs ra off) := by
  have ho : opMem g major rd ra size off wordOnly op s =
      s.trap g (insnM major rd.val ra.val size.toNat off.toNat) 4 0 (effAddr (s.cx g).regs ra off) := by
    simp only [opMem, run_of_issues h, if_neg hsize, memAccess_of_misaligned _ _ _ _ _ _ _ ha]
  exact traps_of hc ho hact rfl (by decide) (by decide)

/-- Settles O10: all seven instructions pass one alignment check. -/
theorem misalignedAccessTraps : Obligations.MisalignedAccessTraps := by
  unfold Obligations.MisalignedAccessTraps
  intro s g rd ra size off h r a hact hsize hmis
  have ha : aligned size (effAddr (s.cx g).regs ra off) = false := beq_eq_false_iff_ne.mpr hmis
  have anySize : ¬ (size = 3 ∨ (false = true ∧ size ≠ 2)) := fun h => h.elim hsize fun h => Bool.false_ne_true h.1
  refine ⟨misaligned_traps h hact ha anySize rfl, misaligned_traps h hact ha anySize rfl,
    misaligned_traps h hact ha anySize rfl, fun hword => ?_⟩
  have wordSize : ¬ (size = 3 ∨ (true = true ∧ size ≠ 2)) := fun h => h.elim hsize fun h => h.2 hword
  have two : size.toNat = 2 := by rw [hword]; rfl
  rw [← two]
  exact ⟨misaligned_traps h hact ha wordSize rfl, misaligned_traps h hact ha wordSize rfl,
    misaligned_traps (rd := 0) h hact ha wordSize rfl, misaligned_traps (rd := 0) h hact ha wordSize rfl⟩

end Sys2Proof.Machine
end
